-- ==== Sys2Proof/Word.lean ====
section
/-!
DEFINITION. The word types of the model (R4, R8 and the Terms of the scope chapter), and the Ethernet frames that commands carry.
-/
namespace Sys2Proof

/-- The 40-bit payload of one lane code group. -/
abbrev Word := BitVec 40

/-- A register or a record word: 32 bits. -/
abbrev Reg := BitVec 32

/-- A MAC address. -/
abbrev Mac := BitVec 48

/-- The security extension of IEC 62351-6 (R341): key identifier and MAC value. -/
structure AuthExt where
  keyId : Nat
  mac : BitVec 128
  deriving DecidableEq, Repr

/-- One ASDU of a sampled-value frame (R253, R255): svID octets, smpCnt, confRev, smpSynch and the pairs of INT32 value and quality. -/
structure SvAsdu where
  svId : List Nat
  smpCnt : Nat
  confRev : Nat
  smpSynch : Nat
  pairs : List (Int × Nat)
  deriving DecidableEq, Repr

/-- The content of a sampled-value frame of IEC 61850-9-2. (Assumption log 14, DESIGN CHOICE.) -/
structure SvFrame where
  appid : Nat
  sim : Bool
  asdus : List SvAsdu
  ext : Option AuthExt := none
  deriving DecidableEq, Repr

/-- A member of a GOOSE dataset: a BOOLEAN, a quality bit string, or anything else. -/
inductive GooseMember where
  | bool (b : Bool)
  | quality (q : Nat)
  | other
  deriving DecidableEq, Repr

/-- The content of a GOOSE frame of IEC 61850-8-1: names as octets, timeAllowedtoLive in ms, t in ns of UTC. (Assumption log 14, DESIGN CHOICE.) -/
structure GooseFrame where
  appid : Nat
  gocbRef : List Nat
  datSet : List Nat
  goId : List Nat
  ttl : Nat
  t : Int
  stNum : Nat
  sqNum : Nat
  sim : Bool
  confRev : Nat
  ndsCom : Bool
  data : List GooseMember
  ext : Option AuthExt := none
  deriving DecidableEq, Repr

/-- What a frame carries: octets, or one of the two publications that the hub reads and writes. -/
inductive Body where
  | octets (l : List Nat)
  | sv (f : SvFrame)
  | goose (f : GooseFrame)
  deriving DecidableEq, Repr

/-- The RCT of PRP or the tag of HSR (R338): LAN identifier (true: B), sequence number. -/
structure RedTag where
  lanB : Bool
  seq : Nat
  deriving DecidableEq, Repr

/-- An Ethernet frame without its FCS: addresses, VLAN tag (PCP, VID), EtherType, content, redundancy tag. -/
structure Frame where
  da : Mac
  sa : Mac
  tag : Option (Nat × Nat) := none
  etherType : Nat
  body : Body
  red : Option RedTag := none
  deriving DecidableEq, Repr

/-- The data of a grandmaster (R207): the content of TIME_DS and of an Announce message. -/
structure GmData where
  prio1 : Nat
  prio2 : Nat
  clockClass : Nat
  accuracy : Nat
  variance : Nat
  timeSource : Nat
  steps : Nat
  gm : Nat
  utc : Int
  leap61 : Bool
  leap59 : Bool
  utcValid : Bool
  ptpScale : Bool
  timeTrace : Bool
  freqTrace : Bool
  gmInacc : Nat := 0
  netInacc : Nat := 0
  altOfs : Int := 0
  altJump : Int := 0
  altNext : Nat := 0
  deriving DecidableEq, Repr

/-- The PTP messages of R203: sequence number, time in ns, correction in 2^-4 ns; `other` is any message outside R203. -/
inductive PtpMsg where
  | sync (seq : Nat) (twoStep : Bool) (origin : Nat) (corr : Int)
  | followUp (seq : Nat) (origin : Nat) (corr : Int)
  | pdelayReq (seq : Nat)
  | pdelayResp (seq : Nat) (twoStep : Bool) (t2 : Nat) (corr : Int)
  | pdelayFollowUp (seq : Nat) (t3 : Nat) (corr : Int)
  | announce (d : GmData)
  | other
  deriving DecidableEq, Repr

/-- A configuration register of a function of the host endpoint, by name: the spec gives the capabilities without their places. -/
inductive CfgReg where
  | id
  | command
  | classCode
  | bar (i : Fin 6)
  | msixControl
  | powerState
  | maxPayload
  | other (n : Nat)
  deriving DecidableEq, Repr

/-- The tokens and handshakes of a USB host. -/
inductive UsbPid where
  | setup | inn | out | ping | ack
  deriving DecidableEq, Repr

/-- A transaction of the USB host as the upstream port sees it: address, endpoint, transfer type (0 control, 1 isochronous, 2 bulk,
3 interrupt), data bytes; for a split transaction whether it is a start-split; for a periodic endpoint its period (2^n microframes) and
its maximum length. -/
structure UsbTok where
  pid : UsbPid
  addr : Nat
  ep : Nat
  kind : Nat
  bytes : List Nat := []
  split : Option Bool := none
  period : Nat := 0
  maxLen : Nat := 0
  deriving DecidableEq, Repr

/-- The main stream attributes of a frame (R408), with its bits per pixel (the DSC target where `dsc`). -/
structure DpMsa where
  mvid : Nat
  nvid : Nat
  htotal : Nat
  vtotal : Nat
  hstart : Nat
  vstart : Nat
  hsync : Nat
  vsync : Nat
  hwidth : Nat
  vheight : Nat
  misc0 : Nat
  misc1 : Nat
  dsc : Bool
  bpp : Nat
  deriving DecidableEq, Repr

/-- What a feed controller measures (R492): VIN and FBUS in 0.1 V, the sense voltage Vs in 0.1 mV. (Assumption log 57, DEDUCED.) -/
structure FeedMeas where
  vin : Nat
  fbus : Nat
  vs : Nat
  deriving DecidableEq, Repr

/-- A disagreement of engines A and B (R276, R277): comparison point, word or pin, what A's word differs by from the right one, and
whether spare C finds the current bank, the other bank or the journal unusable (R284). -/
structure Mismatch where
  point : Fin 8
  word : Fin 16
  flip : Word
  curBad : Bool := false
  otherBad : Bool := false
  journalBad : Bool := false
  deriving DecidableEq, Repr

/-- R191, R230: an input edge of an event pin: the pin, and the level that the edge goes to. -/
structure PinEdge where
  pin : Fin 16
  high : Bool
  deriving DecidableEq, Repr

/-- R147, R272, R296: the start of a flit at an egress port: the port, and the ECC errors found in its queue (the word, and whether it is
uncorrectable). -/
structure EgressStart where
  port : Fin 18
  ecc : List (Fin 31 × Bool)
  deriving DecidableEq, Repr

/-- Who starts a key-store command (R424, R434, R435): the mailbox of F2, whose registers hold the arguments; the management sequencer
or the maintenance port, with ARG0–ARG3 and the input bytes. (Assumption log 50, DEDUCED.) -/
inductive KeyReq where
  | mailbox
  | sequencer (args : List Reg) (input : List (BitVec 8))
  | maint (args : List Reg) (input : List (BitVec 8))
  deriving DecidableEq, Repr

/-- Who accesses registers (R562): the host (the normal world, R426), the management sequencer, the maintenance port. -/
inductive RegMaster where
  | host | sequencer | maint
  deriving DecidableEq, Repr

/-- Where a register stands: a page and a byte offset of the register space of F0 (R549); a byte offset of BAR@0x10 of F1, which holds
its MSI-X table, or of F2, the mailbox (R348, R432). -/
inductive RegAt where
  | page (page : BitVec 10) (off : BitVec 12)
  | f1 (off : BitVec 14)
  | f2 (off : BitVec 12)
  deriving DecidableEq, Repr

end Sys2Proof
end

