-- ==== Sys2Proof/Syntax.lean ====
section
/-!
DEFINITION. The commands of the block: one constructor for each row of the opcode table, in the table's order.
-/
namespace Sys2Proof

/-- A command to the hub, or a happening that the hub takes (spec/opcode_table.json). -/
inductive Instr where
  /-- REGISTER_WRITE (R9). A write to a register field that has no row of its own takes effect according to its access type. -/
  | registerWrite (m : RegMaster) (r : RegAt) (v : Reg)
  /-- MISALIGNED_ACCESS (R8). A register access that is not an aligned 32-bit access completes without effect, reads all ones and raises window-errors. -/
  | misalignedAccess (isRead : Bool) (page : BitVec 10) (off : BitVec 12)
  /-- LO_READ_LATCH (R11). A read of a _LO register of a 40-bit quantity latches the matching _HI value. -/
  | loReadLatch (r : RegAt)
  /-- HI_WRITE_HOLD (R11). A write of a _HI register is held until the next write of _LO. -/
  | hiWriteHold (page : BitVec 10) (off : BitVec 12) (v : Reg)
  /-- LO_WRITE_COMMIT (R11). A write of _LO commits both halves of a 40-bit quantity in one cycle. -/
  | loWriteCommit (page : BitVec 10) (off : BitVec 12) (v : Reg)
  /-- PAGE_LOCK (R549). Writing 1 to a page's CTL.LOCK makes its RWL fields read-only until the next full reset of the core die. -/
  | pageLock (page : BitVec 10)
  /-- CODE_GROUP_RX (R43). A lane receives a code group, descrambles it, checks it and passes the word or a bad-word mark to Chord. -/
  | codeGroupRx (p : Fin 18) (pair : Bool) (cg : BitVec 46)
  /-- SKIP_SEND (R47). The transmitter sends a SKIP as a parallel word on its 8128-code-group schedule, delayed by express words by up to 64. -/
  | skipSend (p : Fin 18)
  /-- SIGNAL_ENERGY_DETECT (R66). Signal energy on a receive pair for 1 µs takes a port from DETECT to TRAIN or starts a cold attempt at once in DOWN. -/
  | signalEnergyDetect (p : Fin 18)
  /-- WAKE_BURST_DETECT (R72). The power-die detector declares a wake burst, which takes a port from DETECT or DORMANT to TRAIN. -/
  | wakeBurstDetect (p : Fin 18)
  /-- TRAIN_ENTRY (R57). The port enters TRAIN and sends training blocks at the starting preset, starting the cold-training deadlines. -/
  | trainEntry (p : Fin 18)
  /-- TRAIN_WORD_RX (R51). A TRAIN word arrives and is used for block lock, polarity, lane identity, phase and equalisation status. -/
  | trainWordRx (p : Fin 18) (pair : Bool) (hdr : BitVec 2) (w : Word) (slot : Nat)
  /-- PRESET_EVAL_EXPIRY (R53). The 50 µs evaluation of a preset or cursor setting ends and the hub moves its sweep to the next setting. -/
  | presetEvalExpiry (p : Fin 18) (margin : Nat)
  /-- ALIGN_WORD_RX (R54). An ALIGN word arrives and is used to deskew the two lanes and to learn the seed and LAST. -/
  | alignWordRx (p : Fin 18) (pair : Bool) (w : Word) (skew : Int)
  /-- LAST_SEND (R56). After eight ALIGN words and an ALIGN with DSK = 1, the transmitter sends LAST on both lanes and starts scrambling. -/
  | lastSend (p : Fin 18)
  /-- TRAIN_DEADLINE_EXPIRY (R57). A cold-training phase misses its deadline, the attempt fails and is counted in COLD_FAIL. -/
  | trainDeadlineExpiry (p : Fin 18)
  /-- COLD_RETRY_EXPIRY (R58). The spacing after a failed attempt, or the 10 µs after DOWN entry, expires and a new cold attempt starts. -/
  | coldRetryExpiry (p : Fin 18)
  /-- CAPS_RX (R61). A CAPS word arrives in CONFIG and is added to the partner's capability set. -/
  | capsRx (p : Fin 18) (copyA : Option Word) (copyB : Option Word)
  /-- CONFIG_TIMEOUT (R64). CONFIG is not complete 200 µs after entry and the attempt fails. -/
  | configTimeout (p : Fin 18)
  /-- BLOCK_LOCK_LOSS (R50). A lane loses block lock (8 of 64 code groups with header 0b00 in ACTIVE, or four missed slots in training), and an ACTIVE port enters RETRAIN. -/
  | blockLockLoss (p : Fin 18) (pair : Bool)
  /-- BAD_WORD_BURST (R59). A lane counts 32 bad words within 1 µs, so the port enters RETRAIN and raises BAD_BURST. -/
  | badWordBurst (p : Fin 18) (pair : Bool)
  /-- RETRAIN_DEADLINE_EXPIRY (R60). A retrain misses a deadline and the port goes to DOWN. -/
  | retrainDeadlineExpiry (p : Fin 18)
  /-- FORCE_RETRAIN (R76). A write of LANE_CTL.FORCE_RETRAIN in ACTIVE triggers a retrain. -/
  | forceRetrain (p : Fin 18)
  /-- FORCE_COLD (R76). A write of LANE_CTL.FORCE_COLD sends the port to DOWN or abandons the current attempt and starts a cold attempt at once. -/
  | forceCold (p : Fin 18)
  /-- LANE_ENABLE (R66). A write of LANE_CTL.ENABLE takes the port to DETECT, or to DISABLED when cleared. -/
  | laneEnable (p : Fin 18) (v : Bool)
  /-- LOOP_WRITE (R574). A write of LANE_CTL.LOOP while ENABLE is 0 takes the port into or out of LOOPBACK. -/
  | loopWrite (p : Fin 18) (v : BitVec 2)
  /-- LANE_ERR_READ (R79). A read of LANE_ERR returns the bad-word counts and clears them. -/
  | laneErrRead (p : Fin 18)
  /-- SEND_BURST (R79). A write of LANE_WAKE.SEND_BURST in DETECT or DORMANT starts a wake-burst series. -/
  | sendBurst (p : Fin 18)
  /-- WAKE_BURST_REPEAT (R73). 1 ms after a burst without training blocks received the burst is repeated, and after 60 the port returns to DORMANT counting a failure. -/
  | wakeBurstRepeat (p : Fin 18)
  /-- ENTER_RX (R68). An IDLE with a non-zero ENTER arrives and the side answers with ACCEPT 1 or 0 under the low-power rules. -/
  | enterRx (p : Fin 18) (w : Word)
  /-- ENTER_SEND (R68). A side sends an IDLE with ENTER to ask the partner for a low-power link state. -/
  | enterSend (p : Fin 18) (code : BitVec 3)
  /-- IDLE_ACCEPT_RX (R68). The answer IDLE with ACCEPT arrives and, with ACCEPT = 1, eight more IDLE words precede entry to the state. -/
  | idleAcceptRx (p : Fin 18) (w : Word)
  /-- ENTER_ANSWER_TIMEOUT (R69). No answer to ENTER arrives within 1 µs and the handshake ends. -/
  | enterAnswerTimeout (p : Fin 18)
  /-- LINK_WAKE (R70). A wake in DOZE, NAP or DORMANT starts WAKE words, RETRAIN or TRAIN to return the port to ACTIVE. -/
  | linkWake (p : Fin 18)
  /-- WAKE_WORD_RX (R70). WAKE words from the partner arrive and the receiver resumes from its frozen descrambler state. -/
  | wakeWordRx (p : Fin 18) (w : Word)
  /-- WORD_FRAME_RX (R82). Chord receives a stream or parallel word, removes stream control words and frames data words into flits. -/
  | wordFrameRx (p : Fin 18)
  /-- FLIT_RX (R102). A complete flit is checked under R83 and classified as in sequence, gap or duplicate by its LSN. -/
  | flitRx (p : Fin 18)
  /-- ACK_SEND (R103). The receiver sends an ACK when 16 accepted flits are unacknowledged or 100 ns after the first unacknowledged one. -/
  | ackSend (p : Fin 18)
  /-- NAK_REPEAT (R103). In NAK_WAIT, one replay-timer period passes without an accepted flit and one more NAK is sent. -/
  | nakRepeat (p : Fin 18)
  /-- ACK_RX (R100). An ACK arrives, purges replay entries up to its LSN and XSN, and with RSTART = 1 restarts the receiver's framing. -/
  | ackRx (p : Fin 18) (w : Word)
  /-- NAK_RX (R101). A NAK arrives, acknowledges up to its points and starts a flit replay or resends the named express flit. -/
  | nakRx (p : Fin 18) (w : Word) (bad : List Nat) (corr : Nat) (hdrBad : Bool)
  /-- REPLAY_TIMER_EXPIRY (R108). The replay timer expires and a new replay starts from the oldest held entry, or the oldest express flit is resent. -/
  | replayTimerExpiry (p : Fin 18) (bad : List Nat) (corr : Nat) (hdrBad : Bool)
  /-- REPLAY_END (R105). The last held entry of a replay has been resent and the transmitter returns to SEND. -/
  | replayEnd (p : Fin 18)
  /-- CREDIT_SEND (R95). A receiver sends a CREDIT word within 100 ns of freed credits, or at once when 8 are waiting. -/
  | creditSend (p : Fin 18) (vc : Fin 5) (data : Bool)
  /-- CREDIT_REPEAT (R95). Every 10 µs the receiver repeats the current credit limit for every credited VC and type. -/
  | creditRepeat (p : Fin 18)
  /-- CREDIT_RX (R97). A CREDIT word arrives and its LIMIT is taken as the new CL or discarded and counted as CREDIT_ERR. -/
  | creditRx (p : Fin 18) (w : Word)
  /-- EXPRESS_COPY_RX (R89). A lane's group of express words is framed and judged good or bad, and the first good copy of each XSN is handled. -/
  | expressCopyRx (p : Fin 18) (pair : Bool)
  /-- EXPRESS_COPY_WAIT_EXPIRY (R114). Neither copy of an express flit is good 20 ns after the first copy's last word, and an express NAK is sent. -/
  | expressCopyWaitExpiry (p : Fin 18)
  /-- EXPRESS_ENTRY_STALE (R113). An express replay entry passes MAX_AGE and is discarded, counted and raises EXP_STALE. -/
  | expressEntryStale (p : Fin 18)
  /-- POINT_SEND (R122). A Point message request sends a pair of POINT words within 50 ns, waking a sleeping port or dropping it for a dead one. -/
  | pointSend (p : Fin 18)
  /-- POINT_REPEAT (R122). A Point message pair is repeated 100 ns and 200 ns after its first sending. -/
  | pointRepeat (p : Fin 18)
  /-- POINT_RX (R123). A POINT word arrives, duplicates are discarded and an accepted message is acted on and passed on within 100 ns. -/
  | pointRx (p : Fin 18) (w : Word)
  /-- LINK_DOWN (R126). A port enters DOWN: flits stop, the grace timer starts, VC0 and VC1 traffic is dropped and VC2–VC5 tunnels go to HELD. -/
  | linkDown (p : Fin 18)
  /-- LINK_RESUME (R126). A cold attempt completes with the same partner before grace expiry, starts a new epoch, replays and returns HELD tunnels to OPEN. -/
  | linkResume (p : Fin 18)
  /-- GRACE_EXPIRY (R126). The grace period expires: buffers and queued VC2–VC5 flits are flushed, tunnels go to FAILED and the lane goes to DETECT. -/
  | graceExpiry (p : Fin 18)
  /-- FLUSH_NOW (R140). A write of CHD_CTL.FLUSH_NOW in DOWN ends the grace period at once. -/
  | flushNow (p : Fin 18)
  /-- EPOCH_NOW (R140). A write of CHD_CTL.EPOCH_NOW starts an epoch change in the hub's transmit direction. -/
  | epochNow (p : Fin 18)
  /-- EPOCH_RX (R133). An EPOCH word (ANNOUNCE, READY or SWITCH) arrives and advances the epoch change. -/
  | epochRx (p : Fin 18) (w : Word)
  /-- ANNOUNCE_REPEAT (R133). ANNOUNCE is repeated every 2 µs until READY arrives. -/
  | announceRepeat (p : Fin 18)
  /-- EPOCH_KEY_DERIVED (R133). The receiver completes derivation of key e + 1 and sends READY. -/
  | epochKeyDerived (p : Fin 18)
  /-- EPOCH_TIMEOUT (R134). An epoch change not complete 100 µs after ANNOUNCE is abandoned, counted and raises AUTH_FAIL. -/
  | epochTimeout (p : Fin 18)
  /-- REVOKE_GRACE_EXPIRY (R136). No epoch change under a new key completes within the grace period after revocation, so the hub proceeds as at step 5b. -/
  | revokeGraceExpiry (p : Fin 18)
  /-- FLIT_HULL_CROSS (R615). A flit crosses the Hull into an egress queue once its egress credits are available, with ECC checking on the way. -/
  | flitHullCross (egress : Fin 25) (ecc : List (Fin 31 × Bool))
  /-- TUN_READ (R185). TUN_CMD READ copies the selected tunnel entry into TUN_DATA0–7 within 100 ns. -/
  | tunRead
  /-- TUN_WRITE (R185). TUN_CMD WRITE takes TUN_DATA0–7 into an entry in FREE or RESERVED after the field checks of R162. -/
  | tunWrite
  /-- TUN_RESERVE (R163). TUN_CMD RESERVE moves an entry from FREE to RESERVED and increments GEN. -/
  | tunReserve
  /-- TUN_OPEN (R170). TUN_CMD OPEN admits a RESERVED tunnel and moves it to OPENING, installing entries and sending TUN_OPEN. -/
  | tunOpen
  /-- TUN_CLOSE (R163). TUN_CMD CLOSE moves the entry to CLOSING and sends TUN_CLOSE and ENTRY_WRITE FREE. -/
  | tunClose
  /-- TUN_RELEASE (R163). TUN_CMD RELEASE returns a RESERVED entry to FREE. -/
  | tunRelease
  /-- TUN_REOPEN (R170). TUN_CMD REOPEN admits a FAILED tunnel and moves it to OPENING. -/
  | tunReopen
  /-- ENTRY_ACK_RX (R163). A leaf's ENTRY_ACK arrives; with all acknowledgements in, an OPENING entry goes to OPEN. -/
  | entryAckRx (hub : Fin 17) (msg : List Word)
  /-- TUN_OPEN_ACK_RX (R166). A dock's TUN_OPEN_ACK arrives and counts towards the OPENING entry reaching OPEN. -/
  | tunOpenAckRx (dock : Fin 64) (msg : List Word)
  /-- TUN_OPEN_NAK_RX (R166). A dock's TUN_OPEN_NAK arrives and the OPENING entry goes to FAILED. -/
  | tunOpenNakRx (dock : Fin 64) (msg : List Word)
  /-- TUN_CLOSE_ACK_RX (R166). A dock's TUN_CLOSE_ACK arrives and counts towards the CLOSING entry reaching FREE. -/
  | tunCloseAckRx (dock : Fin 64) (msg : List Word)
  /-- PENDING_TUN_MSG_SEND (R166). A held TUN_OPEN or TUN_CLOSE is sent within 10 µs of the dock's management tunnel entering OPEN. -/
  | pendingTunMsgSend (dock : Fin 64)
  /-- OPENING_TIMEOUT (R163). An entry still in OPENING 10 ms after entry goes to FAILED with CAUSE 0x03. -/
  | openingTimeout (t : BitVec 12)
  /-- CLOSING_DISCARD (R163). 1 ms after entry to CLOSING the tunnel's queued flits are discarded. -/
  | closingDiscard (t : BitVec 12)
  /-- CLOSING_TIMEOUT (R163). An entry still in CLOSING 10 ms after entry goes to FREE. -/
  | closingTimeout (t : BitVec 12)
  /-- ENTRY_WRITE_RESEND (R168). No ENTRY_ACK has arrived 1 ms after an ENTRY_WRITE and the root resends it once. -/
  | entryWriteResend (t : BitVec 12)
  /-- ENTRY_ACK_TIMEOUT (R168). A leaf's ENTRY_ACK is missing 2 ms after the first ENTRY_WRITE and the OPENING entry fails with CAUSE 0x09. -/
  | entryAckTimeout (t : BitVec 12)
  /-- AUTO_REOPEN (R165). An AUTO entry in FAILED is reopened by the management sequencer once every port on its path is ACTIVE, or when a charge is released. -/
  | autoReopen (t : BitVec 12)
  /-- ENTRY_WRITE_RX (R157). A leaf receives ENTRY_WRITE on its hub control tunnel, writes the entry as sent and answers ENTRY_ACK. -/
  | entryWriteRx (hub : Fin 17) (msg : List Word)
  /-- HUB_ASSIGN_RX (R155). A leaf receives HUB_ASSIGN and forces a cold attempt if it names another number. -/
  | hubAssignRx (hub : Fin 17) (msg : List Word)
  /-- DOCK_REQ_RX (R157). The root receives DOCK_REQ and answers DOCK_GRANT or DOCK_DENY within 50 µs. -/
  | dockReqRx (hub : Fin 17) (msg : List Word)
  /-- DOCK_GRANT_RX (R157). A leaf receives DOCK_GRANT and sends the dock ID with DIDV = 1. -/
  | dockGrantRx (hub : Fin 17) (msg : List Word)
  /-- DOCK_DENY_RX (R157). A leaf receives DOCK_DENY, sends the port to DISABLED and raises DOCK_ID_EXHAUSTED. -/
  | dockDenyRx (hub : Fin 17) (msg : List Word)
  /-- DOCK_REQ_TIMEOUT (R157). No answer to DOCK_REQ 150 µs after CONFIG entry, so the leaf stops DIDV = 1 and the attempt fails. -/
  | dockReqTimeout (p : Fin 18)
  /-- DOCK_RELEASE_RX (R156). The root receives DOCK_RELEASE and releases the unpinned dock ID. -/
  | dockReleaseRx (hub : Fin 17) (msg : List Word)
  /-- ADAPTER_FLIT_RX (R174). A reassembling adapter receives a flit of a VC2–VC5 tunnel and opens, extends, completes or aborts the message. -/
  | adapterFlitRx (port : Fin 25)
  /-- REASM_TIMEOUT (R174). A message is not complete 1 ms after its first flit and is aborted. -/
  | reasmTimeout (t : BitVec 12)
  /-- MIGRATE_RX (R176). The root receives MIGRATE and swaps its spokes in the tunnel's entry. -/
  | migrateRx (hub : Fin 17) (port : Fin 18) (msg : List Word)
  /-- MOVE_BACK_START (R178). Apex 0 has been ACTIVE for 1 ms while apex 1 carries and the leaf starts moving tunnels back. -/
  | moveBackStart
  /-- MOVE_BACK_DRAINED (R178). A hub's old-side transmitter holds no unacknowledged flit of the tunnel, so it swaps ports and sends MIGRATE_DONE. -/
  | moveBackDrained (t : BitVec 12)
  /-- MIGRATE_DONE_RX (R178). MIGRATE_DONE arrives for a tunnel being moved back. -/
  | migrateDoneRx (hub : Fin 17) (port : Fin 18) (msg : List Word)
  /-- MIGRATE_INGRESS_SWITCH (R178). The old ingress buffer holds no flit of the tunnel, so new-ingress flits enter the queue and MIG clears. -/
  | migrateIngressSwitch (t : BitVec 12)
  /-- MOVE_BACK_ABANDON (R178). Unacknowledged flits remain 100 µs after the stop, so the move back is abandoned. -/
  | moveBackAbandon (t : BitVec 12)
  /-- MOVE_BACK_RETRY (R178). 1 ms after an abandoned move back, the move is tried again. -/
  | moveBackRetry (t : BitVec 12)
  /-- PROBE_EXCHANGE_START (R195). At each exchange interval the master sends PROBE REQ on lane L and stamps t1. -/
  | probeExchangeStart (p : Fin 18)
  /-- PROBE_REQ_RX (R195). The follower stamps a PROBE REQ and answers RESP on the same lane letter with TURN. -/
  | probeReqRx (p : Fin 18) (laneB : Bool) (w : Word) (turn : Fin 1001)
  /-- PROBE_RESP_RX (R197). The master stamps the RESP, computes rtt and d_ms and sends the ten TIME words or discards an outlier. -/
  | probeRespRx (p : Fin 18) (laneB : Bool) (w : Word)
  /-- TIME_WORD_RX (R194). The follower receives a TIME word; with all ten, it computes θ and applies the servo update. -/
  | timeWordRx (p : Fin 18) (w : Word)
  /-- TIME_WORDS_TIMEOUT (R198). Not all ten TIME words have arrived by step 6 and the follower discards the exchange. -/
  | timeWordsTimeout (p : Fin 18)
  /-- MEASUREMENT_LOSS (R192). No measurement is accepted for 8 intervals, so LOCKED Datum goes to HOLDOVER. -/
  | measurementLoss
  /-- SOURCE_LOSS (R192). The time source is lost and Datum goes to HOLDOVER. -/
  | sourceLoss
  /-- SOURCE_CHANGE (R192). The source in use changes and Datum goes to UNSYNC, or to LOCKED at once for free run. -/
  | sourceChange
  /-- STEP_NOW (R616). A write of DAT_CTL.STEP_NOW with source free run or 1PPS sets time from DAT_SET and raises STEP. -/
  | stepNow
  /-- PTP_MESSAGE_RX (R205). A PTP message arrives on a station port or from a dock, is stamped and handled by the boundary clock. -/
  | ptpMessageRx (port : Fin 20) (domain : BitVec 8) (m : PtpMsg)
  /-- PPS_INPUT_EDGE (R191). A 1PPS input edge gives a measurement for the 1PPS source. -/
  | ppsInputEdge (e : PinEdge)
  /-- PPS_INPUT_LOSS (R229). No 1PPS input edge for 1.5 s raises PPSIN_LOST. -/
  | ppsInputLoss
  /-- TIME_DS_SEND (R207). The root sends TIME_DS after its time tunnel opens, on a field change or every 1 s. -/
  | timeDsSend (h : Fin 17)
  /-- TIME_DS_RX (R207). A leaf receives TIME_DS and uses it for its Announce messages. -/
  | timeDsRx (msg : List Word)
  /-- TIME_STATUS_SEND (R207). A leaf sends TIME_STATUS on a change of its Datum state or source, or every 1 s. -/
  | timeStatusSend
  /-- TIME_STATUS_RX (R207). The root receives TIME_STATUS and updates DAT_LEAF_STAT and DAT_LEAF_THETA. -/
  | timeStatusRx (h : Fin 17) (msg : List Word)
  /-- TIME_STATUS_STALE (R207). 3 s pass without a TIME_STATUS and the root marks the leaf STALE. -/
  | timeStatusStale (h : Fin 17)
  /-- LATTICE_TICK (R208). A lattice tick falls and drives checkpoints, gate cycles, snapshots and queue sampling. -/
  | latticeTick (m : Option Mismatch)
  /-- LAT_COMMIT (R211). A write of LAT_CTL.COMMIT stages a period change and sends LATTICE_MARK, or is refused with MARK_REJECT. -/
  | latCommit
  /-- LATTICE_MARK_REPEAT (R211). The root repeats LATTICE_MARK each second until the boundary S. -/
  | latticeMarkRepeat
  /-- LATTICE_MARK_RX (R211). A LATTICE_MARK is received, staged and passed on, or discarded as invalid. -/
  | latticeMarkRx (p : Fin 18) (w : Word)
  /-- LATTICE_PERIOD_CHANGE (R211). At the boundary S the new period takes effect and rates, composites and gate cycles follow. -/
  | latticePeriodChange
  /-- KEEPER_HANDOFF (R213). The core die hands full time and RATE to the power-die keeper at an ambient edge. -/
  | keeperHandoff
  /-- KEEPER_RESTORE (R213). At wake the keeper presents time, which the core die loads, entering HOLDOVER. -/
  | keeperRestore
  /-- EVENT_PIN_EDGE (R216). An accepted input-pin edge is stamped into the FIFO and, on a source pin, becomes an express event. -/
  | eventPinEdge (n : Fin 16) (high : Bool)
  /-- EVP_TS_POP (R230). A read of EVP_TS_NS pops the oldest stamp and latches its SEC registers. -/
  | evpTsPop
  /-- SNAPSHOT (R221). LAT_GOP OP SNAPSHOT starts a tree snapshot at target index I and sends SNAPSHOT. -/
  | snapshot
  /-- SNAPSHOT_RECORD_RX (R221). A snapshot record arrives on a management or hub control tunnel and is merged. -/
  | snapshotRecordRx (node : Fin 192) (msg : List Word) (late : Bool)
  /-- SNAPSHOT_RECORD_TIMEOUT (R221). A record is missing after 2 ms and the root asks for it once again. -/
  | snapshotRecordTimeout
  /-- SNAPSHOT_RELEASE_RX (R221). RELEASE arrives from the root and the node frees its held record. -/
  | snapshotReleaseRx
  /-- TREE_RESET (R223). LAT_GOP OP TREE_RESET with KEY 0xA5 sends TREE_RESET to the tree. -/
  | treeReset (key : BitVec 8)
  /-- TREE_RESET_HOLD_EXPIRY (R223). 2 µs after accepting TREE_RESET the hub performs a full reset. -/
  | treeResetHoldExpiry
  /-- SAMPLE_PART_RX (R237). The sample adapter checks a delivered sample part and accepts it or drops it as STUB, MALFORMED, OFFGRID, EARLY, LATE or DUP. -/
  | samplePartRx
  /-- COMPOSITE_EMIT (R243). At t + D the adapter emits the composite set, with cross-checks and substitution of missing sources. -/
  | compositeEmit (c : Fin 64)
  /-- SV_FRAME_SEND (R253). An outgoing sampled-value frame is built and handed to the bridge at t_last + DELAY. -/
  | svFrameSend (i : Fin 256)
  /-- SV_FRAME_RX (R255). An incoming sampled-value frame is matched, checked, converted and sent as sample flits. -/
  | svFrameRx
  /-- SMP_READ (R257). SMP_CMD READ copies the selected sample record into SMP_DATA0–3. -/
  | smpRead
  /-- SMP_WRITE (R257). SMP_CMD WRITE takes SMP_DATA0–3 as one record after its checks. -/
  | smpWrite
  /-- EXPRESS_FLIT_RX (R267). An express flit reaches the congruent pair, is de-duplicated, decided in lockstep and enqueued in Q0 of each egress port, and acts on local sinks. -/
  | expressFlitRx (p : Fin 18) (m : Option Mismatch)
  /-- EXPRESS_Q0_START (R272). The head flit of Q0 takes the lanes at the next code-group boundary, interrupting any other flit. -/
  | expressQ0Start (e : EgressStart)
  /-- FORCE_MISMATCH (R289). A write of EXP_CTL.FORCE_MISMATCH inverts a reserved header bit of engine A's next flit. -/
  | forceMismatch
  /-- RESTORE (R283). A write of EXP_CTL.RESTORE starts self-test of engines A and B. -/
  | restore
  /-- RESTORE_SELFTEST_DONE (R283). The self-test of A and B completes; a pass leads to restoration at the next tick, a failure raises RESTORE_FAIL. -/
  | restoreSelftestDone (pass : Bool)
  /-- RESTORE_HANDBACK (R283). A and B have loaded C's bank and replayed the journal, and decision passes back to the pair. -/
  | restoreHandback (good : Bool)
  /-- EXTRA_CHECKPOINT (R280). 96 journal entries since the current checkpoint started trigger an extra checkpoint. -/
  | extraCheckpoint
  /-- EXPRESS_REPEAT (R263). An internal source repeats an event at 20 µs, 200 µs and 2 ms. -/
  | expressRepeat (g : Fin 256)
  /-- HEARTBEAT (R263). An internal source sends its current state every 2^HB ms while no new event arises. -/
  | heartbeat (g : Fin 256)
  /-- EXPRESS_DEFERRED_SEND (R264). An event deferred for spacing is sent 1 µs after the previous flit with the state at its sending. -/
  | expressDeferredSend (g : Fin 256)
  /-- PIN_PULSE_END (R286). A sink pin's pulse of WIDTH µs ends and the pin returns to its inactive level. -/
  | pinPulseEnd (n : Fin 16)
  /-- SUPERVISION_LOSS (R287). A supervised sink receives no accepted flit for 2 × 2^HB + 1 ms and goes inactive unless HOLD. -/
  | supervisionLoss (g : Fin 256)
  /-- EXP_READ (R292). EXP_CMD READ copies a GROUP_STAT or PIN record into EXP_DATA0–2. -/
  | expRead
  /-- EXP_WRITE (R293). EXP_CMD WRITE takes a PIN record after its checks. -/
  | expWrite
  /-- EXP_QMAX_READ (R292). A read of EXP_QMAX returns QMAX and clears it. -/
  | expQmaxRead
  /-- COMPASS_SELECT (R296). At a flit boundary of an egress port Compass starts one eligible flit by class, pass, mode, gate, shaper and tokens. -/
  | compassSelect (e : EgressStart)
  /-- BUCKET_FILL (R302). Every 10 ns of Datum time shaper and policer buckets gain CIR and PIR up to their caps. -/
  | bucketFill
  /-- ETOK_REFILL (R317). At each microsecond boundary the energy-token bucket gains E up to its cap. -/
  | etokRefill
  /-- QUEUE_SHAPER_WRITE (R302). A write of CMP_QRATE or CMP_QBURST, or SHAPE from 0 to 1, refills the shaper's buckets. -/
  | queueShaperWrite (p : Fin 18) (reg : Fin 3) (v : Reg)
  /-- GATE_ENTRY_ADVANCE (R311). A gate-list entry's INTERVAL ends and the next entry's gate states take force. -/
  | gateEntryAdvance (x : Fin 20)
  /-- GCL_COMMIT (R313). A write of GCL_CMD.COMMIT checks the administrative list and sets PENDING, or raises GCL_REJECT. -/
  | gclCommit (x : Fin 20)
  /-- GCL_CANCEL (R314). A write of GCL_CMD.CANCEL clears PENDING. -/
  | gclCancel (x : Fin 20)
  /-- GCL_ADMIN_WRITE (R313). A write to the administrative list or its registers is taken, or ignored and counted while PENDING. -/
  | gclAdminWrite (x : Fin 20) (i : Fin 258) (v : Reg)
  /-- GCL_ENABLE (R315). A write of GCL_EN starts the operational list at the next cycle boundary or opens every gate. -/
  | gclEnable (x : Fin 20) (v : Bool)
  /-- CMP_QDEPTH_READ (R320). A read of CMP_QDEPTH returns MAX and clears it, keeping a same-cycle peak. -/
  | cmpQdepthRead (p : Fin 18)
  /-- CMP_QDELAY_MAX_READ (R320). A read of CMP_QDELAY_MAX returns the greatest sojourn and clears it. -/
  | cmpQdelayMaxRead (p : Fin 18)
  /-- POL_READ (R325). CMP_POL_CMD READ copies a policer record into CMP_POL_DATA0–3. -/
  | polRead
  /-- POL_WRITE (R308). CMP_POL_CMD WRITE takes a policer record after its checks and refills its buckets. -/
  | polWrite
  /-- FRAME_TUNNEL_RX (R331). A frame message from a tunnel port enters the bridge and is filtered and forwarded. -/
  | frameTunnelRx (t : BitVec 12) (f : Frame)
  /-- STATION_FRAME_RX (R334). A frame arrives on a station port and is checked, de-duplicated, learned and bridged. -/
  | stationFrameRx (x : Fin 2) (f : Frame) (fcsBad : Bool) (corr : Nat) (uncorr : Bool)
  /-- TUNNEL_FRAME_SEND (R332). A frame held for a tunnel port is sent once credits allow, or dropped. -/
  | tunnelFrameSend (i : Fin 128)
  /-- STATION_FRAME_TX (R335). A station egress queue sends its highest-priority eligible frame. -/
  | stationFrameTx (x : Fin 2)
  /-- MAC_AGE_EXPIRY (R333). A dynamic MAC entry reaches its ageing time and is removed. -/
  | macAgeExpiry
  /-- DUP_ENTRY_EXPIRY (R338). A duplicate-discard entry reaches 400 ms and is removed. -/
  | dupEntryExpiry
  /-- LAN_FAIL (R338). No frame arrives on a port for 2 × LIFECHECK and LAN_FAIL is raised. -/
  | lanFail (x : Fin 2)
  /-- SUPERVISION_FRAME_SEND (R338). Every LIFECHECK ms the RedBox sends supervision frames for itself and its proxied nodes. -/
  | supervisionFrameSend
  /-- STATION_LINK_UP (R336). Block lock and FEC alignment have held for 10 ms and the port raises LINK_UP. -/
  | stationLinkUp (x : Fin 2)
  /-- STATION_LINK_DOWN (R336). Block lock or FEC alignment is lost and the port raises LINK_DOWN. -/
  | stationLinkDown (x : Fin 2) (fec : Bool)
  /-- SFP_I2C_CMD (R337). A write of FRM_SP_I2C starts a one-byte two-wire transaction. -/
  | sfpI2cCmd (x : Fin 2) (v : Reg)
  /-- SFP_I2C_DONE (R337). The two-wire transaction completes and BUSY and NACK are updated. -/
  | sfpI2cDone (x : Fin 2) (nack : Bool) (data : BitVec 8)
  /-- GOOSE_FRAME_RX (R339). A GOOSE frame matching an input record is checked and presents a new event or nothing. -/
  | gooseFrameRx
  /-- GOOSE_TAL_EXPIRY (R339). No matching frame arrives within timeAllowedtoLive and OP_LOSS is presented as a new event. -/
  | gooseTalExpiry (r : Fin 256)
  /-- GOOSE_RETRANSMIT (R340). The retransmission interval of an output record ends and the frame is sent again with sqNum incremented. -/
  | gooseRetransmit (r : Fin 256)
  /-- FRM_READ (R343). FRM_CMD READ copies a bridge record into FRM_DATA0–3. -/
  | frmRead
  /-- FRM_WRITE (R344). FRM_CMD WRITE takes a bridge record after its checks. -/
  | frmWrite
  /-- PCIE_LINK_UP (R347). The host link trains and the data link layer comes up, raising DEGRADED if below its caps. -/
  | pcieLinkUp (speed : Fin 5) (width : Fin 17)
  /-- PCIE_LINK_DOWN (R352). The host link goes down or is disabled, resetting configuration registers and discarding read completions. -/
  | pcieLinkDown
  /-- HOT_RESET (R352). A hot reset of the host link resets configuration registers of F0–F2 without resetting the hub. -/
  | hotReset
  /-- CONFIG_REQUEST (R539). A PCI Express configuration request is answered with retry status or normally. -/
  | configRequest (f : Fin 3) (r : CfgReg) (wr : Bool) (v : Reg) (tag : BitVec 10)
  /-- HOST_READ (R355). A host memory read to F1 is decoded to a window and sent as READ, served from prefetch, or completed under R369. -/
  | hostRead (apt : Bool) (o : BitVec 36) (len : Fin 1025) (fbe : BitVec 4) (lbe : BitVec 4) (tag : BitVec 10)
  /-- HOST_WRITE (R361). A host memory write to F1 is decoded and sent as one WRITE message or dropped. -/
  | hostWrite (apt : Bool) (o : BitVec 36) (data : List Reg) (fbe : BitVec 4) (lbe : BitVec 4)
  /-- HELD_REQUEST_RESUME (R369). A request held while its tunnel was HELD or REKEY is sent when the tunnel is OPEN again. -/
  | heldRequestResume (t : BitVec 12)
  /-- READ_RSP_RX (R360). A READ_RSP arrives and completes the host read, fills a prefetch entry, or is a side-effect fault. -/
  | readRspRx (t : BitVec 12) (msg : List Word) (poisoned : Bool)
  /-- WRITE_ERR_RX (R361). A WRITE_ERR arrives and is counted, captured and raises DOCK_ERR. -/
  | writeErrRx (t : BitVec 12) (msg : List Word)
  /-- HOST_READ_TIMEOUT (R368). A host read's RD_TIMEOUT expires and it completes with all-ones data. -/
  | hostReadTimeout
  /-- HOST_READ_HOLD_LIMIT (R368). A read has spent its hold limit with its timer stopped and completes as a link failure. -/
  | hostReadHoldLimit
  /-- PREFETCH_AGE_EXPIRY (R365). A prefetch entry reaches PF_AGE and is discarded. -/
  | prefetchAgeExpiry
  /-- INT_POLL (R372). Every PERIOD the bridge sends INT_READ to a polled dock, or skips the poll. -/
  | intPoll (d : Fin 64)
  /-- INT_POLL_TIMEOUT (R372). A poll is not answered within RD_TIMEOUT and POLL_TIMEOUT is raised. -/
  | intPollTimeout (d : Fin 64)
  /-- INT_RSP_RX (R374). An INT_RSP is ORed into WIN_INT_PEND and sends F1's vector on a new bit. -/
  | intRspRx (t : BitVec 12) (msg : List Word)
  /-- RWRITE_RX (R377). An RWRITE is judged by RSEQ and accepted, refused, backed off or discarded. -/
  | rwriteRx (t : BitVec 12) (msg : List Word)
  /-- REVERSE_WRITE_UPSTREAM (R378). Accepted reverse-write data is sent upstream as posted writes as host credits allow. -/
  | reverseWriteUpstream
  /-- RW_ACK_SEND (R378). The bridge sends RW_ACK within 10 µs of an acceptance or after 16 acceptances. -/
  | rwAckSend (d : Fin 64)
  /-- WIN_READ (R383). WIN_CMD READ copies a window, reverse-window or interrupt record into WIN_DATA0–3. -/
  | winRead
  /-- WIN_WRITE (R356). WIN_CMD WRITE takes a window, reverse-window or interrupt record after its checks. -/
  | winWrite
  /-- PF_RESTORE (R367). WIN_CMD PF_RESTORE clears SE_FAULT on the selected window. -/
  | pfRestore
  /-- USB_TOKEN_RX (R393). A host token is routed by address and answered from held results, sending XFER, ISO or split requests as needed. -/
  | usbTokenRx (k : UsbTok)
  /-- RESULT_RX (R393). A RESULT arrives and is held for the host's next token, or dropped as stale. -/
  | resultRx (t : BitVec 12) (msg : List Word)
  /-- XFER_TIMEOUT (R394). No RESULT within XFER_TO, so the next token to that endpoint gets STALL. -/
  | xferTimeout (dock : Fin 64) (tag : BitVec 8)
  /-- PORT_STAT_RX (R402). A PORT_STAT arrives and updates the port state, speed and change bits. -/
  | portStatRx (t : BitVec 12) (msg : List Word)
  /-- USB_WAKE_RX (R405). A dock's WAKE leads to RESUMING, an upstream K, or discard. -/
  | usbWakeRx (t : BitVec 12) (msg : List Word)
  /-- PERIODIC_IN_RX (R397). A PERIODIC_IN arrives and is held for the host's IN in the right microframe. -/
  | periodicInRx (t : BitVec 12) (msg : List Word)
  /-- ISO_IDLE_TIMEOUT (R396). No IN or split reaches a periodic endpoint for 8 periods and ISO_STOP is sent. -/
  | isoIdleTimeout (dock : Fin 64) (port : Fin 4) (ep : Fin 16)
  /-- USB_SOF_RX (R399). A host SOF is stamped and sent on every connected dock's periodic tunnel. -/
  | usbSofRx (frame : BitVec 11) (micro : Fin 8)
  /-- USB_BUS_RESET (R403). An upstream bus reset returns virtual hubs to default, increments EPOCHs and sends ABORT_ALL. -/
  | usbBusReset
  /-- USB_SUSPEND (R404). 3 ms of bus idle suspends the upstream port and SUSPEND_ALL is sent. -/
  | usbSuspend
  /-- USB_RESUME (R404). The host's resume K is detected and RESUME_ALL is sent. -/
  | usbResume
  /-- USB_CONNECT (R387). A write of PER_USB_CTL.CONNECT connects or disconnects the D+ pull-up. -/
  | usbConnect (v : Bool)
  /-- USB_VBUS_CHANGE (R605). VBUS crosses its thresholds and the hub sees it present or absent. -/
  | usbVbusChange (v : Nat)
  /-- DP_LINK_TRAIN (R406). A DisplayPort input link trains with its source. -/
  | dpLinkTrain (i : Fin 2) (rate : Fin 5) (lanes : Fin 4) (fec : Bool) (ok : Bool)
  /-- DP_MSA_RX (R414). A frame's MSA is sent, its reservation computed and the input set OVER_BUDGET if needed. -/
  | dpMsaRx (i : Fin 2) (m : DpMsa)
  /-- DP_LINE_RX (R412). An active line is sent as a LINE message while the input is within budget. -/
  | dpLineRx (i : Fin 2) (line : BitVec 13) (bytes : List (BitVec 8))
  /-- DP_SDP_RX (R412). A secondary data packet is sent as an SDP message. -/
  | dpSdpRx (i : Fin 2) (line : BitVec 13) (bytes : List (BitVec 8))
  /-- AUX_REQUEST (R410). A source AUX request is answered locally or deferred and forwarded as AUX_REQ. -/
  | auxRequest (i : Fin 2) (cmd : BitVec 4) (addr : BitVec 20) (len : Fin 17) (data : List (BitVec 8))
  /-- AUX_RSP_RX (R410). An AUX_RSP arrives and answers the next retry, or is dropped if abandoned. -/
  | auxRspRx (t : BitVec 12) (msg : List Word)
  /-- AUX_TIMEOUT (R410). No AUX_RSP within AUX_TO and the next retry gets AUX_NACK. -/
  | auxTimeout (i : Fin 2)
  /-- DISPLAY_STATUS_RX (R411). A dock's STATUS updates HPD, IRQ, underruns and mirror state. -/
  | displayStatusRx (t : BitVec 12) (msg : List Word)
  /-- HPD_IRQ_PULSE_END (R411). The 750 µs HPD low pulse for an IRQ ends. -/
  | hpdIrqPulseEnd (i : Fin 2)
  /-- PRIMARY_CHANGE (R411). The primary slot fails or reports OUT_OK = 0 for 1 s and the lowest valid slot becomes primary. -/
  | primaryChange (i : Fin 2)
  /-- HPD_HOLD_END (R411). The 5 ms HPD low after a primary change ends. -/
  | hpdHoldEnd (i : Fin 2)
  /-- GET_INFO (R434). Mailbox GET_INFO returns words 0–4 and the state of a slot. -/
  | getInfo (r : KeyReq)
  /-- GENERATE (R434). Mailbox GENERATE writes a new random key into a slot under the commit sequence. -/
  | generate (r : KeyReq) (fails : Fin 3)
  /-- DERIVE (R433). Mailbox DERIVE writes a key derived from a parent or life-cycle root into a slot. -/
  | derive (r : KeyReq) (fails : Fin 3)
  /-- IMPORT (R436). Mailbox IMPORT unwraps a 48-byte blob into a slot. -/
  | importKey (r : KeyReq) (fails : Fin 3)
  /-- EXPORT (R436). Mailbox EXPORT wraps a slot's key under a KEK slot. -/
  | exportKey (r : KeyReq)
  /-- REVOKE (R434). Mailbox REVOKE revokes a slot and its descendants. -/
  | revoke (r : KeyReq) (fails : Fin 3)
  /-- ERASE (R434). Mailbox ERASE returns a REVOKED slot to EMPTY. -/
  | erase (r : KeyReq) (fails : Fin 3)
  /-- ATTEST (R438). Mailbox ATTEST returns a signed attestation report for a challenge. -/
  | attest (r : KeyReq)
  /-- PROVISION (R428). Mailbox PROVISION generates the attestation key and moves BLANK to PROVISIONED. -/
  | provision (r : KeyReq) (fails : Fin 3)
  /-- LC_CHALLENGE (R434). Mailbox LC_CHALLENGE returns a 32-byte challenge for one LC_ADVANCE attempt. -/
  | lcChallenge (r : KeyReq)
  /-- LC_ADVANCE (R428). Mailbox LC_ADVANCE moves the life-cycle state, authenticating entry to SERVICE. -/
  | lcAdvance (r : KeyReq) (fails : Fin 3)
  /-- LINK_MAP (R434). Mailbox LINK_MAP sets a port's LINK_ROOT slot in the key cache. -/
  | linkMap (r : KeyReq)
  /-- WAKE_SRC (R520). Mailbox WAKE_SRC returns the 16-byte last-wake record. -/
  | wakeSrc (r : KeyReq)
  /-- KEY_SCRUB (R422). Every INTERVAL hours the key store reverifies every slot and the life-cycle record, repairing or marking BAD. -/
  | keyScrub (lost : List (Fin 256 × Bool)) (lcLost : List Bool) (cache : Bool)
  /-- TANGENT_BAND_ENTRY (R453). A tangent contact enters the attach band and the port holds its presentation and debounces. -/
  | tangentBandEntry (p : Fin 18) (t2 : Bool)
  /-- TANGENT_BAND_EXIT (R453). The band is left during ATTACH_WAIT and the port returns to UNATTACHED. -/
  | tangentBandExit (p : Fin 18)
  /-- DRP_TOGGLE (R452). A dual-role port's presentation period ends and it switches between Ip and Rd. -/
  | drpToggle (p : Fin 18)
  /-- ATTACH_DEBOUNCE (R454). The band has held for 10 ms; orientation and cable class are recorded and the port attaches as source or sink. -/
  | attachDebounce (p : Fin 18) (ohms : Nat)
  /-- DETACH (R456). The line stays outside the attach band for 1 ms, both rails go off and the port enters GUARD. -/
  | detach (p : Fin 18)
  /-- GUARD_EXPIRY (R453). GUARD ends 100 ms after entry and the port returns to UNATTACHED. -/
  | guardExpiry (p : Fin 18)
  /-- TAN_MSG_SEND (R461). A tangent message is sent once the line has been idle for the sender's period, with collision detection. -/
  | tanMsgSend (p : Fin 18) (collide : Bool)
  /-- TAN_ACK_RX (R460). A tangent ACK arrives and completes the outstanding message. -/
  | tanAckRx (p : Fin 18) (id : Fin 8)
  /-- HELLO_SEND (R465). The main source sends HELLO 20–25 ms after the auxiliary rail is good, and repeats it 100 ms apart. -/
  | helloSend (p : Fin 18)
  /-- HELLO_RX (R465). A HELLO arrives and the common version is settled or AUX_ONLY entered. -/
  | helloRx (p : Fin 18) (msg : List Word) (bad : Bool)
  /-- OFFER_RX (R466). An OFFER arrives and the sink answers with REQUEST. -/
  | offerRx (p : Fin 18) (msg : List Word) (bad : Bool)
  /-- REQUEST_RX (R468). A REQUEST arrives and is answered ACCEPT or REJECT under budget and FEED_WARN. -/
  | requestRx (p : Fin 18) (msg : List Word) (bad : Bool)
  /-- ACCEPT_RX (R469). A tangent ACCEPT arrives and the main rail ramps, discharges or changes its limits. -/
  | acceptRx (p : Fin 18) (msg : List Word) (bad : Bool)
  /-- TAN_REJECT_RX (R464). A tangent REJECT arrives and negotiation continues or ends. -/
  | tanRejectRx (p : Fin 18) (msg : List Word) (bad : Bool)
  /-- READY_RX (R470). READY arrives and the contract comes into force. -/
  | readyRx (p : Fin 18) (msg : List Word) (bad : Bool)
  /-- PR_SWAP_RX (R473). A PR_SWAP arrives and is accepted or rejected. -/
  | prSwapRx (p : Fin 18) (msg : List Word) (bad : Bool)
  /-- GET_OFFER_RX (R467). A GET_OFFER arrives and the source sends a fresh OFFER. -/
  | getOfferRx (p : Fin 18) (msg : List Word) (bad : Bool)
  /-- HARD_RESET_RX (R475). HARD_RESET is received: negotiation is abandoned, the main switch goes off and the contract is void. -/
  | hardResetRx (p : Fin 18)
  /-- TAN_RESEND_TIMEOUT (R460). No ACK 600 µs after a message, so it is resent, or after the third transmission HARD_RESET is sent. -/
  | tanResendTimeout (p : Fin 18)
  /-- TAN_REPLY_TIMEOUT (R463). No reply 10 ms after the ACK and the sender sends HARD_RESET. -/
  | tanReplyTimeout (p : Fin 18)
  /-- MAIN_RAMP_DONE (R470). The main rail has settled within 1 V of the bus and the source sends READY MAIN_ON = 1. -/
  | mainRampDone (p : Fin 18) (v : BitVec 10)
  /-- MAIN_OFF_DONE (R470). The main rail has discharged below 5 V and the source sends READY MAIN_ON = 0. -/
  | mainOffDone (p : Fin 18) (v : BitVec 10)
  /-- READY_TIMEOUT (R470). No READY 40 ms after the ACCEPT's ACK, so the main sink sends HARD_RESET. -/
  | readyTimeout (p : Fin 18)
  /-- SWAP_TIMEOUT (R474). A swap step misses its bound and HARD_RESET is sent. -/
  | swapTimeout (p : Fin 18)
  /-- HARD_RESET_EXPIRY (R464). 100 ms after entry to HARD_RESET the contract machine returns to HELLO. -/
  | hardResetExpiry (p : Fin 18)
  /-- TRANSITION_LOSS (R472). Line or current collapse during a rail phase switches both rails off and enters GUARD. -/
  | transitionLoss (p : Fin 18)
  /-- RAIL_FAULT (R471). A rail limit is held past its fault time, both rails go off and the port enters FAULT_WAIT or LATCHED. -/
  | railFault (p : Fin 18) (main : Bool)
  /-- PORT_FAST_TRIP (R471). Current above the fast-trip level switches the rail off within 2 µs as a fault. -/
  | portFastTrip (p : Fin 18) (main : Bool) (i : Nat)
  /-- CONTACT_SHORT (R479). A shorted tangent contact lasting 1 ms is a fault. -/
  | contactShort (p : Fin 18)
  /-- FAULT_RETRY_EXPIRY (R479). The retry timer ends and the port passes through UNATTACHED to a fresh attach. -/
  | faultRetryExpiry (p : Fin 18)
  /-- TAN_HARD_RESET_CMD (R475). A write of TAN_PORT_CTL.HARD_RESET sends HARD_RESET on an attached port. -/
  | tanHardResetCmd (p : Fin 18)
  /-- CLEAR_FAULT (R480). A write of TAN_PORT_CTL.CLEAR_FAULT takes the port out of LATCHED. -/
  | clearFault (p : Fin 18)
  /-- REOFFER (R467). A write of TAN_PORT_CTL.REOFFER sends a fresh OFFER. -/
  | reoffer (p : Fin 18)
  /-- TAN_PORT_ENABLE (R453). A write of TAN_PORT_CTL.ENABLE or ROLE sends the port to DISABLED or back to UNATTACHED. -/
  | tanPortEnable (p : Fin 18) (en : Bool) (role : BitVec 2)
  /-- FEED_QUALIFY (R490). VIN has lain within [UV, OV] for 10 ms and the feed enters START. -/
  | feedQualify (x : Fin 2) (m : FeedMeas)
  /-- FEED_VIN_LOSS (R490). VIN below 5.0 V for 10 ms returns the feed to ABSENT, toggling a latch. -/
  | feedVinLoss (x : Fin 2) (m : FeedMeas)
  /-- FEED_ON (R490). FBUS is within 1 V of VIN with Q2 fully on and the feed enters ON. -/
  | feedOn (x : Fin 2) (m : FeedMeas)
  /-- FEED_START_TIMEOUT (R494). The feed has not reached ON after T_START and enters LATCHED. -/
  | feedStartTimeout (x : Fin 2) (m : FeedMeas)
  /-- FEED_CB_TRIP (R495). The breaker fault timer reaches FT and the feed latches. -/
  | feedCbTrip (x : Fin 2) (m : FeedMeas)
  /-- FEED_FAST_TRIP (R495). Sense voltage at FAST pulls Q2 off within 1 µs and the feed latches. -/
  | feedFastTrip (x : Fin 2) (m : FeedMeas)
  /-- FEED_OV (R497). VIN above OV for 2 ambient cycles turns Q2 off and the feed enters OV_OFF. -/
  | feedOv (x : Fin 2) (m : FeedMeas)
  /-- FEED_OV_RECOVER (R490). VIN at or below OV − 1 V for 10 ms returns the feed to START. -/
  | feedOvRecover (x : Fin 2) (m : FeedMeas)
  /-- FEED_REVERSE (R491). FBUS exceeds VIN by 30 mV and Q1's gate is pulled off within 300 ns. -/
  | feedReverse (x : Fin 2) (m : FeedMeas)
  /-- FEED_REVERSE_CLEAR (R491). VIN has exceeded FBUS by 50 mV for 20 µs and Q1 turns on again. -/
  | feedReverseClear (x : Fin 2) (m : FeedMeas)
  /-- PG_UP (R498). Power-good conditions have held for 1 ms and PG sets. -/
  | pgUp (x : Fin 2) (m : FeedMeas)
  /-- PG_DOWN (R498). VIN below UV for 5 cycles or leaving ON clears PG. -/
  | pgDown (x : Fin 2) (m : FeedMeas)
  /-- FEED_WARN_ASSERT (R501). FEED_WARN asserts and the hub cuts offers, defers key updates, sends FEED_WARN and starts a log commit. -/
  | feedWarnAssert (fbus : BitVec 10)
  /-- FEED_WARN_DEASSERT (R499). Supply has held at WARN + 1 V for 10 ms and FEED_WARN deasserts. -/
  | feedWarnDeassert (fbus : BitVec 10)
  /-- FEED_WARN_REPEAT (R500). While FEED_WARN stays asserted the originating hub repeats the message every 10 ms. -/
  | feedWarnRepeat
  /-- FEED_ENABLE (R496). A write of FEED_CTL.EN_x disables a feed or, after 1 ms at 0, toggles a latched feed to ABSENT. -/
  | feedEnable (x : Fin 2) (en : Bool)
  /-- FEED_THR_WRITE (R506). A write of FEED_THR takes effect or, with inconsistent values, is refused with THR_REJECT. -/
  | feedThrWrite (v : Reg)
  /-- FEED_BUS_MIN_READ (R506). A read of FEED_BUS returns the lowest FBUS since the last read and clears it. -/
  | feedBusMinRead
  /-- SLEEP_REQUEST (R510). A write of PWR_SLEEP.REQ asks every unit to grant a sleep state and runs the entry sequence. -/
  | sleepRequest (req : BitVec 2)
  /-- SLEEP_DRAIN_TIMEOUT (R510). A port still holds flits at 120 µs, aborts the entry and the hub returns to S0. -/
  | sleepDrainTimeout
  /-- WAKE_SOURCE (R516). An enabled wake source is resolved, WAKE_SRC recorded, and the hub wakes from S1, S2 or S3. -/
  | wakeSource (srcs : List (Fin 10 × Fin 18))
  /-- WAKE_TIMER (R514). PWR_TIMER expires after sleep entry and acts as a wake source. -/
  | wakeTimer
  /-- PERF_WRITE (R522). A write of PWR_PERF requests a level or clock source change. -/
  | perfWrite (v : Reg)
  /-- PERF_LEVEL_SWITCH (R522). After the voltage has settled the core clock switches level without stopped cycles, raising LEVEL_CHANGE. -/
  | perfLevelSwitch
  /-- PLL_LOCK (R522). The core PLL locks and a held selection switches the clock to the PLL. -/
  | pllLock
  /-- PLL_LOSS (R529). The PLL loses lock and the clock falls back to the oscillator at P3. -/
  | pllLoss
  /-- GOVERNOR_PERIOD (R523). At each governor period end P, U and T are read, the level set and E published. -/
  | governorPeriod (p : BitVec 16) (t : BitVec 8)
  /-- THERM_CRIT (R527). Die temperature reaches CRIT and the level goes to P3 at once. -/
  | thermCrit (t : BitVec 8)
  /-- THERMAL_SHUTDOWN (R527). The power-die sensor reaches 120 °C and removes the core-die rails within 100 µs. -/
  | thermalShutdown
  /-- PWR_THERM_WRITE (R527). A write of PWR_THERM takes effect or is refused with THERM_REJECT. -/
  | pwrThermWrite (v : Reg)
  /-- POWER_ON_RESET (R536). The power-die power-on reset is released and the power die starts, latching straps and drawing RCNT. -/
  | powerOnReset (straps : BitVec 6)
  /-- CORE_RAIL_START (R536). Once a feed sets PG or a dead-battery contract holds, the core rails are started. -/
  | coreRailStart
  /-- RESET_N_ASSERT (R531). RESET_N held low for 1 µs asserts a full reset. -/
  | resetNAssert
  /-- PERST_ASSERT (R531). PERST# asserted with HOST_EN = 1 asserts a full reset. -/
  | perstAssert
  /-- RST_CMD (R547). RST_CMD with KEY 0x5A and RESET = 1 asserts a full reset. -/
  | rstCmd (v : Reg)
  /-- SEQUENCER_WATCHDOG (R535). The sequencer watchdog is not fed for 10 ms and asserts a full reset. -/
  | sequencerWatchdog
  /-- CORE_VOLTAGE_MONITOR (R599). A core rail below 90 % or CORE_PG low for 2 µs asserts a full reset. -/
  | coreVoltageMonitor (mild : Bool)
  /-- CLOCK_MONITOR (R531). A missing or off-rate ambient reference asserts a full reset. -/
  | clockMonitor (glitch : Bool)
  /-- FULL_RESET_RELEASE (R533). With the cause ended, rails good and 64 ms spacing passed, the full reset is released and the core die starts. -/
  | fullResetRelease
  /-- CFG_TUNNEL_OPEN (R543). Deferred TUNNEL records are opened in order once every port they cross is ACTIVE. -/
  | cfgTunnelOpen
  /-- RESTORE_LATE_TIMER (R538). 15 ms after release some TUNNEL record has not reached OPEN and RESTORE_LATE is raised. -/
  | restoreLateTimer
  /-- HOST_WATCHDOG (R535). HOST_PERIOD passes without a feed, WDOG_HOST is raised and the watchdog rearms. -/
  | hostWatchdog
  /-- WATCHDOG_FEED (R535). A write of RST_WDOG.FEED restarts the host watchdog. -/
  | watchdogFeed (v : Reg)
  /-- CFG_BEGIN (R546). A write of CFG_CTL.BEGIN selects the target copy and starts an image write, or is refused. -/
  | cfgBegin
  /-- CFG_WDATA (R546). A write of CFG_WDATA stores a record word at WADDR + 16 and increments WADDR. -/
  | cfgWdata (v : Reg)
  /-- CFG_COMMIT (R546). A write of CFG_CTL.COMMIT computes digest and tag, writes the header and commits the copy. -/
  | cfgCommit (ok : Bool)
  /-- EV_FORCE (R552). A write of EV_FORCE sets EV_STAT bits as a forced event of the page. -/
  | evForce (page : BitVec 10) (v : Reg)
  /-- EV_EN_WRITE (R554). A write of EV_EN enabling a set bit raises its source in that cycle. -/
  | evEnWrite (page : BitVec 10) (v : Reg)
  /-- EVT_ARM_WRITE (R556). A write of EVT_ARM0 or EVT_ARM1 rearms vectors, sending at once where the level is 1. -/
  | evtArmWrite (hi : Bool) (v : Reg)
  /-- MSIX_UNMASK (R556). Clearing a vector's Mask bit sends the pending message if its level is still 1. -/
  | msixUnmask (func : Fin 3) (vec : Fin 64)
  /-- ERR_CAPT_CLEAR (R553). Writing 1 to ERR_CAPT_HI.FULL clears the capture hold at once. -/
  | errCaptClear (page : BitVec 10)
  /-- EVT_LOG_POP (R559). A read of EVT_LOG_SEQ_LO copies the oldest log entry out and removes it. -/
  | evtLogPop
  /-- MAINT_FRAME (R587). A maintenance-port SPI frame performs a register read or write, or is discarded with MAINT_DENY. -/
  | maintFrame (bytes : List (BitVec 8)) (extra : Fin 8) (opens : Bool)
  /-- ROLE_SET_WRITE (R564). A write of CHIP_CTL.ROLE_SET sets the role taken at step 4, ignored while any port is enabled. -/
  | roleSetWrite (v : BitVec 2)
  /-- LOG_MINUTE (R568). Each minute the lifetime counters of time, level, state and temperature are incremented. -/
  | logMinute (t : Int)
  /-- LOG_INTERVAL_COMMIT (R570). Every INTERVAL minutes a commit of the working copy starts. -/
  | logIntervalCommit
  /-- COMMIT (R571). LOG_CMD COMMIT starts a commit, or completes with DEFERRED within 1 s of the last. -/
  | commit
  /-- LOG_COMMIT_DONE (R570). A commit completes or fails verification, and a due commit starts next. -/
  | logCommitDone (ok : Bool)
  /-- RING_CLEAR (R573). LOG_CMD RING_CLEAR from the maintenance port in SERVICE with KEY 0xC3 empties the ring. -/
  | ringClear (maint : Bool) (key : BitVec 8)
  /-- MBIST_SPILL (R576). DIAG_CMD MBIST_SPILL runs a march test of the spill pool. -/
  | mbistSpill
  /-- MRAM_SCAN (R576). DIAG_CMD MRAM_SCAN reads every MRAM word and counts corrections. -/
  | mramScan
  /-- DIAG_TEST_DONE (R576). A self-test completes and raises DONE, and FAIL if errors were found. -/
  | diagTestDone (errors : BitVec 19) (addr : BitVec 16) (uncorr : BitVec 4)
  /-- PAT_CHECK (R575). A write of DIAG_PAT_CTL.CHECK starts or stops pattern checking on the selected port. -/
  | patCheck (v : Bool)
  /-- PAT_CLEAR (R578). A write of DIAG_PAT_CTL.CLEAR zeroes the port's pattern counts. -/
  | patClear
  /-- PAT_SYNC_LOSS (R575). A lane counts 1000 errors within 1 µs, loses sync and raises PAT_ERR. -/
  | patSyncLoss (p : Fin 18) (laneB : Bool)
  /-- MRAM_REFRESH (R610). The sequencer rewrites committed MRAM words with their own values, completing a pass every 8760 hours. -/
  | mramRefresh (corr : Bool) (uncorr : Bool)
  /-- SFP_SIDEBAND_CHANGE (R337). A change of MOD_ABS, TX_FAULT or RX_LOS, seen by the 1 µs sampling, updates FRM_SP_STAT and TX_DISABLE and raises MODULE or TX_FAULT. -/
  | sfpSidebandChange (x : Fin 2) (v : BitVec 3)
  /-- SOF_LOST (R416). No SOF arrives for 3 microframes while the upstream port is not suspended, so SOF_LOST is raised and counted. -/
  | sofLost
  /-- EMULATED_PORT_TIMING (R401). The emulated 10 ms reset or bPwrOn2PwrGood delay of a virtual hub port that leads to another virtual hub ends, and the port moves on with its change bit set. -/
  | emulatedPortTiming (hub : Fin 17) (port : Fin 16)
  /-- POWER_LOSS (R421). Every supply of the power die is lost, possibly in the middle of an MRAM write, a configuration commit or a log commit. -/
  | powerLoss
  /-- VMON_IO (R566). An I/O rail lies outside ±10 % of nominal for 1 µs and VMON_IO is raised. -/
  | vmonIo
  /-- FEED_CB_LIMIT (R495). The feed sense voltage rises to CB, starting the fault timer and current limiting and withholding power-good, or falls below it, stopping and clearing the timer. -/
  | feedCbLimit (x : Fin 2) (m : FeedMeas)
  deriving DecidableEq, Repr

end Sys2Proof
end

