-- ==== Sys2Proof/Decode.lean ====
section
/-!
DEFINITION. The command that a word of the opcode table's bits spells.  The table gives no row any bits: the commands of this block are
bus accesses, words on lanes, messages and happenings, so no word spells one.
-/
namespace Sys2Proof

/-- The command that `nbits` bits spell by the opcode table: none, for every word. -/
def decodeTableWord (_nbits _w : Nat) : Option Instr := none

end Sys2Proof
end

