-- ==== Sys2Proof/Config.lean ====
section
/-!
DEFINITION. What one part or one board fixes, and the free values: constants without a body, so that no statement rests on a
value of theirs.
-/
namespace Sys2Proof.Config

/-- A free value for each draw (assumption log 5, DESIGN CHOICE): random draws, and values the spec leaves open. -/
opaque freeDraw : Nat → BitVec 256

/-- AES-256-GCM with empty plaintext (R85, R441): key, nonce, additional data in bytes; the 128-bit tag (assumption log 6, DESIGN CHOICE). -/
opaque gcmTag : BitVec 256 → BitVec 96 → List Nat → BitVec 128

/-- AES-256-GCM encryption of content bytes (R441): key, nonce, additional data, plaintext (assumption log 6, DESIGN CHOICE). -/
opaque gcmCrypt : BitVec 256 → BitVec 96 → List Nat → List Nat

/-- HMAC-SHA-256 of a byte string under a key (assumption log 6, DESIGN CHOICE). -/
opaque hmac : BitVec 256 → List Nat → BitVec 256

/-- SHA-256 of a byte string (assumption log 6, DESIGN CHOICE). -/
opaque sha256 : List Nat → BitVec 256

/-- AES-256 key wrap of 40 bytes under a KEK, and its inverse (R436; assumption log 6, DESIGN CHOICE). -/
opaque keyWrap : BitVec 256 → List Nat → List Nat
opaque keyUnwrap : BitVec 256 → List Nat → Option (List Nat)

/-- ECDSA over P-256: public key of a private key, signature of a digest (R438; assumption log 6, DESIGN CHOICE). -/
opaque ecdsaPublic : BitVec 256 → List Nat
opaque ecdsaSign : BitVec 256 → BitVec 256 → List Nat

/-- ECDSA over P-256: a public key, a digest, a signature (R429; assumption log 6, DESIGN CHOICE). -/
opaque ecdsaVerify : List Nat → BitVec 256 → List Nat → Bool

/-- The device secret of the part (assumption log 6, DESIGN CHOICE). -/
opaque deviceSecret : BitVec 256

/-- CHIP_SERIAL and the board's straps (R564; assumption log 7, DESIGN CHOICE). -/
opaque serial : Fin 4 → BitVec 32

/-- R158, R295: which of Q8–Q11 a management, hub control or time tunnel uses: not stated (assumption log 8, DESIGN CHOICE). -/
opaque mgmtQueue : Fin 4

/-- R157, R163: the entry that the root installs in a leaf describes the leaf's hop, whose ports the spec gives the root no
source for: words 0 and 1 of the entry for a tunnel and a hub (assumption log 9, DESIGN CHOICE). -/
opaque leafHop : Nat → Nat → BitVec 64

/-- R166: which docks of a leaf are endpoints of a tunnel (assumption log 9, DESIGN CHOICE). -/
opaque leafDocks : Nat → Nat → BitVec 64

/-- R266: how many destinations of an express tunnel (event pins, frame bridge) a leaf hub adds (assumption log 9, DESIGN CHOICE). -/
opaque leafSinks : Nat → Nat → Fin 3

/-- The octets of the standards' encoding of a sampled-value or GOOSE publication behind the EtherType (assumption log 14, DESIGN CHOICE). -/
opaque svBytes : SvFrame → List Nat
opaque gooseBytes : GooseFrame → List Nat

/-- The octets of a PTP message behind its EtherType, in a domain, with C37.238-2017 or not (R203; assumption log 20, DESIGN CHOICE). -/
opaque ptpBytes : PtpMsg → Nat → Bool → List Nat

/-- The first content word of a snapshot message: kind (0 record, 1 request, 2 RELEASE), node, LATE (R221; assumption log 24, DESIGN CHOICE). -/
opaque snapHead : Fin 3 → Nat → Bool → Word

/-- The octets of a supervision frame behind its EtherType (R338): source announced, HSR or PRP (assumption log 14, DESIGN CHOICE). -/
opaque supervision : Mac → Bool → List Nat

/-- The AES-GMAC value of a frame under a key (R341), and the key identifier of a slot (assumption log 6, DESIGN CHOICE). -/
opaque frameMac : BitVec 256 → Frame → BitVec 128

/-- The bucket of the dynamic MAC table that a VID and a MAC select (R333; assumption log 15, DESIGN CHOICE). -/
opaque macBucket : Nat → Mac → Fin 2048

/-- The bytes of the receiver capabilities and of the link status that R409 does not state, by DPCD address. -/
opaque dpcdByte : Nat → BitVec 8

/-- The source MAC of the frames that the hub itself publishes: not stated (assumption log 15, DESIGN CHOICE). -/
opaque hubMac : Mac

end Sys2Proof.Config
end

