-- ==== Sys2Proof/Machine/Data.lean ====
section
/-!
DEFINITION. The data shapes the state is built from: a sorted map with a default value, bit-field helpers and the description
of a register field.
-/
namespace Sys2Proof.Machine

/-- Access types of register fields (R9). -/
inductive Access where
  | rw | ro | w1c | w1s | rc | wo | rwl
  deriving DecidableEq, Repr

/-- One register field: page, byte offset, selector bank, least bit, width, reset value, access type; `own` says that a
write of the field has a command of its own. -/
structure Field where
  page : Nat
  off : Nat
  bank : Nat
  lsb : Nat
  width : Nat
  reset : Nat
  acc : Access
  own : Bool
  deriving DecidableEq, Repr

/-- The key of a field in the register file. -/
def Field.key (f : Field) : Nat := ((f.page * 4096 + f.off) * 1024 + f.bank) * 32 + f.lsb

/-- A map from numbers to `α` in canonical form: keys strictly rising, no entry equal to the default `d`. -/
structure Map {α : Type} (d : α) where
  entries : List (Nat × α)
  deriving DecidableEq, Repr

/-- The map in which every key holds the default. -/
def Map.empty {α : Type} {d : α} : Map d := ⟨[]⟩

/-- The value listed for a key, or the default. -/
def Map.look {α : Type} (d : α) (k : Nat) : List (Nat × α) → α
  | [] => d
  | (j, a) :: l => if j = k then a else Map.look d k l

/-- Read a key. -/
def Map.get {α : Type} {d : α} (m : Map d) (k : Nat) : α := Map.look d k m.entries

/-- Remove the entry of a key. -/
def Map.del {α : Type} (k : Nat) (l : List (Nat × α)) : List (Nat × α) := l.filter (fun e => e.1 != k)

/-- Put an entry at its place. -/
def Map.ins {α : Type} (k : Nat) (a : α) : List (Nat × α) → List (Nat × α)
  | [] => [(k, a)]
  | (j, b) :: l => if k < j then (k, a) :: (j, b) :: l else if k = j then (k, a) :: l else (j, b) :: Map.ins k a l

/-- Write a key; writing the default removes the entry. -/
def Map.set {α : Type} {d : α} [DecidableEq α] (m : Map d) (k : Nat) (a : α) : Map d :=
  ⟨if a = d then Map.del k m.entries else Map.ins k a m.entries⟩

/-- Change the value of a key. -/
def Map.upd {α : Type} {d : α} [DecidableEq α] (m : Map d) (k : Nat) (f : α → α) : Map d := m.set k (f (m.get k))

/-- Keep the entries whose key passes. -/
def Map.keep {α : Type} {d : α} (m : Map d) (p : Nat → Bool) : Map d := ⟨m.entries.filter (fun e => p e.1)⟩

/-- The keys that hold another value than the default. -/
def Map.keys {α : Type} {d : α} (m : Map d) : List Nat := m.entries.map (·.1)

/-- Change every value that is not the default, dropping what becomes the default. -/
def Map.mapVals {α : Type} {d : α} [DecidableEq α] (m : Map d) (f : Nat → α → α) : Map d :=
  ⟨(m.entries.map (fun e => (e.1, f e.1 e.2))).filter (fun e => e.2 ≠ d)⟩

/-- Keys strictly rising. -/
def Map.rising {α : Type} : List (Nat × α) → Bool
  | [] => true
  | [_] => true
  | (j, _) :: (k, b) :: l => j < k && Map.rising ((k, b) :: l)

/-- The canonical form. -/
def Map.wf {α : Type} {d : α} [DecidableEq α] (m : Map d) : Bool :=
  Map.rising m.entries && m.entries.all (fun e => e.2 ≠ d)

/-- Bits `lo` to `lo + n - 1` of a number. -/
def bitsOf (v lo n : Nat) : Nat := v / 2 ^ lo % 2 ^ n

/-- One bit of a number. -/
def bitOf (v i : Nat) : Bool := v / 2 ^ i % 2 = 1

/-- 1 for true. -/
def b2n (b : Bool) : Nat := if b then 1 else 0

/-- Set bits `lo` to `lo + n - 1` of a number. -/
def putBits (v lo n x : Nat) : Nat := v - bitsOf v lo n * 2 ^ lo + x % 2 ^ n * 2 ^ lo

/-- A field of a bit vector as a number. -/
def fld {k : Nat} (w : BitVec k) (lo n : Nat) : Nat := bitsOf w.toNat lo n

/-- A number assembled from (lsb, width, value) triples. -/
def packNat : List (Nat × Nat × Nat) → Nat
  | [] => 0
  | (lo, n, x) :: l => x % 2 ^ n * 2 ^ lo + packNat l

/-- A 40-bit word assembled from (lsb, width, value) triples. -/
def pack (l : List (Nat × Nat × Nat)) : Word := BitVec.ofNat 40 (packNat l)

/-- A count that saturates at its `n`-bit maximum. -/
def satAdd (n v d : Nat) : Nat := min (v + d) (2 ^ n - 1)

/-- Two's complement of an `n`-bit number read as an integer. -/
def signed (n v : Nat) : Int := if v % 2 ^ n < 2 ^ (n - 1) then (v % 2 ^ n : Nat) else ((v % 2 ^ n : Nat) : Int) - (2 ^ n : Nat)

/-- An integer as an `n`-bit two's complement number. -/
def unsignedOf (n : Nat) (v : Int) : Nat := (v % ((2 ^ n : Nat) : Int)).toNat

/-- An integer clamped to the range of `n`-bit two's complement. -/
def clampS (n : Nat) (v : Int) : Int := max (-((2 ^ (n - 1) : Nat) : Int)) (min v (((2 ^ (n - 1) : Nat) : Int) - 1))

end Sys2Proof.Machine
end

