-- ==== Sys2Proof/Machine/Flags.lean ====
section
/-!
DEFINITION. Check fields and sequence arithmetic: parity (R40), the CRC-32 of a flit (R84), the PRBS31 generator (R41),
distances modulo a power of two, and bytes of words.
-/
namespace Sys2Proof.Machine

/-- R40: the parity nibble is the XOR of the ten payload nibbles. -/
def parity (w : Word) : Nat :=
  (List.range 10).foldl (fun a i => a ^^^ bitsOf w.toNat (4 * i) 4) 0

/-- R39: the code group of a sync header and a word, before scrambling. -/
def codeGroup (hdr : Nat) (w : Word) : BitVec 46 :=
  BitVec.ofNat 46 (packNat [(44, 2, hdr), (40, 4, parity w), (0, 40, w.toNat)])

/-- R41: one step of the generator; the output bit enters S[0]. -/
def lfsrStep (s : BitVec 31) : BitVec 31 :=
  BitVec.ofNat 31 (s.toNat * 2 + (if bitOf s.toNat 30 ≠ bitOf s.toNat 27 then 1 else 0))

/-- R41: the next `n` output bits, first bit most significant, and the register after them. -/
def lfsrBits : Nat → BitVec 31 → Nat → Nat × BitVec 31
  | 0, s, acc => (acc, s)
  | n + 1, s, acc => let s' := lfsrStep s; lfsrBits n s' (acc * 2 + s'.toNat % 2)

/-- R41: scramble or descramble the 44 parity and payload bits of a code group. -/
def scramble (s : BitVec 31) (body : Nat) : Nat × BitVec 31 :=
  let r := lfsrBits 44 s 0
  (body ^^^ r.1, r.2)

/-- R84: one bit of the CRC-32, generator 0x04C1_1DB7, not reflected. -/
def crcBit (c : Nat) (b : Bool) : Nat :=
  let top := bitOf c 31
  let c' := c * 2 % 2 ^ 32
  if top ≠ b then c' ^^^ 0x04C11DB7 else c'

/-- R84: a 40-bit word, bit 39 first. -/
def crcWord (c : Nat) (w : Word) : Nat :=
  (List.range 40).foldl (fun c i => crcBit c (bitOf w.toNat (39 - i))) c

/-- The header word with REPLAYED taken as 0 (R84, R85). -/
def clearReplayed (h : Word) : Word := h &&& ~~~(2#40)

/-- R84: the CRC-32 over header and payload words. -/
def flitCrc (words : List Word) : Nat := (words.foldl crcWord 0xFFFFFFFF) ^^^ 0xFFFFFFFF

/-- The five bytes of a word, most significant first (R85). -/
def wordBytes (w : Word) : List Nat := (List.range 5).map (fun i => bitsOf w.toNat (8 * (4 - i)) 8)

/-- R132: the GCM nonce. -/
def gcmNonce (epoch : Nat) (dir x : Bool) (seq : Nat) : BitVec 96 :=
  BitVec.ofNat 96 (packNat [(88, 8, epoch), (87, 1, b2n dir), (86, 1, b2n x), (0, 48, seq)])

/-- R85: the 40 most significant bits of the tag over words. -/
def tagWord (key : BitVec 256) (nonce : BitVec 96) (words : List Word) : Word :=
  (Config.gcmTag key nonce (words.flatMap wordBytes)).extractLsb' 88 40

/-- (a − b) mod 2^n. -/
def modSub (n a b : Nat) : Nat := (a + 2 ^ n - b % 2 ^ n) % 2 ^ n

/-- ceil(L/4) (R92). -/
def dataCredits (len : Nat) : Nat := (len + 3) / 4

/-- A list cut into pieces of `k`, the last holding the rest; `fuel` bounds the number of pieces. -/
def pieces {α : Type} (k : Nat) : Nat → List α → List (List α)
  | 0, _ => []
  | _, [] => []
  | fuel + 1, l => l.take k :: pieces k fuel (l.drop k)

/-- The bits of a mask that are set, of the first `n`. -/
def maskBits (n m : Nat) : List Nat := (List.range n).filter (bitOf m)

/-- The 32-bit words of a byte string, little-endian. -/
def bytesToNat : List Nat → Nat
  | [] => 0
  | b :: l => b % 256 + 256 * bytesToNat l

/-- `n` bytes of a number, least significant first. -/
def natBytes : Nat → Nat → List Nat
  | 0, _ => []
  | n + 1, v => v % 256 :: natBytes n (v / 256)

/-- `n` bytes of a number, most significant first. -/
def natBytesBE (n v : Nat) : List Nat := (natBytes n v).reverse

/-- The element of a list with the least key, the first on a tie. -/
def leastBy {α : Type} (key : α → Nat) : List α → Option α
  | [] => none
  | a :: l => match leastBy key l with
    | none => some a
    | some b => if key a ≤ key b then some a else some b

end Sys2Proof.Machine
end

