-- ==== Sys2Proof/Machine/Regs.lean ====
section
/-!
DEFINITION. The register fields of the page map (R549, R563): for each field its page, offset, bits, access type (R9)
and reset value, as the register tables of the spec give them.  `own` marks a field whose write has a command of its own.
-/
namespace Sys2Proof.Machine

/-! ### Page block `chip` -/

/-- CHIP_CTL [1:0], R564 (RWL). -/
def CHIP_CTL_ROLE_SET : Field :=
  ⟨0x000, 0x008, 0, 0, 2, 0, .rwl, true⟩
/-- CHIP_STAT [20:16], R564 (RO). -/
def CHIP_STAT_HUB : Field :=
  ⟨0x000, 0x00C, 0, 16, 5, 0, .ro, false⟩
/-- CHIP_STAT [1:0], R564 (RO). -/
def CHIP_STAT_ROLE : Field :=
  ⟨0x000, 0x00C, 0, 0, 2, 2, .ro, false⟩
/-- CHIP_ID [31:16], R564 (RO). -/
def CHIP_ID_DEVICE : Field :=
  ⟨0x000, 0x040, 0, 16, 16, 0x6418, .ro, false⟩
/-- CHIP_ID [15:0], R564 (RO). -/
def CHIP_ID_VENDOR : Field :=
  ⟨0x000, 0x040, 0, 0, 16, 0x1d6e, .ro, false⟩
/-- CHIP_REV [7:0], R564 (RO). -/
def CHIP_REV_STEPPING : Field :=
  ⟨0x000, 0x044, 0, 0, 8, 176, .ro, false⟩
/-- CHIP_SERIAL [31:0], R564 (RO). -/
def CHIP_SERIAL_SERIAL (i : Nat) : Field :=
  ⟨0x000, (0x048 + 4 * i), 0, 0, 32, 0, .ro, false⟩
/-- CHIP_USB_ID [31:16], R564 (RO). -/
def CHIP_USB_ID_PRODUCT : Field :=
  ⟨0x000, 0x058, 0, 16, 16, 0x6418, .ro, false⟩
/-- CHIP_USB_ID [15:0], R564 (RO). -/
def CHIP_USB_ID_VENDOR : Field :=
  ⟨0x000, 0x058, 0, 0, 16, 0x1d6e, .ro, false⟩
/-- CHIP_STRAP [15:0], R564 (RO). (Assumption log 7, DESIGN CHOICE.) -/
def CHIP_STRAP_STRAPS : Field :=
  ⟨0x000, 0x05C, 0, 0, 16, 0x000F, .ro, false⟩

/-! ### Page block `evt` -/

/-- EVT_CTL [0:0], R566 (RWL). -/
def EVT_CTL_LOG_ALL : Field :=
  ⟨0x001, 0x008, 0, 0, 1, 0, .rwl, false⟩
/-- EVT_STAT [24:16], R566 (RO). -/
def EVT_STAT_LOG_LEVEL : Field :=
  ⟨0x001, 0x00C, 0, 16, 9, 0, .ro, false⟩
/-- EVT_STAT [0:0], R566 (RO). -/
def EVT_STAT_MSIX_READY : Field :=
  ⟨0x001, 0x00C, 0, 0, 1, 0, .ro, false⟩
/-- EVT_LEVEL0 [31:0], R566 (RO). -/
def EVT_LEVEL0_LEVEL : Field :=
  ⟨0x001, 0x040, 0, 0, 32, 0, .ro, false⟩
/-- EVT_LEVEL1 [31:0], R566 (RO). -/
def EVT_LEVEL1_LEVEL : Field :=
  ⟨0x001, 0x044, 0, 0, 32, 0, .ro, false⟩
/-- EVT_ARM0 [31:0], R566 (W1S). -/
def EVT_ARM0_ARM : Field :=
  ⟨0x001, 0x048, 0, 0, 32, 0xffffffff, .w1s, true⟩
/-- EVT_ARM1 [31:0], R566 (W1S). -/
def EVT_ARM1_ARM : Field :=
  ⟨0x001, 0x04C, 0, 0, 32, 0xffffffff, .w1s, true⟩
/-- EVT_NEXT_LO [31:0], R566 (RO). -/
def EVT_NEXT_LO_NEXT : Field :=
  ⟨0x001, 0x050, 0, 0, 32, 0, .ro, false⟩
/-- EVT_NEXT_HI [7:0], R566 (RO). -/
def EVT_NEXT_HI_NEXT : Field :=
  ⟨0x001, 0x054, 0, 0, 8, 0, .ro, false⟩
/-- EVT_LOG_STAT [31:16], R566 (RO). -/
def EVT_LOG_STAT_OVF : Field :=
  ⟨0x001, 0x058, 0, 16, 16, 0, .ro, false⟩
/-- EVT_LOG_SEQ_LO [31:0], R566 (RO). -/
def EVT_LOG_SEQ_LO_SEQ : Field :=
  ⟨0x001, 0x060, 0, 0, 32, 0, .ro, false⟩
/-- EVT_LOG_SEQ_HI [7:0], R566 (RO). -/
def EVT_LOG_SEQ_HI_SEQ : Field :=
  ⟨0x001, 0x064, 0, 0, 8, 0, .ro, false⟩
/-- EVT_LOG_TIME_LO [31:0], R566 (RO). -/
def EVT_LOG_TIME_LO_TIME : Field :=
  ⟨0x001, 0x068, 0, 0, 32, 0, .ro, false⟩
/-- EVT_LOG_TIME_HI [7:0], R566 (RO). -/
def EVT_LOG_TIME_HI_TIME : Field :=
  ⟨0x001, 0x06C, 0, 0, 8, 0, .ro, false⟩
/-- EVT_LOG_BITS [31:0], R566 (RO). -/
def EVT_LOG_BITS_BITS : Field :=
  ⟨0x001, 0x070, 0, 0, 32, 0, .ro, false⟩
/-- EVT_LOG_INFO [31:31], R566 (RO). -/
def EVT_LOG_INFO_VALID : Field :=
  ⟨0x001, 0x074, 0, 31, 1, 0, .ro, false⟩
/-- EVT_LOG_INFO [30:30], R566 (RO). -/
def EVT_LOG_INFO_FORCED : Field :=
  ⟨0x001, 0x074, 0, 30, 1, 0, .ro, false⟩
/-- EVT_LOG_INFO [29:29], R566 (RO). -/
def EVT_LOG_INFO_POWER : Field :=
  ⟨0x001, 0x074, 0, 29, 1, 0, .ro, false⟩
/-- EVT_LOG_INFO [28:28], R566 (RO). -/
def EVT_LOG_INFO_NEW : Field :=
  ⟨0x001, 0x074, 0, 28, 1, 0, .ro, false⟩
/-- EVT_LOG_INFO [9:0], R566 (RO). -/
def EVT_LOG_INFO_PAGE : Field :=
  ⟨0x001, 0x074, 0, 0, 10, 0, .ro, false⟩

/-! ### Page block `rst` -/

/-- RST_STAT [7:4], R547 (RO). -/
def RST_STAT_RCNT : Field :=
  ⟨0x002, 0x00C, 0, 4, 4, 0, .ro, false⟩
/-- RST_STAT [1:1], R547 (RO). -/
def RST_STAT_RESTORING : Field :=
  ⟨0x002, 0x00C, 0, 1, 1, 1, .ro, false⟩
/-- RST_STAT [0:0], R547 (RO). -/
def RST_STAT_IMAGE : Field :=
  ⟨0x002, 0x00C, 0, 0, 1, 0, .ro, false⟩
/-- RST_CMD [15:8], R547 (WO). -/
def RST_CMD_KEY : Field :=
  ⟨0x002, 0x040, 0, 8, 8, 0, .wo, true⟩
/-- RST_CMD [0:0], R547 (WO). -/
def RST_CMD_RESET : Field :=
  ⟨0x002, 0x040, 0, 0, 1, 0, .wo, true⟩
/-- RST_CAUSE [31:28], R547 (RO). -/
def RST_CAUSE_PRIMARY : Field :=
  ⟨0x002, 0x044, 0, 28, 4, 1, .ro, false⟩
/-- RST_CAUSE [19:16], R547 (RO). -/
def RST_CAUSE_RCNT : Field :=
  ⟨0x002, 0x044, 0, 16, 4, 0, .ro, false⟩
/-- RST_CAUSE [9:0], R547 (RO). -/
def RST_CAUSE_SEEN : Field :=
  ⟨0x002, 0x044, 0, 0, 10, 1, .ro, false⟩
/-- RST_CAUSE_TIME_LO [31:0], R547 (RO). -/
def RST_CAUSE_TIME_LO_SHORT : Field :=
  ⟨0x002, 0x048, 0, 0, 32, 0, .ro, false⟩
/-- RST_CAUSE_TIME_HI [7:0], R547 (RO). -/
def RST_CAUSE_TIME_HI_SHORT : Field :=
  ⟨0x002, 0x04C, 0, 0, 8, 0, .ro, false⟩
/-- RST_WDOG [31:31], R547 (WO). -/
def RST_WDOG_FEED : Field :=
  ⟨0x002, 0x050, 0, 31, 1, 0, .wo, true⟩
/-- RST_WDOG [15:0], R547 (RWL). -/
def RST_WDOG_HOST_PERIOD : Field :=
  ⟨0x002, 0x050, 0, 0, 16, 0, .rwl, false⟩
/-- RST_TIMING [15:0], R547 (RO). -/
def RST_TIMING_RESTORE : Field :=
  ⟨0x002, 0x054, 0, 0, 16, 0, .ro, false⟩
/-- RST_COUNT [15:0], R547 (RO). -/
def RST_COUNT_COUNT (i : Nat) : Field :=
  ⟨0x002, (0x058 + 4 * i), 0, 0, 16, 0, .ro, false⟩

/-! ### Page block `cfg` -/

/-- CFG_CTL [1:1], R548 (WO). -/
def CFG_CTL_COMMIT : Field :=
  ⟨0x003, 0x008, 0, 1, 1, 0, .wo, true⟩
/-- CFG_CTL [0:0], R548 (WO). -/
def CFG_CTL_BEGIN : Field :=
  ⟨0x003, 0x008, 0, 0, 1, 0, .wo, true⟩
/-- CFG_STAT [31:31], R548 (RO). -/
def CFG_STAT_BUSY : Field :=
  ⟨0x003, 0x00C, 0, 31, 1, 0, .ro, false⟩
/-- CFG_STAT [30:28], R548 (RO). -/
def CFG_STAT_STATUS : Field :=
  ⟨0x003, 0x00C, 0, 28, 3, 0, .ro, false⟩
/-- CFG_STAT [17:16], R548 (RO). -/
def CFG_STAT_VALID : Field :=
  ⟨0x003, 0x00C, 0, 16, 2, 0, .ro, false⟩
/-- CFG_STAT [8:8], R548 (RO). -/
def CFG_STAT_APPLIED : Field :=
  ⟨0x003, 0x00C, 0, 8, 1, 0, .ro, false⟩
/-- CFG_HDR1 [31:24], R548 (RW). -/
def CFG_HDR1_FORMAT : Field :=
  ⟨0x003, 0x040, 0, 24, 8, 3, .rw, false⟩
/-- CFG_HDR1 [13:0], R548 (RW). -/
def CFG_HDR1_LEN : Field :=
  ⟨0x003, 0x040, 0, 0, 14, 0, .rw, false⟩
/-- CFG_HDR3 [31:6], R548 (RW). -/
def CFG_HDR3_TREE_TAG : Field :=
  ⟨0x003, 0x044, 0, 6, 26, 0, .rw, false⟩
/-- CFG_WADDR [13:0], R548 (RO). -/
def CFG_WADDR_ADDR : Field :=
  ⟨0x003, 0x048, 0, 0, 14, 0, .ro, false⟩
/-- CFG_WDATA [31:0], R548 (WO). -/
def CFG_WDATA_DATA : Field :=
  ⟨0x003, 0x04C, 0, 0, 32, 0, .wo, true⟩
/-- CFG_GEN [31:0], R548 (RO). -/
def CFG_GEN_GEN : Field :=
  ⟨0x003, 0x050, 0, 0, 32, 0, .ro, false⟩
/-- CFG_ERR [31:16], R548 (RO). -/
def CFG_ERR_FIRST : Field :=
  ⟨0x003, 0x054, 0, 16, 16, 0, .ro, false⟩
/-- CFG_ERR [15:0], R548 (RO). -/
def CFG_ERR_COUNT : Field :=
  ⟨0x003, 0x054, 0, 0, 16, 0, .ro, false⟩

/-! ### Page block `log` -/

/-- LOG_CTL [7:0], R577 (RWL). -/
def LOG_CTL_INTERVAL : Field :=
  ⟨0x004, 0x008, 0, 0, 8, 10, .rwl, false⟩
/-- LOG_STAT [31:31], R577 (RO). -/
def LOG_STAT_COMMITTING : Field :=
  ⟨0x004, 0x00C, 0, 31, 1, 0, .ro, false⟩
/-- LOG_STAT [16:16], R577 (RO). -/
def LOG_STAT_BANK : Field :=
  ⟨0x004, 0x00C, 0, 16, 1, 0, .ro, false⟩
/-- LOG_SEL [9:0], R577 (RW). -/
def LOG_SEL_INDEX : Field :=
  ⟨0x004, 0x040, 0, 0, 10, 0, .rw, false⟩
/-- LOG_DATA [31:0], R577 (RO). -/
def LOG_DATA_VALUE : Field :=
  ⟨0x004, 0x044, 0, 0, 32, 0, .ro, false⟩
/-- LOG_GEN [31:0], R577 (RO). -/
def LOG_GEN_GEN : Field :=
  ⟨0x004, 0x048, 0, 0, 32, 0, .ro, false⟩
/-- LOG_CMD [31:31], R577 (RO). -/
def LOG_CMD_BUSY : Field :=
  ⟨0x004, 0x04C, 0, 31, 1, 0, .ro, false⟩
/-- LOG_CMD [30:28], R577 (RO). -/
def LOG_CMD_STATUS : Field :=
  ⟨0x004, 0x04C, 0, 28, 3, 0, .ro, false⟩
/-- LOG_CMD [15:8], R577 (WO). -/
def LOG_CMD_KEY : Field :=
  ⟨0x004, 0x04C, 0, 8, 8, 0, .wo, true⟩
/-- LOG_CMD [3:0], R577 (WO). -/
def LOG_CMD_OP : Field :=
  ⟨0x004, 0x04C, 0, 0, 4, 0, .wo, true⟩
/-- LOG_RING_SEL [8:0], R577 (RW). -/
def LOG_RING_SEL_ENTRY : Field :=
  ⟨0x004, 0x050, 0, 0, 9, 0, .rw, false⟩
/-- LOG_RING [31:0], R577 (RO). -/
def LOG_RING_WORD (i : Nat) : Field :=
  ⟨0x004, (0x054 + 4 * i), 0, 0, 32, 0, .ro, false⟩
/-- LOG_RING_STAT [25:16], R577 (RO). -/
def LOG_RING_STAT_COUNT : Field :=
  ⟨0x004, 0x074, 0, 16, 10, 0, .ro, false⟩
/-- LOG_RING_STAT [15:0], R577 (RO). -/
def LOG_RING_STAT_WRAPS : Field :=
  ⟨0x004, 0x074, 0, 0, 16, 0, .ro, false⟩

/-! ### Page block `diag` -/

/-- DIAG_CMD [31:31], R578 (RO). -/
def DIAG_CMD_BUSY : Field :=
  ⟨0x005, 0x040, 0, 31, 1, 0, .ro, false⟩
/-- DIAG_CMD [30:28], R578 (RO). -/
def DIAG_CMD_STATUS : Field :=
  ⟨0x005, 0x040, 0, 28, 3, 0, .ro, false⟩
/-- DIAG_CMD [3:0], R578 (WO). -/
def DIAG_CMD_OP : Field :=
  ⟨0x005, 0x040, 0, 0, 4, 0, .wo, true⟩
/-- DIAG_RESULT [31:16], R578 (RO). -/
def DIAG_RESULT_ADDR : Field :=
  ⟨0x005, 0x044, 0, 16, 16, 0, .ro, false⟩
/-- DIAG_RESULT [15:0], R578 (RO). -/
def DIAG_RESULT_ERRORS : Field :=
  ⟨0x005, 0x044, 0, 0, 16, 0, .ro, false⟩
/-- DIAG_PSEL [4:0], R578 (RW). -/
def DIAG_PSEL_PORT : Field :=
  ⟨0x005, 0x048, 0, 0, 5, 0, .rw, false⟩
/-- DIAG_PAT_CTL [1:1], R578 (WO). -/
def DIAG_PAT_CTL_CLEAR (b : Nat) : Field :=
  ⟨0x005, 0x04C, b, 1, 1, 0, .wo, true⟩
/-- DIAG_PAT_CTL [0:0], R578 (RW). -/
def DIAG_PAT_CTL_CHECK (b : Nat) : Field :=
  ⟨0x005, 0x04C, b, 0, 1, 0, .rw, true⟩
/-- DIAG_PAT_STAT [1:1], R578 (RO). -/
def DIAG_PAT_STAT_SYNC_B (b : Nat) : Field :=
  ⟨0x005, 0x050, b, 1, 1, 0, .ro, false⟩
/-- DIAG_PAT_STAT [0:0], R578 (RO). -/
def DIAG_PAT_STAT_SYNC_A (b : Nat) : Field :=
  ⟨0x005, 0x050, b, 0, 1, 0, .ro, false⟩
/-- DIAG_PAT_ERR_A [31:0], R578 (RO). -/
def DIAG_PAT_ERR_A_ERRORS (b : Nat) : Field :=
  ⟨0x005, 0x054, b, 0, 32, 0, .ro, false⟩
/-- DIAG_PAT_ERR_B [31:0], R578 (RO). -/
def DIAG_PAT_ERR_B_ERRORS (b : Nat) : Field :=
  ⟨0x005, 0x058, b, 0, 32, 0, .ro, false⟩
/-- DIAG_PAT_GROUPS_LO [31:0], R578 (RO). -/
def DIAG_PAT_GROUPS_LO_GROUPS (b : Nat) : Field :=
  ⟨0x005, 0x05C, b, 0, 32, 0, .ro, false⟩
/-- DIAG_PAT_GROUPS_HI [7:0], R578 (RO). -/
def DIAG_PAT_GROUPS_HI_GROUPS (b : Nat) : Field :=
  ⟨0x005, 0x060, b, 0, 8, 0, .ro, false⟩

/-! ### Page block `pwr` -/

/-- PWR_STAT [31:24], R528 (RO). -/
def PWR_STAT_TEMP : Field :=
  ⟨0x008, 0x00C, 0, 24, 8, 0, .ro, false⟩
/-- PWR_STAT [9:9], R528 (RO). -/
def PWR_STAT_PLL_LOCK : Field :=
  ⟨0x008, 0x00C, 0, 9, 1, 0, .ro, false⟩
/-- PWR_STAT [8:8], R528 (RO). -/
def PWR_STAT_CLK_SRC : Field :=
  ⟨0x008, 0x00C, 0, 8, 1, 0, .ro, false⟩
/-- PWR_STAT [7:7], R528 (RO). -/
def PWR_STAT_ENTRY : Field :=
  ⟨0x008, 0x00C, 0, 7, 1, 0, .ro, false⟩
/-- PWR_STAT [5:4], R528 (RO). -/
def PWR_STAT_LEVEL : Field :=
  ⟨0x008, 0x00C, 0, 4, 2, 3, .ro, false⟩
/-- PWR_STAT [1:0], R528 (RO). -/
def PWR_STAT_STATE : Field :=
  ⟨0x008, 0x00C, 0, 0, 2, 0, .ro, false⟩
/-- PWR_SLEEP [1:0], R530 (WO). -/
def PWR_SLEEP_REQ : Field :=
  ⟨0x008, 0x040, 0, 0, 2, 0, .wo, true⟩
/-- PWR_PERF [5:4], R530 (RW). -/
def PWR_PERF_LEVEL : Field :=
  ⟨0x008, 0x044, 0, 4, 2, 3, .rw, true⟩
/-- PWR_PERF [1:1], R530 (RW). -/
def PWR_PERF_SRC : Field :=
  ⟨0x008, 0x044, 0, 1, 1, 0, .rw, true⟩
/-- PWR_PERF [0:0], R530 (RWL). -/
def PWR_PERF_AUTO : Field :=
  ⟨0x008, 0x044, 0, 0, 1, 1, .rwl, true⟩
/-- PWR_BUDGET [5:0], R530 (RWL). -/
def PWR_BUDGET_W : Field :=
  ⟨0x008, 0x048, 0, 0, 6, 34, .rwl, false⟩
/-- PWR_THERM [23:16], R530 (RWL). -/
def PWR_THERM_WARN : Field :=
  ⟨0x008, 0x04C, 0, 16, 8, 95, .rwl, true⟩
/-- PWR_THERM [15:8], R530 (RWL). -/
def PWR_THERM_HOT : Field :=
  ⟨0x008, 0x04C, 0, 8, 8, 100, .rwl, true⟩
/-- PWR_THERM [7:0], R530 (RWL). -/
def PWR_THERM_CRIT : Field :=
  ⟨0x008, 0x04C, 0, 0, 8, 108, .rwl, true⟩
/-- PWR_GOV [31:16], R530 (RWL). -/
def PWR_GOV_EPW : Field :=
  ⟨0x008, 0x050, 0, 16, 16, 400, .rwl, false⟩
/-- PWR_GOV [8:8], R530 (RWL). -/
def PWR_GOV_GOV_EN : Field :=
  ⟨0x008, 0x050, 0, 8, 1, 1, .rwl, false⟩
/-- PWR_GOV [3:0], R530 (RWL). -/
def PWR_GOV_PERIOD : Field :=
  ⟨0x008, 0x050, 0, 0, 4, 1, .rwl, false⟩
/-- PWR_MEAS [31:16], R530 (RO). -/
def PWR_MEAS_P : Field :=
  ⟨0x008, 0x054, 0, 16, 16, 0, .ro, false⟩
/-- PWR_MEAS [15:0], R530 (RO). -/
def PWR_MEAS_U : Field :=
  ⟨0x008, 0x054, 0, 0, 16, 0, .ro, false⟩
/-- PWR_LAST_REFUSER [16:16], R530 (RO). -/
def PWR_LAST_REFUSER_ABORTED : Field :=
  ⟨0x008, 0x058, 0, 16, 1, 0, .ro, false⟩
/-- PWR_LAST_REFUSER [9:8], R530 (RO). -/
def PWR_LAST_REFUSER_STATE : Field :=
  ⟨0x008, 0x058, 0, 8, 2, 0, .ro, false⟩
/-- PWR_LAST_REFUSER [5:0], R530 (RO). -/
def PWR_LAST_REFUSER_UNIT : Field :=
  ⟨0x008, 0x058, 0, 0, 6, 0, .ro, false⟩
/-- PWR_TIMER [23:0], R530 (RWL). -/
def PWR_TIMER_MS : Field :=
  ⟨0x008, 0x05C, 0, 0, 24, 0, .rwl, false⟩
/-- PWR_WAKE_EN [8:0], R530 (RWL). -/
def PWR_WAKE_EN_EN : Field :=
  ⟨0x008, 0x060, 0, 0, 9, 511, .rwl, false⟩
/-- PWR_COUNT [31:16], R530 (RO). -/
def PWR_COUNT_WAKES : Field :=
  ⟨0x008, 0x064, 0, 16, 16, 0, .ro, false⟩
/-- PWR_COUNT [15:8], R530 (RO). -/
def PWR_COUNT_ENTRIES : Field :=
  ⟨0x008, 0x064, 0, 8, 8, 0, .ro, false⟩
/-- PWR_COUNT [7:0], R530 (RO). -/
def PWR_COUNT_IGNORED : Field :=
  ⟨0x008, 0x064, 0, 0, 8, 0, .ro, false⟩
/-- PWR_REFUSE [31:16], R530 (RO). -/
def PWR_REFUSE_ODD (i : Nat) : Field :=
  ⟨0x008, (0x080 + 4 * i), 0, 16, 16, 0, .ro, false⟩
/-- PWR_REFUSE [15:0], R530 (RO). -/
def PWR_REFUSE_EVEN (i : Nat) : Field :=
  ⟨0x008, (0x080 + 4 * i), 0, 0, 16, 0, .ro, false⟩

/-! ### Page block `feed` -/

/-- FEED_CTL [8:8], R504 (RWL). -/
def FEED_CTL_SHED : Field :=
  ⟨0x00A, 0x008, 0, 8, 1, 0, .rwl, false⟩
/-- FEED_CTL [1:1], R504 (RWL). -/
def FEED_CTL_EN_B : Field :=
  ⟨0x00A, 0x008, 0, 1, 1, 1, .rwl, true⟩
/-- FEED_CTL [0:0], R504 (RWL). -/
def FEED_CTL_EN_A : Field :=
  ⟨0x00A, 0x008, 0, 0, 1, 1, .rwl, true⟩
/-- FEED_STAT [31:31], R504 (RO). -/
def FEED_STAT_WARN : Field :=
  ⟨0x00A, 0x00C, 0, 31, 1, 0, .ro, false⟩
/-- FEED_STAT [30:29], R504 (RO). -/
def FEED_STAT_CAUSE : Field :=
  ⟨0x00A, 0x00C, 0, 29, 2, 0, .ro, false⟩
/-- FEED_STAT [14:8], R504 (RO). -/
def FEED_STAT_FEED_B : Field :=
  ⟨0x00A, 0x00C, 0, 8, 7, 0, .ro, false⟩
/-- FEED_STAT [6:0], R504 (RO). -/
def FEED_STAT_FEED_A : Field :=
  ⟨0x00A, 0x00C, 0, 0, 7, 0, .ro, false⟩
/-- FEED_THR [29:20], R506 (RWL). -/
def FEED_THR_WARN : Field :=
  ⟨0x00A, 0x040, 0, 20, 10, 200, .rwl, true⟩
/-- FEED_THR [19:10], R506 (RWL). -/
def FEED_THR_OV : Field :=
  ⟨0x00A, 0x040, 0, 10, 10, 600, .rwl, true⟩
/-- FEED_THR [9:0], R506 (RWL). -/
def FEED_THR_UV : Field :=
  ⟨0x00A, 0x040, 0, 0, 10, 180, .rwl, true⟩
/-- FEED_CB [23:16], R506 (RWL). -/
def FEED_CB_FAST : Field :=
  ⟨0x00A, 0x044, 0, 16, 8, 60, .rwl, false⟩
/-- FEED_CB [15:8], R506 (RWL). -/
def FEED_CB_CB : Field :=
  ⟨0x00A, 0x044, 0, 8, 8, 50, .rwl, false⟩
/-- FEED_CB [7:0], R506 (RWL). -/
def FEED_CB_FT : Field :=
  ⟨0x00A, 0x044, 0, 0, 8, 10, .rwl, false⟩
/-- FEED_INRUSH [31:24], R506 (RWL). -/
def FEED_INRUSH_P_LIM : Field :=
  ⟨0x00A, 0x048, 0, 24, 8, 10, .rwl, false⟩
/-- FEED_INRUSH [23:16], R506 (RWL). -/
def FEED_INRUSH_I_INR : Field :=
  ⟨0x00A, 0x048, 0, 16, 8, 20, .rwl, false⟩
/-- FEED_INRUSH [15:0], R506 (RWL). -/
def FEED_INRUSH_T_START : Field :=
  ⟨0x00A, 0x048, 0, 0, 16, 200, .rwl, false⟩
/-- FEED_SENSE [31:16], R506 (RWL). -/
def FEED_SENSE_RS_B : Field :=
  ⟨0x00A, 0x04C, 0, 16, 16, 100, .rwl, false⟩
/-- FEED_SENSE [15:0], R506 (RWL). -/
def FEED_SENSE_RS_A : Field :=
  ⟨0x00A, 0x04C, 0, 0, 16, 100, .rwl, false⟩
/-- FEED_MEAS_A [31:22], R506 (RO). -/
def FEED_MEAS_A_VIN : Field :=
  ⟨0x00A, 0x050, 0, 22, 10, 0, .ro, false⟩
/-- FEED_MEAS_B [31:22], R506 (RO). -/
def FEED_MEAS_B_VIN : Field :=
  ⟨0x00A, 0x054, 0, 22, 10, 0, .ro, false⟩
/-- FEED_MEAS_A [11:0], R506 (RO). -/
def FEED_MEAS_A_I : Field :=
  ⟨0x00A, 0x050, 0, 0, 12, 0, .ro, false⟩
/-- FEED_MEAS_B [11:0], R506 (RO). -/
def FEED_MEAS_B_I : Field :=
  ⟨0x00A, 0x054, 0, 0, 12, 0, .ro, false⟩
/-- FEED_BUS [25:16], R506 (RC). -/
def FEED_BUS_MIN : Field :=
  ⟨0x00A, 0x058, 0, 16, 10, 0x3ff, .rc, false⟩
/-- FEED_BUS [9:0], R506 (RO). -/
def FEED_BUS_V : Field :=
  ⟨0x00A, 0x058, 0, 0, 10, 0, .ro, false⟩
/-- FEED_TRIPS_A [31:24], R506 (RO). -/
def FEED_TRIPS_A_CB : Field :=
  ⟨0x00A, 0x05C, 0, 24, 8, 0, .ro, false⟩
/-- FEED_TRIPS_B [31:24], R506 (RO). -/
def FEED_TRIPS_B_CB : Field :=
  ⟨0x00A, 0x060, 0, 24, 8, 0, .ro, false⟩
/-- FEED_TRIPS_A [23:16], R506 (RO). -/
def FEED_TRIPS_A_FAST : Field :=
  ⟨0x00A, 0x05C, 0, 16, 8, 0, .ro, false⟩
/-- FEED_TRIPS_B [23:16], R506 (RO). -/
def FEED_TRIPS_B_FAST : Field :=
  ⟨0x00A, 0x060, 0, 16, 8, 0, .ro, false⟩
/-- FEED_TRIPS_A [15:8], R506 (RO). -/
def FEED_TRIPS_A_START_FAIL : Field :=
  ⟨0x00A, 0x05C, 0, 8, 8, 0, .ro, false⟩
/-- FEED_TRIPS_B [15:8], R506 (RO). -/
def FEED_TRIPS_B_START_FAIL : Field :=
  ⟨0x00A, 0x060, 0, 8, 8, 0, .ro, false⟩
/-- FEED_TRIPS_A [7:0], R506 (RO). -/
def FEED_TRIPS_A_REVERSE : Field :=
  ⟨0x00A, 0x05C, 0, 0, 8, 0, .ro, false⟩
/-- FEED_TRIPS_B [7:0], R506 (RO). -/
def FEED_TRIPS_B_REVERSE : Field :=
  ⟨0x00A, 0x060, 0, 0, 8, 0, .ro, false⟩
/-- FEED_WARN_CNT [31:16], R506 (RO). -/
def FEED_WARN_CNT_ASSERTS : Field :=
  ⟨0x00A, 0x064, 0, 16, 16, 0, .ro, false⟩
/-- FEED_WARN_CNT [15:0], R506 (RO). -/
def FEED_WARN_CNT_RX : Field :=
  ⟨0x00A, 0x064, 0, 0, 16, 0, .ro, false⟩
/-- FEED_WARN_RX [8:8], R506 (RO). -/
def FEED_WARN_RX_ASSERT : Field :=
  ⟨0x00A, 0x068, 0, 8, 1, 0, .ro, false⟩
/-- FEED_WARN_RX [6:6], R506 (RO). -/
def FEED_WARN_RX_OH : Field :=
  ⟨0x00A, 0x068, 0, 6, 1, 0, .ro, false⟩
/-- FEED_WARN_RX [5:0], R506 (RO). -/
def FEED_WARN_RX_ORIGIN : Field :=
  ⟨0x00A, 0x068, 0, 0, 6, 0, .ro, false⟩
/-- FEED_OV_CNT [15:8], R506 (RO). -/
def FEED_OV_CNT_OV_B : Field :=
  ⟨0x00A, 0x06C, 0, 8, 8, 0, .ro, false⟩
/-- FEED_OV_CNT [7:0], R506 (RO). -/
def FEED_OV_CNT_OV_A : Field :=
  ⟨0x00A, 0x06C, 0, 0, 8, 0, .ro, false⟩

/-! ### Page block `tang` -/

/-- TAN_CTL [0:0], R481 (RWL). -/
def TAN_CTL_MAIN_EN : Field :=
  ⟨0x00B, 0x008, 0, 0, 1, 1, .rwl, false⟩
/-- TAN_STAT [31:20], R481 (RO). -/
def TAN_STAT_SRC_P : Field :=
  ⟨0x00B, 0x00C, 0, 20, 12, 0, .ro, false⟩
/-- TAN_STAT [8:8], R481 (RO). -/
def TAN_STAT_DB_ACTIVE : Field :=
  ⟨0x00B, 0x00C, 0, 8, 1, 0, .ro, false⟩
/-- TAN_STAT [4:0], R481 (RO). -/
def TAN_STAT_DB_PORT : Field :=
  ⟨0x00B, 0x00C, 0, 0, 5, 0, .ro, false⟩
/-- TAN_BUDGET [10:0], R483 (RWL). -/
def TAN_BUDGET_W : Field :=
  ⟨0x00B, 0x040, 0, 0, 11, 0, .rwl, false⟩
/-- TAN_RETRY [13:0], R483 (RWL). -/
def TAN_RETRY_MS : Field :=
  ⟨0x00B, 0x044, 0, 0, 14, 0x7d0, .rwl, false⟩
/-- TAN_DB [7:0], R483 (RWL). -/
def TAN_DB_MIN_W : Field :=
  ⟨0x00B, 0x048, 0, 0, 8, 40, .rwl, false⟩

/-! ### Page block `lane` -/

/-- LANE_CTL [7:6], R76 (RWL). -/
def LANE_CTL_LOOP (p : Nat) : Field :=
  ⟨(0x010 + p), 0x008, 0, 6, 2, 0, .rwl, true⟩
/-- LANE_CTL [5:4], R76 (RWL). -/
def LANE_CTL_MAX_LP (p : Nat) : Field :=
  ⟨(0x010 + p), 0x008, 0, 4, 2, 3, .rwl, false⟩
/-- LANE_CTL [3:3], R76 (RWL). -/
def LANE_CTL_SEED_OVR (p : Nat) : Field :=
  ⟨(0x010 + p), 0x008, 0, 3, 1, 0, .rwl, false⟩
/-- LANE_CTL [2:2], R76 (WO). -/
def LANE_CTL_FORCE_COLD (p : Nat) : Field :=
  ⟨(0x010 + p), 0x008, 0, 2, 1, 0, .wo, true⟩
/-- LANE_CTL [1:1], R76 (WO). -/
def LANE_CTL_FORCE_RETRAIN (p : Nat) : Field :=
  ⟨(0x010 + p), 0x008, 0, 1, 1, 0, .wo, true⟩
/-- LANE_CTL [0:0], R76 (RWL). -/
def LANE_CTL_ENABLE (p : Nat) : Field :=
  ⟨(0x010 + p), 0x008, 0, 0, 1, 0, .rwl, true⟩
/-- LANE_STAT [23:16], R77 (RO). -/
def LANE_STAT_SKEW (p : Nat) : Field :=
  ⟨(0x010 + p), 0x00C, 0, 16, 8, 0, .ro, false⟩
/-- LANE_STAT [15:13], R77 (RO). -/
def LANE_STAT_PARTNER_KIND (p : Nat) : Field :=
  ⟨(0x010 + p), 0x00C, 0, 13, 3, 7, .ro, false⟩
/-- LANE_STAT [12:10], R77 (RO). -/
def LANE_STAT_CABLE (p : Nat) : Field :=
  ⟨(0x010 + p), 0x00C, 0, 10, 3, 7, .ro, false⟩
/-- LANE_STAT [9:9], R77 (RO). -/
def LANE_STAT_POL_B (p : Nat) : Field :=
  ⟨(0x010 + p), 0x00C, 0, 9, 1, 0, .ro, false⟩
/-- LANE_STAT [8:8], R77 (RO). -/
def LANE_STAT_POL_A (p : Nat) : Field :=
  ⟨(0x010 + p), 0x00C, 0, 8, 1, 0, .ro, false⟩
/-- LANE_STAT [7:7], R77 (RO). -/
def LANE_STAT_REVERSED (p : Nat) : Field :=
  ⟨(0x010 + p), 0x00C, 0, 7, 1, 0, .ro, false⟩
/-- LANE_STAT [6:6], R77 (RO). -/
def LANE_STAT_LOCK_B (p : Nat) : Field :=
  ⟨(0x010 + p), 0x00C, 0, 6, 1, 0, .ro, false⟩
/-- LANE_STAT [5:5], R77 (RO). -/
def LANE_STAT_LOCK_A (p : Nat) : Field :=
  ⟨(0x010 + p), 0x00C, 0, 5, 1, 0, .ro, false⟩
/-- LANE_STAT [3:0], R77 (RO). -/
def LANE_STAT_STATE (p : Nat) : Field :=
  ⟨(0x010 + p), 0x00C, 0, 0, 4, 9, .ro, false⟩
/-- LANE_EQ [27:27], R79 (RWL). -/
def LANE_EQ_START_OVR (p : Nat) : Field :=
  ⟨(0x010 + p), 0x040, 0, 27, 1, 0, .rwl, false⟩
/-- LANE_EQ [26:24], R79 (RWL). -/
def LANE_EQ_START_PRESET (p : Nat) : Field :=
  ⟨(0x010 + p), 0x040, 0, 24, 3, 4, .rwl, false⟩
/-- LANE_EQ [20:16], R79 (RO). -/
def LANE_EQ_TX_POST (p : Nat) : Field :=
  ⟨(0x010 + p), 0x040, 0, 16, 5, 0, .ro, false⟩
/-- LANE_EQ [15:12], R79 (RO). -/
def LANE_EQ_TX_PRE (p : Nat) : Field :=
  ⟨(0x010 + p), 0x040, 0, 12, 4, 0, .ro, false⟩
/-- LANE_EQ [9:5], R79 (RO). -/
def LANE_EQ_RX_POST (p : Nat) : Field :=
  ⟨(0x010 + p), 0x040, 0, 5, 5, 0, .ro, false⟩
/-- LANE_EQ [3:0], R79 (RO). -/
def LANE_EQ_RX_PRE (p : Nat) : Field :=
  ⟨(0x010 + p), 0x040, 0, 0, 4, 0, .ro, false⟩
/-- LANE_SEED_A [30:0], R79 (RWL). -/
def LANE_SEED_A_SEED (p : Nat) : Field :=
  ⟨(0x010 + p), 0x044, 0, 0, 31, 1, .rwl, false⟩
/-- LANE_SEED_B [30:0], R79 (RWL). -/
def LANE_SEED_B_SEED (p : Nat) : Field :=
  ⟨(0x010 + p), 0x048, 0, 0, 31, 2, .rwl, false⟩
/-- LANE_ERR [31:16], R79 (RC). -/
def LANE_ERR_BAD_B (p : Nat) : Field :=
  ⟨(0x010 + p), 0x04C, 0, 16, 16, 0, .rc, false⟩
/-- LANE_ERR [15:0], R79 (RC). -/
def LANE_ERR_BAD_A (p : Nat) : Field :=
  ⟨(0x010 + p), 0x04C, 0, 0, 16, 0, .rc, false⟩
/-- LANE_TRAINS [31:16], R79 (RO). -/
def LANE_TRAINS_COLD_FAIL (p : Nat) : Field :=
  ⟨(0x010 + p), 0x050, 0, 16, 16, 0, .ro, false⟩
/-- LANE_TRAINS [15:0], R79 (RO). -/
def LANE_TRAINS_COLD_OK (p : Nat) : Field :=
  ⟨(0x010 + p), 0x050, 0, 0, 16, 0, .ro, false⟩
/-- LANE_RETRAINS [31:16], R79 (RO). -/
def LANE_RETRAINS_RETRAIN_FAIL (p : Nat) : Field :=
  ⟨(0x010 + p), 0x054, 0, 16, 16, 0, .ro, false⟩
/-- LANE_RETRAINS [15:0], R79 (RO). -/
def LANE_RETRAINS_RETRAIN_OK (p : Nat) : Field :=
  ⟨(0x010 + p), 0x054, 0, 0, 16, 0, .ro, false⟩
/-- LANE_TTIME [31:16], R79 (RO). -/
def LANE_TTIME_LAST_RETRAIN (p : Nat) : Field :=
  ⟨(0x010 + p), 0x058, 0, 16, 16, 0, .ro, false⟩
/-- LANE_TTIME [15:0], R79 (RO). -/
def LANE_TTIME_LAST_COLD (p : Nat) : Field :=
  ⟨(0x010 + p), 0x058, 0, 0, 16, 0, .ro, false⟩
/-- LANE_WAKE [15:8], R79 (RO). -/
def LANE_WAKE_BURSTS_RX (p : Nat) : Field :=
  ⟨(0x010 + p), 0x05C, 0, 8, 8, 0, .ro, false⟩
/-- LANE_WAKE [0:0], R79 (WO). -/
def LANE_WAKE_SEND_BURST (p : Nat) : Field :=
  ⟨(0x010 + p), 0x05C, 0, 0, 1, 0, .wo, true⟩

/-! ### Page block `chd` -/

/-- CHD_CTL [7:6], R140 (RWL). -/
def CHD_CTL_VER_MAX (p : Nat) : Field :=
  ⟨(0x030 + p), 0x008, 0, 6, 2, 2, .rwl, false⟩
/-- CHD_CTL [5:5], R140 (RWL). -/
def CHD_CTL_AUTH_REQUIRE (p : Nat) : Field :=
  ⟨(0x030 + p), 0x008, 0, 5, 1, 0, .rwl, false⟩
/-- CHD_CTL [4:4], R140 (RWL). -/
def CHD_CTL_AUTH_REQ (p : Nat) : Field :=
  ⟨(0x030 + p), 0x008, 0, 4, 1, 0, .rwl, false⟩
/-- CHD_CTL [3:3], R140 (WO). -/
def CHD_CTL_EPOCH_NOW (p : Nat) : Field :=
  ⟨(0x030 + p), 0x008, 0, 3, 1, 0, .wo, true⟩
/-- CHD_CTL [2:2], R140 (RWL). -/
def CHD_CTL_XNAK_ADV (p : Nat) : Field :=
  ⟨(0x030 + p), 0x008, 0, 2, 1, 1, .rwl, false⟩
/-- CHD_CTL [1:1], R140 (WO). -/
def CHD_CTL_FLUSH_NOW (p : Nat) : Field :=
  ⟨(0x030 + p), 0x008, 0, 1, 1, 0, .wo, true⟩
/-- CHD_STAT [31:24], R141 (RO). -/
def CHD_STAT_EPOCH_TX (p : Nat) : Field :=
  ⟨(0x030 + p), 0x00C, 0, 24, 8, 0, .ro, false⟩
/-- CHD_STAT [23:16], R141 (RO). -/
def CHD_STAT_EPOCH_RX (p : Nat) : Field :=
  ⟨(0x030 + p), 0x00C, 0, 16, 8, 0, .ro, false⟩
/-- CHD_STAT [11:8], R141 (RO). -/
def CHD_STAT_VER_MINOR (p : Nat) : Field :=
  ⟨(0x030 + p), 0x00C, 0, 8, 4, 0, .ro, false⟩
/-- CHD_STAT [7:7], R141 (RO). -/
def CHD_STAT_AUTH (p : Nat) : Field :=
  ⟨(0x030 + p), 0x00C, 0, 7, 1, 0, .ro, false⟩
/-- CHD_STAT [6:6], R141 (RO). -/
def CHD_STAT_XNAK (p : Nat) : Field :=
  ⟨(0x030 + p), 0x00C, 0, 6, 1, 0, .ro, false⟩
/-- CHD_STAT [3:2], R141 (RO). -/
def CHD_STAT_TX_STATE (p : Nat) : Field :=
  ⟨(0x030 + p), 0x00C, 0, 2, 2, 0, .ro, false⟩
/-- CHD_STAT [1:1], R141 (RO). -/
def CHD_STAT_RX_STATE (p : Nat) : Field :=
  ⟨(0x030 + p), 0x00C, 0, 1, 1, 0, .ro, false⟩
/-- CHD_STAT [0:0], R141 (RO). -/
def CHD_STAT_GRACE (p : Nat) : Field :=
  ⟨(0x030 + p), 0x00C, 0, 0, 1, 0, .ro, false⟩
/-- CHD_GRACE [9:0], R143 (RWL). -/
def CHD_GRACE_MS (p : Nat) : Field :=
  ⟨(0x030 + p), 0x040, 0, 0, 10, 50, .rwl, false⟩
/-- CHD_RTT [31:16], R143 (RO). -/
def CHD_RTT_TIMER (p : Nat) : Field :=
  ⟨(0x030 + p), 0x044, 0, 16, 16, 250, .ro, false⟩
/-- CHD_RTT [15:0], R143 (RO). -/
def CHD_RTT_RTT (p : Nat) : Field :=
  ⟨(0x030 + p), 0x044, 0, 0, 16, 0x3e8, .ro, false⟩
/-- CHD_CRED [29:29], R143 (RWL). -/
def CHD_CRED_CREDITLESS (p : Nat) (i : Nat) : Field :=
  ⟨(0x030 + p), (0x048 + 4 * i), 0, 29, 1, 0, .rwl, false⟩
/-- CHD_CRED [27:16], R143 (RWL). -/
def CHD_CRED_HDR (p : Nat) (i : Nat) : Field :=
  ⟨(0x030 + p), (0x048 + 4 * i), 0, 16, 12, if i = 0 then 128 else if i = 1 then 32 else 64, .rwl, false⟩
/-- CHD_CRED [14:0], R143 (RWL). -/
def CHD_CRED_DATA (p : Nat) (i : Nat) : Field :=
  ⟨(0x030 + p), (0x048 + 4 * i), 0, 0, 15, if i = 0 then 1024 else if i = 1 then 128 else 512, .rwl, false⟩
/-- CHD_XCTL [7:0], R143 (RWL). -/
def CHD_XCTL_MAX_AGE (p : Nat) : Field :=
  ⟨(0x030 + p), 0x05C, 0, 0, 8, 4, .rwl, false⟩
/-- CHD_SPILL [29:16], R143 (RO). -/
def CHD_SPILL_USED (p : Nat) : Field :=
  ⟨(0x030 + p), 0x060, 0, 16, 14, 0, .ro, false⟩
/-- CHD_SPILL [13:0], R143 (RWL). -/
def CHD_SPILL_QUOTA (p : Nat) : Field :=
  ⟨(0x030 + p), 0x060, 0, 0, 14, 512, .rwl, false⟩
/-- CHD_SPILLERR [31:16], R143 (RO). -/
def CHD_SPILLERR_LOSS (p : Nat) : Field :=
  ⟨(0x030 + p), 0x064, 0, 16, 16, 0, .ro, false⟩
/-- CHD_SPILLERR [15:0], R143 (RO). -/
def CHD_SPILLERR_CORR (p : Nat) : Field :=
  ⟨(0x030 + p), 0x064, 0, 0, 16, 0, .ro, false⟩
/-- CHD_REPLAY [31:16], R143 (RO). -/
def CHD_REPLAY_FLITS (p : Nat) : Field :=
  ⟨(0x030 + p), 0x068, 0, 16, 16, 0, .ro, false⟩
/-- CHD_REPLAY [15:8], R143 (RO). -/
def CHD_REPLAY_FORCED (p : Nat) : Field :=
  ⟨(0x030 + p), 0x068, 0, 8, 8, 0, .ro, false⟩
/-- CHD_REPLAY [7:0], R143 (RO). -/
def CHD_REPLAY_STARTS (p : Nat) : Field :=
  ⟨(0x030 + p), 0x068, 0, 0, 8, 0, .ro, false⟩
/-- CHD_NAK [31:16], R143 (RO). -/
def CHD_NAK_SENT (p : Nat) : Field :=
  ⟨(0x030 + p), 0x06C, 0, 16, 16, 0, .ro, false⟩
/-- CHD_NAK [15:0], R143 (RO). -/
def CHD_NAK_RCVD (p : Nat) : Field :=
  ⟨(0x030 + p), 0x06C, 0, 0, 16, 0, .ro, false⟩
/-- CHD_RXERR [31:16], R143 (RO). -/
def CHD_RXERR_CORRUPT (p : Nat) : Field :=
  ⟨(0x030 + p), 0x070, 0, 16, 16, 0, .ro, false⟩
/-- CHD_RXERR [15:0], R143 (RO). -/
def CHD_RXERR_GAP (p : Nat) : Field :=
  ⟨(0x030 + p), 0x070, 0, 0, 16, 0, .ro, false⟩
/-- CHD_DROP [31:16], R143 (RO). -/
def CHD_DROP_VC0 (p : Nat) : Field :=
  ⟨(0x030 + p), 0x074, 0, 16, 16, 0, .ro, false⟩
/-- CHD_DROP [15:0], R143 (RO). -/
def CHD_DROP_VC1 (p : Nat) : Field :=
  ⟨(0x030 + p), 0x074, 0, 0, 16, 0, .ro, false⟩
/-- CHD_XERR [31:16], R143 (RO). -/
def CHD_XERR_STALE (p : Nat) : Field :=
  ⟨(0x030 + p), 0x078, 0, 16, 16, 0, .ro, false⟩
/-- CHD_XERR [15:0], R143 (RO). -/
def CHD_XERR_BOTH_BAD (p : Nat) : Field :=
  ⟨(0x030 + p), 0x078, 0, 0, 16, 0, .ro, false⟩
/-- CHD_FLUSH [31:16], R143 (RO). -/
def CHD_FLUSH_FLITS (p : Nat) : Field :=
  ⟨(0x030 + p), 0x07C, 0, 16, 16, 0, .ro, false⟩
/-- CHD_FLUSH [15:0], R143 (RO). -/
def CHD_FLUSH_COUNT (p : Nat) : Field :=
  ⟨(0x030 + p), 0x07C, 0, 0, 16, 0, .ro, false⟩
/-- CHD_POISON [31:16], R143 (RO). -/
def CHD_POISON_RX (p : Nat) : Field :=
  ⟨(0x030 + p), 0x080, 0, 16, 16, 0, .ro, false⟩
/-- CHD_POISON [15:0], R143 (RO). -/
def CHD_POISON_TX (p : Nat) : Field :=
  ⟨(0x030 + p), 0x080, 0, 0, 16, 0, .ro, false⟩
/-- CHD_CREDERR [31:16], R143 (RO). -/
def CHD_CREDERR_CLESS_OVF (p : Nat) : Field :=
  ⟨(0x030 + p), 0x084, 0, 16, 16, 0, .ro, false⟩
/-- CHD_CREDERR [15:0], R143 (RO). -/
def CHD_CREDERR_BAD_LIMIT (p : Nat) : Field :=
  ⟨(0x030 + p), 0x084, 0, 0, 16, 0, .ro, false⟩
/-- CHD_POINT [31:16], R143 (RO). -/
def CHD_POINT_DROP (p : Nat) : Field :=
  ⟨(0x030 + p), 0x088, 0, 16, 16, 0, .ro, false⟩
/-- CHD_POINT [15:0], R143 (RO). -/
def CHD_POINT_SENT (p : Nat) : Field :=
  ⟨(0x030 + p), 0x088, 0, 0, 16, 0, .ro, false⟩
/-- CHD_PROTO [31:16], R143 (RO). -/
def CHD_PROTO_STRAY (p : Nat) : Field :=
  ⟨(0x030 + p), 0x08C, 0, 16, 16, 0, .ro, false⟩
/-- CHD_PROTO [15:0], R143 (RO). -/
def CHD_PROTO_BAD_ACK (p : Nat) : Field :=
  ⟨(0x030 + p), 0x08C, 0, 0, 16, 0, .ro, false⟩
/-- CHD_AUTH [31:16], R143 (RO). -/
def CHD_AUTH_EPOCH_FAIL (p : Nat) : Field :=
  ⟨(0x030 + p), 0x090, 0, 16, 16, 0, .ro, false⟩
/-- CHD_AUTH [15:0], R143 (RO). -/
def CHD_AUTH_TAG_FAIL (p : Nat) : Field :=
  ⟨(0x030 + p), 0x090, 0, 0, 16, 0, .ro, false⟩
/-- CHD_MISC [31:16], R143 (RO). -/
def CHD_MISC_RESUME (p : Nat) : Field :=
  ⟨(0x030 + p), 0x094, 0, 16, 16, 0, .ro, false⟩
/-- CHD_MISC [15:0], R143 (RO). -/
def CHD_MISC_DUP (p : Nat) : Field :=
  ⟨(0x030 + p), 0x094, 0, 0, 16, 0, .ro, false⟩

/-! ### Page block `tan` -/

/-- TAN_PORT_CTL [15:8], R484 (RWL). -/
def TAN_PORT_CTL_ILIM (p : Nat) : Field :=
  ⟨(0x050 + p), 0x008, 0, 8, 8, 250, .rwl, false⟩
/-- TAN_PORT_CTL [7:6], R484 (RWL). -/
def TAN_PORT_CTL_ROLE (p : Nat) : Field :=
  ⟨(0x050 + p), 0x008, 0, 6, 2, if p < 16 then 0 else 1, .rwl, true⟩
/-- TAN_PORT_CTL [5:5], R484 (RWL). -/
def TAN_PORT_CTL_SWAP_EN (p : Nat) : Field :=
  ⟨(0x050 + p), 0x008, 0, 5, 1, 0, .rwl, false⟩
/-- TAN_PORT_CTL [4:4], R484 (RWL). -/
def TAN_PORT_CTL_SINK_EN (p : Nat) : Field :=
  ⟨(0x050 + p), 0x008, 0, 4, 1, if p < 16 then 0 else 1, .rwl, false⟩
/-- TAN_PORT_CTL [3:3], R484 (WO). -/
def TAN_PORT_CTL_HARD_RESET (p : Nat) : Field :=
  ⟨(0x050 + p), 0x008, 0, 3, 1, 0, .wo, true⟩
/-- TAN_PORT_CTL [2:2], R484 (WO). -/
def TAN_PORT_CTL_CLEAR_FAULT (p : Nat) : Field :=
  ⟨(0x050 + p), 0x008, 0, 2, 1, 0, .wo, true⟩
/-- TAN_PORT_CTL [1:1], R484 (WO). -/
def TAN_PORT_CTL_REOFFER (p : Nat) : Field :=
  ⟨(0x050 + p), 0x008, 0, 1, 1, 0, .wo, true⟩
/-- TAN_PORT_CTL [0:0], R484 (RWL). -/
def TAN_PORT_CTL_ENABLE (p : Nat) : Field :=
  ⟨(0x050 + p), 0x008, 0, 0, 1, 1, .rwl, true⟩
/-- TAN_PORT_STAT [31:29], R485 (RO). -/
def TAN_PORT_STAT_PSTATE (p : Nat) : Field :=
  ⟨(0x050 + p), 0x00C, 0, 29, 3, 0, .ro, false⟩
/-- TAN_PORT_STAT [28:26], R485 (RO). -/
def TAN_PORT_STAT_CSTATE (p : Nat) : Field :=
  ⟨(0x050 + p), 0x00C, 0, 26, 3, 7, .ro, false⟩
/-- TAN_PORT_STAT [25:23], R485 (RO). -/
def TAN_PORT_STAT_LAST_PHASE (p : Nat) : Field :=
  ⟨(0x050 + p), 0x00C, 0, 23, 3, 0, .ro, false⟩
/-- TAN_PORT_STAT [22:20], R485 (RO). -/
def TAN_PORT_STAT_CABLE (p : Nat) : Field :=
  ⟨(0x050 + p), 0x00C, 0, 20, 3, 7, .ro, false⟩
/-- TAN_PORT_STAT [19:19], R485 (RO). -/
def TAN_PORT_STAT_ORIENT (p : Nat) : Field :=
  ⟨(0x050 + p), 0x00C, 0, 19, 1, 0, .ro, false⟩
/-- TAN_PORT_STAT [18:18], R485 (RO). -/
def TAN_PORT_STAT_AUX_ON (p : Nat) : Field :=
  ⟨(0x050 + p), 0x00C, 0, 18, 1, 0, .ro, false⟩
/-- TAN_PORT_STAT [17:17], R485 (RO). -/
def TAN_PORT_STAT_MAIN_ON (p : Nat) : Field :=
  ⟨(0x050 + p), 0x00C, 0, 17, 1, 0, .ro, false⟩
/-- TAN_PORT_STAT [16:16], R485 (RO). -/
def TAN_PORT_STAT_MAIN_SRC (p : Nat) : Field :=
  ⟨(0x050 + p), 0x00C, 0, 16, 1, 0, .ro, false⟩
/-- TAN_PORT_STAT [15:15], R485 (RO). -/
def TAN_PORT_STAT_DB (p : Nat) : Field :=
  ⟨(0x050 + p), 0x00C, 0, 15, 1, 0, .ro, false⟩
/-- TAN_PORT_STAT [11:8], R485 (RO). -/
def TAN_PORT_STAT_VER_MINOR (p : Nat) : Field :=
  ⟨(0x050 + p), 0x00C, 0, 8, 4, 15, .ro, false⟩
/-- TAN_CONTRACT [31:24], R487 (RO). -/
def TAN_CONTRACT_I_C (p : Nat) : Field :=
  ⟨(0x050 + p), 0x040, 0, 24, 8, 0, .ro, false⟩
/-- TAN_CONTRACT [23:16], R487 (RO). -/
def TAN_CONTRACT_P_C (p : Nat) : Field :=
  ⟨(0x050 + p), 0x040, 0, 16, 8, 0, .ro, false⟩
/-- TAN_SINK [15:8], R487 (RWL). -/
def TAN_SINK_I_REQ (p : Nat) : Field :=
  ⟨(0x050 + p), 0x044, 0, 8, 8, if p < 16 then 0 else 250, .rwl, false⟩
/-- TAN_SINK [7:0], R487 (RWL). -/
def TAN_SINK_P_REQ (p : Nat) : Field :=
  ⟨(0x050 + p), 0x044, 0, 0, 8, if p < 16 then 0 else 200, .rwl, false⟩
/-- TAN_MEAS [31:22], R487 (RO). -/
def TAN_MEAS_V (p : Nat) : Field :=
  ⟨(0x050 + p), 0x048, 0, 22, 10, 0, .ro, false⟩
/-- TAN_MEAS [11:0], R487 (RO). -/
def TAN_MEAS_I (p : Nat) : Field :=
  ⟨(0x050 + p), 0x048, 0, 0, 12, 0, .ro, false⟩
/-- TAN_PARTNER [31:31], R487 (RO). -/
def TAN_PARTNER_VALID (p : Nat) : Field :=
  ⟨(0x050 + p), 0x04C, 0, 31, 1, 0, .ro, false⟩
/-- TAN_PARTNER [26:0], R487 (RO). -/
def TAN_PARTNER_ARG (p : Nat) : Field :=
  ⟨(0x050 + p), 0x04C, 0, 0, 27, 0, .ro, false⟩
/-- TAN_MSG [31:24], R487 (RO). -/
def TAN_MSG_RETRY (p : Nat) : Field :=
  ⟨(0x050 + p), 0x050, 0, 24, 8, 0, .ro, false⟩
/-- TAN_MSG [23:16], R487 (RO). -/
def TAN_MSG_FAIL (p : Nat) : Field :=
  ⟨(0x050 + p), 0x050, 0, 16, 8, 0, .ro, false⟩
/-- TAN_MSG [15:8], R487 (RO). -/
def TAN_MSG_BAD (p : Nat) : Field :=
  ⟨(0x050 + p), 0x050, 0, 8, 8, 0, .ro, false⟩
/-- TAN_MSG [7:0], R487 (RO). -/
def TAN_MSG_COLLISION (p : Nat) : Field :=
  ⟨(0x050 + p), 0x050, 0, 0, 8, 0, .ro, false⟩
/-- TAN_FAULTS [31:24], R487 (RO). -/
def TAN_FAULTS_HARD_RESETS (p : Nat) : Field :=
  ⟨(0x050 + p), 0x054, 0, 24, 8, 0, .ro, false⟩
/-- TAN_FAULTS [23:16], R487 (RO). -/
def TAN_FAULTS_TRANSITION_LOSS (p : Nat) : Field :=
  ⟨(0x050 + p), 0x054, 0, 16, 8, 0, .ro, false⟩
/-- TAN_FAULTS [15:8], R487 (RO). -/
def TAN_FAULTS_MAIN_TRIPS (p : Nat) : Field :=
  ⟨(0x050 + p), 0x054, 0, 8, 8, 0, .ro, false⟩
/-- TAN_FAULTS [7:0], R487 (RO). -/
def TAN_FAULTS_AUX_TRIPS (p : Nat) : Field :=
  ⟨(0x050 + p), 0x054, 0, 0, 8, 0, .ro, false⟩

/-! ### Page block `hull` -/

/-- HULL_CTL [3:3], R179 (RWL). -/
def HULL_CTL_CT_VC1 : Field :=
  ⟨0x070, 0x008, 0, 3, 1, 1, .rwl, false⟩
/-- HULL_STAT [17:16], R180 (RO). -/
def HULL_STAT_PLEVEL : Field :=
  ⟨0x070, 0x00C, 0, 16, 2, 3, .ro, false⟩
/-- HULL_DROP [31:16], R182 (RO). -/
def HULL_DROP_UNROUTED : Field :=
  ⟨0x070, 0x040, 0, 16, 16, 0, .ro, false⟩
/-- HULL_DROP [15:0], R182 (RO). -/
def HULL_DROP_WRONG_IN : Field :=
  ⟨0x070, 0x040, 0, 0, 16, 0, .ro, false⟩
/-- HULL_ECC [31:16], R182 (RO). -/
def HULL_ECC_UNCORR : Field :=
  ⟨0x070, 0x044, 0, 16, 16, 0, .ro, false⟩
/-- HULL_ECC [15:0], R182 (RO). -/
def HULL_ECC_CORR : Field :=
  ⟨0x070, 0x044, 0, 0, 16, 0, .ro, false⟩
/-- HULL_PRUNE [15:0], R182 (RO). -/
def HULL_PRUNE_COPIES : Field :=
  ⟨0x070, 0x048, 0, 0, 16, 0, .ro, false⟩

/-! ### Page block `tun` -/

/-- TUN_CTL [0:0], R183 (RWL). -/
def TUN_CTL_AUTO_REOPEN : Field :=
  ⟨0x080, 0x008, 0, 0, 1, 1, .rwl, false⟩
/-- TUN_STAT [28:16], R183 (RO). -/
def TUN_STAT_OPEN_COUNT : Field :=
  ⟨0x080, 0x00C, 0, 16, 13, 0, .ro, false⟩
/-- TUN_STAT [12:0], R183 (RO). -/
def TUN_STAT_USED_COUNT : Field :=
  ⟨0x080, 0x00C, 0, 0, 13, 0, .ro, false⟩
/-- TUN_SEL [11:0], R185 (RW). -/
def TUN_SEL_TUNNEL : Field :=
  ⟨0x080, 0x040, 0, 0, 12, 0, .rw, false⟩
/-- TUN_DATA [31:0], R185 (RW). -/
def TUN_DATA_WORD (i : Nat) : Field :=
  ⟨0x080, (0x044 + 4 * i), 0, 0, 32, 0, .rw, false⟩
/-- TUN_CMD [31:31], R185 (RO). -/
def TUN_CMD_BUSY : Field :=
  ⟨0x080, 0x064, 0, 31, 1, 0, .ro, false⟩
/-- TUN_CMD [30:28], R185 (RO). -/
def TUN_CMD_STATUS : Field :=
  ⟨0x080, 0x064, 0, 28, 3, 0, .ro, false⟩
/-- TUN_CMD [3:0], R185 (WO). -/
def TUN_CMD_OP : Field :=
  ⟨0x080, 0x064, 0, 0, 4, 0, .wo, true⟩
/-- TUN_ADMIT_SEL [4:0], R185 (RW). -/
def TUN_ADMIT_SEL_PORT : Field :=
  ⟨0x080, 0x068, 0, 0, 5, 0, .rw, false⟩
/-- TUN_ADMIT [31:16], R185 (RO). -/
def TUN_ADMIT_EGRESS (b : Nat) : Field :=
  ⟨0x080, 0x06C, b, 16, 16, 0, .ro, false⟩
/-- TUN_ADMIT [15:0], R185 (RO). -/
def TUN_ADMIT_INGRESS (b : Nat) : Field :=
  ⟨0x080, 0x06C, b, 0, 16, 0, .ro, false⟩
/-- TUN_LAST_FAIL [27:16], R185 (RO). -/
def TUN_LAST_FAIL_TUNNEL : Field :=
  ⟨0x080, 0x070, 0, 16, 12, 0, .ro, false⟩
/-- TUN_LAST_FAIL [7:0], R185 (RO). -/
def TUN_LAST_FAIL_CAUSE : Field :=
  ⟨0x080, 0x070, 0, 0, 8, 0, .ro, false⟩
/-- TUN_REASM [31:16], R185 (RO). -/
def TUN_REASM_ABORT : Field :=
  ⟨0x080, 0x074, 0, 16, 16, 0, .ro, false⟩
/-- TUN_REASM [15:8], R185 (RO). -/
def TUN_REASM_REJECT : Field :=
  ⟨0x080, 0x074, 0, 8, 8, 0, .ro, false⟩
/-- TUN_REASM [7:0], R185 (RO). -/
def TUN_REASM_DUP : Field :=
  ⟨0x080, 0x074, 0, 0, 8, 0, .ro, false⟩

/-! ### Page block `cmp` -/

/-- CMP_CTL [0:0], R322 (RWL). -/
def CMP_CTL_ETOK_EN : Field :=
  ⟨0x0A0, 0x008, 0, 0, 1, 1, .rwl, false⟩
/-- CMP_STAT [31:16], R322 (RO). -/
def CMP_STAT_ETOK_RATE : Field :=
  ⟨0x0A0, 0x00C, 0, 16, 16, 0xffff, .ro, false⟩
/-- CMP_STAT [15:0], R322 (RO). -/
def CMP_STAT_ETOK_LEVEL : Field :=
  ⟨0x0A0, 0x00C, 0, 0, 16, 0, .ro, false⟩
/-- CMP_ETOK [4:0], R324 (RWL). -/
def CMP_ETOK_BURST : Field :=
  ⟨0x0A0, 0x040, 0, 0, 5, 4, .rwl, false⟩
/-- CMP_ETOK_STALL [31:0], R324 (RO). -/
def CMP_ETOK_STALL_STALLS : Field :=
  ⟨0x0A0, 0x044, 0, 0, 32, 0, .ro, false⟩
/-- CMP_POL_SEL [11:0], R324 (RW). -/
def CMP_POL_SEL_TUNNEL : Field :=
  ⟨0x0A0, 0x048, 0, 0, 12, 0, .rw, false⟩
/-- CMP_POL_DATA [31:0], R324 (RW). -/
def CMP_POL_DATA_WORD (i : Nat) : Field :=
  ⟨0x0A0, (0x04C + 4 * i), 0, 0, 32, 0, .rw, false⟩
/-- CMP_POL_CMD [31:31], R324 (RO). -/
def CMP_POL_CMD_BUSY : Field :=
  ⟨0x0A0, 0x05C, 0, 31, 1, 0, .ro, false⟩
/-- CMP_POL_CMD [30:28], R324 (RO). -/
def CMP_POL_CMD_STATUS : Field :=
  ⟨0x0A0, 0x05C, 0, 28, 3, 0, .ro, false⟩
/-- CMP_POL_CMD [3:0], R324 (WO). -/
def CMP_POL_CMD_OP : Field :=
  ⟨0x0A0, 0x05C, 0, 0, 4, 0, .wo, true⟩

/-! ### Page block `cmpp` -/

/-- CMP_PORT_CTL [13:8], R326 (RWL). -/
def CMP_PORT_CTL_OVH (p : Nat) : Field :=
  ⟨(0x0A1 + p), 0x008, 0, 8, 6, 4, .rwl, false⟩
/-- CMP_PORT_CTL [6:4], R326 (RWL). -/
def CMP_PORT_CTL_EW (p : Nat) : Field :=
  ⟨(0x0A1 + p), 0x008, 0, 4, 3, 1, .rwl, false⟩
/-- CMP_PORT_CTL [0:0], R326 (RWL). -/
def CMP_PORT_CTL_GCL_EN (p : Nat) : Field :=
  ⟨(0x0A1 + p), 0x008, 0, 0, 1, 0, .rwl, true⟩
/-- CMP_PORT_STAT [25:16], R326 (RO). -/
def CMP_PORT_STAT_GATES (p : Nat) : Field :=
  ⟨(0x0A1 + p), 0x00C, 0, 16, 10, 0x3ff, .ro, false⟩
/-- CMP_PORT_STAT [15:8], R326 (RO). -/
def CMP_PORT_STAT_ENTRY (p : Nat) : Field :=
  ⟨(0x0A1 + p), 0x00C, 0, 8, 8, 0, .ro, false⟩
/-- CMP_PORT_STAT [0:0], R326 (RO). -/
def CMP_PORT_STAT_GCL_RUN (p : Nat) : Field :=
  ⟨(0x0A1 + p), 0x00C, 0, 0, 1, 0, .ro, false⟩
/-- CMP_CLASS [9:8], R328 (RWL). -/
def CMP_CLASS_SAMPLE (p : Nat) : Field :=
  ⟨(0x0A1 + p), 0x040, 0, 8, 2, 2, .rwl, false⟩
/-- CMP_CLASS [7:6], R328 (RWL). -/
def CMP_CLASS_TIMING (p : Nat) : Field :=
  ⟨(0x0A1 + p), 0x040, 0, 6, 2, 0, .rwl, false⟩
/-- CMP_CLASS [5:4], R328 (RWL). -/
def CMP_CLASS_MEDIA (p : Nat) : Field :=
  ⟨(0x0A1 + p), 0x040, 0, 4, 2, 0, .rwl, false⟩
/-- CMP_CLASS [3:2], R328 (RWL). -/
def CMP_CLASS_FRAMES (p : Nat) : Field :=
  ⟨(0x0A1 + p), 0x040, 0, 2, 2, 1, .rwl, false⟩
/-- CMP_CLASS [1:0], R328 (RWL). -/
def CMP_CLASS_BULK (p : Nat) : Field :=
  ⟨(0x0A1 + p), 0x040, 0, 0, 2, 0, .rwl, false⟩
/-- CMP_GCL_ADMIN [24:16], R328 (RW). -/
def CMP_GCL_ADMIN_LEN (p : Nat) : Field :=
  ⟨(0x0A1 + p), 0x044, 0, 16, 9, 1, .rw, true⟩
/-- CMP_GCL_ADMIN [2:0], R328 (RW). -/
def CMP_GCL_ADMIN_LOG2M (p : Nat) : Field :=
  ⟨(0x0A1 + p), 0x044, 0, 0, 3, 0, .rw, true⟩
/-- CMP_GCL_OPER [24:16], R328 (RO). -/
def CMP_GCL_OPER_LEN (p : Nat) : Field :=
  ⟨(0x0A1 + p), 0x048, 0, 16, 9, 1, .ro, false⟩
/-- CMP_GCL_OPER [2:0], R328 (RO). -/
def CMP_GCL_OPER_LOG2M (p : Nat) : Field :=
  ⟨(0x0A1 + p), 0x048, 0, 0, 3, 0, .ro, false⟩
/-- CMP_GCL_CHANGE [31:0], R328 (RW). -/
def CMP_GCL_CHANGE_INDEX (p : Nat) : Field :=
  ⟨(0x0A1 + p), 0x04C, 0, 0, 32, 0, .rw, true⟩
/-- CMP_GCL_CMD [31:31], R328 (RO). -/
def CMP_GCL_CMD_PENDING (p : Nat) : Field :=
  ⟨(0x0A1 + p), 0x050, 0, 31, 1, 0, .ro, false⟩
/-- CMP_GCL_CMD [30:28], R328 (RO). -/
def CMP_GCL_CMD_STATUS (p : Nat) : Field :=
  ⟨(0x0A1 + p), 0x050, 0, 28, 3, 0, .ro, false⟩
/-- CMP_GCL_CMD [1:1], R328 (WO). -/
def CMP_GCL_CMD_CANCEL (p : Nat) : Field :=
  ⟨(0x0A1 + p), 0x050, 0, 1, 1, 0, .wo, true⟩
/-- CMP_GCL_CMD [0:0], R328 (WO). -/
def CMP_GCL_CMD_COMMIT (p : Nat) : Field :=
  ⟨(0x0A1 + p), 0x050, 0, 0, 1, 0, .wo, true⟩
/-- CMP_GCL_RDSEL [7:0], R328 (RW). -/
def CMP_GCL_RDSEL_ENTRY (p : Nat) : Field :=
  ⟨(0x0A1 + p), 0x054, 0, 0, 8, 0, .rw, false⟩
/-- CMP_GCL_RDDATA [31:0], R328 (RO). -/
def CMP_GCL_RDDATA_WORD (p : Nat) : Field :=
  ⟨(0x0A1 + p), 0x058, 0, 0, 32, 0xffcfffff, .ro, false⟩
/-- CMP_GCL_CNT [31:16], R328 (RO). -/
def CMP_GCL_CNT_OVERRUN (p : Nat) : Field :=
  ⟨(0x0A1 + p), 0x05C, 0, 16, 16, 0, .ro, false⟩
/-- CMP_GCL_CNT [15:0], R328 (RO). -/
def CMP_GCL_CNT_WR_IGNORED (p : Nat) : Field :=
  ⟨(0x0A1 + p), 0x05C, 0, 0, 16, 0, .ro, false⟩
/-- CMP_QSEL [4:0], R328 (RW). -/
def CMP_QSEL_QUEUE (p : Nat) : Field :=
  ⟨(0x0A1 + p), 0x060, 0, 0, 5, 0, .rw, false⟩
/-- CMP_QCFG [31:24], R328 (RW). -/
def CMP_QCFG_WEIGHT (p : Nat) (b : Nat) : Field :=
  ⟨(0x0A1 + p), 0x064, b, 24, 8, 1, .rw, false⟩
/-- CMP_QCFG [16:16], R328 (RW). -/
def CMP_QCFG_SHAPE (p : Nat) (b : Nat) : Field :=
  ⟨(0x0A1 + p), 0x064, b, 16, 1, 0, .rw, true⟩
/-- CMP_QCFG [15:0], R328 (RW). -/
def CMP_QCFG_DTHR (p : Nat) (b : Nat) : Field :=
  ⟨(0x0A1 + p), 0x064, b, 0, 16, 0, .rw, false⟩
/-- CMP_QRATE [31:16], R328 (RW). -/
def CMP_QRATE_PIR (p : Nat) (b : Nat) : Field :=
  ⟨(0x0A1 + p), 0x068, b, 16, 16, 0, .rw, true⟩
/-- CMP_QRATE [15:0], R328 (RW). -/
def CMP_QRATE_CIR (p : Nat) (b : Nat) : Field :=
  ⟨(0x0A1 + p), 0x068, b, 0, 16, 0, .rw, true⟩
/-- CMP_QBURST [31:16], R328 (RW). -/
def CMP_QBURST_PBS (p : Nat) (b : Nat) : Field :=
  ⟨(0x0A1 + p), 0x06C, b, 16, 16, 64, .rw, true⟩
/-- CMP_QBURST [15:0], R328 (RW). -/
def CMP_QBURST_CBS (p : Nat) (b : Nat) : Field :=
  ⟨(0x0A1 + p), 0x06C, b, 0, 16, 64, .rw, true⟩
/-- CMP_QDEPTH [31:16], R328 (RC). -/
def CMP_QDEPTH_MAX (p : Nat) (b : Nat) : Field :=
  ⟨(0x0A1 + p), 0x070, b, 16, 16, 0, .rc, false⟩
/-- CMP_QDEPTH [15:0], R328 (RO). -/
def CMP_QDEPTH_NOW (p : Nat) (b : Nat) : Field :=
  ⟨(0x0A1 + p), 0x070, b, 0, 16, 0, .ro, false⟩
/-- CMP_QDELAY_MAX [23:0], R328 (RC). -/
def CMP_QDELAY_MAX_NS (p : Nat) (b : Nat) : Field :=
  ⟨(0x0A1 + p), 0x074, b, 0, 24, 0, .rc, false⟩
/-- CMP_QDELAY_LAST [23:0], R328 (RO). -/
def CMP_QDELAY_LAST_NS (p : Nat) (b : Nat) : Field :=
  ⟨(0x0A1 + p), 0x078, b, 0, 24, 0, .ro, false⟩
/-- CMP_QSNAP_DEPTH [31:16], R328 (RO). -/
def CMP_QSNAP_DEPTH_INDEX (p : Nat) (b : Nat) : Field :=
  ⟨(0x0A1 + p), 0x07C, b, 16, 16, 0, .ro, false⟩
/-- CMP_QSNAP_DEPTH [15:0], R328 (RO). -/
def CMP_QSNAP_DEPTH_DEPTH (p : Nat) (b : Nat) : Field :=
  ⟨(0x0A1 + p), 0x07C, b, 0, 16, 0, .ro, false⟩
/-- CMP_QSNAP_DELAY [23:0], R328 (RO). -/
def CMP_QSNAP_DELAY_NS (p : Nat) (b : Nat) : Field :=
  ⟨(0x0A1 + p), 0x080, b, 0, 24, 0, .ro, false⟩
/-- CMP_QSAMPLE_CTL [3:0], R328 (RW). -/
def CMP_QSAMPLE_CTL_SI (p : Nat) : Field :=
  ⟨(0x0A1 + p), 0x084, 0, 0, 4, 0, .rw, false⟩
/-- CMP_QALARM [28:24], R328 (RO). -/
def CMP_QALARM_QUEUE (p : Nat) : Field :=
  ⟨(0x0A1 + p), 0x088, 0, 24, 5, 0, .ro, false⟩
/-- CMP_QALARM [23:0], R328 (RO). -/
def CMP_QALARM_NS (p : Nat) : Field :=
  ⟨(0x0A1 + p), 0x088, 0, 0, 24, 0, .ro, false⟩

/-! ### Page block `dat` -/

/-- DAT_CTL [10:8], R224 (RWL). -/
def DAT_CTL_SOURCE : Field :=
  ⟨0x0C0, 0x008, 0, 8, 3, 7, .rwl, false⟩
/-- DAT_CTL [7:7], R224 (RWL). -/
def DAT_CTL_PROFILE : Field :=
  ⟨0x0C0, 0x008, 0, 7, 1, 0, .rwl, false⟩
/-- DAT_CTL [4:4], R224 (WO). -/
def DAT_CTL_STEP_NOW : Field :=
  ⟨0x0C0, 0x008, 0, 4, 1, 0, .wo, true⟩
/-- DAT_STAT [31:24], R224 (RO). -/
def DAT_STAT_CLASS : Field :=
  ⟨0x0C0, 0x00C, 0, 24, 8, 248, .ro, false⟩
/-- DAT_STAT [9:9], R224 (RO). -/
def DAT_STAT_KEEPER : Field :=
  ⟨0x0C0, 0x00C, 0, 9, 1, 0, .ro, false⟩
/-- DAT_STAT [8:8], R224 (RO). -/
def DAT_STAT_PTP_PORT : Field :=
  ⟨0x0C0, 0x00C, 0, 8, 1, 0, .ro, false⟩
/-- DAT_STAT [6:4], R224 (RO). -/
def DAT_STAT_SOURCE_ACT : Field :=
  ⟨0x0C0, 0x00C, 0, 4, 3, 0, .ro, false⟩
/-- DAT_STAT [1:0], R224 (RO). -/
def DAT_STAT_STATE : Field :=
  ⟨0x0C0, 0x00C, 0, 0, 2, 0, .ro, false⟩
/-- DAT_NS [29:0], R226 (RO). -/
def DAT_NS_NS : Field :=
  ⟨0x0C0, 0x040, 0, 0, 30, 0, .ro, false⟩
/-- DAT_SEC_LO [31:0], R226 (RO). -/
def DAT_SEC_LO_SEC : Field :=
  ⟨0x0C0, 0x044, 0, 0, 32, 0, .ro, false⟩
/-- DAT_SEC_HI [31:16], R226 (RO). -/
def DAT_SEC_HI_FRAC : Field :=
  ⟨0x0C0, 0x048, 0, 16, 16, 0, .ro, false⟩
/-- DAT_SEC_HI [15:0], R226 (RO). -/
def DAT_SEC_HI_SEC : Field :=
  ⟨0x0C0, 0x048, 0, 0, 16, 0, .ro, false⟩
/-- DAT_SHORT_LO [31:0], R226 (RO). -/
def DAT_SHORT_LO_SHORT : Field :=
  ⟨0x0C0, 0x04C, 0, 0, 32, 0, .ro, false⟩
/-- DAT_SHORT_HI [7:0], R226 (RO). -/
def DAT_SHORT_HI_SHORT : Field :=
  ⟨0x0C0, 0x050, 0, 0, 8, 0, .ro, false⟩
/-- DAT_SET_NS [29:0], R226 (RW). -/
def DAT_SET_NS_NS : Field :=
  ⟨0x0C0, 0x054, 0, 0, 30, 0, .rw, false⟩
/-- DAT_SET_SEC_LO [31:0], R226 (RW). -/
def DAT_SET_SEC_LO_SEC : Field :=
  ⟨0x0C0, 0x058, 0, 0, 32, 0, .rw, false⟩
/-- DAT_SET_SEC_HI [15:0], R226 (RW). -/
def DAT_SET_SEC_HI_SEC : Field :=
  ⟨0x0C0, 0x05C, 0, 0, 16, 0, .rw, false⟩
/-- DAT_RATE [31:0], R226 (RO). -/
def DAT_RATE_RATE : Field :=
  ⟨0x0C0, 0x060, 0, 0, 32, 0, .ro, false⟩
/-- DAT_SERVO [27:24], R226 (RWL). -/
def DAT_SERVO_KP_SHIFT : Field :=
  ⟨0x0C0, 0x064, 0, 24, 4, 2, .rwl, false⟩
/-- DAT_SERVO [19:16], R226 (RWL). -/
def DAT_SERVO_KI_SHIFT : Field :=
  ⟨0x0C0, 0x064, 0, 16, 4, 6, .rwl, false⟩
/-- DAT_SERVO [15:0], R226 (RWL). -/
def DAT_SERVO_SLEW_MAX : Field :=
  ⟨0x0C0, 0x064, 0, 0, 16, 100, .rwl, false⟩
/-- DAT_STEP_THR [15:0], R226 (RWL). -/
def DAT_STEP_THR_NS : Field :=
  ⟨0x0C0, 0x068, 0, 0, 16, 0x3e8, .rwl, false⟩
/-- DAT_PROBE [15:0], R226 (RWL). -/
def DAT_PROBE_INT : Field :=
  ⟨0x0C0, 0x06C, 0, 0, 16, 100, .rwl, false⟩
/-- DAT_PORT_SEL [4:0], R226 (RW). -/
def DAT_PORT_SEL_PORT : Field :=
  ⟨0x0C0, 0x070, 0, 0, 5, 0, .rw, false⟩
/-- DAT_PORT_DELAY [25:0], R226 (RO). -/
def DAT_PORT_DELAY_D_MS (b : Nat) : Field :=
  ⟨0x0C0, 0x074, b, 0, 26, 0, .ro, false⟩
/-- DAT_PORT_OFFSET [31:0], R226 (RO). -/
def DAT_PORT_OFFSET_THETA (b : Nat) : Field :=
  ⟨0x0C0, 0x078, b, 0, 32, 0, .ro, false⟩
/-- DAT_PORT_ASYM [15:0], R226 (RWL). -/
def DAT_PORT_ASYM_ASYM (b : Nat) : Field :=
  ⟨0x0C0, 0x07C, b, 0, 16, 0, .rwl, false⟩
/-- DAT_PORT_CNT [31:16], R226 (RO). -/
def DAT_PORT_CNT_OUTLIER (b : Nat) : Field :=
  ⟨0x0C0, 0x080, b, 16, 16, 0, .ro, false⟩
/-- DAT_PORT_CNT [15:0], R226 (RO). -/
def DAT_PORT_CNT_EXCH (b : Nat) : Field :=
  ⟨0x0C0, 0x080, b, 0, 16, 0, .ro, false⟩
/-- DAT_PTP [31:24], R226 (RWL). -/
def DAT_PTP_DOMAIN : Field :=
  ⟨0x0C0, 0x084, 0, 24, 8, 0, .rwl, false⟩
/-- DAT_PTP [23:16], R226 (RWL). -/
def DAT_PTP_PRIO1 : Field :=
  ⟨0x0C0, 0x084, 0, 16, 8, 128, .rwl, false⟩
/-- DAT_PTP [15:8], R226 (RWL). -/
def DAT_PTP_PRIO2 : Field :=
  ⟨0x0C0, 0x084, 0, 8, 8, 128, .rwl, false⟩
/-- DAT_PTP [7:0], R226 (RWL). -/
def DAT_PTP_CLASS_FREE : Field :=
  ⟨0x0C0, 0x084, 0, 0, 8, 248, .rwl, false⟩
/-- DAT_UTC [18:18], R226 (RW). -/
def DAT_UTC_UTC_VALID : Field :=
  ⟨0x0C0, 0x088, 0, 18, 1, 0, .rw, false⟩
/-- DAT_UTC [15:0], R226 (RW). -/
def DAT_UTC_OFFSET : Field :=
  ⟨0x0C0, 0x088, 0, 0, 16, 0, .rw, false⟩
/-- DAT_LEAF_SEL [4:0], R226 (RW). -/
def DAT_LEAF_SEL_HUB : Field :=
  ⟨0x0C0, 0x08C, 0, 0, 5, 1, .rw, false⟩
/-- DAT_LEAF_STAT [31:31], R226 (RO). -/
def DAT_LEAF_STAT_VALID (b : Nat) : Field :=
  ⟨0x0C0, 0x090, b, 31, 1, 0, .ro, false⟩
/-- DAT_LEAF_STAT [30:30], R226 (RO). -/
def DAT_LEAF_STAT_STALE (b : Nat) : Field :=
  ⟨0x0C0, 0x090, b, 30, 1, 0, .ro, false⟩
/-- DAT_LEAF_STAT [29:28], R226 (RO). -/
def DAT_LEAF_STAT_STATE (b : Nat) : Field :=
  ⟨0x0C0, 0x090, b, 28, 2, 0, .ro, false⟩
/-- DAT_LEAF_STAT [27:27], R226 (RO). -/
def DAT_LEAF_STAT_KEEPER (b : Nat) : Field :=
  ⟨0x0C0, 0x090, b, 27, 1, 0, .ro, false⟩
/-- DAT_LEAF_STAT [26:24], R226 (RO). -/
def DAT_LEAF_STAT_SOURCE_ACT (b : Nat) : Field :=
  ⟨0x0C0, 0x090, b, 24, 3, 0, .ro, false⟩
/-- DAT_LEAF_THETA [31:0], R226 (RO). -/
def DAT_LEAF_THETA_THETA (b : Nat) : Field :=
  ⟨0x0C0, 0x094, b, 0, 32, 0, .ro, false⟩

/-! ### Page block `lat` -/

/-- LAT_CTL [0:0], R227 (WO). -/
def LAT_CTL_COMMIT : Field :=
  ⟨0x0C1, 0x008, 0, 0, 1, 0, .wo, true⟩
/-- LAT_STAT [31:28], R227 (RO). -/
def LAT_STAT_A : Field :=
  ⟨0x0C1, 0x00C, 0, 28, 4, 3, .ro, false⟩
/-- LAT_STAT [27:24], R227 (RO). -/
def LAT_STAT_B : Field :=
  ⟨0x0C1, 0x00C, 0, 24, 4, 7, .ro, false⟩
/-- LAT_STAT [23:20], R227 (RO). -/
def LAT_STAT_A_NEXT : Field :=
  ⟨0x0C1, 0x00C, 0, 20, 4, 0, .ro, false⟩
/-- LAT_STAT [19:16], R227 (RO). -/
def LAT_STAT_B_NEXT : Field :=
  ⟨0x0C1, 0x00C, 0, 16, 4, 0, .ro, false⟩
/-- LAT_STAT [1:1], R227 (RO). -/
def LAT_STAT_SYNCED : Field :=
  ⟨0x0C1, 0x00C, 0, 1, 1, 0, .ro, false⟩
/-- LAT_STAT [0:0], R227 (RO). -/
def LAT_STAT_PENDING : Field :=
  ⟨0x0C1, 0x00C, 0, 0, 1, 0, .ro, false⟩
/-- LAT_PERIOD [23:0], R229 (RO). -/
def LAT_PERIOD_NS : Field :=
  ⟨0x0C1, 0x040, 0, 0, 24, 0x98968, .ro, false⟩
/-- LAT_NEXT [18:15], R229 (RWL). -/
def LAT_NEXT_A : Field :=
  ⟨0x0C1, 0x044, 0, 15, 4, 0, .rwl, false⟩
/-- LAT_NEXT [14:11], R229 (RWL). -/
def LAT_NEXT_B : Field :=
  ⟨0x0C1, 0x044, 0, 11, 4, 0, .rwl, false⟩
/-- LAT_INDEX [31:0], R229 (RO). -/
def LAT_INDEX_INDEX : Field :=
  ⟨0x0C1, 0x048, 0, 0, 32, 0, .ro, false⟩
/-- LAT_SNAP_IDX [31:0], R229 (RW). -/
def LAT_SNAP_IDX_TARGET : Field :=
  ⟨0x0C1, 0x04C, 0, 0, 32, 0, .rw, false⟩
/-- LAT_GOP [31:31], R229 (RO). -/
def LAT_GOP_BUSY : Field :=
  ⟨0x0C1, 0x050, 0, 31, 1, 0, .ro, false⟩
/-- LAT_GOP [15:8], R229 (WO). -/
def LAT_GOP_KEY : Field :=
  ⟨0x0C1, 0x050, 0, 8, 8, 0, .wo, true⟩
/-- LAT_GOP [3:0], R229 (WO). -/
def LAT_GOP_OP : Field :=
  ⟨0x0C1, 0x050, 0, 0, 4, 0, .wo, true⟩
/-- LAT_SNAP_TIME [19:0], R229 (RO). -/
def LAT_SNAP_TIME_US : Field :=
  ⟨0x0C1, 0x054, 0, 0, 20, 0, .ro, false⟩
/-- LAT_SNAP_SEL [16:16], R229 (RW). -/
def LAT_SNAP_SEL_DOCK : Field :=
  ⟨0x0C1, 0x058, 0, 16, 1, 0, .rw, false⟩
/-- LAT_SNAP_SEL [14:8], R229 (RW). -/
def LAT_SNAP_SEL_NODE : Field :=
  ⟨0x0C1, 0x058, 0, 8, 7, 0, .rw, false⟩
/-- LAT_SNAP_SEL [7:0], R229 (RW). -/
def LAT_SNAP_SEL_WORD : Field :=
  ⟨0x0C1, 0x058, 0, 0, 8, 0, .rw, false⟩
/-- LAT_SNAP_DATA_LO [31:0], R229 (RO). -/
def LAT_SNAP_DATA_LO_DATA : Field :=
  ⟨0x0C1, 0x05C, 0, 0, 32, 0, .ro, false⟩
/-- LAT_SNAP_DATA_HI [7:0], R229 (RO). -/
def LAT_SNAP_DATA_HI_DATA : Field :=
  ⟨0x0C1, 0x060, 0, 0, 8, 0, .ro, false⟩

/-! ### Page block `evp` -/

/-- EVP_CFG [31:28], R230 (RWL). -/
def EVP_CFG_FUNC (i : Nat) : Field :=
  ⟨0x0C2, (0x040 + 4 * i), 0, 28, 4, 0, .rwl, false⟩
/-- EVP_CFG [27:27], R230 (RWL). -/
def EVP_CFG_POL (i : Nat) : Field :=
  ⟨0x0C2, (0x040 + 4 * i), 0, 27, 1, 0, .rwl, false⟩
/-- EVP_CFG [26:25], R230 (RWL). -/
def EVP_CFG_EDGE (i : Nat) : Field :=
  ⟨0x0C2, (0x040 + 4 * i), 0, 25, 2, 1, .rwl, false⟩
/-- EVP_CFG [24:16], R230 (RWL). -/
def EVP_CFG_FILTER (i : Nat) : Field :=
  ⟨0x0C2, (0x040 + 4 * i), 0, 16, 9, 0, .rwl, false⟩
/-- EVP_CFG [0:0], R230 (RWL). -/
def EVP_CFG_LEVEL (i : Nat) : Field :=
  ⟨0x0C2, (0x040 + 4 * i), 0, 0, 1, 0, .rwl, false⟩
/-- EVP_TS_LEVEL [31:16], R230 (RO). -/
def EVP_TS_LEVEL_OVF : Field :=
  ⟨0x0C2, 0x080, 0, 16, 16, 0, .ro, false⟩
/-- EVP_TS_LEVEL [6:0], R230 (RO). -/
def EVP_TS_LEVEL_COUNT : Field :=
  ⟨0x0C2, 0x080, 0, 0, 7, 0, .ro, false⟩
/-- EVP_TS_NS [29:0], R230 (RC). -/
def EVP_TS_NS_NS : Field :=
  ⟨0x0C2, 0x084, 0, 0, 30, 0, .rc, false⟩
/-- EVP_TS_SEC_LO [31:0], R230 (RO). -/
def EVP_TS_SEC_LO_SEC : Field :=
  ⟨0x0C2, 0x088, 0, 0, 32, 0, .ro, false⟩
/-- EVP_TS_SEC_HI [31:31], R230 (RO). -/
def EVP_TS_SEC_HI_VALID : Field :=
  ⟨0x0C2, 0x08C, 0, 31, 1, 0, .ro, false⟩
/-- EVP_TS_SEC_HI [25:25], R230 (RO). -/
def EVP_TS_SEC_HI_KEEPER : Field :=
  ⟨0x0C2, 0x08C, 0, 25, 1, 0, .ro, false⟩
/-- EVP_TS_SEC_HI [24:24], R230 (RO). -/
def EVP_TS_SEC_HI_RISE : Field :=
  ⟨0x0C2, 0x08C, 0, 24, 1, 0, .ro, false⟩
/-- EVP_TS_SEC_HI [23:20], R230 (RO). -/
def EVP_TS_SEC_HI_PIN : Field :=
  ⟨0x0C2, 0x08C, 0, 20, 4, 0, .ro, false⟩
/-- EVP_TS_SEC_HI [15:0], R230 (RO). -/
def EVP_TS_SEC_HI_SEC : Field :=
  ⟨0x0C2, 0x08C, 0, 0, 16, 0, .ro, false⟩
/-- EVP_PPS [18:0], R230 (RWL). -/
def EVP_PPS_WIDTH : Field :=
  ⟨0x0C2, 0x090, 0, 0, 19, 0x3e8, .rwl, false⟩
/-- EVP_IRIG [23:8], R230 (RWL). -/
def EVP_IRIG_LOCAL_OFS : Field :=
  ⟨0x0C2, 0x094, 0, 8, 16, 0, .rwl, false⟩
/-- EVP_IRIG [4:4], R230 (RWL). -/
def EVP_IRIG_LOCAL : Field :=
  ⟨0x0C2, 0x094, 0, 4, 1, 0, .rwl, false⟩
/-- EVP_IRIG [3:3], R230 (RWL). -/
def EVP_IRIG_CF_1344 : Field :=
  ⟨0x0C2, 0x094, 0, 3, 1, 0, .rwl, false⟩
/-- EVP_IRIG [2:0], R230 (RWL). -/
def EVP_IRIG_CODE : Field :=
  ⟨0x0C2, 0x094, 0, 0, 3, 0, .rwl, false⟩
/-- EVP_CTL [0:0], R230 (RWL). -/
def EVP_CTL_QUIET : Field :=
  ⟨0x0C2, 0x008, 0, 0, 1, 1, .rwl, false⟩

/-! ### Page block `smp` -/

/-- SMP_SEL [31:28], R257 (RW). -/
def SMP_SEL_KIND : Field :=
  ⟨0x0D0, 0x040, 0, 28, 4, 0, .rw, false⟩
/-- SMP_SEL [25:16], R257 (RW). -/
def SMP_SEL_INDEX : Field :=
  ⟨0x0D0, 0x040, 0, 16, 10, 0, .rw, false⟩
/-- SMP_SEL [5:0], R257 (RW). -/
def SMP_SEL_ENTRY : Field :=
  ⟨0x0D0, 0x040, 0, 0, 6, 0, .rw, false⟩
/-- SMP_DATA [31:0], R257 (RW). -/
def SMP_DATA_WORD (i : Nat) : Field :=
  ⟨0x0D0, (0x044 + 4 * i), 0, 0, 32, 0, .rw, false⟩
/-- SMP_CMD [31:31], R257 (RO). -/
def SMP_CMD_BUSY : Field :=
  ⟨0x0D0, 0x054, 0, 31, 1, 0, .ro, false⟩
/-- SMP_CMD [30:28], R257 (RO). -/
def SMP_CMD_STATUS : Field :=
  ⟨0x0D0, 0x054, 0, 28, 3, 0, .ro, false⟩
/-- SMP_CMD [3:0], R257 (WO). -/
def SMP_CMD_OP : Field :=
  ⟨0x0D0, 0x054, 0, 0, 4, 0, .wo, true⟩
/-- SMP_SUBST [31:16], R257 (RO). -/
def SMP_SUBST_FAILED : Field :=
  ⟨0x0D0, 0x058, 0, 16, 16, 0, .ro, false⟩
/-- SMP_SUBST [15:0], R257 (RO). -/
def SMP_SUBST_HELD : Field :=
  ⟨0x0D0, 0x058, 0, 0, 16, 0, .ro, false⟩
/-- SMP_XCHK [31:26], R257 (RO). -/
def SMP_XCHK_COMP : Field :=
  ⟨0x0D0, 0x05C, 0, 26, 6, 0, .ro, false⟩
/-- SMP_XCHK [25:20], R257 (RO). -/
def SMP_XCHK_CH : Field :=
  ⟨0x0D0, 0x05C, 0, 20, 6, 0, .ro, false⟩
/-- SMP_XCHK [15:0], R257 (RO). -/
def SMP_XCHK_COUNT : Field :=
  ⟨0x0D0, 0x05C, 0, 0, 16, 0, .ro, false⟩
/-- SMP_SAT [31:16], R257 (RO). -/
def SMP_SAT_OUT : Field :=
  ⟨0x0D0, 0x060, 0, 16, 16, 0, .ro, false⟩
/-- SMP_SAT [15:0], R257 (RO). -/
def SMP_SAT_IN : Field :=
  ⟨0x0D0, 0x060, 0, 0, 16, 0, .ro, false⟩
/-- SMP_STAT [22:16], R257 (RO). -/
def SMP_STAT_COMP_ACTIVE : Field :=
  ⟨0x0D0, 0x00C, 0, 16, 7, 0, .ro, false⟩
/-- SMP_STAT [9:0], R257 (RO). -/
def SMP_STAT_SV_ACTIVE : Field :=
  ⟨0x0D0, 0x00C, 0, 0, 10, 0, .ro, false⟩

/-! ### Page block `exp` -/

/-- EXP_CTL [4:4], R289 (WO). -/
def EXP_CTL_FORCE_MISMATCH : Field :=
  ⟨0x0D8, 0x008, 0, 4, 1, 0, .wo, true⟩
/-- EXP_CTL [3:3], R289 (WO). -/
def EXP_CTL_RESTORE : Field :=
  ⟨0x0D8, 0x008, 0, 3, 1, 0, .wo, true⟩
/-- EXP_CTL [2:2], R289 (RWL). -/
def EXP_CTL_SPARE_EN : Field :=
  ⟨0x0D8, 0x008, 0, 2, 1, 1, .rwl, false⟩
/-- EXP_CTL [1:1], R289 (RWL). -/
def EXP_CTL_POLICY : Field :=
  ⟨0x0D8, 0x008, 0, 1, 1, 0, .rwl, false⟩
/-- EXP_STAT [31:16], R290 (RO). -/
def EXP_STAT_CKPT_INDEX : Field :=
  ⟨0x0D8, 0x00C, 0, 16, 16, 0, .ro, false⟩
/-- EXP_STAT [11:10], R290 (RO). -/
def EXP_STAT_ENGINES : Field :=
  ⟨0x0D8, 0x00C, 0, 10, 2, 0, .ro, false⟩
/-- EXP_STAT [9:9], R290 (RO). -/
def EXP_STAT_CKPT_BANK : Field :=
  ⟨0x0D8, 0x00C, 0, 9, 1, 0, .ro, false⟩
/-- EXP_STAT [8:0], R290 (RO). -/
def EXP_STAT_JOURNAL : Field :=
  ⟨0x0D8, 0x00C, 0, 0, 9, 0, .ro, false⟩
/-- EXP_SEL [31:28], R292 (RW). -/
def EXP_SEL_KIND : Field :=
  ⟨0x0D8, 0x040, 0, 28, 4, 0, .rw, false⟩
/-- EXP_SEL [7:0], R292 (RW). -/
def EXP_SEL_INDEX : Field :=
  ⟨0x0D8, 0x040, 0, 0, 8, 0, .rw, false⟩
/-- EXP_DATA [31:0], R292 (RW). -/
def EXP_DATA_WORD (i : Nat) : Field :=
  ⟨0x0D8, (0x044 + 4 * i), 0, 0, 32, 0, .rw, false⟩
/-- EXP_CMD [31:31], R292 (RO). -/
def EXP_CMD_BUSY : Field :=
  ⟨0x0D8, 0x050, 0, 31, 1, 0, .ro, false⟩
/-- EXP_CMD [30:28], R292 (RO). -/
def EXP_CMD_STATUS : Field :=
  ⟨0x0D8, 0x050, 0, 28, 3, 0, .ro, false⟩
/-- EXP_CMD [3:0], R292 (WO). -/
def EXP_CMD_OP : Field :=
  ⟨0x0D8, 0x050, 0, 0, 4, 0, .wo, true⟩
/-- EXP_MM [31:29], R292 (RO). -/
def EXP_MM_POINT : Field :=
  ⟨0x0D8, 0x054, 0, 29, 3, 0, .ro, false⟩
/-- EXP_MM [28:24], R292 (RO). -/
def EXP_MM_PORT : Field :=
  ⟨0x0D8, 0x054, 0, 24, 5, 0, .ro, false⟩
/-- EXP_MM [23:12], R292 (RO). -/
def EXP_MM_TUNNEL : Field :=
  ⟨0x0D8, 0x054, 0, 12, 12, 0, .ro, false⟩
/-- EXP_MM [3:0], R292 (RO). -/
def EXP_MM_WORD : Field :=
  ⟨0x0D8, 0x054, 0, 0, 4, 0, .ro, false⟩
/-- EXP_TAKEOVER [31:16], R292 (RO). -/
def EXP_TAKEOVER_DUAL : Field :=
  ⟨0x0D8, 0x058, 0, 16, 16, 0, .ro, false⟩
/-- EXP_TAKEOVER [15:0], R292 (RO). -/
def EXP_TAKEOVER_TOTAL : Field :=
  ⟨0x0D8, 0x058, 0, 0, 16, 0, .ro, false⟩
/-- EXP_COUNT [31:16], R292 (RO). -/
def EXP_COUNT_MISMATCH : Field :=
  ⟨0x0D8, 0x05C, 0, 16, 16, 0, .ro, false⟩
/-- EXP_COUNT [15:8], R292 (RO). -/
def EXP_COUNT_TAKEOVER : Field :=
  ⟨0x0D8, 0x05C, 0, 8, 8, 0, .ro, false⟩
/-- EXP_COUNT [7:0], R292 (RO). -/
def EXP_COUNT_RESTORE : Field :=
  ⟨0x0D8, 0x05C, 0, 0, 8, 0, .ro, false⟩
/-- EXP_DROP [31:24], R292 (RO). -/
def EXP_DROP_BAD_OP : Field :=
  ⟨0x0D8, 0x060, 0, 24, 8, 0, .ro, false⟩
/-- EXP_DROP [23:16], R292 (RO). -/
def EXP_DROP_SPACING : Field :=
  ⟨0x0D8, 0x060, 0, 16, 8, 0, .ro, false⟩
/-- EXP_DROP [15:8], R292 (RO). -/
def EXP_DROP_INACTIVE : Field :=
  ⟨0x0D8, 0x060, 0, 8, 8, 0, .ro, false⟩
/-- EXP_DROP [7:0], R292 (RO). -/
def EXP_DROP_QFULL : Field :=
  ⟨0x0D8, 0x060, 0, 0, 8, 0, .ro, false⟩
/-- EXP_DEDUP [31:16], R292 (RO). -/
def EXP_DEDUP_DUP : Field :=
  ⟨0x0D8, 0x064, 0, 16, 16, 0, .ro, false⟩
/-- EXP_DEDUP [15:8], R292 (RO). -/
def EXP_DEDUP_STALE : Field :=
  ⟨0x0D8, 0x064, 0, 8, 8, 0, .ro, false⟩
/-- EXP_DEDUP [7:0], R292 (RO). -/
def EXP_DEDUP_OLD_EVENT : Field :=
  ⟨0x0D8, 0x064, 0, 0, 8, 0, .ro, false⟩
/-- EXP_QSEL [4:0], R292 (RW). -/
def EXP_QSEL_PORT : Field :=
  ⟨0x0D8, 0x068, 0, 0, 5, 0, .rw, false⟩
/-- EXP_QMAX [23:16], R292 (RO). -/
def EXP_QMAX_FANIN (b : Nat) : Field :=
  ⟨0x0D8, 0x06C, b, 16, 8, 0, .ro, false⟩
/-- EXP_QMAX [7:0], R292 (RC). -/
def EXP_QMAX_QMAX (b : Nat) : Field :=
  ⟨0x0D8, 0x06C, b, 0, 8, 0, .rc, false⟩
/-- EXP_SUPER [31:16], R292 (RO). -/
def EXP_SUPER_MISSES : Field :=
  ⟨0x0D8, 0x070, 0, 16, 16, 0, .ro, false⟩
/-- EXP_SUPER [7:0], R292 (RO). -/
def EXP_SUPER_GROUP : Field :=
  ⟨0x0D8, 0x070, 0, 0, 8, 0, .ro, false⟩

/-! ### Page block `frm` -/

/-- FRM_CTL [9:8], R342 (RWL). -/
def FRM_CTL_RED_MODE : Field :=
  ⟨0x0E0, 0x008, 0, 8, 2, 0, .rwl, false⟩
/-- FRM_CTL [7:7], R342 (RWL). -/
def FRM_CTL_LEARN_EN : Field :=
  ⟨0x0E0, 0x008, 0, 7, 1, 1, .rwl, false⟩
/-- FRM_STAT [29:16], R342 (RO). -/
def FRM_STAT_MAC_USED : Field :=
  ⟨0x0E0, 0x00C, 0, 16, 14, 0, .ro, false⟩
/-- FRM_STAT [7:0], R342 (RO). -/
def FRM_STAT_PROXY : Field :=
  ⟨0x0E0, 0x00C, 0, 0, 8, 0, .ro, false⟩
/-- FRM_MAX [13:0], R343 (RWL). -/
def FRM_MAX_MAX_FRAME : Field :=
  ⟨0x0E0, 0x040, 0, 0, 14, 0x5f2, .rwl, false⟩
/-- FRM_AGE [19:0], R343 (RWL). -/
def FRM_AGE_SEC : Field :=
  ⟨0x0E0, 0x044, 0, 0, 20, 300, .rwl, false⟩
/-- FRM_SUPERV [15:0], R343 (RWL). -/
def FRM_SUPERV_LIFECHECK : Field :=
  ⟨0x0E0, 0x048, 0, 0, 16, 0x7d0, .rwl, false⟩
/-- FRM_SEL [31:28], R343 (RW). -/
def FRM_SEL_KIND : Field :=
  ⟨0x0E0, 0x04C, 0, 28, 4, 0, .rw, false⟩
/-- FRM_SEL [27:16], R343 (RW). -/
def FRM_SEL_INDEX : Field :=
  ⟨0x0E0, 0x04C, 0, 16, 12, 0, .rw, false⟩
/-- FRM_SEL [2:0], R343 (RW). -/
def FRM_SEL_ENTRY : Field :=
  ⟨0x0E0, 0x04C, 0, 0, 3, 0, .rw, false⟩
/-- FRM_DATA [31:0], R343 (RW). -/
def FRM_DATA_WORD (i : Nat) : Field :=
  ⟨0x0E0, (0x050 + 4 * i), 0, 0, 32, 0, .rw, false⟩
/-- FRM_CMD [31:31], R343 (RO). -/
def FRM_CMD_BUSY : Field :=
  ⟨0x0E0, 0x060, 0, 31, 1, 0, .ro, false⟩
/-- FRM_CMD [30:28], R343 (RO). -/
def FRM_CMD_STATUS : Field :=
  ⟨0x0E0, 0x060, 0, 28, 3, 0, .ro, false⟩
/-- FRM_CMD [3:0], R343 (WO). -/
def FRM_CMD_OP : Field :=
  ⟨0x0E0, 0x060, 0, 0, 4, 0, .wo, true⟩
/-- FRM_RED_CNT [31:16], R343 (RO). -/
def FRM_RED_CNT_EVICT : Field :=
  ⟨0x0E0, 0x064, 0, 16, 16, 0, .ro, false⟩
/-- FRM_RED_CNT [15:0], R343 (RO). -/
def FRM_RED_CNT_WRONG_LAN : Field :=
  ⟨0x0E0, 0x064, 0, 0, 16, 0, .ro, false⟩
/-- FRM_DROP [31:16], R343 (RO). -/
def FRM_DROP_TUN : Field :=
  ⟨0x0E0, 0x068, 0, 16, 16, 0, .ro, false⟩
/-- FRM_DROP [15:0], R343 (RO). -/
def FRM_DROP_FILTER : Field :=
  ⟨0x0E0, 0x068, 0, 0, 16, 0, .ro, false⟩
/-- FRM_AUTH [15:0], R343 (RO). -/
def FRM_AUTH_FAIL : Field :=
  ⟨0x0E0, 0x06C, 0, 0, 16, 0, .ro, false⟩
/-- FRM_LEARN [15:0], R343 (RO). -/
def FRM_LEARN_FAIL : Field :=
  ⟨0x0E0, 0x070, 0, 0, 16, 0, .ro, false⟩

/-! ### Page block `frmsp` -/

/-- FRM_SP_CTL [5:4], R345 (RWL). -/
def FRM_SP_CTL_MODE (p : Nat) : Field :=
  ⟨(0x0E1 + p), 0x008, 0, 4, 2, 0, .rwl, false⟩
/-- FRM_SP_CTL [3:2], R345 (RWL). -/
def FRM_SP_CTL_RS (p : Nat) : Field :=
  ⟨(0x0E1 + p), 0x008, 0, 2, 2, 0, .rwl, false⟩
/-- FRM_SP_CTL [0:0], R345 (RWL). -/
def FRM_SP_CTL_GCL_EN (p : Nat) : Field :=
  ⟨(0x0E1 + p), 0x008, 0, 0, 1, 0, .rwl, true⟩
/-- FRM_SP_STAT [11:8], R345 (RO). -/
def FRM_SP_STAT_PTP_STATE (p : Nat) : Field :=
  ⟨(0x0E1 + p), 0x00C, 0, 8, 4, 0, .ro, false⟩
/-- FRM_SP_STAT [6:0], R345 (RO). -/
def FRM_SP_STAT_LINE (p : Nat) : Field :=
  ⟨(0x0E1 + p), 0x00C, 0, 0, 7, 0, .ro, false⟩
/-- FRM_SP_RX [31:0], R345 (RO). -/
def FRM_SP_RX_FRAMES (p : Nat) : Field :=
  ⟨(0x0E1 + p), 0x040, 0, 0, 32, 0, .ro, false⟩
/-- FRM_SP_TX [31:0], R345 (RO). -/
def FRM_SP_TX_FRAMES (p : Nat) : Field :=
  ⟨(0x0E1 + p), 0x044, 0, 0, 32, 0, .ro, false⟩
/-- FRM_SP_ERR [31:16], R345 (RO). -/
def FRM_SP_ERR_FCS (p : Nat) : Field :=
  ⟨(0x0E1 + p), 0x048, 0, 16, 16, 0, .ro, false⟩
/-- FRM_SP_ERR [15:0], R345 (RO). -/
def FRM_SP_ERR_OVERSIZE (p : Nat) : Field :=
  ⟨(0x0E1 + p), 0x048, 0, 0, 16, 0, .ro, false⟩
/-- FRM_SP_FEC [31:16], R345 (RO). -/
def FRM_SP_FEC_UNCORR (p : Nat) : Field :=
  ⟨(0x0E1 + p), 0x04C, 0, 16, 16, 0, .ro, false⟩
/-- FRM_SP_FEC [15:0], R345 (RO). -/
def FRM_SP_FEC_CORR (p : Nat) : Field :=
  ⟨(0x0E1 + p), 0x04C, 0, 0, 16, 0, .ro, false⟩
/-- FRM_SP_DROP [31:16], R345 (RO). -/
def FRM_SP_DROP_TX (p : Nat) : Field :=
  ⟨(0x0E1 + p), 0x050, 0, 16, 16, 0, .ro, false⟩
/-- FRM_SP_DROP [15:0], R345 (RO). -/
def FRM_SP_DROP_PTP (p : Nat) : Field :=
  ⟨(0x0E1 + p), 0x050, 0, 0, 16, 0, .ro, false⟩
/-- FRM_SP_I2C [31:31], R345 (RO). -/
def FRM_SP_I2C_BUSY (p : Nat) : Field :=
  ⟨(0x0E1 + p), 0x054, 0, 31, 1, 0, .ro, false⟩
/-- FRM_SP_I2C [30:30], R345 (RO). -/
def FRM_SP_I2C_NACK (p : Nat) : Field :=
  ⟨(0x0E1 + p), 0x054, 0, 30, 1, 0, .ro, false⟩
/-- FRM_SP_I2C [24:24], R345 (RW). -/
def FRM_SP_I2C_RD (p : Nat) : Field :=
  ⟨(0x0E1 + p), 0x054, 0, 24, 1, 0, .rw, true⟩
/-- FRM_SP_I2C [23:16], R345 (RW). -/
def FRM_SP_I2C_DEV (p : Nat) : Field :=
  ⟨(0x0E1 + p), 0x054, 0, 16, 8, 0, .rw, true⟩
/-- FRM_SP_I2C [15:8], R345 (RW). -/
def FRM_SP_I2C_ADDR (p : Nat) : Field :=
  ⟨(0x0E1 + p), 0x054, 0, 8, 8, 0, .rw, true⟩
/-- FRM_SP_I2C [7:0], R345 (RW). -/
def FRM_SP_I2C_DATA (p : Nat) : Field :=
  ⟨(0x0E1 + p), 0x054, 0, 0, 8, 0, .rw, true⟩
/-- FRM_SP_GCL_ADMIN [24:16], R345 (RW). -/
def FRM_SP_GCL_ADMIN_LEN (p : Nat) : Field :=
  ⟨(0x0E1 + p), 0x058, 0, 16, 9, 1, .rw, true⟩
/-- FRM_SP_GCL_ADMIN [2:0], R345 (RW). -/
def FRM_SP_GCL_ADMIN_LOG2M (p : Nat) : Field :=
  ⟨(0x0E1 + p), 0x058, 0, 0, 3, 0, .rw, true⟩
/-- FRM_SP_GCL_CHANGE [31:0], R345 (RW). -/
def FRM_SP_GCL_CHANGE_INDEX (p : Nat) : Field :=
  ⟨(0x0E1 + p), 0x05C, 0, 0, 32, 0, .rw, true⟩
/-- FRM_SP_GCL_CMD [31:31], R345 (RO). -/
def FRM_SP_GCL_CMD_PENDING (p : Nat) : Field :=
  ⟨(0x0E1 + p), 0x060, 0, 31, 1, 0, .ro, false⟩
/-- FRM_SP_GCL_CMD [30:28], R345 (RO). -/
def FRM_SP_GCL_CMD_STATUS (p : Nat) : Field :=
  ⟨(0x0E1 + p), 0x060, 0, 28, 3, 0, .ro, false⟩
/-- FRM_SP_GCL_CMD [1:1], R345 (WO). -/
def FRM_SP_GCL_CMD_CANCEL (p : Nat) : Field :=
  ⟨(0x0E1 + p), 0x060, 0, 1, 1, 0, .wo, true⟩
/-- FRM_SP_GCL_CMD [0:0], R345 (WO). -/
def FRM_SP_GCL_CMD_COMMIT (p : Nat) : Field :=
  ⟨(0x0E1 + p), 0x060, 0, 0, 1, 0, .wo, true⟩
/-- FRM_SP_GCL_RDSEL [7:0], R345 (RW). -/
def FRM_SP_GCL_RDSEL_ENTRY (p : Nat) : Field :=
  ⟨(0x0E1 + p), 0x064, 0, 0, 8, 0, .rw, false⟩

/-! ### Page block `win` -/

/-- WIN_CTL [2:2], R381 (RWL). -/
def WIN_CTL_EP_EN : Field :=
  ⟨0x0F0, 0x008, 0, 2, 1, 1, .rwl, false⟩
/-- WIN_CTL [1:1], R381 (RWL). -/
def WIN_CTL_PF_EN : Field :=
  ⟨0x0F0, 0x008, 0, 1, 1, 1, .rwl, false⟩
/-- WIN_STAT [24:16], R381 (RO). -/
def WIN_STAT_NP_OUT : Field :=
  ⟨0x0F0, 0x00C, 0, 16, 9, 0, .ro, false⟩
/-- WIN_STAT [8:0], R381 (RO). -/
def WIN_STAT_RW_LEVEL : Field :=
  ⟨0x0F0, 0x00C, 0, 0, 9, 0, .ro, false⟩
/-- WIN_SEL [31:28], R383 (RW). -/
def WIN_SEL_KIND : Field :=
  ⟨0x0F0, 0x040, 0, 28, 4, 0, .rw, false⟩
/-- WIN_SEL [7:0], R383 (RW). -/
def WIN_SEL_INDEX : Field :=
  ⟨0x0F0, 0x040, 0, 0, 8, 0, .rw, false⟩
/-- WIN_DATA [31:0], R383 (RW). -/
def WIN_DATA_WORD (i : Nat) : Field :=
  ⟨0x0F0, (0x044 + 4 * i), 0, 0, 32, 0, .rw, false⟩
/-- WIN_CMD [31:31], R383 (RO). -/
def WIN_CMD_BUSY : Field :=
  ⟨0x0F0, 0x054, 0, 31, 1, 0, .ro, false⟩
/-- WIN_CMD [30:28], R383 (RO). -/
def WIN_CMD_STATUS : Field :=
  ⟨0x0F0, 0x054, 0, 28, 3, 0, .ro, false⟩
/-- WIN_CMD [3:0], R383 (WO). -/
def WIN_CMD_OP : Field :=
  ⟨0x0F0, 0x054, 0, 0, 4, 0, .wo, true⟩
/-- WIN_TIMING [25:16], R383 (RWL). -/
def WIN_TIMING_PF_AGE : Field :=
  ⟨0x0F0, 0x058, 0, 16, 10, 100, .rwl, false⟩
/-- WIN_TIMING [9:0], R383 (RWL). -/
def WIN_TIMING_RD_TIMEOUT : Field :=
  ⟨0x0F0, 0x058, 0, 0, 10, 10, .rwl, false⟩
/-- WIN_RW_CTL [24:16], R383 (RWL). -/
def WIN_RW_CTL_THR : Field :=
  ⟨0x0F0, 0x05C, 0, 16, 9, 192, .rwl, false⟩
/-- WIN_RW_CTL [3:0], R383 (RWL). -/
def WIN_RW_CTL_HINT : Field :=
  ⟨0x0F0, 0x05C, 0, 0, 4, 3, .rwl, false⟩
/-- WIN_SE_CAPT_LO [31:0], R383 (RO). -/
def WIN_SE_CAPT_LO_ADDR : Field :=
  ⟨0x0F0, 0x060, 0, 0, 32, 0, .ro, false⟩
/-- WIN_SE_CAPT_HI [7:0], R383 (RO). -/
def WIN_SE_CAPT_HI_ADDR : Field :=
  ⟨0x0F0, 0x064, 0, 0, 8, 0, .ro, false⟩
/-- WIN_SE_WIN [7:0], R383 (RO). -/
def WIN_SE_WIN_WINDOW : Field :=
  ⟨0x0F0, 0x068, 0, 0, 8, 0, .ro, false⟩
/-- WIN_ERR [31:16], R383 (RO). -/
def WIN_ERR_TIMEOUT : Field :=
  ⟨0x0F0, 0x06C, 0, 16, 16, 0, .ro, false⟩
/-- WIN_ERR [15:0], R383 (RO). -/
def WIN_ERR_UNMAPPED : Field :=
  ⟨0x0F0, 0x06C, 0, 0, 16, 0, .ro, false⟩
/-- WIN_ERR2 [31:16], R383 (RO). -/
def WIN_ERR2_LINK : Field :=
  ⟨0x0F0, 0x070, 0, 16, 16, 0, .ro, false⟩
/-- WIN_ERR2 [15:0], R383 (RO). -/
def WIN_ERR2_DOCK : Field :=
  ⟨0x0F0, 0x070, 0, 0, 16, 0, .ro, false⟩
/-- WIN_ERR3 [31:16], R383 (RO). -/
def WIN_ERR3_ACCESS : Field :=
  ⟨0x0F0, 0x074, 0, 16, 16, 0, .ro, false⟩
/-- WIN_ERR3 [15:0], R383 (RO). -/
def WIN_ERR3_LATE : Field :=
  ⟨0x0F0, 0x074, 0, 0, 16, 0, .ro, false⟩
/-- WIN_PF [31:16], R383 (RO). -/
def WIN_PF_HITS : Field :=
  ⟨0x0F0, 0x078, 0, 16, 16, 0, .ro, false⟩
/-- WIN_PF [15:0], R383 (RO). -/
def WIN_PF_SE_DROPS : Field :=
  ⟨0x0F0, 0x078, 0, 0, 16, 0, .ro, false⟩
/-- WIN_RW [31:16], R383 (RO). -/
def WIN_RW_BACKOFF : Field :=
  ⟨0x0F0, 0x07C, 0, 16, 16, 0, .ro, false⟩
/-- WIN_RW [15:0], R383 (RO). -/
def WIN_RW_DISCARD : Field :=
  ⟨0x0F0, 0x07C, 0, 0, 16, 0, .ro, false⟩
/-- WIN_RW2 [15:0], R383 (RO). -/
def WIN_RW2_REFUSE : Field :=
  ⟨0x0F0, 0x080, 0, 0, 16, 0, .ro, false⟩

/-! ### Page block `pcie` -/

/-- WIN_PCIE_CTL [7:4], R384 (RWL). -/
def WIN_PCIE_CTL_MAX_WIDTH : Field :=
  ⟨0x0F1, 0x008, 0, 4, 4, 8, .rwl, false⟩
/-- WIN_PCIE_CTL [3:0], R384 (RWL). -/
def WIN_PCIE_CTL_MAX_SPEED : Field :=
  ⟨0x0F1, 0x008, 0, 0, 4, 4, .rwl, false⟩
/-- WIN_PCIE_STAT [13:13], R384 (RO). -/
def WIN_PCIE_STAT_LINK_UP : Field :=
  ⟨0x0F1, 0x00C, 0, 13, 1, 0, .ro, false⟩
/-- WIN_PCIE_STAT [12:12], R384 (RO). -/
def WIN_PCIE_STAT_L1 : Field :=
  ⟨0x0F1, 0x00C, 0, 12, 1, 0, .ro, false⟩
/-- WIN_PCIE_STAT [11:8], R384 (RO). -/
def WIN_PCIE_STAT_SPEED : Field :=
  ⟨0x0F1, 0x00C, 0, 8, 4, 0, .ro, false⟩
/-- WIN_PCIE_STAT [3:0], R384 (RO). -/
def WIN_PCIE_STAT_WIDTH : Field :=
  ⟨0x0F1, 0x00C, 0, 0, 4, 0, .ro, false⟩
/-- WIN_PCIE_CNT [31:16], R384 (RO). -/
def WIN_PCIE_CNT_LINK_DOWN : Field :=
  ⟨0x0F1, 0x040, 0, 16, 16, 0, .ro, false⟩
/-- WIN_PCIE_CNT [15:0], R384 (RO). -/
def WIN_PCIE_CNT_RECOVERY : Field :=
  ⟨0x0F1, 0x040, 0, 0, 16, 0, .ro, false⟩

/-! ### Page block `wint` -/

/-- WIN_INT_CNT [31:16], R385 (RO). -/
def WIN_INT_CNT_TIMEOUT : Field :=
  ⟨0x0F2, 0x140, 0, 16, 16, 0, .ro, false⟩
/-- WIN_INT_CNT [15:0], R385 (RO). -/
def WIN_INT_CNT_SKIP : Field :=
  ⟨0x0F2, 0x140, 0, 0, 16, 0, .ro, false⟩
/-- WIN_INT_PEND [31:0], R385 (W1C). -/
def WIN_INT_PEND_PEND (i : Nat) : Field :=
  ⟨0x0F2, (0x040 + 4 * i), 0, 0, 32, 0, .w1c, false⟩

/-! ### Page block `per` -/

/-- PER_CTL [2:0], R415 (RWL). -/
def PER_CTL_SOF_DELAY : Field :=
  ⟨0x100, 0x008, 0, 0, 3, 2, .rwl, false⟩
/-- PER_STAT [22:16], R415 (RO). -/
def PER_STAT_ADDR_USED : Field :=
  ⟨0x100, 0x00C, 0, 16, 7, 0, .ro, false⟩
/-- PER_STAT [6:0], R415 (RO). -/
def PER_STAT_DOCKS : Field :=
  ⟨0x100, 0x00C, 0, 0, 7, 0, .ro, false⟩
/-- PER_TIMING [6:0], R415 (RWL). -/
def PER_TIMING_XFER_TO : Field :=
  ⟨0x100, 0x040, 0, 0, 7, 10, .rwl, false⟩
/-- PER_SEL [9:8], R415 (RW). -/
def PER_SEL_PORT : Field :=
  ⟨0x100, 0x044, 0, 8, 2, 0, .rw, false⟩
/-- PER_SEL [5:0], R415 (RW). -/
def PER_SEL_DOCK : Field :=
  ⟨0x100, 0x044, 0, 0, 6, 0, .rw, false⟩
/-- PER_PORT [11:8], R415 (RO). -/
def PER_PORT_EPOCH (b : Nat) : Field :=
  ⟨0x100, 0x048, b, 8, 4, 0, .ro, false⟩
/-- PER_PORT [5:4], R415 (RO). -/
def PER_PORT_SPEED (b : Nat) : Field :=
  ⟨0x100, 0x048, b, 4, 2, 0, .ro, false⟩
/-- PER_PORT [2:0], R415 (RO). -/
def PER_PORT_STATE (b : Nat) : Field :=
  ⟨0x100, 0x048, b, 0, 3, 0, .ro, false⟩
/-- PER_CNT1 [31:16], R415 (RO). -/
def PER_CNT1_XFER_TO : Field :=
  ⟨0x100, 0x04C, 0, 16, 16, 0, .ro, false⟩
/-- PER_CNT1 [15:0], R415 (RO). -/
def PER_CNT1_STALE : Field :=
  ⟨0x100, 0x04C, 0, 0, 16, 0, .ro, false⟩
/-- PER_CNT2 [31:16], R415 (RO). -/
def PER_CNT2_UNDERRUN : Field :=
  ⟨0x100, 0x050, 0, 16, 16, 0, .ro, false⟩
/-- PER_CNT2 [15:0], R415 (RO). -/
def PER_CNT2_BAD : Field :=
  ⟨0x100, 0x050, 0, 0, 16, 0, .ro, false⟩
/-- PER_WAKE [31:16], R415 (RO). -/
def PER_WAKE_COINCIDENT : Field :=
  ⟨0x100, 0x054, 0, 16, 16, 0, .ro, false⟩
/-- PER_WAKE [15:0], R415 (RO). -/
def PER_WAKE_WAKES : Field :=
  ⟨0x100, 0x054, 0, 0, 16, 0, .ro, false⟩

/-! ### Page block `usb` -/

/-- PER_USB_CTL [1:1], R416 (RWL). -/
def PER_USB_CTL_HS_DISABLE : Field :=
  ⟨0x101, 0x008, 0, 1, 1, 0, .rwl, false⟩
/-- PER_USB_CTL [0:0], R416 (RWL). -/
def PER_USB_CTL_CONNECT : Field :=
  ⟨0x101, 0x008, 0, 0, 1, 0, .rwl, true⟩
/-- PER_USB_STAT [19:19], R416 (RO). -/
def PER_USB_STAT_CONFIGURED : Field :=
  ⟨0x101, 0x00C, 0, 19, 1, 0, .ro, false⟩
/-- PER_USB_STAT [18:18], R416 (RO). -/
def PER_USB_STAT_SUSPENDED : Field :=
  ⟨0x101, 0x00C, 0, 18, 1, 0, .ro, false⟩
/-- PER_USB_STAT [17:16], R416 (RO). -/
def PER_USB_STAT_SPEED : Field :=
  ⟨0x101, 0x00C, 0, 16, 2, 0, .ro, false⟩
/-- PER_USB_STAT [10:0], R416 (RO). -/
def PER_USB_STAT_FRAME : Field :=
  ⟨0x101, 0x00C, 0, 0, 11, 0, .ro, false⟩
/-- PER_USB_SOF_LO [31:0], R416 (RO). -/
def PER_USB_SOF_LO_STAMP : Field :=
  ⟨0x101, 0x040, 0, 0, 32, 0, .ro, false⟩
/-- PER_USB_SOF_HI [7:0], R416 (RO). -/
def PER_USB_SOF_HI_STAMP : Field :=
  ⟨0x101, 0x044, 0, 0, 8, 0, .ro, false⟩
/-- PER_USB_CNT [31:16], R416 (RO). -/
def PER_USB_CNT_BUS_RESET : Field :=
  ⟨0x101, 0x048, 0, 16, 16, 0, .ro, false⟩
/-- PER_USB_CNT [15:0], R416 (RO). -/
def PER_USB_CNT_SOF_LOST : Field :=
  ⟨0x101, 0x048, 0, 0, 16, 0, .ro, false⟩

/-! ### Page block `dsp` -/

/-- DSP_CTL [1:1], R417 (RWL). -/
def DSP_CTL_EN_B : Field :=
  ⟨0x108, 0x008, 0, 1, 1, 0, .rwl, false⟩
/-- DSP_CTL [0:0], R417 (RWL). -/
def DSP_CTL_EN_A : Field :=
  ⟨0x108, 0x008, 0, 0, 1, 0, .rwl, false⟩
/-- DSP_STAT [23:23], R417 (RO). -/
def DSP_STAT_FEC_B : Field :=
  ⟨0x108, 0x00C, 0, 23, 1, 0, .ro, false⟩
/-- DSP_STAT [22:22], R417 (RO). -/
def DSP_STAT_FEC_A : Field :=
  ⟨0x108, 0x00C, 0, 22, 1, 0, .ro, false⟩
/-- DSP_STAT [21:21], R417 (RO). -/
def DSP_STAT_DSC_B : Field :=
  ⟨0x108, 0x00C, 0, 21, 1, 0, .ro, false⟩
/-- DSP_STAT [20:20], R417 (RO). -/
def DSP_STAT_DSC_A : Field :=
  ⟨0x108, 0x00C, 0, 20, 1, 0, .ro, false⟩
/-- DSP_STAT [19:18], R417 (RO). -/
def DSP_STAT_LANES_B : Field :=
  ⟨0x108, 0x00C, 0, 18, 2, 0, .ro, false⟩
/-- DSP_STAT [17:16], R417 (RO). -/
def DSP_STAT_LANES_A : Field :=
  ⟨0x108, 0x00C, 0, 16, 2, 0, .ro, false⟩
/-- DSP_STAT [13:11], R417 (RO). -/
def DSP_STAT_RATE_B : Field :=
  ⟨0x108, 0x00C, 0, 11, 3, 0, .ro, false⟩
/-- DSP_STAT [10:8], R417 (RO). -/
def DSP_STAT_RATE_A : Field :=
  ⟨0x108, 0x00C, 0, 8, 3, 0, .ro, false⟩
/-- DSP_STAT [7:4], R417 (RO). -/
def DSP_STAT_STATE_B : Field :=
  ⟨0x108, 0x00C, 0, 4, 4, 0, .ro, false⟩
/-- DSP_STAT [3:0], R417 (RO). -/
def DSP_STAT_STATE_A : Field :=
  ⟨0x108, 0x00C, 0, 0, 4, 0, .ro, false⟩
/-- DSP_BUDGET [15:0], R417 (RWL). -/
def DSP_BUDGET_UNITS : Field :=
  ⟨0x108, 0x040, 0, 0, 16, 0x7d0, .rwl, false⟩
/-- DSP_TIMING [25:16], R417 (RWL). -/
def DSP_TIMING_DELAY : Field :=
  ⟨0x108, 0x044, 0, 16, 10, 200, .rwl, false⟩
/-- DSP_TIMING [4:0], R417 (RWL). -/
def DSP_TIMING_AUX_TO : Field :=
  ⟨0x108, 0x044, 0, 0, 5, 4, .rwl, false⟩
/-- DSP_CFG_A [10:8], R417 (RWL). -/
def DSP_CFG_A_MAX_RATE : Field :=
  ⟨0x108, 0x048, 0, 8, 3, 4, .rwl, false⟩
/-- DSP_CFG_B [10:8], R417 (RWL). -/
def DSP_CFG_B_MAX_RATE : Field :=
  ⟨0x108, 0x04C, 0, 8, 3, 4, .rwl, false⟩
/-- DSP_CFG_A [5:4], R417 (RWL). -/
def DSP_CFG_A_MAX_LANES : Field :=
  ⟨0x108, 0x048, 0, 4, 2, 3, .rwl, false⟩
/-- DSP_CFG_B [5:4], R417 (RWL). -/
def DSP_CFG_B_MAX_LANES : Field :=
  ⟨0x108, 0x04C, 0, 4, 2, 3, .rwl, false⟩
/-- DSP_CFG_A [3:3], R417 (RWL). -/
def DSP_CFG_A_DSC_EN : Field :=
  ⟨0x108, 0x048, 0, 3, 1, 1, .rwl, false⟩
/-- DSP_CFG_B [3:3], R417 (RWL). -/
def DSP_CFG_B_DSC_EN : Field :=
  ⟨0x108, 0x04C, 0, 3, 1, 1, .rwl, false⟩
/-- DSP_CFG_A [1:0], R417 (RWL). -/
def DSP_CFG_A_PRIMARY : Field :=
  ⟨0x108, 0x048, 0, 0, 2, 0, .rwl, false⟩
/-- DSP_CFG_B [1:0], R417 (RWL). -/
def DSP_CFG_B_PRIMARY : Field :=
  ⟨0x108, 0x04C, 0, 0, 2, 0, .rwl, false⟩
/-- DSP_RES [31:16], R417 (RO). -/
def DSP_RES_RES_B : Field :=
  ⟨0x108, 0x058, 0, 16, 16, 0, .ro, false⟩
/-- DSP_RES [15:0], R417 (RO). -/
def DSP_RES_RES_A : Field :=
  ⟨0x108, 0x058, 0, 0, 16, 0, .ro, false⟩
/-- DSP_CNT_A [31:16], R417 (RO). -/
def DSP_CNT_A_UNDERRUN : Field :=
  ⟨0x108, 0x05C, 0, 16, 16, 0, .ro, false⟩
/-- DSP_CNT_B [31:16], R417 (RO). -/
def DSP_CNT_B_UNDERRUN : Field :=
  ⟨0x108, 0x060, 0, 16, 16, 0, .ro, false⟩
/-- DSP_CNT_A [15:0], R417 (RO). -/
def DSP_CNT_A_AUX_TIMEOUT : Field :=
  ⟨0x108, 0x05C, 0, 0, 16, 0, .ro, false⟩
/-- DSP_CNT_B [15:0], R417 (RO). -/
def DSP_CNT_B_AUX_TIMEOUT : Field :=
  ⟨0x108, 0x060, 0, 0, 16, 0, .ro, false⟩
/-- DSP_MIR_A [7:7], R417 (RW). -/
def DSP_MIR_A_VALID0 : Field :=
  ⟨0x108, 0x050, 0, 7, 1, 0, .rw, false⟩
/-- DSP_MIR_A [5:0], R417 (RW). -/
def DSP_MIR_A_DOCK0 : Field :=
  ⟨0x108, 0x050, 0, 0, 6, 0, .rw, false⟩
/-- DSP_MIR_B [7:7], R417 (RW). -/
def DSP_MIR_B_VALID0 : Field :=
  ⟨0x108, 0x054, 0, 7, 1, 0, .rw, false⟩
/-- DSP_MIR_B [5:0], R417 (RW). -/
def DSP_MIR_B_DOCK0 : Field :=
  ⟨0x108, 0x054, 0, 0, 6, 0, .rw, false⟩
/-- DSP_MIR_A [15:15], R417 (RW). -/
def DSP_MIR_A_VALID1 : Field :=
  ⟨0x108, 0x050, 0, 15, 1, 0, .rw, false⟩
/-- DSP_MIR_A [13:8], R417 (RW). -/
def DSP_MIR_A_DOCK1 : Field :=
  ⟨0x108, 0x050, 0, 8, 6, 0, .rw, false⟩
/-- DSP_MIR_B [15:15], R417 (RW). -/
def DSP_MIR_B_VALID1 : Field :=
  ⟨0x108, 0x054, 0, 15, 1, 0, .rw, false⟩
/-- DSP_MIR_B [13:8], R417 (RW). -/
def DSP_MIR_B_DOCK1 : Field :=
  ⟨0x108, 0x054, 0, 8, 6, 0, .rw, false⟩
/-- DSP_MIR_A [23:23], R417 (RW). -/
def DSP_MIR_A_VALID2 : Field :=
  ⟨0x108, 0x050, 0, 23, 1, 0, .rw, false⟩
/-- DSP_MIR_A [21:16], R417 (RW). -/
def DSP_MIR_A_DOCK2 : Field :=
  ⟨0x108, 0x050, 0, 16, 6, 0, .rw, false⟩
/-- DSP_MIR_B [23:23], R417 (RW). -/
def DSP_MIR_B_VALID2 : Field :=
  ⟨0x108, 0x054, 0, 23, 1, 0, .rw, false⟩
/-- DSP_MIR_B [21:16], R417 (RW). -/
def DSP_MIR_B_DOCK2 : Field :=
  ⟨0x108, 0x054, 0, 16, 6, 0, .rw, false⟩
/-- DSP_MIR_A [31:31], R417 (RW). -/
def DSP_MIR_A_VALID3 : Field :=
  ⟨0x108, 0x050, 0, 31, 1, 0, .rw, false⟩
/-- DSP_MIR_A [29:24], R417 (RW). -/
def DSP_MIR_A_DOCK3 : Field :=
  ⟨0x108, 0x050, 0, 24, 6, 0, .rw, false⟩
/-- DSP_MIR_B [31:31], R417 (RW). -/
def DSP_MIR_B_VALID3 : Field :=
  ⟨0x108, 0x054, 0, 31, 1, 0, .rw, false⟩
/-- DSP_MIR_B [29:24], R417 (RW). -/
def DSP_MIR_B_DOCK3 : Field :=
  ⟨0x108, 0x054, 0, 24, 6, 0, .rw, false⟩

/-! ### Page block `key` -/

/-- KEY_STAT [31:28], R444 (RO). -/
def KEY_STAT_LC : Field :=
  ⟨0x110, 0x00C, 0, 28, 4, 0, .ro, false⟩
/-- KEY_STAT [25:25], R444 (RO). -/
def KEY_STAT_BUSY : Field :=
  ⟨0x110, 0x00C, 0, 25, 1, 0, .ro, false⟩
/-- KEY_STAT [24:16], R444 (RO). -/
def KEY_STAT_KEYS : Field :=
  ⟨0x110, 0x00C, 0, 16, 9, 0, .ro, false⟩
/-- KEY_STAT [15:8], R444 (RO). -/
def KEY_STAT_BAD : Field :=
  ⟨0x110, 0x00C, 0, 8, 8, 0, .ro, false⟩
/-- KEY_SLOTMAP [31:0], R446 (RO). -/
def KEY_SLOTMAP_STATE (i : Nat) : Field :=
  ⟨0x110, (0x040 + 4 * i), 0, 0, 32, 0, .ro, false⟩
/-- KEY_DENY [31:24], R446 (RO). -/
def KEY_DENY_SLOT : Field :=
  ⟨0x110, 0x080, 0, 24, 8, 0, .ro, false⟩
/-- KEY_DENY [19:16], R446 (RO). -/
def KEY_DENY_CAUSE : Field :=
  ⟨0x110, 0x080, 0, 16, 4, 0, .ro, false⟩
/-- KEY_DENY [15:0], R446 (RO). -/
def KEY_DENY_COUNT : Field :=
  ⟨0x110, 0x080, 0, 0, 16, 0, .ro, false⟩
/-- KEY_INTEG [31:16], R446 (RO). -/
def KEY_INTEG_REPAIRED : Field :=
  ⟨0x110, 0x084, 0, 16, 16, 0, .ro, false⟩
/-- KEY_INTEG [15:0], R446 (RO). -/
def KEY_INTEG_MRAM_FAIL : Field :=
  ⟨0x110, 0x084, 0, 0, 16, 0, .ro, false⟩
/-- KEY_REVOKE [31:16], R446 (RO). -/
def KEY_REVOKE_CASCADE : Field :=
  ⟨0x110, 0x088, 0, 16, 16, 0, .ro, false⟩
/-- KEY_REVOKE [15:0], R446 (RO). -/
def KEY_REVOKE_STALE : Field :=
  ⟨0x110, 0x088, 0, 0, 16, 0, .ro, false⟩
/-- KEY_TUN [15:0], R446 (RO). -/
def KEY_TUN_TAG_FAIL : Field :=
  ⟨0x110, 0x08C, 0, 0, 16, 0, .ro, false⟩
/-- KEY_LINKMAP [31:0], R446 (RO). -/
def KEY_LINKMAP_SLOT (i : Nat) : Field :=
  ⟨0x110, (0x090 + 4 * i), 0, 0, 32, 0xffffffff, .ro, false⟩
/-- KEY_SCRUB [31:16], R446 (RO). -/
def KEY_SCRUB_PASSES : Field :=
  ⟨0x110, 0x0A4, 0, 16, 16, 0, .ro, false⟩
/-- KEY_SCRUB [7:0], R446 (RWL). -/
def KEY_SCRUB_INTERVAL : Field :=
  ⟨0x110, 0x0A4, 0, 0, 8, 24, .rwl, false⟩

/-- The fields of a page of block `chip` (instance `p`, selector `b`). -/
def chipFields (_p _b : Nat) : List Field :=
  [CHIP_CTL_ROLE_SET, CHIP_STAT_HUB, CHIP_STAT_ROLE, CHIP_ID_DEVICE, CHIP_ID_VENDOR, CHIP_REV_STEPPING] ++
  (List.range 4).map (fun i => CHIP_SERIAL_SERIAL i) ++
  [CHIP_USB_ID_PRODUCT, CHIP_USB_ID_VENDOR, CHIP_STRAP_STRAPS]

/-- The fields of a page of block `evt` (instance `p`, selector `b`). -/
def evtFields (_p _b : Nat) : List Field :=
  [EVT_CTL_LOG_ALL, EVT_STAT_LOG_LEVEL, EVT_STAT_MSIX_READY, EVT_LEVEL0_LEVEL, EVT_LEVEL1_LEVEL, EVT_ARM0_ARM, EVT_ARM1_ARM, EVT_NEXT_LO_NEXT, EVT_NEXT_HI_NEXT, EVT_LOG_STAT_OVF, EVT_LOG_SEQ_LO_SEQ, EVT_LOG_SEQ_HI_SEQ] ++
  [EVT_LOG_TIME_LO_TIME, EVT_LOG_TIME_HI_TIME, EVT_LOG_BITS_BITS, EVT_LOG_INFO_VALID, EVT_LOG_INFO_FORCED, EVT_LOG_INFO_POWER, EVT_LOG_INFO_NEW, EVT_LOG_INFO_PAGE]

/-- The fields of a page of block `rst` (instance `p`, selector `b`). -/
def rstFields (_p _b : Nat) : List Field :=
  [RST_STAT_RCNT, RST_STAT_RESTORING, RST_STAT_IMAGE, RST_CMD_KEY, RST_CMD_RESET, RST_CAUSE_PRIMARY, RST_CAUSE_RCNT, RST_CAUSE_SEEN, RST_CAUSE_TIME_LO_SHORT, RST_CAUSE_TIME_HI_SHORT, RST_WDOG_FEED, RST_WDOG_HOST_PERIOD] ++
  [RST_TIMING_RESTORE] ++
  (List.range 10).map (fun i => RST_COUNT_COUNT i)

/-- The fields of a page of block `cfg` (instance `p`, selector `b`). -/
def cfgFields (_p _b : Nat) : List Field :=
  [CFG_CTL_COMMIT, CFG_CTL_BEGIN, CFG_STAT_BUSY, CFG_STAT_STATUS, CFG_STAT_VALID, CFG_STAT_APPLIED, CFG_HDR1_FORMAT, CFG_HDR1_LEN, CFG_HDR3_TREE_TAG, CFG_WADDR_ADDR, CFG_WDATA_DATA, CFG_GEN_GEN] ++
  [CFG_ERR_FIRST, CFG_ERR_COUNT]

/-- The fields of a page of block `log` (instance `p`, selector `b`). -/
def logFields (_p _b : Nat) : List Field :=
  [LOG_CTL_INTERVAL, LOG_STAT_COMMITTING, LOG_STAT_BANK, LOG_SEL_INDEX, LOG_DATA_VALUE, LOG_GEN_GEN, LOG_CMD_BUSY, LOG_CMD_STATUS, LOG_CMD_KEY, LOG_CMD_OP, LOG_RING_SEL_ENTRY] ++
  (List.range 8).map (fun i => LOG_RING_WORD i) ++
  [LOG_RING_STAT_COUNT, LOG_RING_STAT_WRAPS]

/-- The fields of a page of block `diag` (instance `p`, selector `b`). -/
def diagFields (_p b : Nat) : List Field :=
  [DIAG_CMD_BUSY, DIAG_CMD_STATUS, DIAG_CMD_OP, DIAG_RESULT_ADDR, DIAG_RESULT_ERRORS, DIAG_PSEL_PORT, DIAG_PAT_CTL_CLEAR b, DIAG_PAT_CTL_CHECK b, DIAG_PAT_STAT_SYNC_B b, DIAG_PAT_STAT_SYNC_A b, DIAG_PAT_ERR_A_ERRORS b, DIAG_PAT_ERR_B_ERRORS b] ++
  [DIAG_PAT_GROUPS_LO_GROUPS b, DIAG_PAT_GROUPS_HI_GROUPS b]

/-- The fields of a page of block `pwr` (instance `p`, selector `b`). -/
def pwrFields (_p _b : Nat) : List Field :=
  [PWR_STAT_TEMP, PWR_STAT_PLL_LOCK, PWR_STAT_CLK_SRC, PWR_STAT_ENTRY, PWR_STAT_LEVEL, PWR_STAT_STATE, PWR_SLEEP_REQ, PWR_PERF_LEVEL, PWR_PERF_SRC, PWR_PERF_AUTO, PWR_BUDGET_W, PWR_THERM_WARN] ++
  [PWR_THERM_HOT, PWR_THERM_CRIT, PWR_GOV_EPW, PWR_GOV_GOV_EN, PWR_GOV_PERIOD, PWR_MEAS_P, PWR_MEAS_U, PWR_LAST_REFUSER_ABORTED, PWR_LAST_REFUSER_STATE, PWR_LAST_REFUSER_UNIT, PWR_TIMER_MS, PWR_WAKE_EN_EN] ++
  [PWR_COUNT_WAKES, PWR_COUNT_ENTRIES, PWR_COUNT_IGNORED] ++
  (List.range 17).map (fun i => PWR_REFUSE_ODD i) ++
  (List.range 17).map (fun i => PWR_REFUSE_EVEN i)

/-- The fields of a page of block `feed` (instance `p`, selector `b`). -/
def feedFields (_p _b : Nat) : List Field :=
  [FEED_CTL_SHED, FEED_CTL_EN_B, FEED_CTL_EN_A, FEED_STAT_WARN, FEED_STAT_CAUSE, FEED_STAT_FEED_B, FEED_STAT_FEED_A, FEED_THR_WARN, FEED_THR_OV, FEED_THR_UV, FEED_CB_FAST, FEED_CB_CB, FEED_CB_FT, FEED_INRUSH_P_LIM] ++
  [FEED_INRUSH_I_INR, FEED_INRUSH_T_START, FEED_SENSE_RS_B, FEED_SENSE_RS_A, FEED_MEAS_A_VIN, FEED_MEAS_B_VIN, FEED_MEAS_A_I, FEED_MEAS_B_I, FEED_BUS_MIN, FEED_BUS_V, FEED_TRIPS_A_CB, FEED_TRIPS_B_CB] ++
  [FEED_TRIPS_A_FAST, FEED_TRIPS_B_FAST, FEED_TRIPS_A_START_FAIL, FEED_TRIPS_B_START_FAIL, FEED_TRIPS_A_REVERSE, FEED_TRIPS_B_REVERSE, FEED_WARN_CNT_ASSERTS, FEED_WARN_CNT_RX, FEED_WARN_RX_ASSERT, FEED_WARN_RX_OH, FEED_WARN_RX_ORIGIN, FEED_OV_CNT_OV_B] ++
  [FEED_OV_CNT_OV_A]

/-- The fields of a page of block `tang` (instance `p`, selector `b`). -/
def tangFields (_p _b : Nat) : List Field :=
  [TAN_CTL_MAIN_EN, TAN_STAT_SRC_P, TAN_STAT_DB_ACTIVE, TAN_STAT_DB_PORT, TAN_BUDGET_W, TAN_RETRY_MS, TAN_DB_MIN_W]

/-- The fields of a page of block `lane` (instance `p`, selector `b`). -/
def laneFields (p _b : Nat) : List Field :=
  [LANE_CTL_LOOP p, LANE_CTL_MAX_LP p, LANE_CTL_SEED_OVR p, LANE_CTL_FORCE_COLD p, LANE_CTL_FORCE_RETRAIN p, LANE_CTL_ENABLE p, LANE_STAT_SKEW p, LANE_STAT_PARTNER_KIND p, LANE_STAT_CABLE p, LANE_STAT_POL_B p, LANE_STAT_POL_A p, LANE_STAT_REVERSED p] ++
  [LANE_STAT_LOCK_B p, LANE_STAT_LOCK_A p, LANE_STAT_STATE p, LANE_EQ_START_OVR p, LANE_EQ_START_PRESET p, LANE_EQ_TX_POST p, LANE_EQ_TX_PRE p, LANE_EQ_RX_POST p, LANE_EQ_RX_PRE p, LANE_SEED_A_SEED p, LANE_SEED_B_SEED p, LANE_ERR_BAD_B p] ++
  [LANE_ERR_BAD_A p, LANE_TRAINS_COLD_FAIL p, LANE_TRAINS_COLD_OK p, LANE_RETRAINS_RETRAIN_FAIL p, LANE_RETRAINS_RETRAIN_OK p, LANE_TTIME_LAST_RETRAIN p, LANE_TTIME_LAST_COLD p, LANE_WAKE_BURSTS_RX p, LANE_WAKE_SEND_BURST p]

/-- The fields of a page of block `chd` (instance `p`, selector `b`). -/
def chdFields (p _b : Nat) : List Field :=
  [CHD_CTL_VER_MAX p, CHD_CTL_AUTH_REQUIRE p, CHD_CTL_AUTH_REQ p, CHD_CTL_EPOCH_NOW p, CHD_CTL_XNAK_ADV p, CHD_CTL_FLUSH_NOW p, CHD_STAT_EPOCH_TX p, CHD_STAT_EPOCH_RX p, CHD_STAT_VER_MINOR p, CHD_STAT_AUTH p, CHD_STAT_XNAK p, CHD_STAT_TX_STATE p] ++
  [CHD_STAT_RX_STATE p, CHD_STAT_GRACE p, CHD_GRACE_MS p, CHD_RTT_TIMER p, CHD_RTT_RTT p] ++
  (List.range 2).map (fun i => CHD_CRED_CREDITLESS p i) ++
  (List.range 5).map (fun i => CHD_CRED_HDR p i) ++
  (List.range 5).map (fun i => CHD_CRED_DATA p i) ++
  [CHD_XCTL_MAX_AGE p, CHD_SPILL_USED p, CHD_SPILL_QUOTA p, CHD_SPILLERR_LOSS p, CHD_SPILLERR_CORR p, CHD_REPLAY_FLITS p, CHD_REPLAY_FORCED p, CHD_REPLAY_STARTS p, CHD_NAK_SENT p, CHD_NAK_RCVD p, CHD_RXERR_CORRUPT p, CHD_RXERR_GAP p] ++
  [CHD_DROP_VC0 p, CHD_DROP_VC1 p, CHD_XERR_STALE p, CHD_XERR_BOTH_BAD p, CHD_FLUSH_FLITS p, CHD_FLUSH_COUNT p, CHD_POISON_RX p, CHD_POISON_TX p, CHD_CREDERR_CLESS_OVF p, CHD_CREDERR_BAD_LIMIT p, CHD_POINT_DROP p, CHD_POINT_SENT p] ++
  [CHD_PROTO_STRAY p, CHD_PROTO_BAD_ACK p, CHD_AUTH_EPOCH_FAIL p, CHD_AUTH_TAG_FAIL p, CHD_MISC_RESUME p, CHD_MISC_DUP p]

/-- The fields of a page of block `tan` (instance `p`, selector `b`). -/
def tanFields (p _b : Nat) : List Field :=
  [TAN_PORT_CTL_ILIM p, TAN_PORT_CTL_ROLE p, TAN_PORT_CTL_SWAP_EN p, TAN_PORT_CTL_SINK_EN p, TAN_PORT_CTL_HARD_RESET p, TAN_PORT_CTL_CLEAR_FAULT p, TAN_PORT_CTL_REOFFER p, TAN_PORT_CTL_ENABLE p, TAN_PORT_STAT_PSTATE p, TAN_PORT_STAT_CSTATE p, TAN_PORT_STAT_LAST_PHASE p, TAN_PORT_STAT_CABLE p] ++
  [TAN_PORT_STAT_ORIENT p, TAN_PORT_STAT_AUX_ON p, TAN_PORT_STAT_MAIN_ON p, TAN_PORT_STAT_MAIN_SRC p, TAN_PORT_STAT_DB p, TAN_PORT_STAT_VER_MINOR p, TAN_CONTRACT_I_C p, TAN_CONTRACT_P_C p, TAN_SINK_I_REQ p, TAN_SINK_P_REQ p, TAN_MEAS_V p, TAN_MEAS_I p] ++
  [TAN_PARTNER_VALID p, TAN_PARTNER_ARG p, TAN_MSG_RETRY p, TAN_MSG_FAIL p, TAN_MSG_BAD p, TAN_MSG_COLLISION p, TAN_FAULTS_HARD_RESETS p, TAN_FAULTS_TRANSITION_LOSS p, TAN_FAULTS_MAIN_TRIPS p, TAN_FAULTS_AUX_TRIPS p]

/-- The fields of a page of block `hull` (instance `p`, selector `b`). -/
def hullFields (_p _b : Nat) : List Field :=
  [HULL_CTL_CT_VC1, HULL_STAT_PLEVEL, HULL_DROP_UNROUTED, HULL_DROP_WRONG_IN, HULL_ECC_UNCORR, HULL_ECC_CORR, HULL_PRUNE_COPIES]

/-- The fields of a page of block `tun` (instance `p`, selector `b`). -/
def tunFields (_p b : Nat) : List Field :=
  [TUN_CTL_AUTO_REOPEN, TUN_STAT_OPEN_COUNT, TUN_STAT_USED_COUNT, TUN_SEL_TUNNEL] ++
  (List.range 8).map (fun i => TUN_DATA_WORD i) ++
  [TUN_CMD_BUSY, TUN_CMD_STATUS, TUN_CMD_OP, TUN_ADMIT_SEL_PORT, TUN_ADMIT_EGRESS b, TUN_ADMIT_INGRESS b, TUN_LAST_FAIL_TUNNEL, TUN_LAST_FAIL_CAUSE, TUN_REASM_ABORT, TUN_REASM_REJECT, TUN_REASM_DUP]

/-- The fields of a page of block `cmp` (instance `p`, selector `b`). -/
def cmpFields (_p _b : Nat) : List Field :=
  [CMP_CTL_ETOK_EN, CMP_STAT_ETOK_RATE, CMP_STAT_ETOK_LEVEL, CMP_ETOK_BURST, CMP_ETOK_STALL_STALLS, CMP_POL_SEL_TUNNEL] ++
  (List.range 4).map (fun i => CMP_POL_DATA_WORD i) ++
  [CMP_POL_CMD_BUSY, CMP_POL_CMD_STATUS, CMP_POL_CMD_OP]

/-- The fields of a page of block `cmpp` (instance `p`, selector `b`). -/
def cmppFields (p b : Nat) : List Field :=
  [CMP_PORT_CTL_OVH p, CMP_PORT_CTL_EW p, CMP_PORT_CTL_GCL_EN p, CMP_PORT_STAT_GATES p, CMP_PORT_STAT_ENTRY p, CMP_PORT_STAT_GCL_RUN p, CMP_CLASS_SAMPLE p, CMP_CLASS_TIMING p, CMP_CLASS_MEDIA p, CMP_CLASS_FRAMES p, CMP_CLASS_BULK p, CMP_GCL_ADMIN_LEN p] ++
  [CMP_GCL_ADMIN_LOG2M p, CMP_GCL_OPER_LEN p, CMP_GCL_OPER_LOG2M p, CMP_GCL_CHANGE_INDEX p, CMP_GCL_CMD_PENDING p, CMP_GCL_CMD_STATUS p, CMP_GCL_CMD_CANCEL p, CMP_GCL_CMD_COMMIT p, CMP_GCL_RDSEL_ENTRY p, CMP_GCL_RDDATA_WORD p, CMP_GCL_CNT_OVERRUN p, CMP_GCL_CNT_WR_IGNORED p] ++
  [CMP_QSEL_QUEUE p, CMP_QCFG_WEIGHT p b, CMP_QCFG_SHAPE p b, CMP_QCFG_DTHR p b, CMP_QRATE_PIR p b, CMP_QRATE_CIR p b, CMP_QBURST_PBS p b, CMP_QBURST_CBS p b, CMP_QDEPTH_MAX p b, CMP_QDEPTH_NOW p b, CMP_QDELAY_MAX_NS p b, CMP_QDELAY_LAST_NS p b] ++
  [CMP_QSNAP_DEPTH_INDEX p b, CMP_QSNAP_DEPTH_DEPTH p b, CMP_QSNAP_DELAY_NS p b, CMP_QSAMPLE_CTL_SI p, CMP_QALARM_QUEUE p, CMP_QALARM_NS p]

/-- The fields of a page of block `dat` (instance `p`, selector `b`). -/
def datFields (_p b : Nat) : List Field :=
  [DAT_CTL_SOURCE, DAT_CTL_PROFILE, DAT_CTL_STEP_NOW, DAT_STAT_CLASS, DAT_STAT_KEEPER, DAT_STAT_PTP_PORT, DAT_STAT_SOURCE_ACT, DAT_STAT_STATE, DAT_NS_NS, DAT_SEC_LO_SEC, DAT_SEC_HI_FRAC, DAT_SEC_HI_SEC] ++
  [DAT_SHORT_LO_SHORT, DAT_SHORT_HI_SHORT, DAT_SET_NS_NS, DAT_SET_SEC_LO_SEC, DAT_SET_SEC_HI_SEC, DAT_RATE_RATE, DAT_SERVO_KP_SHIFT, DAT_SERVO_KI_SHIFT, DAT_SERVO_SLEW_MAX, DAT_STEP_THR_NS, DAT_PROBE_INT, DAT_PORT_SEL_PORT] ++
  [DAT_PORT_DELAY_D_MS b, DAT_PORT_OFFSET_THETA b, DAT_PORT_ASYM_ASYM b, DAT_PORT_CNT_OUTLIER b, DAT_PORT_CNT_EXCH b, DAT_PTP_DOMAIN, DAT_PTP_PRIO1, DAT_PTP_PRIO2, DAT_PTP_CLASS_FREE, DAT_UTC_UTC_VALID, DAT_UTC_OFFSET, DAT_LEAF_SEL_HUB] ++
  [DAT_LEAF_STAT_VALID b, DAT_LEAF_STAT_STALE b, DAT_LEAF_STAT_STATE b, DAT_LEAF_STAT_KEEPER b, DAT_LEAF_STAT_SOURCE_ACT b, DAT_LEAF_THETA_THETA b]

/-- The fields of a page of block `lat` (instance `p`, selector `b`). -/
def latFields (_p _b : Nat) : List Field :=
  [LAT_CTL_COMMIT, LAT_STAT_A, LAT_STAT_B, LAT_STAT_A_NEXT, LAT_STAT_B_NEXT, LAT_STAT_SYNCED, LAT_STAT_PENDING, LAT_PERIOD_NS, LAT_NEXT_A, LAT_NEXT_B, LAT_INDEX_INDEX, LAT_SNAP_IDX_TARGET] ++
  [LAT_GOP_BUSY, LAT_GOP_KEY, LAT_GOP_OP, LAT_SNAP_TIME_US, LAT_SNAP_SEL_DOCK, LAT_SNAP_SEL_NODE, LAT_SNAP_SEL_WORD, LAT_SNAP_DATA_LO_DATA, LAT_SNAP_DATA_HI_DATA]

/-- The fields of a page of block `evp` (instance `p`, selector `b`). -/
def evpFields (_p _b : Nat) : List Field :=
  (List.range 16).map (fun i => EVP_CFG_FUNC i) ++
  (List.range 16).map (fun i => EVP_CFG_POL i) ++
  (List.range 16).map (fun i => EVP_CFG_EDGE i) ++
  (List.range 16).map (fun i => EVP_CFG_FILTER i) ++
  (List.range 16).map (fun i => EVP_CFG_LEVEL i) ++
  [EVP_TS_LEVEL_OVF, EVP_TS_LEVEL_COUNT, EVP_TS_NS_NS, EVP_TS_SEC_LO_SEC, EVP_TS_SEC_HI_VALID, EVP_TS_SEC_HI_KEEPER, EVP_TS_SEC_HI_RISE, EVP_TS_SEC_HI_PIN, EVP_TS_SEC_HI_SEC, EVP_PPS_WIDTH, EVP_IRIG_LOCAL_OFS, EVP_IRIG_LOCAL] ++
  [EVP_IRIG_CF_1344, EVP_IRIG_CODE, EVP_CTL_QUIET]

/-- The fields of a page of block `smp` (instance `p`, selector `b`). -/
def smpFields (_p _b : Nat) : List Field :=
  [SMP_SEL_KIND, SMP_SEL_INDEX, SMP_SEL_ENTRY] ++
  (List.range 4).map (fun i => SMP_DATA_WORD i) ++
  [SMP_CMD_BUSY, SMP_CMD_STATUS, SMP_CMD_OP, SMP_SUBST_FAILED, SMP_SUBST_HELD, SMP_XCHK_COMP, SMP_XCHK_CH, SMP_XCHK_COUNT, SMP_SAT_OUT, SMP_SAT_IN, SMP_STAT_COMP_ACTIVE, SMP_STAT_SV_ACTIVE]

/-- The fields of a page of block `exp` (instance `p`, selector `b`). -/
def expFields (_p b : Nat) : List Field :=
  [EXP_CTL_FORCE_MISMATCH, EXP_CTL_RESTORE, EXP_CTL_SPARE_EN, EXP_CTL_POLICY, EXP_STAT_CKPT_INDEX, EXP_STAT_ENGINES, EXP_STAT_CKPT_BANK, EXP_STAT_JOURNAL, EXP_SEL_KIND, EXP_SEL_INDEX] ++
  (List.range 3).map (fun i => EXP_DATA_WORD i) ++
  [EXP_CMD_BUSY, EXP_CMD_STATUS, EXP_CMD_OP, EXP_MM_POINT, EXP_MM_PORT, EXP_MM_TUNNEL, EXP_MM_WORD, EXP_TAKEOVER_DUAL, EXP_TAKEOVER_TOTAL, EXP_COUNT_MISMATCH, EXP_COUNT_TAKEOVER, EXP_COUNT_RESTORE] ++
  [EXP_DROP_BAD_OP, EXP_DROP_SPACING, EXP_DROP_INACTIVE, EXP_DROP_QFULL, EXP_DEDUP_DUP, EXP_DEDUP_STALE, EXP_DEDUP_OLD_EVENT, EXP_QSEL_PORT, EXP_QMAX_FANIN b, EXP_QMAX_QMAX b, EXP_SUPER_MISSES, EXP_SUPER_GROUP]

/-- The fields of a page of block `frm` (instance `p`, selector `b`). -/
def frmFields (_p _b : Nat) : List Field :=
  [FRM_CTL_RED_MODE, FRM_CTL_LEARN_EN, FRM_STAT_MAC_USED, FRM_STAT_PROXY, FRM_MAX_MAX_FRAME, FRM_AGE_SEC, FRM_SUPERV_LIFECHECK, FRM_SEL_KIND, FRM_SEL_INDEX, FRM_SEL_ENTRY] ++
  (List.range 4).map (fun i => FRM_DATA_WORD i) ++
  [FRM_CMD_BUSY, FRM_CMD_STATUS, FRM_CMD_OP, FRM_RED_CNT_EVICT, FRM_RED_CNT_WRONG_LAN, FRM_DROP_TUN, FRM_DROP_FILTER, FRM_AUTH_FAIL, FRM_LEARN_FAIL]

/-- The fields of a page of block `frmsp` (instance `p`, selector `b`). -/
def frmspFields (p _b : Nat) : List Field :=
  [FRM_SP_CTL_MODE p, FRM_SP_CTL_RS p, FRM_SP_CTL_GCL_EN p, FRM_SP_STAT_PTP_STATE p, FRM_SP_STAT_LINE p, FRM_SP_RX_FRAMES p, FRM_SP_TX_FRAMES p, FRM_SP_ERR_FCS p, FRM_SP_ERR_OVERSIZE p, FRM_SP_FEC_UNCORR p, FRM_SP_FEC_CORR p, FRM_SP_DROP_TX p] ++
  [FRM_SP_DROP_PTP p, FRM_SP_I2C_BUSY p, FRM_SP_I2C_NACK p, FRM_SP_I2C_RD p, FRM_SP_I2C_DEV p, FRM_SP_I2C_ADDR p, FRM_SP_I2C_DATA p, FRM_SP_GCL_ADMIN_LEN p, FRM_SP_GCL_ADMIN_LOG2M p, FRM_SP_GCL_CHANGE_INDEX p, FRM_SP_GCL_CMD_PENDING p, FRM_SP_GCL_CMD_STATUS p] ++
  [FRM_SP_GCL_CMD_CANCEL p, FRM_SP_GCL_CMD_COMMIT p, FRM_SP_GCL_RDSEL_ENTRY p]

/-- The fields of a page of block `win` (instance `p`, selector `b`). -/
def winFields (_p _b : Nat) : List Field :=
  [WIN_CTL_EP_EN, WIN_CTL_PF_EN, WIN_STAT_NP_OUT, WIN_STAT_RW_LEVEL, WIN_SEL_KIND, WIN_SEL_INDEX] ++
  (List.range 4).map (fun i => WIN_DATA_WORD i) ++
  [WIN_CMD_BUSY, WIN_CMD_STATUS, WIN_CMD_OP, WIN_TIMING_PF_AGE, WIN_TIMING_RD_TIMEOUT, WIN_RW_CTL_THR, WIN_RW_CTL_HINT, WIN_SE_CAPT_LO_ADDR, WIN_SE_CAPT_HI_ADDR, WIN_SE_WIN_WINDOW, WIN_ERR_TIMEOUT, WIN_ERR_UNMAPPED] ++
  [WIN_ERR2_LINK, WIN_ERR2_DOCK, WIN_ERR3_ACCESS, WIN_ERR3_LATE, WIN_PF_HITS, WIN_PF_SE_DROPS, WIN_RW_BACKOFF, WIN_RW_DISCARD, WIN_RW2_REFUSE]

/-- The fields of a page of block `pcie` (instance `p`, selector `b`). -/
def pcieFields (_p _b : Nat) : List Field :=
  [WIN_PCIE_CTL_MAX_WIDTH, WIN_PCIE_CTL_MAX_SPEED, WIN_PCIE_STAT_LINK_UP, WIN_PCIE_STAT_L1, WIN_PCIE_STAT_SPEED, WIN_PCIE_STAT_WIDTH, WIN_PCIE_CNT_LINK_DOWN, WIN_PCIE_CNT_RECOVERY]

/-- The fields of a page of block `wint` (instance `p`, selector `b`). -/
def wintFields (_p _b : Nat) : List Field :=
  [WIN_INT_CNT_TIMEOUT, WIN_INT_CNT_SKIP] ++
  (List.range 64).map (fun i => WIN_INT_PEND_PEND i)

/-- The fields of a page of block `per` (instance `p`, selector `b`). -/
def perFields (_p b : Nat) : List Field :=
  [PER_CTL_SOF_DELAY, PER_STAT_ADDR_USED, PER_STAT_DOCKS, PER_TIMING_XFER_TO, PER_SEL_PORT, PER_SEL_DOCK, PER_PORT_EPOCH b, PER_PORT_SPEED b, PER_PORT_STATE b, PER_CNT1_XFER_TO, PER_CNT1_STALE, PER_CNT2_UNDERRUN] ++
  [PER_CNT2_BAD, PER_WAKE_COINCIDENT, PER_WAKE_WAKES]

/-- The fields of a page of block `usb` (instance `p`, selector `b`). -/
def usbFields (_p _b : Nat) : List Field :=
  [PER_USB_CTL_HS_DISABLE, PER_USB_CTL_CONNECT, PER_USB_STAT_CONFIGURED, PER_USB_STAT_SUSPENDED, PER_USB_STAT_SPEED, PER_USB_STAT_FRAME, PER_USB_SOF_LO_STAMP, PER_USB_SOF_HI_STAMP, PER_USB_CNT_BUS_RESET, PER_USB_CNT_SOF_LOST]

/-- The fields of a page of block `dsp` (instance `p`, selector `b`). -/
def dspFields (_p _b : Nat) : List Field :=
  [DSP_CTL_EN_B, DSP_CTL_EN_A, DSP_STAT_FEC_B, DSP_STAT_FEC_A, DSP_STAT_DSC_B, DSP_STAT_DSC_A, DSP_STAT_LANES_B, DSP_STAT_LANES_A, DSP_STAT_RATE_B, DSP_STAT_RATE_A, DSP_STAT_STATE_B, DSP_STAT_STATE_A] ++
  [DSP_BUDGET_UNITS, DSP_TIMING_DELAY, DSP_TIMING_AUX_TO, DSP_CFG_A_MAX_RATE, DSP_CFG_B_MAX_RATE, DSP_CFG_A_MAX_LANES, DSP_CFG_B_MAX_LANES, DSP_CFG_A_DSC_EN, DSP_CFG_B_DSC_EN, DSP_CFG_A_PRIMARY, DSP_CFG_B_PRIMARY, DSP_RES_RES_B] ++
  [DSP_RES_RES_A, DSP_CNT_A_UNDERRUN, DSP_CNT_B_UNDERRUN, DSP_CNT_A_AUX_TIMEOUT, DSP_CNT_B_AUX_TIMEOUT, DSP_MIR_A_VALID0, DSP_MIR_A_DOCK0, DSP_MIR_B_VALID0, DSP_MIR_B_DOCK0, DSP_MIR_A_VALID1, DSP_MIR_A_DOCK1, DSP_MIR_B_VALID1] ++
  [DSP_MIR_B_DOCK1, DSP_MIR_A_VALID2, DSP_MIR_A_DOCK2, DSP_MIR_B_VALID2, DSP_MIR_B_DOCK2, DSP_MIR_A_VALID3, DSP_MIR_A_DOCK3, DSP_MIR_B_VALID3, DSP_MIR_B_DOCK3]

/-- The fields of a page of block `key` (instance `p`, selector `b`). -/
def keyFields (_p _b : Nat) : List Field :=
  [KEY_STAT_LC, KEY_STAT_BUSY, KEY_STAT_KEYS, KEY_STAT_BAD] ++
  (List.range 16).map (fun i => KEY_SLOTMAP_STATE i) ++
  [KEY_DENY_SLOT, KEY_DENY_CAUSE, KEY_DENY_COUNT, KEY_INTEG_REPAIRED, KEY_INTEG_MRAM_FAIL, KEY_REVOKE_CASCADE, KEY_REVOKE_STALE, KEY_TUN_TAG_FAIL] ++
  (List.range 5).map (fun i => KEY_LINKMAP_SLOT i) ++
  [KEY_SCRUB_PASSES, KEY_SCRUB_INTERVAL]

end Sys2Proof.Machine
end

