-- ==== Sys2Proof/Machine/Events.lean ====
section
/-!
DEFINITION. The event bits of the pages, the page map and PAGE_CAP (R549, R563), and the fields of each page.
-/
namespace Sys2Proof.Machine

/-! Events of block `evt` -/

/-- R566: SW0. -/
def EV_EVT_SW0 : Nat := 0
/-- R566: SW1. -/
def EV_EVT_SW1 : Nat := 1
/-- R566: SPILL. -/
def EV_EVT_SPILL : Nat := 2
/-- R566: MRAM_CORR. -/
def EV_EVT_MRAM_CORR : Nat := 3
/-- R566: MRAM_UNCORR. -/
def EV_EVT_MRAM_UNCORR : Nat := 4
/-- R566: CLK_RATE. -/
def EV_EVT_CLK_RATE : Nat := 5
/-- R566: CLK_GLITCH. -/
def EV_EVT_CLK_GLITCH : Nat := 6
/-- R566: VMON_CORE. -/
def EV_EVT_VMON_CORE : Nat := 7
/-- R566: VMON_IO. -/
def EV_EVT_VMON_IO : Nat := 8
/-- R566: MAINT_OPEN. -/
def EV_EVT_MAINT_OPEN : Nat := 9
/-- R566: MAINT_DENY. -/
def EV_EVT_MAINT_DENY : Nat := 10

/-! Events of block `rst` -/

/-- R547: CAUSE. -/
def EV_RST_CAUSE : Nat := 0
/-- R547: RESTORED. -/
def EV_RST_RESTORED : Nat := 2
/-- R547: RESTORE_LATE. -/
def EV_RST_RESTORE_LATE : Nat := 3
/-- R547: WDOG_HOST. -/
def EV_RST_WDOG_HOST : Nat := 4

/-! Events of block `cfg` -/

/-- R548: COMMITTED. -/
def EV_CFG_COMMITTED : Nat := 0
/-- R548: ABORTED. -/
def EV_CFG_ABORTED : Nat := 1
/-- R548: NO_IMAGE. -/
def EV_CFG_NO_IMAGE : Nat := 2
/-- R548: FORMAT_REJECT. -/
def EV_CFG_FORMAT_REJECT : Nat := 3
/-- R548: RECORD_FAIL. -/
def EV_CFG_RECORD_FAIL : Nat := 4

/-! Events of block `log` -/

/-- R577: COMMITTED. -/
def EV_LOG_COMMITTED : Nat := 0
/-- R577: COMMIT_FAIL. -/
def EV_LOG_COMMIT_FAIL : Nat := 1
/-- R577: RESTORE_FAIL. -/
def EV_LOG_RESTORE_FAIL : Nat := 2
/-- R577: SATURATED. -/
def EV_LOG_SATURATED : Nat := 3
/-- R577: RING_CLEARED. -/
def EV_LOG_RING_CLEARED : Nat := 4

/-! Events of block `diag` -/

/-- R578: DONE. -/
def EV_DIAG_DONE : Nat := 0
/-- R578: FAIL. -/
def EV_DIAG_FAIL : Nat := 1
/-- R578: PAT_ERR. -/
def EV_DIAG_PAT_ERR : Nat := 2

/-! Events of block `pwr` -/

/-- R529: WAKE. -/
def EV_PWR_WAKE : Nat := 0
/-- R529: REFUSED. -/
def EV_PWR_REFUSED : Nat := 1
/-- R529: LEVEL_CHANGE. -/
def EV_PWR_LEVEL_CHANGE : Nat := 2
/-- R529: BUDGET_LOW. -/
def EV_PWR_BUDGET_LOW : Nat := 3
/-- R529: THERM_WARN. -/
def EV_PWR_THERM_WARN : Nat := 4
/-- R529: THERM_HOT. -/
def EV_PWR_THERM_HOT : Nat := 5
/-- R529: THERM_CRIT. -/
def EV_PWR_THERM_CRIT : Nat := 6
/-- R529: THERM_SHUTDOWN. -/
def EV_PWR_THERM_SHUTDOWN : Nat := 7
/-- R529: PLL_LOSS. -/
def EV_PWR_PLL_LOSS : Nat := 8
/-- R529: THERM_REJECT. -/
def EV_PWR_THERM_REJECT : Nat := 9

/-! Events of block `feed` -/

/-- R505: A_PG_UP. -/
def EV_FEED_A_PG_UP : Nat := 0
/-- R505: A_PG_DOWN. -/
def EV_FEED_A_PG_DOWN : Nat := 1
/-- R505: A_CB_TRIP. -/
def EV_FEED_A_CB_TRIP : Nat := 2
/-- R505: A_FAST_TRIP. -/
def EV_FEED_A_FAST_TRIP : Nat := 3
/-- R505: A_START_FAIL. -/
def EV_FEED_A_START_FAIL : Nat := 4
/-- R505: A_OV. -/
def EV_FEED_A_OV : Nat := 5
/-- R505: A_REVERSE. -/
def EV_FEED_A_REVERSE : Nat := 6
/-- R505: B_PG_UP. -/
def EV_FEED_B_PG_UP : Nat := 8
/-- R505: B_PG_DOWN. -/
def EV_FEED_B_PG_DOWN : Nat := 9
/-- R505: B_CB_TRIP. -/
def EV_FEED_B_CB_TRIP : Nat := 10
/-- R505: B_FAST_TRIP. -/
def EV_FEED_B_FAST_TRIP : Nat := 11
/-- R505: B_START_FAIL. -/
def EV_FEED_B_START_FAIL : Nat := 12
/-- R505: B_OV. -/
def EV_FEED_B_OV : Nat := 13
/-- R505: B_REVERSE. -/
def EV_FEED_B_REVERSE : Nat := 14
/-- R505: WARN_ON. -/
def EV_FEED_WARN_ON : Nat := 16
/-- R505: WARN_OFF. -/
def EV_FEED_WARN_OFF : Nat := 17
/-- R505: WARN_RX. -/
def EV_FEED_WARN_RX : Nat := 18
/-- R505: THR_REJECT. -/
def EV_FEED_THR_REJECT : Nat := 19

/-! Events of block `tang` -/

/-- R482: DB_START. -/
def EV_TANG_DB_START : Nat := 0
/-- R482: FEED_REJECT. -/
def EV_TANG_FEED_REJECT : Nat := 1
/-- R482: BUDGET_REJECT. -/
def EV_TANG_BUDGET_REJECT : Nat := 2

/-! Events of block `lane` -/

/-- R78: ACTIVE_ENTRY. -/
def EV_LANE_ACTIVE_ENTRY : Nat := 0
/-- R78: TRAIN_FAIL. -/
def EV_LANE_TRAIN_FAIL : Nat := 1
/-- R78: RETRAIN. -/
def EV_LANE_RETRAIN : Nat := 2
/-- R78: DOWN. -/
def EV_LANE_DOWN : Nat := 3
/-- R78: DISABLED. -/
def EV_LANE_DISABLED : Nat := 4
/-- R78: BAD_BURST. -/
def EV_LANE_BAD_BURST : Nat := 5
/-- R78: WAKE_BURST. -/
def EV_LANE_WAKE_BURST : Nat := 6
/-- R78: CABLE_UNKNOWN. -/
def EV_LANE_CABLE_UNKNOWN : Nat := 7
/-- R78: PARTNER_CHANGED. -/
def EV_LANE_PARTNER_CHANGED : Nat := 8
/-- R78: SKIP_LIMIT. -/
def EV_LANE_SKIP_LIMIT : Nat := 9

/-! Events of block `chd` -/

/-- R142: NAK_RX. -/
def EV_CHD_NAK_RX : Nat := 0
/-- R142: LINK_DOWN. -/
def EV_CHD_LINK_DOWN : Nat := 1
/-- R142: RESUME. -/
def EV_CHD_RESUME : Nat := 2
/-- R142: FLUSH. -/
def EV_CHD_FLUSH : Nat := 3
/-- R142: PROTO_ERR. -/
def EV_CHD_PROTO_ERR : Nat := 4
/-- R142: CREDIT_ERR. -/
def EV_CHD_CREDIT_ERR : Nat := 5
/-- R142: REPLAY_LIMIT. -/
def EV_CHD_REPLAY_LIMIT : Nat := 6
/-- R142: EXP_STALE. -/
def EV_CHD_EXP_STALE : Nat := 7
/-- R142: SPILL. -/
def EV_CHD_SPILL : Nat := 8
/-- R142: AUTH_FAIL. -/
def EV_CHD_AUTH_FAIL : Nat := 9
/-- R142: TAG_BURST. -/
def EV_CHD_TAG_BURST : Nat := 10

/-! Events of block `tan` -/

/-- R486: ATTACH. -/
def EV_TAN_ATTACH : Nat := 0
/-- R486: DETACH. -/
def EV_TAN_DETACH : Nat := 1
/-- R486: CONTRACT. -/
def EV_TAN_CONTRACT : Nat := 2
/-- R486: FAULT. -/
def EV_TAN_FAULT : Nat := 3
/-- R486: FAULT_LATCH. -/
def EV_TAN_FAULT_LATCH : Nat := 4
/-- R486: TRANSITION_LOSS. -/
def EV_TAN_TRANSITION_LOSS : Nat := 5
/-- R486: HARD_RESET. -/
def EV_TAN_HARD_RESET : Nat := 6
/-- R486: MSG_FAIL. -/
def EV_TAN_MSG_FAIL : Nat := 7
/-- R486: UNSUPPORTED. -/
def EV_TAN_UNSUPPORTED : Nat := 8
/-- R486: AUX_ONLY. -/
def EV_TAN_AUX_ONLY : Nat := 9
/-- R486: SWAP_DONE. -/
def EV_TAN_SWAP_DONE : Nat := 10

/-! Events of block `hull` -/

/-- R181: UNROUTED. -/
def EV_HULL_UNROUTED : Nat := 0
/-- R181: WRONG_INGRESS. -/
def EV_HULL_WRONG_INGRESS : Nat := 1
/-- R181: ECC_CORR. -/
def EV_HULL_ECC_CORR : Nat := 2
/-- R181: ECC_UNCORR. -/
def EV_HULL_ECC_UNCORR : Nat := 3
/-- R181: BUF_CONFIG. -/
def EV_HULL_BUF_CONFIG : Nat := 4
/-- R181: PRUNE. -/
def EV_HULL_PRUNE : Nat := 5

/-! Events of block `tun` -/

/-- R184: FAILED. -/
def EV_TUN_FAILED : Nat := 0
/-- R184: HELD. -/
def EV_TUN_HELD : Nat := 1
/-- R184: ADMIT_REFUSED. -/
def EV_TUN_ADMIT_REFUSED : Nat := 2
/-- R184: OPEN_TIMEOUT. -/
def EV_TUN_OPEN_TIMEOUT : Nat := 3
/-- R184: REASM_ABORT. -/
def EV_TUN_REASM_ABORT : Nat := 4
/-- R184: DOCK_ID_EXHAUSTED. -/
def EV_TUN_DOCK_ID_EXHAUSTED : Nat := 5
/-- R184: HUB_NUM_EXHAUSTED. -/
def EV_TUN_HUB_NUM_EXHAUSTED : Nat := 6
/-- R184: MIGRATED. -/
def EV_TUN_MIGRATED : Nat := 7
/-- R184: REKEY. -/
def EV_TUN_REKEY : Nat := 8
/-- R184: CMD_REJECT. -/
def EV_TUN_CMD_REJECT : Nat := 9
/-- R184: OPENED. -/
def EV_TUN_OPENED : Nat := 10

/-! Events of block `cmp` -/

/-- R323: POL_DROP. -/
def EV_CMP_POL_DROP : Nat := 0
/-- R323: POL_RED. -/
def EV_CMP_POL_RED : Nat := 1
/-- R323: POL_CFG. -/
def EV_CMP_POL_CFG : Nat := 2
/-- R323: POL_REJECT. -/
def EV_CMP_POL_REJECT : Nat := 3
/-- R323: ETOK_ZERO. -/
def EV_CMP_ETOK_ZERO : Nat := 4

/-! Events of block `cmpp` -/

/-- R327: GCL_CHANGED. -/
def EV_CMPP_GCL_CHANGED : Nat := 0
/-- R327: GCL_LATE. -/
def EV_CMPP_GCL_LATE : Nat := 1
/-- R327: GCL_REJECT. -/
def EV_CMPP_GCL_REJECT : Nat := 2
/-- R327: OVERRUN. -/
def EV_CMPP_OVERRUN : Nat := 3
/-- R327: QDELAY. -/
def EV_CMPP_QDELAY : Nat := 4

/-! Events of block `dat` -/

/-- R225: LOCKED. -/
def EV_DAT_LOCKED : Nat := 0
/-- R225: LOCK_LOST. -/
def EV_DAT_LOCK_LOST : Nat := 1
/-- R225: HOLDOVER. -/
def EV_DAT_HOLDOVER : Nat := 2
/-- R225: STEP. -/
def EV_DAT_STEP : Nat := 3
/-- R225: SOURCE_CHANGE. -/
def EV_DAT_SOURCE_CHANGE : Nat := 4
/-- R225: PTP_STATE. -/
def EV_DAT_PTP_STATE : Nat := 5
/-- R225: LEAP_PENDING. -/
def EV_DAT_LEAP_PENDING : Nat := 6

/-! Events of block `lat` -/

/-- R228: TICK_SLIP. -/
def EV_LAT_TICK_SLIP : Nat := 0
/-- R228: CHANGE_DONE. -/
def EV_LAT_CHANGE_DONE : Nat := 1
/-- R228: MARK_REJECT. -/
def EV_LAT_MARK_REJECT : Nat := 2
/-- R228: SNAP_DONE. -/
def EV_LAT_SNAP_DONE : Nat := 3
/-- R228: SNAP_LATE. -/
def EV_LAT_SNAP_LATE : Nat := 4
/-- R228: TREE_RESET. -/
def EV_LAT_TREE_RESET : Nat := 5

/-! Events of block `evp` -/

/-- R230: TS_AVAIL. -/
def EV_EVP_TS_AVAIL : Nat := 0
/-- R230: TS_OVF. -/
def EV_EVP_TS_OVF : Nat := 1
/-- R230: PPSIN_LOST. -/
def EV_EVP_PPSIN_LOST : Nat := 2
/-- R230: IRIG_LEAP. -/
def EV_EVP_IRIG_LEAP : Nat := 3

/-! Events of block `smp` -/

/-- R256: CFG_REJECT. -/
def EV_SMP_CFG_REJECT : Nat := 0
/-- R256: RATE_INVALID. -/
def EV_SMP_RATE_INVALID : Nat := 1
/-- R256: POLICED. -/
def EV_SMP_POLICED : Nat := 2
/-- R256: LATE. -/
def EV_SMP_LATE : Nat := 3
/-- R256: SRC_SUBST. -/
def EV_SMP_SRC_SUBST : Nat := 4
/-- R256: SRC_FAIL. -/
def EV_SMP_SRC_FAIL : Nat := 5
/-- R256: XCHK. -/
def EV_SMP_XCHK : Nat := 6
/-- R256: SV_IN_DROP. -/
def EV_SMP_SV_IN_DROP : Nat := 7
/-- R256: SAT. -/
def EV_SMP_SAT : Nat := 8
/-- R256: STUB. -/
def EV_SMP_STUB : Nat := 9

/-! Events of block `exp` -/

/-- R291: CFG_REJECT. -/
def EV_EXP_CFG_REJECT : Nat := 0
/-- R291: DROP. -/
def EV_EXP_DROP : Nat := 1
/-- R291: SPACING. -/
def EV_EXP_SPACING : Nat := 2
/-- R291: SUPERVISION. -/
def EV_EXP_SUPERVISION : Nat := 3
/-- R291: MISMATCH. -/
def EV_EXP_MISMATCH : Nat := 4
/-- R291: TAKEOVER_START. -/
def EV_EXP_TAKEOVER_START : Nat := 5
/-- R291: TAKEOVER_DONE. -/
def EV_EXP_TAKEOVER_DONE : Nat := 6
/-- R291: CKPT_FAIL. -/
def EV_EXP_CKPT_FAIL : Nat := 7
/-- R291: PEER_TAKEOVER. -/
def EV_EXP_PEER_TAKEOVER : Nat := 8
/-- R291: RESTORED. -/
def EV_EXP_RESTORED : Nat := 9
/-- R291: RESTORE_FAIL. -/
def EV_EXP_RESTORE_FAIL : Nat := 10

/-! Events of block `frm` -/

/-- R342: CFG_REJECT. -/
def EV_FRM_CFG_REJECT : Nat := 0
/-- R342: LEARN_FAIL. -/
def EV_FRM_LEARN_FAIL : Nat := 1
/-- R342: TUN_DROP. -/
def EV_FRM_TUN_DROP : Nat := 2
/-- R342: FILTER_DROP. -/
def EV_FRM_FILTER_DROP : Nat := 3
/-- R342: GOOSE_IN_DROP. -/
def EV_FRM_GOOSE_IN_DROP : Nat := 4
/-- R342: GOOSE_LOSS. -/
def EV_FRM_GOOSE_LOSS : Nat := 5
/-- R342: AUTH_FAIL. -/
def EV_FRM_AUTH_FAIL : Nat := 6
/-- R342: DUP_WINDOW. -/
def EV_FRM_DUP_WINDOW : Nat := 7
/-- R342: WRONG_LAN. -/
def EV_FRM_WRONG_LAN : Nat := 8
/-- R342: LAN_FAIL. -/
def EV_FRM_LAN_FAIL : Nat := 9

/-! Events of block `frmsp` -/

/-- R345: LINK_UP. -/
def EV_FRMSP_LINK_UP : Nat := 0
/-- R345: LINK_DOWN. -/
def EV_FRMSP_LINK_DOWN : Nat := 1
/-- R345: MODULE. -/
def EV_FRMSP_MODULE : Nat := 2
/-- R345: TX_FAULT. -/
def EV_FRMSP_TX_FAULT : Nat := 3
/-- R345: FEC_UNCORR. -/
def EV_FRMSP_FEC_UNCORR : Nat := 4
/-- R345: GCL_CHANGED. -/
def EV_FRMSP_GCL_CHANGED : Nat := 5
/-- R345: GCL_LATE. -/
def EV_FRMSP_GCL_LATE : Nat := 6
/-- R345: GCL_REJECT. -/
def EV_FRMSP_GCL_REJECT : Nat := 7
/-- R345: TX_DROP. -/
def EV_FRMSP_TX_DROP : Nat := 8

/-! Events of block `win` -/

/-- R382: ACCESS. -/
def EV_WIN_ACCESS : Nat := 0
/-- R382: UNMAPPED. -/
def EV_WIN_UNMAPPED : Nat := 1
/-- R382: TIMEOUT. -/
def EV_WIN_TIMEOUT : Nat := 2
/-- R382: LINK_FAIL. -/
def EV_WIN_LINK_FAIL : Nat := 3
/-- R382: SE_FAULT. -/
def EV_WIN_SE_FAULT : Nat := 4
/-- R382: DOCK_ERR. -/
def EV_WIN_DOCK_ERR : Nat := 5
/-- R382: LATE. -/
def EV_WIN_LATE : Nat := 6
/-- R382: RW_REFUSE. -/
def EV_WIN_RW_REFUSE : Nat := 7
/-- R382: BACKOFF. -/
def EV_WIN_BACKOFF : Nat := 8
/-- R382: CFG_REJECT. -/
def EV_WIN_CFG_REJECT : Nat := 9

/-! Events of block `pcie` -/

/-- R384: LINK_UP. -/
def EV_PCIE_LINK_UP : Nat := 0
/-- R384: LINK_DOWN. -/
def EV_PCIE_LINK_DOWN : Nat := 1
/-- R384: DEGRADED. -/
def EV_PCIE_DEGRADED : Nat := 2
/-- R384: HOT_RESET. -/
def EV_PCIE_HOT_RESET : Nat := 3
/-- R384: CORR. -/
def EV_PCIE_CORR : Nat := 4
/-- R384: UNCORR. -/
def EV_PCIE_UNCORR : Nat := 5

/-! Events of block `wint` -/

/-- R385: POLL_TIMEOUT. -/
def EV_WINT_POLL_TIMEOUT : Nat := 0
/-- R385: POLL_SKIP. -/
def EV_WINT_POLL_SKIP : Nat := 1

/-! Events of block `per` -/

/-- R415: PORT_CHANGE. -/
def EV_PER_PORT_CHANGE : Nat := 0
/-- R415: WAKE_COINCIDENT. -/
def EV_PER_WAKE_COINCIDENT : Nat := 1
/-- R415: ISO_UNDERRUN. -/
def EV_PER_ISO_UNDERRUN : Nat := 2
/-- R415: OVERCURRENT. -/
def EV_PER_OVERCURRENT : Nat := 3
/-- R415: XFER_TIMEOUT. -/
def EV_PER_XFER_TIMEOUT : Nat := 4
/-- R415: STALE_RSP. -/
def EV_PER_STALE_RSP : Nat := 5
/-- R415: DOCK_ERR. -/
def EV_PER_DOCK_ERR : Nat := 6

/-! Events of block `usb` -/

/-- R416: CONNECTED. -/
def EV_USB_CONNECTED : Nat := 0
/-- R416: BUS_RESET. -/
def EV_USB_BUS_RESET : Nat := 1
/-- R416: SUSPEND. -/
def EV_USB_SUSPEND : Nat := 2
/-- R416: RESUME. -/
def EV_USB_RESUME : Nat := 3
/-- R416: SOF_LOST. -/
def EV_USB_SOF_LOST : Nat := 4

/-! Events of block `dsp` -/

/-- R417: TRAINED. -/
def EV_DSP_TRAINED : Nat := 0
/-- R417: HPD_CHANGE. -/
def EV_DSP_HPD_CHANGE : Nat := 1
/-- R417: MIRROR_FAIL. -/
def EV_DSP_MIRROR_FAIL : Nat := 2
/-- R417: OVER_BUDGET. -/
def EV_DSP_OVER_BUDGET : Nat := 3
/-- R417: UNDERRUN. -/
def EV_DSP_UNDERRUN : Nat := 4
/-- R417: AUX_TIMEOUT. -/
def EV_DSP_AUX_TIMEOUT : Nat := 5
/-- R417: PRIMARY_CHANGE. -/
def EV_DSP_PRIMARY_CHANGE : Nat := 6

/-! Events of block `key` -/

/-- R445: CMD_DONE. -/
def EV_KEY_CMD_DONE : Nat := 0
/-- R445: DENIED. -/
def EV_KEY_DENIED : Nat := 1
/-- R445: REVOKED. -/
def EV_KEY_REVOKED : Nat := 2
/-- R445: DEFERRED. -/
def EV_KEY_DEFERRED : Nat := 3
/-- R445: TUN_TAG_FAIL. -/
def EV_KEY_TUN_TAG_FAIL : Nat := 4
/-- R445: REPAIRED. -/
def EV_KEY_REPAIRED : Nat := 5
/-- R445: BAD_SLOT. -/
def EV_KEY_BAD_SLOT : Nat := 6
/-- R445: MRAM_FAIL. -/
def EV_KEY_MRAM_FAIL : Nat := 7
/-- R445: CACHE_ERR. -/
def EV_KEY_CACHE_ERR : Nat := 8
/-- R445: LC_CHANGE. -/
def EV_KEY_LC_CHANGE : Nat := 9
/-- R445: LC_AUTH_FAIL. -/
def EV_KEY_LC_AUTH_FAIL : Nat := 10

/-- The blocks of the page map (R563). -/
inductive Block where
  | chip
  | evt
  | rst
  | cfg
  | log
  | diag
  | pwr
  | feed
  | tang
  | lane
  | chd
  | tan
  | hull
  | tun
  | cmp
  | cmpp
  | dat
  | lat
  | evp
  | smp
  | exp
  | frm
  | frmsp
  | win
  | pcie
  | wint
  | per
  | usb
  | dsp
  | key
  | tunData
  | gateList
  deriving DecidableEq, Repr

/-- R563: block, first page, number of pages, block code. -/
def pageMap : List (Block × Nat × Nat × Nat) :=
  [(.chip, 0x000, 1, 0x0001),
   (.evt, 0x001, 1, 0x0002),
   (.rst, 0x002, 1, 0x0003),
   (.cfg, 0x003, 1, 0x0004),
   (.log, 0x004, 1, 0x0005),
   (.diag, 0x005, 1, 0x0006),
   (.pwr, 0x008, 1, 0x0009),
   (.feed, 0x00A, 1, 0x000B),
   (.tang, 0x00B, 1, 0x000C),
   (.lane, 0x010, 18, 0x0011),
   (.chd, 0x030, 18, 0x0031),
   (.tan, 0x050, 18, 0x0051),
   (.hull, 0x070, 1, 0x0071),
   (.tun, 0x080, 1, 0x0081),
   (.cmp, 0x0A0, 1, 0x00A1),
   (.cmpp, 0x0A1, 18, 0x00A2)] ++
  [(.dat, 0x0C0, 1, 0x00C1),
   (.lat, 0x0C1, 1, 0x00C2),
   (.evp, 0x0C2, 1, 0x00C3),
   (.smp, 0x0D0, 1, 0x00D1),
   (.exp, 0x0D8, 1, 0x00D9),
   (.frm, 0x0E0, 1, 0x00E1),
   (.frmsp, 0x0E1, 2, 0x00E2),
   (.win, 0x0F0, 1, 0x00F1),
   (.pcie, 0x0F1, 1, 0x00F2),
   (.wint, 0x0F2, 1, 0x00F3),
   (.per, 0x100, 1, 0x0101),
   (.usb, 0x101, 1, 0x0102),
   (.dsp, 0x108, 1, 0x0109),
   (.key, 0x110, 1, 0x0111),
   (.tunData, 0x081, 31, 0x0081),
   (.gateList, 0x0B3, 9, 0x00A3)]

/-- R563: the block and the instance that a page belongs to. -/
def blockOf (page : Nat) : Option (Block × Nat) :=
  (pageMap.find? (fun r => r.2.1 ≤ page && page < r.2.1 + r.2.2.1)).map (fun r => (r.1, page - r.2.1))

/-- R549: PAGE_CAP, the event bits that the block's chapter gives the page. -/
def Block.cap : Block → BitVec 32
  | .chip => 0x00000000#32
  | .evt => 0x000007FF#32
  | .rst => 0x0000001D#32
  | .cfg => 0x0000001F#32
  | .log => 0x0000001F#32
  | .diag => 0x00000007#32
  | .pwr => 0x000003FF#32
  | .feed => 0x000F7F7F#32
  | .tang => 0x00000007#32
  | .lane => 0x000003FF#32
  | .chd => 0x000007FF#32
  | .tan => 0x000007FF#32
  | .hull => 0x0000003F#32
  | .tun => 0x000007FF#32
  | .cmp => 0x0000001F#32
  | .cmpp => 0x0000001F#32
  | .dat => 0x0000007F#32
  | .lat => 0x0000003F#32
  | .evp => 0x0000000F#32
  | .smp => 0x000003FF#32
  | .exp => 0x000007FF#32
  | .frm => 0x000003FF#32
  | .frmsp => 0x000001FF#32
  | .win => 0x000003FF#32
  | .pcie => 0x0000003F#32
  | .wint => 0x00000003#32
  | .per => 0x0000007F#32
  | .usb => 0x0000001F#32
  | .dsp => 0x0000007F#32
  | .key => 0x000007FF#32
  | .tunData => 0#32
  | .gateList => 0#32

/-- The fields of a page of the block (instance `p`, selector `b`). -/
def Block.fields (p b : Nat) : Block → List Field
  | .chip => chipFields p b
  | .evt => evtFields p b
  | .rst => rstFields p b
  | .cfg => cfgFields p b
  | .log => logFields p b
  | .diag => diagFields p b
  | .pwr => pwrFields p b
  | .feed => feedFields p b
  | .tang => tangFields p b
  | .lane => laneFields p b
  | .chd => chdFields p b
  | .tan => tanFields p b
  | .hull => hullFields p b
  | .tun => tunFields p b
  | .cmp => cmpFields p b
  | .cmpp => cmppFields p b
  | .dat => datFields p b
  | .lat => latFields p b
  | .evp => evpFields p b
  | .smp => smpFields p b
  | .exp => expFields p b
  | .frm => frmFields p b
  | .frmsp => frmspFields p b
  | .win => winFields p b
  | .pcie => pcieFields p b
  | .wint => wintFields p b
  | .per => perFields p b
  | .usb => usbFields p b
  | .dsp => dspFields p b
  | .key => keyFields p b

  | .tunData => []
  | .gateList => []

end Sys2Proof.Machine
end

