-- ==== Sys2Proof/Machine/StHull.lean ====
section
/-!
DEFINITION. The state of the tunnel table, the Hull fabric and the identities of the tree.
-/
namespace Sys2Proof.Machine

/-- States of a tunnel table entry (R160, R163). -/
inductive TunState where
  | free | reserved | opening | opened | rekey | held | failed | closing
  deriving DecidableEq, Repr

/-- The code of a state in word 0 of the entry and in TUN_STATEMAP. -/
def TunState.code : TunState → Nat
  | .free => 0 | .reserved => 1 | .opening => 2 | .opened => 3 | .rekey => 4 | .held => 5 | .failed => 6 | .closing => 7

/-- The state of a code; reserved codes are none (R160). -/
def TunState.ofCode : Nat → TunState
  | 1 => .reserved | 2 => .opening | 3 => .opened | 4 => .rekey | 5 => .held | 6 => .failed | 7 => .closing | _ => .free

/-- The tunnel table entry (R160). -/
structure Entry where
  state : TunState := .free
  kind : Nat := 0
  vc : Nat := 0
  inPort : Nat := 0
  queue : Nat := 0
  auto : Bool := false
  mig : Nat := 0
  destMask : Nat := 0
  srcDock : Nat := 0
  srcHub : Bool := false
  hub : Nat := 0
  altPort : Nat := 0
  rate : Nat := 0
  maxMsg : Nat := 0
  msnOut : Nat := 0
  keySlot : Nat := 0
  msnIn : Nat := 0
  keyed : Bool := false
  police : Bool := false
  adapter : Nat := 0
  gen : Nat := 0
  cause : Nat := 0
  msgLost : Nat := 0
  /-- The reserved bits of words 0, 1, 2, 5 and 6 as written (R162 refuses them unless zero). -/
  resv : Nat := 0
  deriving DecidableEq, Repr

/-- Reassembly of one direction of a tunnel (R174). -/
structure Reasm where
  /-- A message is open: its MSN, LEN, payload words received after the header (in order), start instant. -/
  isOpen : Bool := false
  msn : Nat := 0
  len : Nat := 0
  words : List Word := []
  startAt : Nat := 0
  /-- R174: flits up to and including the next last-of-message are discarded. -/
  discarding : Bool := false
  /-- R173: the flits up to the last-of-message belong to a duplicate. -/
  duplicate : Bool := false
  deriving DecidableEq, Repr

/-- A tunnel: its entry and what the management sequencer and the adapters hold for it. -/
structure Tun where
  e : Entry := {}
  /-- R163: entry to OPENING or CLOSING. -/
  since : Nat := 0
  /-- R163: leaves and docks whose acknowledgement is awaited. -/
  leaves : List Nat := []
  docks : List Nat := []
  /-- R168: instant of the first ENTRY_WRITE, and whether it has been resent. -/
  writeAt : Nat := 0
  resent : Bool := false
  /-- R166: docks to which TUN_OPEN or TUN_CLOSE is still held back. -/
  heldMsgs : List Nat := []
  /-- R426, R443: the entry was written by a master of the secure world. -/
  secure : Bool := false
  /-- R163: a revocation arrived while HELD. -/
  revoked : Bool := false
  /-- R153: pruned branch ports (bit mask of Hull ports). -/
  pruned : Nat := 0
  rx : Reasm := {}
  /-- R442: MSN wraps since OPEN, sent and received. -/
  wrapOut : Nat := 0
  wrapIn : Nat := 0
  /-- R178: a move back runs: stopped at, waiting for the partner's MIGRATE_DONE, retry instant. -/
  stopAt : Option Nat := none
  /-- R171: admission has refused a reopening, which waits for a charge to be released on its path. -/
  refused : Bool := false
  doneRcvd : Bool := false
  retryAt : Option Nat := none
  /-- R363: a message from the dock of a window tunnel has begun on its spoke; it reports a data error. -/
  dockMid : Bool := false
  dataError : Bool := false
  deriving DecidableEq, Repr

/-- The reset state of a tunnel. (Assumption log 4, DESIGN CHOICE.) -/
def Tun.init : Tun := {}

/-- A flit inside the hub, without its link fields. -/
structure HFlit where
  tunnel : Nat
  vc : Nat
  payload : List Word
  last : Bool
  poison : Bool := false
  /-- R119: the flit is forwarded stomped. -/
  stomp : Bool := false
  inPort : Nat
  /-- R151: Hull ports still to be served. -/
  todo : List Nat
  /-- R306: policer colour (0 green, 1 yellow, 2 red). -/
  colour : Nat := 0
  /-- The flit holds credits of its ingress port; a cut-through copy of a corrupt flit holds none (R95, R119). -/
  held : Bool := true
  deriving DecidableEq, Repr

/-- A flit in an egress queue (R299, R321). -/
structure QFlit where
  f : HFlit
  /-- Start and finish tags of fair queueing. -/
  sTag : Nat := 0
  fTag : Nat := 0
  at_ : Nat := 0
  deriving DecidableEq, Repr

/-- The root's record of a port's partner and the identities it has assigned (R154–R157). (Assumption log 4, DESIGN CHOICE.) -/
structure Ids where
  /-- Hub number held by the leaf on each root port. -/
  hubOf : List (Nat × Nat) := []
  /-- Dock IDs: (hub, port, dock). -/
  docks : List (Nat × Nat × Nat) := []
  /-- Pins of the stored configuration: root port to hub number; (hub, port) to dock ID. -/
  hubPins : List (Nat × Nat) := []
  dockPins : List (Nat × Nat × Nat) := []
  /-- R21: on a leaf, the apex that carries the tunnels. -/
  carry : Option Nat := none
  /-- R62, R534: the tree tag, TAG [29:4]. -/
  treeTag : Nat := 0
  /-- R157: on a leaf, ports whose DOCK_REQ waits for an answer, with the instant at which the wait ends. -/
  asked : List (Nat × Nat) := []
  /-- R157: on a leaf, dock IDs granted: (port, dock). -/
  granted : List (Nat × Nat) := []
  /-- R168: (hub, tunnel) for which an ENTRY_WRITE FREE is owed to a leaf that was unreachable. -/
  owedFree : List (Nat × Nat) := []
  deriving DecidableEq, Repr

/-- The Hull (R144–R153). -/
structure Hull where
  /-- Flits in the ingress buffers, oldest first. -/
  ingress : List HFlit := []
  /-- Flits delivered to internal Hull ports, oldest first: (port, flit). -/
  adapters : List (Nat × HFlit) := []
  /-- R149: the ingress port served last on each egress port; 24 until one has been served (assumption log 13, DESIGN CHOICE). -/
  rotor : Map 24 := Map.empty
  deriving DecidableEq, Repr

end Sys2Proof.Machine
end

