-- ==== Sys2Proof/Machine/StCompass.lean ====
section
/-!
DEFINITION. The state of Compass: egress queues, virtual times, shapers, policers, gate lists and energy tokens.
-/
namespace Sys2Proof.Machine

/-- The buckets of a shaper in milliwords (R302). -/
structure Bucket where
  c : Int := 0
  p : Int := 0
  deriving DecidableEq, Repr

/-- The reset state of a shaper. -/
def Bucket.init : Bucket := {}

/-- A policer record (R325) with its buckets and the colours of the open messages of its two directions (R305–R307). -/
structure Policer where
  w0 : Reg := 0
  w1 : Reg := 0
  w2 : Reg := 0
  dropRed : Nat := 0
  yellow : Nat := 0
  c : Int := 0
  p : Int := 0
  colourIn : Option Nat := none
  colourOut : Option Nat := none
  deriving DecidableEq, Repr

/-- The reset state of a policer record. -/
def Policer.init : Policer := {}

/-- The gate lists of a port (R311–R316). -/
structure Gcl where
  /-- The operational list; R315: one entry with every gate open at full reset. -/
  oper : List Reg := [0xFFCFFFFF]
  operLog2m : Nat := 0
  /-- The administrative entries, R329: 0 at reset. -/
  admin : Map (0 : Reg) := Map.empty
  /-- The list, LOG2M and CHANGE index of the pending change, as they stood at COMMIT. -/
  nextList : List Reg := []
  nextLog2m : Nat := 0
  nextChange : Nat := 0
  /-- R314: SEC × 10^9 + NS at COMMIT. -/
  commitAt : Nat := 0
  /-- R311, R316: SEC × 10^9 + NS of the last cycle boundary of the running list. -/
  startAt : Option Nat := none
  deriving DecidableEq, Repr

/-- The reset state of the gate lists of a port. -/
def Gcl.init : Gcl := {}

/-- The flit or frame that a port is sending (R310, R312): its queue, the end of its last word and the closing of its gate, as instants
of the model's clock, and whether express has carried it past that closing. -/
structure Sending where
  queue : Nat
  until_ : Nat
  closeAt : Option Nat := none
  overrun : Bool := false
  deriving DecidableEq, Repr

/-- R321: a snapshot of the queues of a port: low 16 bits of the lattice index, depths and delays by queue. -/
structure QSnap where
  index : Nat
  depths : List Nat
  delays : List Nat
  deriving DecidableEq, Repr

/-- Compass (R294–R321). (Assumption log 4, DESIGN CHOICE.) -/
structure Compass where
  /-- Egress queues by port × 32 + queue, oldest first. -/
  queues : Map ([] : List QFlit) := Map.empty
  /-- R300: F_last of a queue, by port × 32 + queue; V of a class, by port × 8 + class. -/
  fLast : Map (0 : Nat) := Map.empty
  vTime : Map (0 : Nat) := Map.empty
  /-- R312: by port, 18 and 19 for the station ports. -/
  sending : Map (none : Option Sending) := Map.empty
  shapers : Map Bucket.init := Map.empty
  policers : Map Policer.init := Map.empty
  /-- Gate lists of ports 0–17; 18 and 19 stand for station ports A and B. -/
  gcl : Map Gcl.init := Map.empty
  /-- R318: the queue of the flit whose deferral stands, by port. -/
  deferred : Map (none : Option Nat) := Map.empty
  /-- R302, R317: the 10 ns and the 1 µs counts of Datum up to which the buckets have been filled. -/
  filledTo : Nat := 0
  etokTo : Nat := 0
  /-- R321: the last snapshot of a port. -/
  snaps : Map (none : Option QSnap) := Map.empty
  /-- R317: tokens held, in quarters. -/
  etok : Nat := 0
  /-- R319: the port served last. -/
  etokLast : Nat := 17
  deriving DecidableEq, Repr

end Sys2Proof.Machine
end

