-- ==== Sys2Proof/Machine/StEvent.lean ====
section
/-!
DEFINITION. The state of the page headers and the event unit, and the record of what the hub sends.
-/
namespace Sys2Proof.Machine

/-- The header registers of a page that events use (R549, R551–R553). -/
structure PageHdr where
  stat : BitVec 32 := 0
  en : BitVec 32 := 0
  count : BitVec 32 := 0
  capt : BitVec 40 := 0
  full : Bool := false
  seq : BitVec 40 := 0
  /-- R14: the bits that hardware set in the cycle `setAt`. -/
  setAt : Nat := 0
  setBits : BitVec 32 := 0
  /-- R551, R552: the event in progress: its cycle, its bits, whether each set of it was forced, whether a bit went from 0 to 1. -/
  evAt : Option Nat := none
  evBits : BitVec 32 := 0
  evForced : Bool := false
  evFresh : Bool := false
  /-- R553: the first capture of the cycle `captAt`. -/
  captAt : Option Nat := none
  captNow : BitVec 40 := 0
  /-- R558: keeper time of the first set made while the core die was off. -/
  pdAt : Option Nat := none
  deriving DecidableEq, Repr

/-- The reset state of a page header. -/
def PageHdr.init : PageHdr := {}

/-- An entry of the event log (R559). -/
structure LogEntry where
  seq : BitVec 40
  time : BitVec 40
  page : Nat
  bits : BitVec 32
  forced : Bool
  power : Bool
  fresh : Bool
  deriving DecidableEq, Repr

/-- An entry of an MSI-X table (R560). -/
structure MsixVec where
  addr : BitVec 64 := 0
  data : BitVec 32 := 0
  mask : Bool := true
  deriving DecidableEq, Repr

/-- The reset state of an MSI-X table entry (R560). -/
def MsixVec.init : MsixVec := {}

/-- The event unit (R554–R559). -/
structure Evt where
  /-- R557: EVT_NEXT. -/
  next : BitVec 40 := 0
  /-- R559: the event log, oldest first. -/
  log : List LogEntry := []
  /-- R559: the entry copied by the last read. -/
  out : Option LogEntry := none
  /-- R556: ARM bits. -/
  arm : BitVec 64 := BitVec.allOnes 64
  /-- R556: the vectors whose message or pending bit came in the cycle `sentAt`. -/
  sentAt : Nat := 0
  sentNow : BitVec 64 := 0
  /-- R559: the entries that the cycle `lostAt` did not find room for, and EVT_LOG_STAT.OVF before them. -/
  lostAt : Nat := 0
  lost : List LogEntry := []
  lostOvf : Nat := 0
  /-- R556, R560: MSI-X tables by function × 64 + vector, and pending bit arrays of F0–F2. -/
  msix : Map MsixVec.init := Map.empty
  pba0 : BitVec 64 := 0
  pba1 : BitVec 64 := 0
  pba2 : BitVec 64 := 0
  deriving DecidableEq, Repr

/-- What leaves the hub, as the model records it (assumption log 3, DESIGN CHOICE). -/
inductive Emit where
  /-- A control word that a port's transmitter takes: lane 0 A, 1 B, 2 both lanes in one slot (parallel), 3 as the stripe places it
  (stream).  Its code groups follow as `group`. -/
  | word (port lane : Nat) (w : Word)
  /-- A code group that a port transmits on lane A, or B (R39). -/
  | group (port : Nat) (laneB : Bool) (cg : BitVec 46)
  /-- R574: a code group resent on a lane of a port in far-end loopback. -/
  | code (port : Nat) (pair : Bool) (cg : BitVec 46)
  /-- A flit on a port: header, payload, trailer. -/
  | flit (port : Nat) (words : List Word)
  /-- An express flit on both lanes of a port. -/
  | express (port : Nat) (words : List Word)
  /-- A wake burst on a port (R71). -/
  | burst (port : Nat)
  /-- A register read completes with a value. -/
  | read (page off : Nat) (v : Reg)
  /-- A message of the MSI-X rules: function, vector, address, data. -/
  | msix (func vec : Nat) (addr : BitVec 64) (data : BitVec 32)
  /-- A complete message handed to the block behind an internal Hull port. -/
  | delivered (tunnel : Nat) (words : List Word)
  /-- An event pin is driven to a level. -/
  | pin (n : Nat) (level : Bool)
  /-- An event pin is no longer driven. -/
  | pinRelease (n : Nat)
  /-- A frame on station port 0 (A) or 1 (B). -/
  | frame (port : Nat) (f : Frame)
  /-- A PTP message on station port A (18) or B (19). -/
  | ptp (port : Nat) (m : PtpMsg)
  /-- An IRIG-B frame starts on an event pin, inverted or not (R218, R230): its content. -/
  | irig (n : Nat) (inverted : Bool) (frame : List Nat)
  /-- TX_DISABLE of a station port (R337). -/
  | txDisable (x : Nat) (level : Bool)
  /-- A completion to the host: tag, status (0 successful, 1 unsupported request, 3 retry, 4 successful with EP = 1), words. -/
  | completion (tag status : Nat) (words : List Nat)
  /-- A posted write upstream: address, bytes, byte enables of the first and last word. -/
  | posted (addr : Nat) (bytes : List Nat) (fbe lbe : Nat)
  /-- A handshake or data packet to the USB host. -/
  | usb (addr ep pid : Nat) (bytes : List Nat)
  /-- USB upstream line state driven by the hub. -/
  | usbLine (state : Nat)
  /-- An AUX reply on a display input. -/
  | aux (input reply : Nat) (bytes : List Nat)
  /-- The HPD line of a display input. -/
  | hpd (input : Nat) (level : Bool)
  /-- A transmission on the tangent line of a port: header, data and CRC words; a HARD_RESET (R457). -/
  | tangent (port : Nat) (words : List Word)
  | tangentReset (port : Nat)
  /-- A rail of a port is switched: port, main rail or auxiliary rail, on (R448). -/
  | rail (port : Nat) (main on : Bool)
  /-- The core rails (CORE_EN), the retention rail (RET_EN) or the core-voltage request (CVREQ) change (R521, R536, R586): on, level. -/
  | coreRails (on : Bool)
  | retention (on : Bool)
  | coreVoltage (level : Nat)
  /-- A two-wire transaction on a station port. -/
  | i2c (port : Nat) (rd : Bool) (dev addr data : Nat)
  /-- A reply of the maintenance port. -/
  | spi (bits : Nat)
  deriving DecidableEq, Repr

end Sys2Proof.Machine
end

