-- ==== Sys2Proof/Machine/StExpress.lean ====
section
/-!
DEFINITION. The state of the express adapter and the congruent pair beyond the register page and the PIN records.
-/
namespace Sys2Proof.Machine

/-- An internal source of an express tunnel (R262–R264). -/
structure XSource where
  /-- Next ESN, EVSEQ of the last event, whether an event has been sent since OPEN. -/
  esn : Nat := 0
  evseq : Nat := 0
  begun : Bool := false
  /-- Where the last event arose: pin 0–15, or 16 + GOOSE record. -/
  origin : Nat := 0
  opcode : Nat := 0
  /-- TEST and ELEMENT of the last event. -/
  flags : Nat := 0
  /-- R263: instants of the repeats still due, and of the next heartbeat. -/
  repeats : List Nat := []
  beatAt : Option Nat := none
  /-- R264: start of the last flit; an event deferred until an instant, and the events it covers. -/
  lastStart : Option Nat := none
  deferred : Option Nat := none
  covers : Nat := 0
  /-- R339: the heartbeat is stopped by the loss of a GOOSE input with OP_LOSS 0x00. -/
  quiet : Bool := false
  deriving DecidableEq, Repr

/-- What the pair holds for an express group (R265, R267, R279, R287, R293). -/
structure XGroup where
  /-- LAST_ESN, and the ESNs accepted among it and the 64 behind it, with the suspect bit. -/
  last : Option Nat := none
  seen : List (Nat × Bool) := []
  /-- R265: start of the last flit accepted. -/
  at_ : Option Nat := none
  src : XSource := {}
  flits : Nat := 0
  dups : Nat := 0
  evActed : Nat := 0
  /-- R287: when supervision is lost. -/
  superAt : Option Nat := none
  deriving DecidableEq, Repr

/-- The reset state of a group. -/
def XGroup.init : XGroup := {}

/-- What a sink keeps of a tunnel (R269): LAST_EVSEQ, whether it has acted on that event, and the ESN of a SUSPECT flit on which a GOOSE
record has acted (R340). -/
structure XSeen where
  ev : Nat
  acted : Bool
  doubt : Option Nat := none
  deriving DecidableEq, Repr

/-- A sink (R269, R286): pin 0–15, or 16 + GOOSE record. -/
structure XSink where
  /-- R269: by group. -/
  seen : Map (none : Option XSeen) := Map.empty
  /-- R286: the end of a pulse. -/
  pulseEnd : Option Nat := none
  /-- The pin is at its active level. -/
  on : Bool := false
  deriving DecidableEq, Repr

/-- The reset state of a sink. -/
def XSink.init : XSink := {}

/-- A checkpoint bank (R279).  That its CRC or a word of it fails is an operand of the command that finds it (assumption log 43, DEDUCED). -/
structure Bank where
  index : Nat
  number : Nat
  /-- The bank's number, 1: bank 1. -/
  second : Bool
  /-- The journal's entry count at the start of the checkpoint. -/
  start : Nat
  groups : Map XGroup.init
  sinks : Map XSink.init
  /-- Output levels of the event pins; per pin, the last source level sent and its short time; the hand-off words not acknowledged. -/
  levels : Nat
  sent : Map (none : Option (Bool × Nat))
  handoff : List Word
  deriving DecidableEq, Repr

/-- A journal entry (R280): its number, ingress port, words, arrival, verdict (R267: 0 duplicate, 1 new, 2 stale, 3 late, 4 confirmed,
5 own, 6 dropped). -/
structure JEntry where
  num : Nat
  port : Nat
  words : List Word
  at_ : Nat
  verdict : Nat
  deriving DecidableEq, Repr

/-- An express flit as the pair sees it: words 1 and 2 of R87, and what word 3 differs by from the complement of word 2. -/
structure XFlit where
  hdr : Word
  payload : Word
  comp : Word := 0
  deriving DecidableEq, Repr

/-- The sequence of spare C (R281). -/
structure Takeover where
  startAt : Nat
  /-- Step 4: dual emission begins; step 6: C alone decides. -/
  dualAt : Nat
  doneAt : Nat
  dual : Bool := false
  /-- The low 16 bits of the lattice index of the bank used. -/
  index : Nat
  /-- Flits decided since M that C has yet to emit: ingress port, flit as it is clean, egress ports. -/
  fenced : List (Nat × XFlit × List Nat) := []
  deriving DecidableEq, Repr

/-- The express adapter (R259–R293). -/
structure Express where
  groups : Map XGroup.init := Map.empty
  sinks : Map XSink.init := Map.empty
  /-- R279, R280: banks 0 and 1, checkpoints completed, journal entries made and held, number of the last entry lost. -/
  bank0 : Option Bank := none
  bank1 : Option Bank := none
  ckpts : Nat := 0
  made : Nat := 0
  journal : List JEntry := []
  lost : Option Nat := none
  /-- R280: instant of the last mismatch. -/
  mmAt : Option Nat := none
  /-- R276: a disagreement of A and B that shows at the next comparison at its point; a mismatch that is to start spare C. -/
  upset : Option Mismatch := none
  due : Option Mismatch := none
  /-- R279: per source pin, the last level sent and its short time. -/
  sent : Map (none : Option (Bool × Nat)) := Map.empty
  /-- R289: the next flit that engine A outputs is inverted in bit 0 of its header word. -/
  force : Bool := false
  takeover : Option Takeover := none
  /-- R283: the self-test is running; it has passed and restoration waits for a tick; A and B re-run the journal for this index. -/
  testing : Bool := false
  awaiting : Bool := false
  rerun : Option Nat := none
  /-- R276: hand-off words that the bridge has not acknowledged: none are held, since the bridge takes a word at once. -/
  handoff : List Word := []
  deriving DecidableEq, Repr

end Sys2Proof.Machine
end

