-- ==== Sys2Proof/Machine/StFrame.lean ====
section
/-!
DEFINITION. The state of the frame bridge and of the station ports beyond the register pages and records.
-/
namespace Sys2Proof.Machine

/-- A dynamic entry of the MAC table (R333). -/
structure MacEntry where
  vid : Nat
  mac : Mac
  port : Nat
  seen : Nat
  deriving DecidableEq, Repr

/-- An entry of the duplicate table (R338). -/
structure DupEntry where
  mac : Mac
  seq : Nat
  since : Nat
  deriving DecidableEq, Repr

/-- A publication received on a station port that waits for the records: port (true: B), receive stamp in ns of Datum, instant,
whether it passed the checks of the bridge. -/
structure Arrival where
  portB : Bool
  stamp : Nat
  at_ : Nat
  ok : Bool
  f : Frame
  deriving DecidableEq, Repr

/-- What a GOOSE record holds beyond its words and GOOSE_STAT (R339, R340). -/
structure GooseRun where
  /-- Input: stNum last accepted (none: no frame since VALID or a loss), end of timeAllowedtoLive. -/
  lastSt : Option Nat := none
  liveUntil : Option Nat := none
  /-- Input: the loss has been presented, and no good frame has come since. -/
  lost : Bool := false
  /-- Input: opcode presented last (0: none), and whether it is a test. -/
  op : Nat := 0
  test : Bool := false
  /-- Output: dataset, retransmission interval in ms and instant. -/
  stVal : Bool := false
  q : Nat := 0
  t : Int := 0
  interval : Nat := 0
  nextAt : Option Nat := none
  deriving DecidableEq, Repr

/-- The reset state of a GOOSE record. -/
def GooseRun.init : GooseRun := {}

/-- The meter of a stream filter (R334): tokens in octets × 10^-3, instant of the last judgement. -/
structure Meter where
  tokens : Nat
  at_ : Nat
  deriving DecidableEq, Repr

/-- The frame bridge (R330–R345). -/
structure Bridge where
  macs : List MacEntry := []
  /-- R338: proxied nodes, oldest first, and the sequence numbers of own and proxied sources. -/
  proxies : List Mac := []
  seqs : Map (0 : Nat) := Map.empty
  dups : List DupEntry := []
  /-- R335: egress queues by station port × 8 + PCP, oldest first. -/
  queues : Map ([] : List Frame) := Map.empty
  /-- R332: frames waiting at a tunnel port, by bridge port, oldest first. -/
  tunWait : Map ([] : List Frame) := Map.empty
  meters : Map (none : Option Meter) := Map.empty
  goose : Map GooseRun.init := Map.empty
  forGoose : List Arrival := []
  forSv : List Arrival := []
  /-- R338: instant of the last frame on ports A and B; whether LAN_FAIL stands; next supervision frames. -/
  lanAt : Map (0 : Nat) := Map.empty
  lanFailed : Map (false : Bool) := Map.empty
  superAt : Nat := 0
  /-- R337: TX_DISABLE as driven at the ball of a station port. -/
  txDisable : Map (true : Bool) := Map.empty
  deriving DecidableEq, Repr

end Sys2Proof.Machine
end

