-- ==== Sys2Proof/Machine/StKey.lean ====
section
/-!
DEFINITION. The state of the key store (R418–R443).
-/
namespace Sys2Proof.Machine

/-- One copy of a slot in MRAM (R418); all zero is erased MRAM. -/
structure SlotCopy where
  gen : Nat := 0
  /-- Word 1: STATE, PURPOSE, LC, MASTERS, WORLD, EXPORT. -/
  w1 : Reg := 0
  /-- Word 2: PARENT, ROOT_LC. -/
  w2 : Reg := 0
  pgen : Nat := 0
  keyId : Reg := 0
  key : BitVec 256 := 0
  commit : Nat := 0
  tag : BitVec 64 := 0
  deriving DecidableEq, Repr

/-- The states of a slot as the key cache holds them (R423). -/
inductive SlotState where
  | empty | key | revoked | bad
  deriving DecidableEq, Repr

/-- R446: the code of a slot state in KEY_SLOTMAP. -/
def SlotState.code : SlotState → Nat
  | .empty => 0 | .key => 1 | .revoked => 2 | .bad => 3

/-- A slot: its two copies, the copy in use and its state in the key cache. -/
structure Slot where
  c0 : SlotCopy := {}
  c1 : SlotCopy := {}
  /-- The copy in use is copy 1. -/
  use1 : Bool := false
  st : SlotState := .empty
  /-- R440: GEN at the last invalidation. -/
  invalidGen : Option Nat := none
  deriving DecidableEq, Repr

/-- A slot as manufactured. -/
def Slot.init : Slot := {}

/-- A copy of the life-cycle record (R428). -/
structure LcCopy where
  gen : Nat := 0
  state : Nat := 0
  bad : List Nat := []
  count : Nat := 0
  commit : Nat := 0
  /-- R420: the integrity tag verifies. -/
  valid : Bool := true
  deriving DecidableEq, Repr

/-- The key store beyond its registers. -/
structure KeyStore where
  slots : Map Slot.init := Map.empty
  lc0 : LcCopy := {}
  lc1 : LcCopy := {}
  /-- R429: the challenge that may serve one attempt. -/
  challenge : Option Nat := none
  /-- R422: when the next scrub pass is due. -/
  scrubAt : Nat := 86400000000000
  /-- R432: the mailbox. -/
  args : Map (0 : Reg) := Map.empty
  inLen : Nat := 0
  inBytes : Map (0 : Nat) := Map.empty
  outBytes : List Nat := []
  busy : Bool := false
  stale : Bool := false
  /-- R437, R440: the slots that commands have used in the instant `usedAt`, and whether for the mailbox. -/
  usedAt : Nat := 0
  used : List (Nat × Bool) := []
  /-- R432: STATUS and IGNORED of MBX_STAT. -/
  status : Nat := 0
  ignored : Nat := 0
  /-- R438: the bytes of the MRAM patch area. -/
  patch : List Nat := []
  deriving DecidableEq, Repr

end Sys2Proof.Machine
end

