-- ==== Sys2Proof/Machine/StLink.lean ====
section
/-!
DEFINITION. The state of a lane pair and of the Chord link layer of a port, beyond what the register pages hold.
-/
namespace Sys2Proof.Machine

/-- Phases of a training attempt (R48, R54, R57, R60, R64). -/
inductive Phase where
  /-- No attempt runs. -/
  | idle
  | lock
  | equalise
  | align
  | config
  | rtLock
  | rtEqualise
  | rtAlign
  deriving DecidableEq, Repr

/-- What a lane hands to Chord for one code group (R43). -/
inductive RxItem where
  | bad
  /-- An express word stood in the slot and has been handed over. -/
  | express
  | data (w : Word)
  | ctl (w : Word)
  deriving DecidableEq, Repr

/-- One physical receive pair and the lane it carries. -/
structure Pair where
  /-- R50: TRAIN or ALIGN words found in succession, 16 code groups apart, and when the last one came. -/
  hits : Nat := 0
  wordAt : Nat := 0
  locked : Bool := false
  /-- R51: the pair is inverted. -/
  inverted : Bool := false
  /-- R51: the LANE field read (true: lane B). -/
  laneB : Option Bool := none
  /-- R56: the partner's seed for the lane. -/
  seed : Nat := 0
  /-- R56: LAST received, so descrambling runs. -/
  descrambling : Bool := false
  /-- R41: descrambler register S[30:0]. -/
  lfsr : BitVec 31 := 0
  /-- R50: of the last 64 code groups in ACTIVE, which carried sync header 0b00 (newest first). -/
  zeros : List Bool := []
  /-- R59: instants of the last bad words. -/
  badAt : List Nat := []
  /-- R46: stream and parallel items waiting for deskew, oldest first. -/
  items : List RxItem := []
  /-- R46, R89: the express words of the run that arrives, oldest first (none: a bad-word mark after an express word). -/
  express : List (Option Word) := []
  /-- R89: runs of express words that a slot without one has ended, not yet judged, oldest first. -/
  runs : List (List (Option Word)) := []
  /-- R89: the last slot held an express word. -/
  inGroup : Bool := false
  /-- R68: IDLE words still to come before the descrambler freezes. -/
  restLeft : Nat := 0
  deriving DecidableEq, Repr

/-- The transmitter of a lane pair (R39–R47): the generators of the two lanes, and what waits for a code-group slot.  A slot carries an
express or parallel word on both lanes, or a stream word on A and the next one on B, so the stripe of R44 stands on A at every slot. -/
structure LaneTx where
  /-- R41, R56, R70: the generators of lanes A and B; they hold their state where nothing scrambled is sent. -/
  lfsrA : BitVec 31 := 0
  lfsrB : BitVec 31 := 0
  /-- R45: express words and parallel words waiting, oldest first; a parallel word of lane B where it differs from that of lane A (WAKE). -/
  express : List Word := []
  par : List (Word × Word) := []
  /-- The word of lane A whose lane B counterpart has not been handed over yet. -/
  half : Option Word := none
  /-- R44: stream words waiting, oldest first (true: data). -/
  stream : List (Bool × Word) := []
  deriving DecidableEq, Repr

/-- A lane pair of a port (R37–R79). -/
structure Lane where
  phase : Phase := .idle
  /-- Entry to TRAIN, RETRAIN or the attempt in DOWN (R57, R60). -/
  since : Nat := 0
  /-- Deadline of the current phase. -/
  deadline : Option Nat := none
  /-- R58: when the next cold attempt starts. -/
  retryAt : Option Nat := none
  /-- R58: successive failures. -/
  fails : Nat := 0
  pair0 : Pair := {}
  pair1 : Pair := {}
  /-- R48: RDY sent and received in the current phase. -/
  rdySent : Bool := false
  rdyRcvd : Bool := false
  /-- R56: DSK received, own deskew complete, LAST sent and received. -/
  dskRcvd : Bool := false
  deskewed : Bool := false
  lastSent : Bool := false
  lastRcvd : Bool := false
  /-- R54: the slot of the first ALIGN word (they come every 64 ns); R56: the slot of LAST; R42, R79: the seeds in use. -/
  alignAt : Nat := 0
  lastAt : Option Nat := none
  seedA : Nat := 1
  seedB : Nat := 2
  /-- R49: the PRBS31 pattern generator. -/
  pattern : BitVec 31 := BitVec.allOnes 31
  /-- R48: REQ_T last received, and the reports of the last request. -/
  reqT : Bool := false
  preSt : Nat := 3
  postSt : Nat := 3
  /-- R48: the request that the hub's TRAIN words carry, its toggle, and the acknowledgement received. -/
  reqPreset : Nat := 0
  reqPre : Nat := 0
  reqPost : Nat := 0
  myReqT : Bool := false
  myAckT : Bool := false
  /-- R53, R60: cursors at RETRAIN entry: own transmitter and partner transmitter. -/
  txPre0 : Nat := 0
  txPost0 : Nat := 0
  rxPre0 : Nat := 0
  rxPost0 : Nat := 0
  /-- R53: preset under evaluation, end of its evaluation, best margin so far with its cursors; the sweep stage
  (0–7 presets, 8 the best of them again, 9 pre-cursor step, 10 post-cursor step, 11 done). -/
  sweepPreset : Nat := 0
  sweepStage : Nat := 0
  evalUntil : Option Nat := none
  bestMargin : Nat := 0
  bestPreset : Nat := 0
  bestPre : Nat := 0
  bestPost : Nat := 0
  /-- R66: the coefficients of an earlier sweep are stored. -/
  coefStored : Bool := false
  /-- R47: when the next SKIP is scheduled. -/
  skipAt : Nat := 0
  /-- R61, R64: CAPS words of the set being received, in order, newest first. -/
  capsRx : List (Nat × Nat) := []
  /-- The last complete, consistent set received in this CONFIG. -/
  caps : List (Nat × Nat) := []
  /-- CAPS contents of this CONFIG that were fixed at its entry: indices 2 and 5–12 (R140, R143). -/
  myCaps : List (Nat × Nat) := []
  /-- R99, R140: VER_MAX (0–2), AUTH_REQUIRE and the CREDITLESS bits of VC1 and VC2 as they stood at the entry to this CONFIG. -/
  verMax : Nat := 2
  authRequire : Bool := false
  credless : List Bool := []
  /-- R130: AUTH_FAIL has been raised in this CONFIG. -/
  authFailed : Bool := false
  seenRcvd : Bool := false
  seenSent : Bool := false
  /-- R67: IDENTITY KIND and TAG of the last CONFIG. -/
  lastKind : Option Nat := none
  lastTag : Nat := 0
  /-- R67, R126: an attempt in DOWN has completed and waits for step 5a. -/
  resumed : Bool := false
  /-- R68: the ENTER code sent and waiting for an answer, and when the answer is due. -/
  asked : Option Nat := none
  askUntil : Option Nat := none
  /-- R73: bursts sent in the series, and when the next is due. -/
  bursts : Nat := 0
  burstAt : Option Nat := none
  /-- R70: WAKE words received and sent in a DOZE exit. -/
  waking : Bool := false
  /-- R69: a retrain trigger arose after ACCEPT = 1, so the exit goes through RETRAIN. -/
  viaRetrain : Bool := false
  /-- R76: FORCE_COLD acts when the wake that it started is complete. -/
  coldAfter : Bool := false
  /-- R39–R49: the transmitters of the two lanes. -/
  tx : LaneTx := {}
  /-- R178: when the port last entered ACTIVE. -/
  activeAt : Nat := 0
  deriving DecidableEq, Repr

/-- The reset state of a lane pair (the R77 reset state DISABLED stands in LANE_STAT). (Assumption log 4, DESIGN CHOICE.) -/
def Lane.init : Lane := {}

/-- An entry of the replay buffer (R105, R115, R127). (Assumption log 31, DEDUCED.) -/
structure Replay where
  lsn : Nat
  vc : Nat
  tunnel : Nat
  payload : List Word
  last : Bool
  poison : Bool := false
  /-- R120: the flit was sent stomped, and a replay resends it stomped. -/
  stomp : Bool := false
  /-- R127: the entry is a drop stub. -/
  stub : Bool := false
  /-- R115: the entry lies in the spill pool; R116: its first word there, counted from the first block that the port holds. -/
  spilled : Bool := false
  pos : Nat := 0
  /-- R117: an uncorrectable error has been found in the entry's payload. -/
  lost : Bool := false
  deriving DecidableEq, Repr

/-- An entry of the express replay buffer (R113). -/
structure XReplay where
  xsn : Nat
  words : List Word
  firstAt : Nat
  deriving DecidableEq, Repr

/-- A Point message (R121). -/
structure Point where
  type : Nat
  oh : Bool
  origin : Nat
  arg : Nat
  deriving DecidableEq, Repr

/-- A Point message to be sent again (R122). -/
structure PointRep where
  word : Word
  due : Nat
  left : Nat
  deriving DecidableEq, Repr

/-- Credit counts of one virtual channel (R93, R95). -/
structure Cred where
  /-- Transmit side: consumed counts and limits, header and data. -/
  ccH : Nat := 0
  ccD : Nat := 0
  clH : Nat := 0
  clD : Nat := 0
  /-- The partner advertised the VC credit-less (R98). -/
  cless : Bool := false
  /-- R170: the partner's advertised data credits. -/
  partnerD : Nat := 0
  /-- Receive side: limits as last sent, credits freed and waiting, header and data. -/
  limH : Nat := 0
  limD : Nat := 0
  freedH : Nat := 0
  freedD : Nat := 0
  dueH : Option Nat := none
  dueD : Option Nat := none
  /-- R98, R146: the hub advertised the VC credit-less; data credits of the partition in use. -/
  myCless : Bool := false
  partition : Nat := 0
  used : Nat := 0
  deriving DecidableEq, Repr

/-- The flit being framed (R82). -/
structure Framing where
  words : List Word := []
  bad : Bool := false
  deriving DecidableEq, Repr

/-- Phases of an epoch change (R133, R134). -/
inductive EpochPhase where
  | none | announced | ready
  deriving DecidableEq, Repr

/-- Chord of a port (R80–R143, R612). -/
structure Chord where
  /-- The link has been configured and not flushed since. -/
  linked : Bool := false
  /-- R126 steps 2 and 3 have been carried out for this DOWN. -/
  downDone : Bool := false
  /-- Transmitter: next LSN, purge point, held entries in LSN order. -/
  nextLsn : Nat := 0
  purge : Nat := 0xFFFF
  replay : List Replay := []
  /-- R105, R107: restart point of the replay in progress. -/
  restart : Nat := 0
  /-- R109: the replay number and the oldest entry of the previous replay. -/
  replayNum : Nat := 0
  /-- R116: the spill quota in use. -/
  quota : Nat := 512
  lastOldest : Option Nat := none
  /-- R108: replay timer. -/
  timer : Option Nat := none
  /-- Receiver: cumulative point, accepted flits not acknowledged, ACK due, NAK repeat due. -/
  cum : Nat := 0xFFFF
  unacked : Nat := 0
  ackDue : Option Nat := none
  nakAgain : Option Nat := none
  /-- R103: framing is void until an ACK with RSTART = 1. -/
  void : Bool := false
  framing : Framing := {}
  /-- Complete flits waiting to be judged, oldest first; true: a bad-word mark among its words. -/
  framed : List (List Word × Bool) := []
  vc1 : Cred := {}
  vc2 : Cred := {}
  vc3 : Cred := {}
  vc4 : Cred := {}
  vc5 : Cred := {}
  creditRepeat : Option Nat := none
  /-- R111, R113: express. -/
  nextXsn : Nat := 0
  xReplay : List XReplay := []
  xCum : Nat := 255
  xAcc : List Nat := []
  /-- R111: accepted express flits (words 1–3) waiting for the express adapter, oldest first. -/
  xIn : List (List Word) := []
  /-- R90, R114: express flits of which one copy has come: lane of the copy (true: B), good, end of the wait. -/
  xWait : List (Bool × Bool × Nat) := []
  /-- R122, R123: Point sequence number, messages waiting, repeats, words accepted within 1 µs (word type, PSN, time). -/
  psn : Nat := 0
  points : List Point := []
  pointReps : List PointRep := []
  pointSeen : List (Nat × Nat × Nat) := []
  /-- R510, R513: WAKE_REQ DORMANT has been sent or accepted, so no new flit starts and the port goes to DORMANT once it holds none. -/
  quiet : Bool := false
  /-- R122: instants of the Point messages sent in the last microsecond. -/
  pointSent : List Nat := []
  /-- R125, R126: grace timer and period in force (ms). -/
  graceMs : Nat := 50
  graceAt : Option Nat := none
  /-- R126 step 5a: Chord version, features and advertisements of the last CONFIG. -/
  settings : List Nat := []
  /-- R131, R139: nonces of the last CONFIG, own and partner. -/
  nonceTx : Nat := 0
  nonceRx : Nat := 0
  /-- R132: extended sequence counts above LSN and XSN, both directions. -/
  lsnHighTx : Nat := 0
  lsnHighRx : Nat := 0
  xsnHighTx : Nat := 0
  xsnHighRx : Nat := 0
  /-- R131, R441: the keys in use for sending and receiving, the receiver's derived next key, and the previous one (R134). -/
  keyTx : BitVec 256 := 0
  keyRx : BitVec 256 := 0
  keyNext : BitVec 256 := 0
  keyOld : BitVec 256 := 0
  /-- R434, R440: the LINK_ROOT slot under which the link runs: LINK_MAP acts at the next CONFIG or epoch change. -/
  keySlot : Nat := 0xFF
  /-- R133, R134: epoch change, transmit and receive side. -/
  epTx : EpochPhase := .none
  epTxAt : Nat := 0
  epRepeat : Option Nat := none
  epDeadline : Option Nat := none
  epRx : EpochPhase := .none
  epRxAt : Nat := 0
  epOldUntil : Option Nat := none
  /-- R117: the replay that the return to ACTIVE starts is still to read the spill pool. -/
  poolDue : Bool := false
  /-- R117: the epoch change precedes the resending of a lost entry. -/
  epForLoss : Bool := false
  /-- R135: instants of tag failures within 1 ms. -/
  tagFails : List Nat := []
  /-- R136: the link key is revoked; grace deadline. -/
  revoked : Bool := false
  revokeAt : Option Nat := none
  deriving DecidableEq, Repr

/-- The reset state of a Chord port. (Assumption log 4, DESIGN CHOICE.) -/
def Chord.init : Chord := {}

end Sys2Proof.Machine
end

