-- ==== Sys2Proof/Machine/StPower.lean ====
section
/-!
DEFINITION. The state of the power die and of the units that start and keep the hub: feeds, tangent ports, power states, resets, the
stored configuration, the lifetime log and diagnostics.
-/
namespace Sys2Proof.Machine

/-- The states of a feed (R490). -/
inductive FeedState where
  | absent | start | on | ovOff | latched | disabled
  deriving DecidableEq, Repr

/-- The number of a feed state (R490). -/
def FeedState.code : FeedState → Nat
  | .absent => 0 | .start => 1 | .on => 2 | .ovOff => 3 | .latched => 4 | .disabled => 5

/-- A feed (R490–R498). -/
structure Feed where
  st : FeedState := .absent
  /-- Instant at which the state was entered. -/
  since : Nat := 0
  limit : Bool := false
  blocked : Bool := false
  pg : Bool := false
  /-- R494: end of the start timer; R495: end of the running fault timer. -/
  startBy : Option Nat := none
  faultBy : Option Nat := none
  /-- R498: start of the running qualification of power-good. -/
  pgFrom : Option Nat := none
  /-- R496: EN_x is at 0 since. -/
  offAt : Option Nat := none
  /-- R490: the start timer and the fault timer that ran when the state was entered. -/
  hadStart : Option Nat := none
  hadFault : Option Nat := none
  deriving DecidableEq, Repr

/-- The reset state of a feed. -/
def Feed.init : Feed := {}

/-- FEED_WARN (R499–R501). -/
structure FeedWarn where
  /-- R499: a feed has set PG or a main-sink contract has come into force. -/
  armed : Bool := false
  /-- Instant of the assertion, ARG as sent, next repeat. -/
  at_ : Nat := 0
  arg : Nat := 0
  repeatAt : Option Nat := none
  deriving DecidableEq, Repr

/-- A message on a tangent line (R458): TYPE, ARG, data words. -/
structure TanMsg where
  type : Nat
  arg : Nat := 0
  data : List Word := []
  deriving DecidableEq, Repr

/-- A message sent and not yet acknowledged or answered (R460, R463). -/
structure TanOut where
  m : TanMsg
  id : Nat
  sends : Nat
  sentAt : Nat
  /-- R463: acknowledged at; the reply is due 10 ms later. -/
  ackAt : Option Nat := none
  deriving DecidableEq, Repr

/-- The tangent and power state of a port beyond its register page (R447–R480). -/
structure TanPort where
  /-- R452: the presentation is Ip; next change of a dual-role port. -/
  ip : Bool := true
  toggleAt : Option Nat := none
  /-- R453: the contact found in the band (true: T2) and since when; end of GUARD, FAULT_WAIT or the HARD_RESET state. -/
  contact : Bool := false
  bandAt : Nat := 0
  waitBy : Option Nat := none
  /-- R455: attach has been signalled to the lane layer. -/
  signalled : Bool := false
  /-- The hub was source at attach. -/
  attSrc : Bool := true
  /-- R460: next MSG_ID, MSG_ID last accepted from the partner, messages to be sent, the message outstanding. -/
  msgId : Nat := 0
  lastRx : Option Nat := none
  queue : List TanMsg := []
  out : Option TanOut := none
  /-- R465: HELLOs sent, and when the next is due. -/
  hellos : Nat := 0
  helloAt : Option Nat := none
  /-- R466: IMAX and PMAX of the last OFFER sent or received; I_REQ and P_REQ of the REQUEST in hand. -/
  offerI : Nat := 0
  offerP : Nat := 0
  reqI : Nat := 0
  reqP : Nat := 0
  /-- The REQUEST in hand has been accepted. -/
  granted : Bool := false
  /-- R470: phase in progress; R470, R474: when READY or the swap step is overdue. -/
  phase : Nat := 0
  readyBy : Option Nat := none
  swapBy : Option Nat := none
  swapping : Bool := false
  /-- R475, R476: hard resets since the last CONTRACT; the present HARD_RESET state was entered on reception. -/
  resets : Nat := 0
  resetRcvd : Bool := false
  /-- R480: successive quick faults; when a rail was last turned on. -/
  faults : Nat := 0
  railAt : Option Nat := none
  /-- R479: instant at which GUARD was entered. -/
  leftAt : Nat := 0
  /-- R470: end of the phase AUX_ON; R468: instant at which the REQUEST in hand was accepted; R475: instant of the last hard reset. -/
  auxBy : Nat := 0
  grantAt : Nat := 0
  resetAt : Option Nat := none
  /-- R32, R459: SWAP of the HELLO last sent. -/
  mySwap : Bool := false
  deriving DecidableEq, Repr

/-- The reset state of a port. -/
def TanPort.init : TanPort := {}

/-- Clock, level and sleep (R507–R527). -/
structure Power where
  /-- R522: the change in progress: level and source, and when it completes; the latest request behind it. -/
  change : Option (Nat × Bool × Nat) := none
  wanted : Option (Nat × Bool) := none
  /-- R522: a selection of the PLL waits for lock. -/
  pllHeld : Bool := false
  /-- R525: CRIT has been reached and the level is held at P3; successive cool periods. -/
  crit : Bool := false
  cool : Nat := 0
  /-- R510: sleep state asked for, when the drain ends, sources that arrived during entry (code, detail). -/
  asked : Nat := 0
  drainBy : Option Nat := none
  early : List (Nat × Nat) := []
  /-- The sleep state entered: 0 none, 1–3 S1–S3; R514: end of the wake timer. -/
  asleep : Nat := 0
  timerAt : Option Nat := none
  /-- R519: PWR_PERF at the entry to S2 (LEVEL, SRC, AUTO), to be written back once the PLL has locked. -/
  perf : Option (Nat × Bool × Bool) := none
  /-- R530: instant at which an enabled wake source last arrived. -/
  srcAt : Option Nat := none
  /-- R507, R510: VC3–VC5 are stopped. -/
  stopped : Bool := false
  /-- R520: the bytes of WAKE_SRC. -/
  wakeSrc : List Nat := List.replicate 16 0
  /-- R523: energy tokens in quarters spent since the period began, and when it began. -/
  spent : Nat := 0
  periodAt : Nat := 0
  deriving DecidableEq, Repr

/-- A copy of the stored configuration (R541, R542). -/
structure CfgCopy where
  /-- Header words 0–15, and the record words written, by index. -/
  hdr : List Nat := List.replicate 16 0
  body : Map (0 : Nat) := Map.empty
  deriving DecidableEq, Repr

/-- The stored configuration (R541–R546). -/
structure Stored where
  copy0 : CfgCopy := {}
  copy1 : CfgCopy := {}
  /-- R546: the copy being written, and the end of steps 3 and 4 once COMMIT has been taken. -/
  target : Option Bool := none
  committing : Option Nat := none
  /-- R543: TUNNEL records waiting for step 6: word index, words 1–9. -/
  tunnels : List (Nat × List Nat) := []
  /-- Tunnels of the image that have not yet reached OPEN. -/
  opening : List Nat := []
  deriving DecidableEq, Repr

/-- Resets and start (R531–R540). (Assumption log 4, DESIGN CHOICE.) -/
structure Boot where
  /-- R531: the power die runs; R478: the core rails were started from the cable. -/
  dieOn : Bool := true
  cable : Bool := false
  /-- The core rails are on and good; the core die has started since the last assertion. -/
  rails : Bool := true
  started : Bool := false
  /-- R540: codes seen in the asserting cycle, lowest first, instant and short time of the assertion. -/
  seen : List Nat := [1]
  at_ : Nat := 0
  short : Nat := 0
  /-- R533: instant of the last release. -/
  released : Option Nat := none
  /-- R534. -/
  rcnt : Nat := 0
  /-- R538: RESTORE_LATE has been raised since the release. -/
  late : Bool := false
  /-- R535: expiry of the host watchdog. -/
  hostBy : Option Nat := none
  /-- R527: the restart follows a thermal shutdown. -/
  hot : Bool := false
  /-- R572: maintenance-port sessions begun. -/
  sessions : Nat := 0
  deriving DecidableEq, Repr

/-- A bank of the lifetime log (R567): GEN, counters, COMMIT. (Assumption log 47, DEDUCED.) -/
structure LogBank where
  gen : Nat := 0
  counts : Map (0 : Nat) := Map.empty
  commit : Nat := 0
  deriving DecidableEq, Repr

/-- The lifetime log (R567–R573). -/
structure LogUnit where
  bank0 : LogBank := {}
  bank1 : LogBank := {}
  /-- Working copy; minutes that the power die keeps while the core die is off. -/
  work : Map (0 : Nat) := Map.empty
  kept : Map (0 : Nat) := Map.empty
  /-- R568: TMAX and VMIN have been set. -/
  tmaxSet : Bool := false
  vminSet : Bool := false
  /-- R569: the bank last loaded or committed (true: bank 1), and its GEN. -/
  last1 : Bool := true
  /-- R570: the snapshot being committed; a further commit is due; the commit was asked for by LOG_CMD. -/
  writing : Option (Map (0 : Nat)) := none
  again : Bool := false
  byCmd : Bool := false
  againCmd : Bool := false
  /-- When the commit in progress started; when the next minute ends. -/
  startAt : Nat := 0
  minuteAt : Nat := 60000000000
  retried : Bool := false
  cmdAt : Option Nat := none
  nextAt : Nat := 600000000000
  /-- R572: entries of eight words, oldest first; those waiting for the commit in progress. -/
  ring : List (List Nat) := []
  held : List (List Nat) := []
  deriving DecidableEq, Repr

/-- A pattern checker of a port (R575). -/
structure PatCheck where
  on : Bool := false
  syncA : Bool := false
  syncB : Bool := false
  /-- Generators, successive correct bits before synchronisation, instants of the errors within 1 µs. -/
  genA : BitVec 31 := 0
  genB : BitVec 31 := 0
  runA : Nat := 0
  runB : Nat := 0
  errA : Nat := 0
  errB : Nat := 0
  groupsA : Nat := 0
  groupsB : Nat := 0
  /-- Instants and numbers of the errors within 1 µs. -/
  recentA : List (Nat × Nat) := []
  recentB : List (Nat × Nat) := []
  deriving DecidableEq, Repr

/-- The reset state of a pattern checker. -/
def PatCheck.init : PatCheck := {}

/-- Diagnostics (R575, R576): the checkers, and the test that runs. -/
structure Diag where
  pats : Map PatCheck.init := Map.empty
  test : Nat := 0
  deriving DecidableEq, Repr

/-- The power die and the units of start and record. -/
structure PowerDie where
  feeds : Map Feed.init := Map.empty
  warn : FeedWarn := {}
  tans : Map TanPort.init := Map.empty
  /-- R72, R74, R78: wake bursts declared, and cable classes read, while the core die was off: their ports, oldest first. -/
  bursts : List Nat := []
  classes : List Nat := []
  /-- R66: ports that were detached while the core die was off. -/
  gone : List Nat := []
  deriving DecidableEq, Repr

end Sys2Proof.Machine
end

