-- ==== Sys2Proof/Machine/StSample.lean ====
section
/-!
DEFINITION. The state of the sample adapter beyond the register page and the records.
-/
namespace Sys2Proof.Machine

/-- An accepted part of a set (R237): stream index, instant in ns of Datum, PART, sample words. -/
structure SetPart where
  stream : Nat
  inst : Nat
  part : Nat
  words : List Word
  deriving DecidableEq, Repr

/-- R247: successive missing sets of a source slot, and whether SRC_FAIL has been raised in the run. -/
structure SrcRun where
  missing : Nat := 0
  failed : Bool := false
  deriving DecidableEq, Repr

/-- The reset state of a source slot. -/
def SrcRun.init : SrcRun := {}

/-- A composite or an outgoing sampled-value stream that runs. -/
structure Feeder where
  /-- Instant of the next set, in ns of Datum (outgoing streams: of the first ASDU of the next frame); none: it does not run. -/
  next : Option Nat := none
  /-- First instant, and last instant whose emission has begun. -/
  first : Nat := 0
  last : Option Nat := none
  /-- R249: the boundary at which the record became invalid; instants before it are still emitted. -/
  stop : Option Nat := none
  runs : Map SrcRun.init := Map.empty
  /-- R247: held values by source slot × 32 + channel. -/
  held : Map (none : Option Int) := Map.empty
  /-- R246: successive cross-check failures of a channel. -/
  xfails : Map (0 : Nat) := Map.empty
  deriving DecidableEq, Repr

/-- The reset state of a composite or an outgoing stream. -/
def Feeder.init : Feeder := {}

/-- The sample adapter (R231–R258). -/
structure Samples where
  parts : List SetPart := []
  /-- R249: the boundary at which a STREAM or an SVIN record became invalid; instants before it are still accepted. -/
  streamStop : Map (none : Option Nat) := Map.empty
  sviStop : Map (none : Option Nat) := Map.empty
  /-- R241, R252: the composites and the outgoing streams. -/
  comps : Map Feeder.init := Map.empty
  svouts : Map Feeder.init := Map.empty
  deriving DecidableEq, Repr

end Sys2Proof.Machine
end

