-- ==== Sys2Proof/Machine/StTime.lean ====
section
/-!
DEFINITION. The state of Datum time, the spoke exchange, the lattice, the keeper, the event pins and the global operations.
-/
namespace Sys2Proof.Machine

/-- The spoke exchange on a port (R193–R198). -/
structure Probe where
  /-- Master: exchange in progress, its SEQ, lane (true: B), t1, next start. -/
  running : Bool := false
  seq : Nat := 0
  laneB : Bool := false
  t1 : Nat := 0
  nextAt : Nat := 0
  /-- R198: rtt_f of lanes A and B, 16 times the running mean; none until seeded. -/
  rttA : Option Nat := none
  rttB : Option Nat := none
  /-- Follower: t2, SEQ and lane of the REQ answered last, TIME words received, deadline of step 6. -/
  t2 : Nat := 0
  rxSeq : Nat := 0
  rxLaneB : Bool := false
  times : List (Nat × Nat) := []
  timesBy : Option Nat := none
  /-- R197: latest accepted θ of each lane, 2^-4 ns. -/
  thetaA : Option Int := none
  thetaB : Option Int := none
  deriving DecidableEq, Repr

/-- The reset state of the exchange on a port. -/
def Probe.init : Probe := {}

/-- PTP on a station port (R203, R205). -/
structure PtpPort where
  /-- The last peer delay in 2^-4 ns. -/
  peer : Int := 0
  /-- A two-step Sync waiting for its Follow_Up: sequence number, receive stamp and correction in 2^-4 ns. -/
  sync : Option (Nat × Nat × Int) := none
  /-- Pdelay_Req sent: sequence number and t1; the two-step response to it: t2, t4, correction. -/
  reqSeq : Nat := 0
  req : Option (Nat × Nat) := none
  resp : Option (Nat × Nat × Int) := none
  /-- The last Announce heard. -/
  announce : Option GmData := none
  deriving DecidableEq, Repr

/-- The reset state of PTP on a station port. -/
def PtpPort.init : PtpPort := {}

/-- The Datum time unit (R187–R207). (Assumption log 4, DESIGN CHOICE.) -/
structure Datum where
  /-- Full time in units of 2^-48 ns: (SEC × 10^9 + NS) × 2^48 + internal fraction (R187, R189). -/
  t : Nat := 0
  /-- R201: SLEW in units of 2^-48, integ in units of 2^-4 ns × 2^16. -/
  slew : Int := 0
  integ : Int := 0
  /-- R192: successive measurements within 20 ns and beyond 1000 ns; instant of the last accepted measurement. -/
  goodRun : Nat := 0
  badRun : Nat := 0
  measuredAt : Nat := 0
  /-- R205: the port followed has changed, so steps are forbidden until LOCKED. -/
  noStep : Bool := false
  /-- R197: the last measured θ, 2^-4 ns. -/
  theta : Int := 0
  /-- R194: LEAP61 and LEAP59 as received. -/
  leap61 : Bool := false
  leap59 : Bool := false
  /-- R194: the content of TIME SEL 0x7 last received; none: no source has provided a UTC offset. -/
  utc : Option Nat := none
  /-- R194, R613: clockAccuracy of the source. -/
  accuracy : Nat := 0xFE
  /-- R229: instant of the last 1PPS input edge, or of the function's selection. -/
  ppsAt : Nat := 0
  ppsLost : Bool := false
  /-- R207: on a leaf, the last TIME_DS. -/
  ds : Option GmData := none
  /-- R207: TIME_DS sent to each leaf with its instant; TIME_STATUS sent with its instant. -/
  dsSent : Map (none : Option (GmData × Nat)) := Map.empty
  stSent : Option (List Word × Nat) := none
  /-- R207: instant from which the 3 s of each leaf are counted. -/
  leafAt : Map (0 : Nat) := Map.empty
  /-- R203: station ports A (0) and B (1). -/
  ptp : Map PtpPort.init := Map.empty
  deriving DecidableEq, Repr

/-- The lattice (R208–R212). The period in force stands in LAT_STAT and LAT_PERIOD. -/
structure Lattice where
  /-- R211: the second boundary S of a staged change. -/
  stageS : Option Nat := none
  /-- R211: when the root repeats LATTICE_MARK. -/
  markAt : Option Nat := none
  /-- R212: cycle number, not reduced modulo 2^32, of the last tick emitted. -/
  last : Option Nat := none
  /-- R217: the instant of the last tick emitted, at which a pulse of the tick outputs starts. -/
  pulseAt : Option Nat := none
  /-- R211: Datum second of the boundary last applied, and the period before it in ns. -/
  changedAt : Nat := 0
  oldPeriod : Nat := 625000
  deriving DecidableEq, Repr

/-- The power-die keeper (R213, R214). -/
structure Keeper where
  /-- Full time handed over, in 2^-48 ns, RATE, and the model instant of the handoff. -/
  t : Option Nat := none
  rate : Int := 0
  at_ : Nat := 0
  /-- R214: the ambient edge of the last handoff in either direction, and full time at it. -/
  cycle : Option (Nat × Nat) := none
  deriving DecidableEq, Repr

/-- A stamp of an event pin (R216, R230). -/
structure Stamp where
  pin : Nat
  rise : Bool
  sec : Nat
  ns : Nat
  keeper : Bool
  deriving DecidableEq, Repr

/-- The event pins (R215–R218). -/
structure Pins where
  /-- Input levels accepted at the balls, bit n for pin n. -/
  level : Nat := 0
  /-- Levels driven by the hub's sinks and outputs; bit n: the hub drives pin n. -/
  driven : Nat := 0
  drives : Nat := 0
  /-- R216: the instant at which the last edge of a pin was accepted. -/
  edgeAt : Map (none : Option Nat) := Map.empty
  /-- R216: the time-stamp FIFO. -/
  fifo : List Stamp := []
  /-- R230: the stamp whose SEC registers are latched. -/
  latched : Option Stamp := none
  deriving DecidableEq, Repr

/-- A snapshot record (R221): node (hub n, or 128 + dock), its words, flagged LATE. -/
structure SnapRec where
  node : Nat
  words : List Word
  late : Bool
  deriving DecidableEq, Repr

/-- Snapshot and tree reset (R221–R223). -/
structure Gop where
  /-- The target tick number to capture at, and whether the capture is late. -/
  target : Option Nat := none
  late : Bool := false
  /-- Instant of the tick at I. -/
  tickAt : Nat := 0
  /-- Records held: the node's own and those merged from below. -/
  records : List SnapRec := []
  /-- Nodes whose record is missing, when the request for them is due, and whether it has been sent. -/
  missing : List Nat := []
  askAt : Option Nat := none
  asked : Bool := false
  /-- R223: when the full reset of a TREE_RESET is due. -/
  resetAt : Option Nat := none
  deriving DecidableEq, Repr

end Sys2Proof.Machine
end

