-- ==== Sys2Proof/Machine/StUsb.lean ====
section
/-!
DEFINITION. The state of the peripheral adapter and of the display inputs beyond the register pages.
-/
namespace Sys2Proof.Machine

/-- A virtual hub (R387): 0 root, 1–16 leaf, 32 + dock. -/
structure VHub where
  addr : Nat := 0
  config : Nat := 0
  /-- Remote wakeup is enabled. -/
  wake : Bool := false
  /-- The control transfer in progress: SETUP bytes, reply (none: STALL), whether the reply has been sent. -/
  setup : List Nat := []
  reply : Option (List Nat) := none
  /-- R389: a PORT_STAT has arrived from the dock; its ports. -/
  seen : Bool := false
  nports : Nat := 1
  deriving DecidableEq, Repr

/-- The reset state of a virtual hub. -/
def VHub.init : VHub := {}

/-- The hub-class state of a virtual hub port (R401), by hub × 16 + port, beyond PER_PORT of a dock port. -/
structure VPort where
  st : Nat := 0
  /-- Change bits: 0 connection, 1 enable, 2 suspend, 3 overcurrent, 4 reset. -/
  change : Nat := 0
  overCur : Bool := false
  /-- Suspended by SetPortFeature. -/
  alone : Bool := false
  /-- Emulated timing: end, and the state it leads to. -/
  wait : Option Nat := none
  next : Nat := 0
  deriving DecidableEq, Repr

/-- The reset state of a port. -/
def VPort.init : VPort := {}

/-- An endpoint of a device behind a dock port (R393–R395), by target × 32 + endpoint × 2 + direction. -/
structure UsbEp where
  /-- The XFER in progress: its TAG; a SETUP, an IN. -/
  tag : Option Nat := none
  isSetup : Bool := false
  isIn : Bool := false
  /-- The result held: STATUS and bytes; its transfer was an IN. -/
  result : Option (Nat × List Nat) := none
  /-- OUT data held, data toggle, IN data sent and not acknowledged. -/
  data : Option (List Nat) := none
  toggle : Bool := false
  sent : Bool := false
  /-- R394: the next token gets STALL; R398: so does the next transaction of an interrupt OUT. -/
  stallNext : Bool := false
  /-- A split buffer is in use; the SETUP bytes of the control transfer. -/
  split : Bool := false
  setup : List Nat := []
  deriving DecidableEq, Repr

/-- The reset state of an endpoint. -/
def UsbEp.init : UsbEp := {}

/-- An XFER in progress (R390, R394). -/
structure UsbXfer where
  dock : Nat
  port : Nat
  tag : Nat
  ep : Nat
  due : Nat
  deriving DecidableEq, Repr

/-- A periodic endpoint (R396–R398): dock, port, address, endpoint, interrupt, period, last use, results held (UFRAME, STATUS, bytes). -/
structure UsbIso where
  dock : Nat
  port : Nat
  addr : Nat
  ep : Nat
  inter : Bool
  period : Nat
  last : Nat
  held : List (Nat × Nat × List Nat) := []
  deriving DecidableEq, Repr

/-- The peripheral adapter and the USB upstream port (R386–R405). -/
structure Usb where
  vbus : Bool := false
  /-- R415: D in force; microframe, instant of the last SOF, misses counted up to. -/
  delay : Nat := 2
  micro : Nat := 0
  sofAt : Nat := 0
  hubs : Map VHub.init := Map.empty
  ports : Map VPort.init := Map.empty
  /-- R391: address to target: a virtual hub, or 1024 + dock × 4 + port; the owner of address 0. -/
  binds : List (Nat × Nat) := []
  dflt : Option Nat := none
  eps : Map UsbEp.init := Map.empty
  xfers : List UsbXfer := []
  isos : List UsbIso := []
  /-- R404, R405: suspension since; end of RESUME_ALL; a WAKE waits until, K is driven until. -/
  suspAt : Nat := 0
  resumeBy : Nat := 0
  wakeAt : Option Nat := none
  kUntil : Nat := 0
  deriving DecidableEq, Repr

/-- A mirror slot's dock as last reported (R408, R411, R413). -/
structure Slot5 where
  hpd : Bool := false
  outOk : Bool := true
  dscOk : Bool := false
  underrun : Nat := 0
  rate : Nat := 0
  lanes : Nat := 0
  failed : Bool := false
  /-- OUT_OK = 0 since. -/
  badAt : Option Nat := none
  deriving DecidableEq, Repr

/-- The reset state of a slot. -/
def Slot5.init : Slot5 := {}

/-- A display input (R406–R414). -/
structure DspIn where
  slots : Map Slot5.init := Map.empty
  primary : Nat := 0
  /-- The HPD level driven; end of an IRQ pulse and of the hold after a primary change. -/
  hpd : Bool := false
  pulseBy : Option Nat := none
  holdBy : Option Nat := none
  /-- R417: DSP_CFG and DSP_MIR in force (taken at an HPD low period). -/
  cfg : Nat := 0
  mir : Nat := 0
  /-- R410: the request forwarded: (write, command, address, length, data), its TAG, deadline, response or timeout. -/
  aux : Option (Nat × Nat × Nat × List Nat) := none
  tag : Nat := 0
  auxBy : Option Nat := none
  reply : Option (Nat × List Nat) := none
  /-- R414: FRAME counter, timing of the last MSA. -/
  frame : Nat := 0
  timing : List Nat := []
  /-- R409: link configuration written by the source, by DPCD address. -/
  dpcd : Map (0 : Nat) := Map.empty
  deriving DecidableEq, Repr

/-- The reset state of an input. -/
def DspIn.init : DspIn := {}

/-- The display adapter: inputs A (0) and B (1). -/
structure Display where
  ins : Map DspIn.init := Map.empty
  deriving DecidableEq, Repr

end Sys2Proof.Machine
end

