-- ==== Sys2Proof/Machine/StWin.lean ====
section
/-!
DEFINITION. The state of the host link and of the window bridge beyond the register pages and records.
-/
namespace Sys2Proof.Machine

/-- The configuration registers of a function that the hub acts on (R348–R350, R352). -/
structure PcieFunc where
  /-- Command: [1] memory space, [2] Bus Master Enable. -/
  command : Nat := 0
  /-- MSI-X control: [15] enable, [14] function mask. -/
  msix : Nat := 0
  /-- Power state: 0 D0, 3 D3hot. -/
  power : Nat := 0
  /-- Base addresses, low and high halves, by register 0–5. -/
  bar0 : Nat := 0
  bar1 : Nat := 0
  bar2 : Nat := 0
  bar3 : Nat := 0
  bar4 : Nat := 0
  bar5 : Nat := 0
  deriving DecidableEq, Repr

/-- The reset state of the configuration registers. -/
def PcieFunc.init : PcieFunc := {}

/-- A host read or write of an aperture, or a speculative read (R360–R370), in order of receipt. -/
structure WinReq where
  /-- A host write; otherwise a read. -/
  write : Bool := false
  /-- R364: a speculative READ. -/
  spec : Bool := false
  /-- R360: TAG, once a READ has been given one. -/
  tag : Nat := 0
  hostTag : Nat := 0
  window : Nat
  tunnel : Nat
  /-- Dock address, length in 4-byte units, byte enables. -/
  addr : Nat
  len : Nat
  fbe : Nat := 15
  lbe : Nat := 0
  data : List Nat := []
  /-- Sent to the dock; a read that waits for a prefetch entry is not. -/
  sent : Bool := false
  /-- R364: TAG of the speculative READ whose response it waits for. -/
  waits : Option Nat := none
  /-- R368: ns with the tunnel OPEN, and in HELD or REKEY. -/
  ran : Nat := 0
  held : Nat := 0
  /-- R352: its completion is discarded. -/
  silent : Bool := false
  deriving DecidableEq, Repr

/-- A prefetch entry (R364): window, tunnel, dock range in bytes, data, instant of the fill; the list is in order of use, oldest
first. -/
structure PfEntry where
  window : Nat
  tunnel : Nat
  lo : Nat
  len : Nat
  tag : Nat
  /-- Bytes, once filled. -/
  data : List Nat := []
  filledAt : Option Nat := none
  deriving DecidableEq, Repr

/-- A poll of a dock's interrupt word (R372). -/
structure Poll where
  nextAt : Nat := 0
  count : Nat := 0
  /-- TAG of the last INT_RSP. -/
  ack : Option Nat := none
  /-- TAG and instant of the poll in progress. -/
  out : Option (Nat × Nat) := none
  deriving DecidableEq, Repr

/-- The reset state of a dock's poll. -/
def Poll.init : Poll := {}

/-- What waits to go upstream (R378, R362): a reverse write of a dock, or F1's vector of a dock behind its writes. -/
inductive Upstream where
  | write (dock addr : Nat) (bytes : List Nat) (fbe lbe : Nat)
  | vector (dock : Nat)
  deriving DecidableEq, Repr

/-- Reverse writes of a dock (R376, R378): expected RSEQ, acceptances not yet acknowledged, when an RW_ACK is due. (Assumption log 41, DEDUCED.) -/
structure Reverse where
  expected : Nat := 0
  owed : Nat := 0
  dueAt : Option Nat := none
  /-- The tunnel that its last RWRITE came on. -/
  tunnel : Nat := 0
  deriving DecidableEq, Repr

/-- The reset state of the reverse writes of a dock. -/
def Reverse.init : Reverse := {}

/-- The host link and the window bridge. (Assumption log 46, DEDUCED.) -/
structure Windows where
  funcs : Map PcieFunc.init := Map.empty
  /-- R539: from when configuration requests are answered normally. -/
  cfgReadyAt : Nat := 0
  /-- Max_Payload_Size in bytes (R349). -/
  maxPayload : Nat := 128
  reqs : List WinReq := []
  /-- R370: TAGs that may not be reused: TAG, tunnel, end. -/
  rested : List (Nat × Nat × Nat) := []
  prefetch : List PfEntry := []
  polls : Map Poll.init := Map.empty
  upstream : List Upstream := []
  reverse : Map Reverse.init := Map.empty
  /-- R14, R374: the instant of the last INT_RSP, and by dock the bits that responses of that instant have brought, and those of them
  that were set before and sent no vector. -/
  pendAt : Nat := 0
  pendNow : Map ((0, 0) : Nat × Nat) := Map.empty
  /-- R367: by window, the instant of its last side-effect fault. -/
  faultAt : Map (none : Option Nat) := Map.empty
  deriving DecidableEq, Repr

end Sys2Proof.Machine
end

