-- ==== Sys2Proof/Machine/State.lean ====
section
/-!
DEFINITION. The state of the hub as plain data, and its value after reset.
-/
namespace Sys2Proof.Machine

/-- The ways a command can stop the machine: none. Every row of the opcode table has an effect, and errors are event bits,
counters and states of the hub (assumption log 1, DEDUCED). -/
inductive Fault where
  deriving DecidableEq, Repr

/-- Why a command is turned away. -/
inductive Refusal where
  /-- Raised by an arm of the dispatch that has no meaning yet: safe, the machine stops. -/
  | notModelled (mnemonic : String)
  deriving DecidableEq, Repr

/-- The state of the hub. -/
structure State where
  /-- The model's own clock in nanoseconds (assumption log 2, DESIGN CHOICE). -/
  now : Nat := 0
  /-- The queue of waiting commands, first in, first out. -/
  pending : List Instr := []
  /-- What the hub has sent, oldest first (assumption log 3, DESIGN CHOICE). -/
  out : List Emit := []
  /-- How much of that record the lane transmitters have taken. -/
  taken : Nat := 0
  /-- The number of free values drawn (assumption log 5, DESIGN CHOICE). -/
  free : Nat := 0
  /-- R139: every nonce that the hub has sent. -/
  nonces : List Nat := []
  /-- The core die is powered and out of full reset (R531–R537). -/
  coreOn : Bool := true
  /-- Register fields that differ from their reset value, by `Field.key`. -/
  regs : Map (none : Option Nat) := Map.empty
  /-- R11: latched _HI values and held _HI writes, by page × 4096 + offset of the _HI register. -/
  hiLatch : Map (none : Option Nat) := Map.empty
  hiHold : Map (none : Option Nat) := Map.empty
  /-- R549: LOCK bits of the pages, by page (1: locked). -/
  locks : Map (0 : Nat) := Map.empty
  /-- The words of the records that SMP_CMD, EXP_CMD, FRM_CMD and WIN_CMD reach, by `recKey`. -/
  records : Map (0 : Nat) := Map.empty
  pages : Map PageHdr.init := Map.empty
  evt : Evt := {}
  lanes : Map Lane.init := Map.empty
  chords : Map Chord.init := Map.empty
  tuns : Map Tun.init := Map.empty
  ids : Ids := {}
  hull : Hull := {}
  compass : Compass := {}
  keys : KeyStore := {}
  probes : Map Probe.init := Map.empty
  datum : Datum := {}
  lattice : Lattice := {}
  keeper : Keeper := {}
  pins : Pins := {}
  gop : Gop := {}
  samples : Samples := {}
  bridge : Bridge := {}
  express : Express := {}
  win : Windows := {}
  usb : Usb := {}
  dsp : Display := {}
  pd : PowerDie := {}
  power : Power := {}
  boot : Boot := {}
  stored : Stored := {}
  log : LogUnit := {}
  diag : Diag := {}
  deriving DecidableEq, Repr

/-- The machine right after reset: every register at its reset value, nothing in progress. -/
def State.reset : State := {}

end Sys2Proof.Machine
end

