-- ==== Sys2Proof/Machine/Ops.lean ====
section
/-!
DEFINITION. The named operations over registers, events, free values and outputs that every family uses.
-/
namespace Sys2Proof.Machine

/-- What a meaning answers. -/
abbrev Outcome := Host.Outcome State Fault Refusal

/-! ## Registers (R9, R10) -/

/-- The value of a field. -/
def State.rd (s : State) (f : Field) : Nat := (s.regs.get f.key).getD f.reset

/-- Set a field, reduced to its width; the reset value is not listed. -/
def State.wr (f : Field) (v : Nat) (s : State) : State :=
  { s with regs := s.regs.set f.key (if v % 2 ^ f.width = f.reset then none else some (v % 2 ^ f.width)) }

/-- Set a one-bit field. -/
def State.wrB (f : Field) (b : Bool) (s : State) : State := s.wr f (b2n b)

/-- A one-bit field as a truth value. -/
def State.rdB (s : State) (f : Field) : Bool := s.rd f ≠ 0

/-- Add to a count that saturates at its width. -/
def State.bumpBy (f : Field) (n : Nat) (s : State) : State := s.wr f (satAdd f.width (s.rd f) n)

/-- Add 1 to a count that saturates at its width. -/
def State.bump (f : Field) (s : State) : State := s.bumpBy f 1

/-- Add 1 to a count that wraps at its width. -/
def State.wrapInc (f : Field) (s : State) : State := s.wr f (s.rd f + 1)

/-- Apply a change only if a condition holds. -/
def State.when (c : Bool) (f : State → State) (s : State) : State := if c then f s else s

/-- Apply a change for each element of a list, in order. -/
def State.each {α : Type} (l : List α) (f : α → State → State) (s : State) : State := l.foldl (fun s a => f a s) s

/-- The key of a record word: page of the block, KIND, INDEX, ENTRY, word. -/
def recKey (page kind index entry word : Nat) : Nat := (((page * 16 + kind) * 4096 + index) * 64 + entry) * 8 + word

/-- A word of a record. -/
def State.recW (s : State) (page kind index entry word : Nat) : Nat := s.records.get (recKey page kind index entry word)

/-- Write a word of a record. -/
def State.setRec (page kind index entry word v : Nat) (s : State) : State :=
  { s with records := s.records.set (recKey page kind index entry word) (v % 2 ^ 32) }

/-- The LOCK bit of a page (R549). (Assumption log 26, DEDUCED.) -/
def State.locked (s : State) (page : Nat) : Bool := s.locks.get page ≠ 0

/-! ## Outputs and free values -/

/-- Record something that the hub sends. -/
def State.emit (e : Emit) (s : State) : State := { s with out := s.out ++ [e] }

/-- The next free value. -/
def State.freeValue (s : State) : Nat := (Config.freeDraw s.free).toNat

/-- The state after a free value has been drawn. -/
def State.drawn (s : State) : State := { s with free := s.free + 1 }

/-! ## Time -/

/-- A timer is running and has reached its instant. -/
def State.due (s : State) (t : Option Nat) : Bool := match t with | some d => d ≤ s.now | none => false

/-- R13: a timeout has expired: its instant has passed, so that the arrival it guards is taken when it comes in that very instant. (Assumption
log 11, DEDUCED.) -/
def State.expired (s : State) (t : Option Nat) : Bool := match t with | some d => d < s.now | none => false

/-- A nanosecond count from microseconds. -/
def us (n : Nat) : Nat := n * 1000

/-- A nanosecond count from milliseconds. -/
def ms (n : Nat) : Nat := n * 1000000

/-- SEC of Datum (R187). -/
def Datum.sec (d : Datum) : Nat := d.t / 2 ^ 48 / 1000000000 % 2 ^ 48

/-- NS of Datum (R187). -/
def Datum.ns (d : Datum) : Nat := d.t / 2 ^ 48 % 1000000000

/-- FRAC of Datum (R187, R189). -/
def Datum.frac (d : Datum) : Nat := d.t / 2 ^ 32 % 2 ^ 16

/-- SEC × 10^9 + NS. -/
def Datum.whole (d : Datum) : Nat := d.sec * 1000000000 + d.ns

/-- Short time (R188). -/
def State.short (s : State) : Nat := s.datum.whole % 2 ^ 40

/-- The ambient edge at or before an instant: ambient cycles are of 40 ns. (Assumption log 53, DEDUCED.) -/
def edgeBefore (now : Nat) : Nat := now / 40 * 40

/-- R213: full time, whose fraction has 16 bits (R187). -/
def fullTime (t : Nat) : Nat := t / 2 ^ 32 * 2 ^ 32

/-- R213, R214: the keeper's time in the ambient cycle of an instant: 40 ns for each ambient cycle since the handoff, corrected by RATE to
2^-16 ns. -/
def State.keeperAt (s : State) (now : Nat) : Option Nat :=
  s.keeper.t.map (fun t =>
    fullTime ((t : Int) + ((edgeBefore now : Int) - (s.keeper.at_ : Nat)) * ((2 ^ 48 : Int) + s.keeper.rate)).toNat)

/-- R213: the keeper's time now. -/
def State.keeperTime (s : State) : Option Nat := s.keeperAt s.now

/-- R558: short time of an event: of Datum, or of the keeper while the core die is off. -/
def State.shortNow (s : State) : Nat := if s.coreOn then s.short else ((s.keeperTime.getD 0) / 2 ^ 48) % 2 ^ 40

/-- Words in the order of a list up to a length. -/
def lastN {α : Type} (n : Nat) (l : List α) : List α := l.drop (l.length - n)

/-! ## Sub-states -/

/-- Change the power die. -/
def State.onDie (f : PowerDie → PowerDie) (s : State) : State := { s with pd := f s.pd }
/-- The lane pair of a port. -/
def State.lane (s : State) (p : Nat) : Lane := s.lanes.get p
/-- Change the lane pair of a port. -/
def State.onLane (p : Nat) (f : Lane → Lane) (s : State) : State := { s with lanes := s.lanes.upd p f }
/-- Chord of a port. -/
def State.chord (s : State) (p : Nat) : Chord := s.chords.get p
/-- Change Chord of a port. -/
def State.onChord (p : Nat) (f : Chord → Chord) (s : State) : State := { s with chords := s.chords.upd p f }
/-- A tunnel. -/
def State.tun (s : State) (t : Nat) : Tun := s.tuns.get t
/-- Change a tunnel. -/
def State.onTun (t : Nat) (f : Tun → Tun) (s : State) : State := { s with tuns := s.tuns.upd t f }
/-- Change the entry of a tunnel. -/
def State.onEntry (t : Nat) (f : Entry → Entry) (s : State) : State := s.onTun t (fun x => { x with e := f x.e })

/-! ## Events (R551–R559) -/

/-- R561: pages held in the power die. -/
def powerPage (page : Nat) : Bool := page = 0x00A || page = 0x00B || (0x050 ≤ page && page < 0x062)

/-- R549: PAGE_CAP of a page. -/
def pageCap (page : Nat) : BitVec 32 := match blockOf page with
  | some (b, _) => b.cap
  | none => 0

/-- A mask of event bits. -/
def evMask (bits : List Nat) : BitVec 32 := bits.foldl (fun m b => m ||| (1#32 <<< b)) 0#32

/-- R559: put an entry into the log, or count it; a removal in the same cycle still makes room for it. -/
def State.logEvent (e : LogEntry) (s : State) : State :=
  if s.evt.log.length < 256 then { s with evt := { s.evt with log := s.evt.log ++ [e] } }
  else
    let first : Bool := s.evt.lost = [] || s.evt.lostAt ≠ s.now
    let u : Evt := { s.evt with
      lostAt := s.now, lost := if first then [e] else s.evt.lost ++ [e]
      lostOvf := if first then s.rd EVT_LOG_STAT_OVF else s.evt.lostOvf }
    ({ s with evt := u }).bump EVT_LOG_STAT_OVF

/-- R551, R12: the instant lies in the cycle of a page's event in progress: a core cycle, or for a page of the power die an ambient
cycle. -/
def State.sameEvent (s : State) (page : Nat) (h : PageHdr) : Bool :=
  h.evAt.any (fun t => if powerPage page then edgeBefore t = edgeBefore s.now else t = s.now)

/-- R551, R552: a further set of the cycle joins the entry of the event in progress. -/
def LogEntry.join (m : BitVec 32) (forced fresh : Bool) (e : LogEntry) : LogEntry :=
  { e with bits := e.bits ||| m, forced := e.forced && forced, fresh := e.fresh || fresh }

/-- R551, R557, R559: an event of a page: the bits are set, the event is counted, numbered and logged; further sets of one cycle belong to
the same event.  While the core die is off, a power-die page sets and counts without numbering (R558). (Assumption log 25, DEDUCED.) -/
def State.pageEvent (page : Nat) (m : BitVec 32) (forced power : Bool) (time : Nat) (s : State) : State :=
  let h := s.pages.get page
  let fresh := (m &&& ~~~h.stat) ≠ 0#32
  let now := (if h.setAt = s.now then h.setBits else 0#32) ||| (if forced then 0#32 else m)
  let again := s.sameEvent page h
  let hs := { h with stat := h.stat ||| m, setAt := s.now, setBits := now }
  if s.coreOn && again then
    let h' : PageHdr := { hs with evBits := h.evBits ||| m, evForced := h.evForced && forced, evFresh := h.evFresh || fresh }
    let s1 := { s with pages := s.pages.set page h' }
    if s.evt.log.any (fun e => e.page = page && e.seq = h.seq) then
      { s1 with evt := { s.evt with log := s.evt.log.map (fun e => if e.page = page && e.seq = h.seq then e.join m forced fresh else e) } }
    else if fresh && !h.evFresh && !s.rdB EVT_CTL_LOG_ALL then
      s1.logEvent { seq := h.seq, time := BitVec.ofNat 40 time, page := page, bits := h.evBits ||| m, forced := h.evForced && forced,
                    power := power, fresh := true }
    else s1
  else if s.coreOn then
    let n := s.evt.next
    let s1 := { s with
      pages := s.pages.set page { hs with count := h.count + 1, seq := n, evAt := some s.now, evBits := m, evForced := forced, evFresh := fresh }
      evt := { s.evt with next := n + 1 } }
    if fresh || s.rdB EVT_CTL_LOG_ALL then
      s1.logEvent { seq := n, time := BitVec.ofNat 40 time, page := page, bits := m, forced := forced, power := power, fresh := fresh }
    else s1
  else if !powerPage page then s
  else
    let h' : PageHdr := { hs with
      count := if again then h.count else h.count + 1, evAt := if again then h.evAt else some s.now
      evBits := (if again then h.evBits else 0#32) ||| m, evForced := false, pdAt := some (h.pdAt.getD time) }
    { s with pages := s.pages.set page h' }

/-- R551: hardware sets event bits of a page. -/
def State.ev (page : Nat) (bits : List Nat) (s : State) : State :=
  s.pageEvent page (evMask bits &&& pageCap page) false false s.shortNow

/-- R555: a set that is an event of its own, beside another of its page in the same cycle (R116, R117). -/
def State.evNew (page : Nat) (bits : List Nat) (s : State) : State :=
  { s with pages := s.pages.upd page (fun h => { h with evAt := none }) }.ev page bits

/-- R553: a capture whose content the owning chapter names: taken while FULL is 0; the first of a cycle is taken also where FULL is cleared
in that cycle. -/
def State.captureRaw (page : Nat) (content : BitVec 40) (s : State) : State :=
  let h := s.pages.get page
  let h1 := if h.captAt = some s.now then h else { h with captAt := some s.now, captNow := content }
  { s with pages := s.pages.set page (if h.full then h1 else { h1 with full := true, capt := content }) }

/-- R553: a capture in the default layout. -/
def State.capture (page bit port tunnel detail : Nat) (s : State) : State :=
  s.captureRaw page (pack [(35, 5, bit), (30, 5, port), (18, 12, tunnel), (0, 18, detail)])

/-- R558: a power-die page with bits set while the core die was off takes one event, with POWER = 1 and the time recorded; its sets have
been counted already. -/
def State.powerEvent (page : Nat) (s : State) : State :=
  let h := s.pages.get page
  match h.pdAt with
  | none => s
  | some t =>
    let n := s.evt.next
    let s1 := { s with
      pages := s.pages.set page { h with seq := n, pdAt := none }
      evt := { s.evt with next := n + 1 } }
    if h.stat = 0#32 then { s with pages := s.pages.set page { h with pdAt := none } }
    else s1.logEvent { seq := n, time := BitVec.ofNat 40 t, page := page, bits := h.stat, forced := false, power := true, fresh := true }

/-- R558: the power-die pages, in page order. -/
def State.powerEvents (s : State) : State := s.each ([0x00A, 0x00B] ++ (List.range 18).map (0x050 + ·)) State.powerEvent

/-! ## The lifetime log (R568, R572) -/

/-- R568: the index of item k of port p. -/
def portLife (p k : Nat) : Nat := 0x100 + 16 * p + k

/-- R568, R570: add 1 to a lifetime counter of the working copy, with SATURATED at its first saturation; an increment in the cycle of a
commit's snapshot belongs to the commit; while the core die is off the power die keeps the increment. -/
def State.life (i : Nat) (s : State) : State :=
  if s.coreOn then
    let inc (m : Map (0 : Nat)) : Map (0 : Nat) := m.upd i (fun n => satAdd 32 n 1)
    let s1 := { s with log := { s.log with
      work := inc s.log.work, writing := if s.log.startAt = s.now then s.log.writing.map inc else s.log.writing } }
    if s.log.work.get i = 2 ^ 32 - 2 then s1.ev 0x004 [EV_LOG_SATURATED] else s1
  else { s with log := { s.log with kept := s.log.kept.upd i (fun n => satAdd 32 n 1) } }

/-- The value of a register: its fields at their places. -/
def State.regOf (s : State) (fs : List Field) (off : Nat) : Nat :=
  ((fs.filter (fun f => f.off = off)).map (fun f => s.rd f * 2 ^ f.lsb)).sum

/-- R572: an entry enters the ring with the GEN of the bank committed last, replacing the oldest of 512. (Assumption log 57, DEDUCED.) -/
def State.ringPut (x : List Nat) (s : State) : State :=
  let e := x.take 7 ++ [s.rd LOG_GEN_GEN]
  if s.log.ring.length < 512 then { s with log := { s.log with ring := s.log.ring ++ [e] } }
  else { s with log := { s.log with ring := s.log.ring.drop 1 ++ [e] } }.bump LOG_RING_STAT_WRAPS

/-- R572: a ring entry for a cause whose event the page has just numbered; it waits for a commit in progress and for the core die, which
then numbers the event. -/
def State.ring (page type w4 w5 w6 : Nat) (s : State) : State :=
  let t : Nat := if s.coreOn then s.datum.whole else (s.keeperTime.getD 0) / 2 ^ 48
  let sec := t / 1000000000
  let e := [type * 2 ^ 28 + (s.pages.get page).seq.toNat % 2 ^ 28, sec % 2 ^ 32, sec / 2 ^ 32 % 2 ^ 16, t % 1000000000, w4, w5, w6]
  if s.coreOn && s.log.writing.isNone then s.ringPut e
  else { s with log := { s.log with held := s.log.held ++ [e ++ (if s.coreOn then [] else [page])] } }

/-- R555: the event sources: source, page, bits of the page. -/
def sources : List (Nat × Nat × BitVec 32) :=
  (List.range 18).map (fun p => (p, 0x010 + p, 0xFFFFFFFF#32)) ++
  (List.range 18).map (fun p => (p, 0x030 + p, 0xFFFFFFFF#32)) ++
  [(18, 0x070, 0xFFFFFFFF#32), (19, 0x080, 0xFFFFFFFF#32),
   (20, 0x0A0, evMask [EV_CMP_ETOK_ZERO]),
   (21, 0x0A0, evMask [EV_CMP_POL_DROP, EV_CMP_POL_RED, EV_CMP_POL_CFG, EV_CMP_POL_REJECT])] ++
  (List.range 18).map (fun p => (20, 0x0A1 + p, 0xFFFFFFFF#32)) ++
  [(22, 0x0C0, 0xFFFFFFFF#32), (23, 0x0C1, 0xFFFFFFFF#32),
   (24, 0x0D0, evMask [EV_SMP_CFG_REJECT, EV_SMP_RATE_INVALID, EV_SMP_POLICED, EV_SMP_SV_IN_DROP, EV_SMP_SAT]),
   (25, 0x0D0, evMask [EV_SMP_LATE, EV_SMP_SRC_SUBST, EV_SMP_SRC_FAIL, EV_SMP_XCHK, EV_SMP_STUB]),
   (26, 0x0D8, evMask [EV_EXP_CFG_REJECT, EV_EXP_DROP, EV_EXP_SPACING, EV_EXP_SUPERVISION]),
   (27, 0x0D8, evMask [EV_EXP_MISMATCH]),
   (28, 0x0D8, evMask [EV_EXP_TAKEOVER_START, EV_EXP_TAKEOVER_DONE, EV_EXP_CKPT_FAIL, EV_EXP_PEER_TAKEOVER,
     EV_EXP_RESTORED, EV_EXP_RESTORE_FAIL]),
   (29, 0x0E0, evMask [EV_FRM_CFG_REJECT, EV_FRM_LEARN_FAIL, EV_FRM_TUN_DROP, EV_FRM_FILTER_DROP,
     EV_FRM_GOOSE_IN_DROP, EV_FRM_GOOSE_LOSS, EV_FRM_AUTH_FAIL]),
   (29, 0x0E1, 0xFFFFFFFF#32), (30, 0x0E2, 0xFFFFFFFF#32),
   (31, 0x0E0, evMask [EV_FRM_DUP_WINDOW, EV_FRM_WRONG_LAN, EV_FRM_LAN_FAIL]),
   (32, 0x0F0, evMask [EV_WIN_BACKOFF, EV_WIN_CFG_REJECT]),
   (33, 0x0F0, evMask [EV_WIN_ACCESS, EV_WIN_UNMAPPED, EV_WIN_TIMEOUT, EV_WIN_LINK_FAIL, EV_WIN_SE_FAULT,
     EV_WIN_DOCK_ERR, EV_WIN_LATE, EV_WIN_RW_REFUSE]),
   (34, 0x0F2, 0xFFFFFFFF#32), (35, 0x100, 0xFFFFFFFF#32), (36, 0x108, 0xFFFFFFFF#32)] ++
  [(37, 0x110, evMask [EV_KEY_CMD_DONE, EV_KEY_DENIED, EV_KEY_REVOKED, EV_KEY_DEFERRED, EV_KEY_TUN_TAG_FAIL]),
   (38, 0x110, evMask [EV_KEY_REPAIRED, EV_KEY_BAD_SLOT, EV_KEY_MRAM_FAIL, EV_KEY_CACHE_ERR]),
   (39, 0x110, evMask [EV_KEY_LC_CHANGE, EV_KEY_LC_AUTH_FAIL]),
   (40, 0x00A, 0x0000007F#32), (41, 0x00A, 0x00007F00#32), (42, 0x00A, 0x000F0000#32),
   (43, 0x00B, 0xFFFFFFFF#32)] ++
  (List.range 18).map (fun p => (43, 0x050 + p, evMask [EV_TAN_ATTACH, EV_TAN_DETACH, EV_TAN_CONTRACT, EV_TAN_FAULT,
     EV_TAN_FAULT_LATCH, EV_TAN_TRANSITION_LOSS])) ++
  (List.range 18).map (fun p => (44, 0x050 + p, evMask [EV_TAN_HARD_RESET, EV_TAN_MSG_FAIL, EV_TAN_UNSUPPORTED,
     EV_TAN_AUX_ONLY, EV_TAN_SWAP_DONE])) ++
  [(45, 0x008, evMask [EV_PWR_WAKE, EV_PWR_REFUSED]),
   (46, 0x008, evMask [EV_PWR_THERM_WARN, EV_PWR_THERM_HOT, EV_PWR_THERM_REJECT]),
   (47, 0x008, evMask [EV_PWR_LEVEL_CHANGE, EV_PWR_BUDGET_LOW, EV_PWR_PLL_LOSS]),
   (48, 0x004, 0xFFFFFFFF#32), (49, 0x003, 0xFFFFFFFF#32),
   (50, 0x002, evMask [EV_RST_CAUSE, EV_RST_RESTORED, EV_RST_RESTORE_LATE]),
   (51, 0x0C2, 0xFFFFFFFF#32), (52, 0x001, evMask [EV_EVT_SPILL]), (53, 0x0F1, 0xFFFFFFFF#32), (54, 0x101, 0xFFFFFFFF#32),
   (55, 0x001, evMask [EV_EVT_MRAM_CORR, EV_EVT_MRAM_UNCORR]), (56, 0x001, evMask [EV_EVT_CLK_RATE, EV_EVT_CLK_GLITCH]),
   (57, 0x002, evMask [EV_RST_WDOG_HOST]), (58, 0x008, evMask [EV_PWR_THERM_CRIT, EV_PWR_THERM_SHUTDOWN]),
   (59, 0x001, evMask [EV_EVT_VMON_CORE, EV_EVT_VMON_IO]), (60, 0x005, 0xFFFFFFFF#32),
   (61, 0x001, evMask [EV_EVT_MAINT_OPEN, EV_EVT_MAINT_DENY]), (62, 0x001, evMask [EV_EVT_SW0]),
   (63, 0x001, evMask [EV_EVT_SW1])]

/-- R554: the level of a source. -/
def State.level (s : State) (n : Nat) : Bool :=
  sources.any (fun r => r.1 = n &&
    (let h := s.pages.get r.2.1; (h.stat &&& h.en &&& r.2.2) ≠ 0#32))

/-- One vector of F0 in the event unit's evaluation (R556): the message or the PBA bit when the source is up and armed, the
PBA bit cleared when the level has fallen. -/
def State.settleVec (n : Nat) (s : State) : State :=
  let up := s.level n
  if up && s.evt.arm.getLsbD n && s.rdB EVT_STAT_MSIX_READY then
    let v := s.evt.msix.get n
    let bit := 1#64 <<< n
    let e := { s.evt with arm := s.evt.arm &&& ~~~bit }
    let e := { e with sentAt := s.now, sentNow := (if e.sentAt = s.now then e.sentNow else 0#64) ||| bit }
    if v.mask || bitOf (s.win.funcs.get 0).msix 14 then { s with evt := { e with pba0 := e.pba0 ||| bit } }
    else { s with evt := e }.emit (.msix 0 n v.addr v.data)
  else if up then s
  else { s with evt := { s.evt with pba0 := s.evt.pba0 &&& ~~~(1#64 <<< n) } }

/-- R554, R556: after every command the event unit evaluates all sources. -/
def State.settle (s : State) : State :=
  if s.rdB EVT_STAT_MSIX_READY || s.evt.pba0 ≠ 0 then s.each (List.range 64) State.settleVec else s

/-- The answer of a meaning: the machine goes on, after the event unit's evaluation. -/
def done (s : State) : Outcome := .next s.settle

/-- The answer of a meaning of the core die, which does nothing while its power is off or it is held in full reset (R23). -/
def coreDone (s t : State) : Outcome := done (if s.coreOn then t else s)

/-- R507: the clocks of the units other than lanes, Chord and Datum run: the core die is on and not in S1. -/
def State.running (s : State) : Bool := s.coreOn && s.power.asleep ≠ 1

/-- The answer of a meaning of a unit whose clocks are gated in S1 (R507, R508). (Assumption log 52, DEDUCED.) -/
def unitDone (s t : State) : Outcome := done (if s.running then t else s)

/-- The answer of a meaning of the power die, which does nothing while every supply is gone (R531). -/
def dieDone (s t : State) : Outcome := done (if s.boot.dieOn then t else s)

end Sys2Proof.Machine
end

