-- ==== Sys2Proof/Machine/LatticeOps.lean ====
section
/-!
DEFINITION. Arithmetic of the lattice and of short time (R188, R208–R211), and the record interface that pages share (R614).
-/
namespace Sys2Proof.Machine

/-- R208: P = 2^A × 5^B ns. -/
def latticeP (a b : Nat) : Nat := 2 ^ a * 5 ^ b

/-- R208: A and B of a period that is allowed. -/
def latticeOk (a b : Nat) : Bool := a ≤ 9 && b ≤ 9 && 1000 ≤ latticeP a b && latticeP a b ≤ 10000000

/-- The cycle number that the lattice emits next. -/
def Lattice.next (l : Lattice) : Nat := match l.last with | some n => n + 1 | none => 0

/-- The lattice period in force. -/
def State.period (s : State) : Nat := s.rd LAT_PERIOD_NS

/-- R211: the period that governs an instant: the old one before the boundary last applied, the staged one from its boundary on. -/
def State.periodAt (s : State) (t : Nat) : Nat :=
  if t < s.lattice.changedAt * 1000000000 then s.lattice.oldPeriod
  else match s.lattice.stageS with
    | some b => if b * 1000000000 ≤ t then latticeP (s.rd LAT_STAT_A_NEXT) (s.rd LAT_STAT_B_NEXT) else s.period
    | none => s.period

/-- R210: round(j × P / k), halves upwards. -/
def subTick (p k j : Nat) : Nat := (2 * j * p + k) / (2 * k)

/-- R210: the sub-tick index of an instant for `k`; none: it is not one of the grid's instants. -/
def State.gridIndex (s : State) (k t : Nat) : Option Nat :=
  let p := s.periodAt t
  (List.range k).find? (fun j => t / p * p + subTick p k j = t)

/-- R210: the instant of the grid for `k` that follows an instant of it. -/
def State.nextInst (s : State) (k t : Nat) : Nat :=
  let p := s.periodAt t
  match s.gridIndex k t with
  | some j => if j + 1 < k then t / p * p + subTick p k (j + 1) else t / p * p + p
  | none => t / p * p + p

/-- The lattice tick after an instant. -/
def State.nextTick (s : State) (t : Nat) : Nat := (t / s.periodAt t + 1) * s.periodAt t

/-- R188: the instant nearest to now that a short time names. -/
def State.fullOf (s : State) (short : Nat) : Nat :=
  ((s.datum.whole : Int) + signed 40 (modSub 40 short s.short)).toNat

/-- R209: the cycle index of an instant. -/
def State.indexAt (s : State) (t : Nat) : Nat := t / s.periodAt t % 2 ^ 32

/-- R236: T × 10^9 / P is at most 192 000 for a rate of `k` sets in a period. -/
def rateOk (p k : Nat) : Bool := k * 1000000000 ≤ 192000 * p

/-- Read `n` words of a record; words beyond are 0. -/
def State.recWords (s : State) (page kind index entry n : Nat) : List Nat :=
  (List.range n).map (fun w => s.recW page kind index entry w)

/-- Write words of a record under their masks (R10: reserved bits are not held). -/
def State.setRecs (page kind index entry : Nat) (masks words : List Nat) (s : State) : State :=
  s.each (masks.zip words).zipIdx (fun x s => s.setRec page kind index entry x.2 (x.1.1 &&& x.1.2))

end Sys2Proof.Machine
end

