-- ==== Sys2Proof/Machine/ExpOps.lean ====
section
/-!
DEFINITION. Operations of the express adapter that tunnel state changes use: groups, sinks and event pins (R216, R262, R266, R270, R286,
R287).
-/
namespace Sys2Proof.Machine

/-- The page of the express adapter and of the event pins. -/
def expPage : Nat := 0x0D8
def evpPage : Nat := 0x0C2

/-- R15: the group of an express tunnel. -/
def groupOf (t : Nat) : Nat := t - 0x100

/-- An express tunnel ID (R158). -/
def expressTun (t : Nat) : Bool := 0x100 ≤ t && t ≤ 0x1FF

/-- A group. -/
def State.group (s : State) (g : Nat) : XGroup := s.express.groups.get g
/-- Change a group. -/
def State.onGroup (g : Nat) (f : XGroup → XGroup) (s : State) : State :=
  { s with express := { s.express with groups := s.express.groups.upd g f } }
/-- A sink: pin, or 16 + GOOSE record. -/
def State.sink (s : State) (k : Nat) : XSink := s.express.sinks.get k
/-- Change a sink. -/
def State.onSink (k : Nat) (f : XSink → XSink) (s : State) : State :=
  { s with express := { s.express with sinks := s.express.sinks.upd k f } }

/-! ## Comparison of engines A and B (R276, R277, R283) -/

/-- EXP_STAT.ENGINES: 0 PAIR, 1 TAKEOVER, 2 SPARE, 3 RESTORING. -/
def State.engines (s : State) : Nat := s.rd EXP_STAT_ENGINES

/-- Engines A and B are compared (R283). -/
def State.compared (s : State) : Bool := s.engines = 0 || s.engines = 1

/-- R276: the disagreement that shows at a comparison at a point now. -/
def State.upsetAt (s : State) (point : Nat) : Option Mismatch :=
  if s.compared then s.express.upset.filter (fun y => y.point.val = point) else none

/-- R276: a disagreement of A and B arises; one that waits gives way to it. (Assumption log 43, DEDUCED.) -/
def State.disagree (m : Option Mismatch) (s : State) : State :=
  match m with
  | some y => if s.compared && y.point ≠ 0 then { s with express := { s.express with upset := some y } } else s
  | none => s

/-- R572: the ring entry of a mismatch. -/
def State.ringMismatch (s : State) : State := s.ring 0x0D8 3 (s.regOf (expFields 0 0) 0x054) (s.regOf (expFields 0 0) 0x00C) 0

/-- MISMATCH (R277): recorded and raised; with SPARE_EN the pair's first mismatch is to start the takeover. -/
def State.noteMismatch (m : Mismatch) (port tunnel : Nat) (s : State) : State :=
  let s1 := (((s.wr EXP_MM_POINT m.point.val).wr EXP_MM_PORT port).wr EXP_MM_TUNNEL tunnel).wr EXP_MM_WORD m.word.val
  let s2 := (((s1.bump EXP_COUNT_MISMATCH).life 0x40).ev expPage [EV_EXP_MISMATCH]).ringMismatch
  let start : Bool := s.engines = 0 && s.rdB EXP_CTL_SPARE_EN && s.express.due.isNone
  { s2 with express := { s2.express with mmAt := some s.now, upset := none, due := if start then some m else s2.express.due } }

/-! ## PIN records (R293) -/

/-- A word of a PIN record. -/
def State.pinW (s : State) (n w : Nat) : Nat := s.recW expPage 2 n 0 w
def State.pinValid (s : State) (n : Nat) : Bool := bitOf (s.pinW n 0) 31
def State.pinGroup (s : State) (n : Nat) : Nat := bitsOf (s.pinW n 0) 23 8
def State.pinOn (s : State) (n : Nat) : Nat := bitsOf (s.pinW n 0) 15 8
def State.pinOff (s : State) (n : Nat) : Nat := bitsOf (s.pinW n 0) 7 8
def State.pinElement (s : State) (n : Nat) : Nat := bitsOf (s.pinW n 0) 1 6
def State.pinStamp (s : State) (n : Nat) : Bool := bitOf (s.pinW n 0) 0
def State.pinPulse (s : State) (n : Nat) : Bool := bitOf (s.pinW n 1) 31
def State.pinWidth (s : State) (n : Nat) : Nat := bitsOf (s.pinW n 1) 16 15
def State.pinHold (s : State) (n : Nat) : Bool := bitOf (s.pinW n 1) 15
def State.pinActTest (s : State) (n : Nat) : Bool := bitOf (s.pinW n 1) 14
def State.pinActSuspect (s : State) (n : Nat) : Bool := bitOf (s.pinW n 1) 13

/-- R286: the sink pins of a group. -/
def State.sinkPins (s : State) (g : Nat) : List Nat :=
  (List.range 16).filter (fun n => s.rd (EVP_CFG_FUNC n) = 9 && s.pinValid n && s.pinGroup n = g)

/-- R285: the source pins of a group. -/
def State.sourcePins (s : State) (g : Nat) : List Nat :=
  (List.range 16).filter (fun n => s.rd (EVP_CFG_FUNC n) = 8 && s.pinValid n && s.pinGroup n = g)

/-! ## Event pins (R216, R230) -/

/-- R216: a stamp enters the FIFO, or is dropped where it is full. -/
def State.pushStamp (st : Stamp) (s : State) : State :=
  if s.pins.fifo.length < 64 then
    { s with pins := { s.pins with fifo := s.pins.fifo ++ [st] } }.ev evpPage [EV_EVP_TS_AVAIL]
  else (s.bump EVP_TS_LEVEL_OVF).ev evpPage [EV_EVP_TS_OVF]

/-- The Datum stamp of an instant. -/
def stampOf (pin : Nat) (rise keeper : Bool) (t : Nat) : Stamp :=
  { pin := pin, rise := rise, sec := t / 1000000000 % 2 ^ 48, ns := t % 1000000000, keeper := keeper }

/-- Drive an event pin to a level at its ball. -/
def State.driveBall (n : Nat) (high : Bool) (s : State) : State :=
  if bitOf s.pins.drives n && bitOf s.pins.driven n = high then s
  else ({ s with pins := { s.pins with driven := putBits s.pins.driven n 1 (b2n high), drives := putBits s.pins.drives n 1 1 } }).emit (.pin n high)

/-- R230: the hub drives an event pin no more. -/
def State.releaseBall (n : Nat) (s : State) : State :=
  if bitOf s.pins.drives n then
    ({ s with pins := { s.pins with driven := putBits s.pins.driven n 1 0, drives := putBits s.pins.drives n 1 0 } }).emit (.pinRelease n)
  else s

/-- R230: drive a pin to a level that the pin function sees; POL inverts it at the ball. -/
def State.driveFunc (n : Nat) (on : Bool) (s : State) : State := s.driveBall n (on ≠ s.rdB (EVP_CFG_POL n))

/-- R286: a sink pin takes a level; with STAMP a transition is stamped. -/
def State.moveSink (n : Nat) (on : Bool) (s : State) : State :=
  let was := bitOf s.pins.driven n
  let s1 := (s.onSink n (fun k => { k with on := on })).driveFunc n on
  let now := bitOf s1.pins.driven n
  if now ≠ was && s.pinStamp n then s1.pushStamp (stampOf n now false s.datum.whole) else s1

/-- R275, R277: a sink pin takes a level on which the engines agree; a level that they disagree on leaves the pin as it is, or is A's
level where POLICY and ACT_SUSPECT have it so. -/
def State.setSink (n : Nat) (on : Bool) (s : State) : State :=
  match (s.upsetAt 5).filter (fun y => y.word.val = n) with
  | none => s.moveSink n on
  | some y =>
    let s1 := s.noteMismatch y 19 (0x100 + s.pinGroup n)
    if s.rd EXP_CTL_POLICY = 1 && s.pinActSuspect n then s1.moveSink n (on ≠ bitOf y.flip.toNat 0) else s1

/-- R230, R286: a pin takes the function that its EVP_CFG register names: an express sink stands at its level, inactive until it acts;
an input and a pin that is off are not driven; the time outputs follow Datum. -/
def State.pinFunc (n : Nat) (s : State) : State :=
  let f := s.rd (EVP_CFG_FUNC n)
  if f = 9 then s.driveFunc n (s.sink n).on
  else
    let s1 := s.onSink n (fun k => { k with on := false, pulseEnd := none })
    if 2 ≤ f && f ≤ 5 || f = 7 then s1 else s1.releaseBall n

/-- R287: the sink pins of a group go inactive, but for those with HOLD. -/
def State.sinksFall (g : Nat) (s : State) : State :=
  s.each (s.sinkPins g) (fun n s => if s.pinHold n then s else (s.onSink n (fun k => { k with pulseEnd := none })).setSink n false)

/-! ## Event order at sinks (R269) -/

/-- R269: how a sink takes an accepted flit of a group: older than its event, or what it keeps from now on and whether the flit is one to
act on; `may`: the sink is configured to act on it. -/
def XSink.order (k : XSink) (g evseq : Nat) (may : Bool) : Option (XSeen × Bool) :=
  match k.seen.get g with
  | none => some ({ ev := evseq, acted := may }, may)
  | some x =>
    let e := modSub 24 evseq x.ev
    if e = 0 then some ({ x with acted := x.acted || may }, may && !x.acted)
    else if 8388608 ≤ e then none
    else some ({ ev := evseq, acted := may }, may)

/-! ## Supervision and tunnel state (R266, R270, R287) -/

/-- R266: HB of an express tunnel's entry. -/
def Entry.hb (e : Entry) : Nat := bitsOf e.adapter 8 4

/-- R287: the next instant at which supervision is lost. -/
def State.superNext (s : State) (e : Entry) : Option Nat :=
  if e.hb ≤ 10 then some (s.now + ms (2 * 2 ^ e.hb + 1)) else none

/-- R344: the GOOSE output records of a group. -/
def State.gooseW (s : State) (r w : Nat) : Nat := s.recW 0x0E0 4 r (w / 4) (w % 4)
def State.gooseOuts (s : State) (g : Nat) : List Nat :=
  (List.range 256).filter (fun r => bitOf (s.gooseW r 0) 31 && bitOf (s.gooseW r 0) 30 && bitsOf (s.gooseW r 0) 20 8 = g)

/-- R262, R339: the GOOSE input records of a group that have presented an opcode. -/
def State.gooseIns (s : State) (g : Nat) : List Nat :=
  (List.range 256).filter (fun r => bitOf (s.gooseW r 0) 31 && !bitOf (s.gooseW r 0) 30 && bitsOf (s.gooseW r 0) 20 8 = g &&
    (s.bridge.goose.get r).op ≠ 0)

/-- R262, R270: an express tunnel enters OPEN from OPENING: de-duplication and sink state are cleared, and an internal source sends its
current state as event 0. (Assumption log 40, DEDUCED.) -/
def State.groupOpened (t : Nat) (s : State) : State :=
  if !expressTun t then s
  else
    let g := groupOf t
    let e := (s.tun t).e
    let from_ := if e.inPort = 19 then s.sourcePins g else if e.inPort = 20 then (s.gooseIns g).map (· + 16) else []
    let src : XSource := { deferred := if from_ ≠ [] then some s.now else none, origin := from_.headD 0 }
    let old := s.group g
    let s1 := s.onGroup g (fun _ => { flits := old.flits, dups := old.dups, superAt := s.superNext e, src := src })
    s1.each (s1.sinkPins g ++ (s1.gooseOuts g).map (· + 16)) (fun k s => s.onSink k (fun x => { x with seen := x.seen.set g none }))

/-- R287: an express tunnel enters FAILED or CLOSING: unsupervised sinks fall. -/
def State.groupClosed (t : Nat) (s : State) : State :=
  if expressTun t && (s.tun t).e.hb = 15 then s.sinksFall (groupOf t) else s

end Sys2Proof.Machine
end

