-- ==== Sys2Proof/Machine/KeyOps.lean ====
section
/-!
DEFINITION. Derivation and use of keys (R419–R425, R433, R441, R442).
-/
namespace Sys2Proof.Machine

/-- R433: the counter-mode KDF with HMAC-SHA-256 and one iteration. -/
def kdf (key : BitVec 256) (label ctx : List Nat) : BitVec 256 :=
  Config.hmac key ([0, 0, 0, 1] ++ label ++ [0] ++ ctx ++ [0, 0, 1, 0])

/-- "KN-INT", "KN-LC-ROOT", "KN-LINK", "KN-TUN" in ASCII. -/
def labelInt : List Nat := [0x4B, 0x4E, 0x2D, 0x49, 0x4E, 0x54]
def labelLcRoot : List Nat := [0x4B, 0x4E, 0x2D, 0x4C, 0x43, 0x2D, 0x52, 0x4F, 0x4F, 0x54]
def labelLink : List Nat := [0x4B, 0x4E, 0x2D, 0x4C, 0x49, 0x4E, 0x4B]
def labelTun : List Nat := [0x4B, 0x4E, 0x2D, 0x54, 0x55, 0x4E]

/-- R418: fields of word 1 of a copy. -/
def SlotCopy.mramState (c : SlotCopy) : Nat := fld c.w1 30 2
def SlotCopy.purpose (c : SlotCopy) : Nat := fld c.w1 26 4
def SlotCopy.lcBits (c : SlotCopy) : Nat := fld c.w1 23 3
def SlotCopy.masters (c : SlotCopy) : Nat := fld c.w1 17 6
def SlotCopy.world (c : SlotCopy) : Nat := fld c.w1 15 2
def SlotCopy.exportable (c : SlotCopy) : Bool := fld c.w1 14 1 = 1
/-- R418: fields of word 2 of a copy. -/
def SlotCopy.parent (c : SlotCopy) : Nat := fld c.w2 24 8
def SlotCopy.rootLc (c : SlotCopy) : Nat := fld c.w2 21 3

/-- The bytes of words 0–4 of a copy, big-endian words. -/
def SlotCopy.headBytes (c : SlotCopy) : List Nat :=
  natBytesBE 4 c.gen ++ natBytesBE 4 c.w1.toNat ++ natBytesBE 4 c.w2.toNat ++ natBytesBE 4 c.pgen ++ natBytesBE 4 c.keyId.toNat

/-- R420: the integrity tag of a copy of a slot. -/
def SlotCopy.goodTag (c : SlotCopy) (slot copy : Nat) : BitVec 64 :=
  (Config.hmac (kdf Config.deviceSecret labelInt []) (c.headBytes ++ natBytesBE 32 c.key.toNat ++ [slot, copy])).extractLsb' 192 64

/-- R420: the copy is valid. -/
def SlotCopy.valid (c : SlotCopy) (slot copy : Nat) : Bool :=
  c.gen ≠ 0 && c.commit = c.gen && c.mramState ≠ 3 && c.tag = c.goodTag slot copy

/-- The copy erased MRAM reads as. -/
def SlotCopy.erased (c : SlotCopy) : Bool := c = {}

/-- The copy in use of a slot. -/
def Slot.inUse (x : Slot) : SlotCopy := if x.use1 then x.c1 else x.c0

/-- The current life-cycle state (R427). -/
def State.lc (s : State) : Nat := s.rd KEY_STAT_LC

/-- R425: the LC bit of the current state in a copy. -/
def SlotCopy.lcAllows (c : SlotCopy) (lc : Nat) : Bool := 1 ≤ lc && lc ≤ 3 && bitOf c.lcBits (lc - 1)

/-- R425: why a use of a slot is refused, if it is: 4 slot state, 1 purpose, 2 master, 3 life cycle. -/
def State.useRefusal (s : State) (slot purpose master : Nat) : Option Nat :=
  let x := s.keys.slots.get slot
  let c := x.inUse
  if x.st ≠ .key then some 4
  else if c.purpose ≠ purpose then some 1
  else if !bitOf c.masters master then some 2
  else if !c.lcAllows s.lc then some 3
  else none

/-- R426: a slot passes the world check of the writing master: WORLD [16] for the secure world, [15] otherwise. -/
def State.worldOk (s : State) (slot : Nat) (secure : Bool) : Bool :=
  let x := s.keys.slots.get slot
  (x.st = .key || x.st = .revoked) && bitOf x.inUse.world (b2n secure)

/-- R440: the key of a KEYED tunnel serves: usable, and renewed since its last invalidation. -/
def State.tunKeyOk (s : State) (keyed : Bool) (slot : Nat) : Bool :=
  !keyed || ((s.useRefusal slot 4 1).isNone &&
    (match (s.keys.slots.get slot).invalidGen with
     | some g => g < (s.keys.slots.get slot).inUse.gen
     | none => true))

/-- Master bits of word 1, counted from bit 17 (R424). -/
def masterBridge : Nat := 0
def masterAdapters : Nat := 1
def masterChord : Nat := 2
def masterMaint : Nat := 3
def masterSequencer : Nat := 4
def masterMailbox : Nat := 5

/-- R425: a refused use is counted and recorded, and raises DENIED. -/
def State.deny (slot cause : Nat) (s : State) : State :=
  (((s.wr KEY_DENY_SLOT slot).wr KEY_DENY_CAUSE cause).bump KEY_DENY_COUNT).ev 0x110 [EV_KEY_DENIED]

/-- R446: the LINK_ROOT slot mapped to a port; 0xFF none. (Assumption log 50, DEDUCED.) -/
def State.linkSlot (s : State) (p : Nat) : Nat := bitsOf (s.rd (KEY_LINKMAP_SLOT (p / 4))) (8 * (p % 4)) 8

/-- R132, R441: the hub is the end of the link nearer the root. -/
def State.nearRoot (s : State) (p : Nat) : Bool := !(s.rd CHIP_STAT_ROLE = 1 && 16 ≤ p)

/-- R441: the link key of an epoch on a port. -/
def State.linkKey (s : State) (p epoch : Nat) : BitVec 256 :=
  let c := s.chord p
  let near := if s.nearRoot p then c.nonceTx else c.nonceRx
  let far := if s.nearRoot p then c.nonceRx else c.nonceTx
  kdf (s.keys.slots.get (s.linkSlot p)).inUse.key labelLink
    (natBytesBE 8 near ++ natBytesBE 8 far ++ [epoch % 256])

/-- R442: the tag of a message on a keyed tunnel: key of the entry, tunnel, direction, wraps, MSN, words. -/
def State.tunTag (s : State) (t keySlot gen : Nat) (back : Bool) (wraps msn : Nat) (words : List Word) : Word :=
  let key := kdf (s.keys.slots.get keySlot).inUse.key labelTun (natBytesBE 2 t ++ [gen % 256])
  let nonce : BitVec 96 := BitVec.ofNat 96 (packNat [(84, 12, t), (83, 1, b2n back), (24, 24, wraps), (0, 24, msn)])
  tagWord key nonce words

end Sys2Proof.Machine
end

