-- ==== Sys2Proof/Machine/WinBase.lean ====
section
/-!
DEFINITION. Operations of the window bridge that tunnel state changes use: completion of host reads, F1's vectors (R350, R352, R369,
R370, R372, R376).
-/
namespace Sys2Proof.Machine

/-- The page of the window bridge. -/
def winPage : Nat := 0x0F0

/-- A configuration function. -/
def State.pf (s : State) (f : Nat) : PcieFunc := s.win.funcs.get f

/-- R349, R350: Bus Master Enable of a function; in D3hot it sends no request. (Assumption log 22, DEDUCED.) -/
def State.busMaster (s : State) (f : Nat) : Bool := bitOf (s.pf f).command 2 && (s.pf f).power ≠ 3

/-- R556: the pending bit of a vector of F0, F1 or F2. -/
def State.setPba (f v : Nat) (b : Bool) (s : State) : State :=
  let put (x : BitVec 64) : BitVec 64 := if b then x ||| (1#64 <<< v) else x &&& ~~~(1#64 <<< v)
  match f with
  | 0 => { s with evt := { s.evt with pba0 := put s.evt.pba0 } }
  | 1 => { s with evt := { s.evt with pba1 := put s.evt.pba1 } }
  | _ => { s with evt := { s.evt with pba2 := put s.evt.pba2 } }

/-- R556: a vector's message may leave: MSI-X enabled, no mask, Bus Master Enable. (Assumption log 22, DEDUCED.) -/
def State.vectorOpen (s : State) (f v : Nat) : Bool :=
  bitOf (s.pf f).msix 15 && !bitOf (s.pf f).msix 14 && s.busMaster f && !(s.evt.msix.get (f * 64 + v)).mask

/-- The message of a vector leaves, and its pending bit clears. (Assumption log 41, DEDUCED.) -/
def State.vectorOut (f v : Nat) (s : State) : State :=
  let e := s.evt.msix.get (f * 64 + v)
  (s.setPba f v false).emit (.msix f v e.addr e.data)

/-- R348, R350: a function sends a vector, or its PBA bit is set while it is masked or disabled. -/
def State.sendVector (f v : Nat) (s : State) : State := if s.vectorOpen f v then s.vectorOut f v else s.setPba f v true

/-- The pending bits of a function. -/
def State.pba (s : State) (f : Nat) : BitVec 64 := if f = 0 then s.evt.pba0 else if f = 1 then s.evt.pba1 else s.evt.pba2

/-- R556: a pending message leaves once nothing holds it, for F0 only while its level is still 1. -/
def State.pendingVector (f v : Nat) (s : State) : State :=
  if (s.pba f).getLsbD v && s.vectorOpen f v && (f ≠ 0 || s.level v) then s.vectorOut f v else s

/-- R383: RD_TIMEOUT in ns. -/
def State.rdTimeout (s : State) : Nat := ms (max 1 (s.rd WIN_TIMING_RD_TIMEOUT))

/-- Show the host reads in progress (R381). -/
def State.noteReads (s : State) : State := s.wr WIN_STAT_NP_OUT ((s.win.reqs.filter (fun r => !r.write && !r.spec)).length)

/-- Replace the requests in progress. -/
def State.setReqs (l : List WinReq) (s : State) : State := ({ s with win := { s.win with reqs := l } }).noteReads

/-- R355: a word of a WINDOW record. -/
def State.winW (s : State) (w i : Nat) : Nat := s.recW winPage 1 w 0 i

/-- R354: a failed access adds 1 to the window's ERRORS. -/
def State.winError (w : Nat) (s : State) : State :=
  let x := s.winW w 3
  s.setRec winPage 1 w 0 3 (satAdd 16 (bitsOf x 16 16) 1 * 2 ^ 16 + bitsOf x 0 16)

/-- R369: all-ones data of a read. -/
def allOnes (len : Nat) : List Nat := List.replicate len 0xFFFFFFFF

/-- A completion to the host, unless it has been discarded (R352). -/
def State.complete (r : WinReq) (status : Nat) (words : List Nat) (s : State) : State :=
  if r.silent || r.spec || r.write then s else s.emit (.completion r.hostTag status words)

/-- R370: a TAG whose read ended under R369 rests. -/
def State.restTag (r : WinReq) (s : State) : State :=
  if r.sent && !r.write then
    { s with win := { s.win with rested := s.win.rested.filter (fun x => s.now < x.2.2) ++ [(r.tag, r.tunnel, s.now + s.rdTimeout)] } }
  else s

/-- R369: the cases that end an access: its counter and its event. -/
inductive WinFail where
  | link | timeout | dock
  deriving DecidableEq, Repr

/-- R369: a read ends, or a write is dropped: completion, count, ERRORS of the window, event. -/
def State.failReq (why : WinFail) (ep : Bool) (r : WinReq) (s : State) : State :=
  let s1 := (s.complete r (if ep then 4 else 0) (allOnes r.len)).restTag r
  if r.spec then s1
  else
    let s2 := s1.winError r.window
    match why with
    | .link => (s2.bump WIN_ERR2_LINK).ev winPage [EV_WIN_LINK_FAIL]
    | .timeout => (s2.bump WIN_ERR_TIMEOUT).ev winPage [EV_WIN_TIMEOUT]
    | .dock => (s2.bump WIN_ERR2_DOCK).ev winPage [EV_WIN_DOCK_ERR]

/-- R369: the requests for which a test holds end. -/
def State.failReqs (why : WinFail) (test : WinReq → Bool) (s : State) : State :=
  let gone := s.win.reqs.filter test
  (s.setReqs (s.win.reqs.filter (fun r => !test r))).each gone (fun r s => s.failReq why false r)

/-- A window tunnel (R158). -/
def windowTun (t : Nat) : Bool := 0xC00 ≤ t && t ≤ 0xDFF

/-- R369: a window tunnel enters FAILED or CLOSING. (Assumption log 41, DEDUCED.) -/
def State.winGone (t : Nat) (s : State) : State :=
  if windowTun t && s.win.reqs.any (fun r => r.tunnel = t) then
    ({ s with win := { s.win with prefetch := s.win.prefetch.filter (fun e => e.tunnel ≠ t) } }).failReqs .link (fun r => r.tunnel = t)
  else s

/-- R371: the tunnel and validity of an INT record. -/
def State.intValid (s : State) (d : Nat) : Bool := bitOf (s.recW winPage 3 d 0 0) 31
def State.intTun (s : State) (d : Nat) : Nat := bitsOf (s.recW winPage 3 d 0 0) 19 12

/-- R370, R372, R376: a window tunnel enters OPEN: TAGs that rested on it are free, polls start without ACKV, RSEQ starts at 0. -/
def State.winOpened (t : Nat) (s : State) : State :=
  if windowTun t then
    let d := (s.tun t).e.srcDock
    let fresh (x : Poll) : Poll := { x with ack := none, out := none }
    let s1 := { s with win := { s.win with
      rested := s.win.rested.filter (fun r => r.2.1 ≠ t), reverse := s.win.reverse.upd d (fun r => { r with expected := 0, owed := 0, dueAt := none }) } }
    s1.each ((List.range 64).filter (fun d => s.intValid d && s.intTun d = t))
      (fun d s => { s with win := { s.win with polls := s.win.polls.upd d fresh } })
  else s

end Sys2Proof.Machine
end

