-- ==== Sys2Proof/Machine/TunOps.lean ====
section
/-!
DEFINITION. Operations on tunnel table entries that several families share: layout (R160), paths, state changes (R163), messages
(R172) and admission (R170).
-/
namespace Sys2Proof.Machine

/-! ## The entry as words (R160) -/

/-- The eight words of an entry. -/
def Entry.words (e : Entry) : List Nat :=
  [packNat [(28, 4, e.state.code), (24, 4, e.kind), (21, 3, e.vc), (16, 5, e.inPort), (11, 5, e.queue), (10, 1, b2n e.auto), (8, 2, e.mig)],
   packNat [(7, 25, e.destMask)],
   packNat [(26, 6, e.srcDock), (25, 1, b2n e.srcHub), (20, 5, e.hub), (15, 5, e.altPort)],
   packNat [(16, 16, e.rate), (0, 16, e.maxMsg)],
   packNat [(8, 24, e.msnOut), (0, 8, e.keySlot)],
   packNat [(8, 24, e.msnIn), (7, 1, b2n e.keyed), (6, 1, b2n e.police)],
   packNat [(20, 12, e.adapter)],
   packNat [(24, 8, e.gen), (16, 8, e.cause), (0, 16, e.msgLost)]]

/-- Element of a list of words, 0 beyond its end. -/
def nth (ws : List Nat) (i : Nat) : Nat := ws.getD i 0

/-- An entry from eight words as sent (R157). -/
def Entry.ofWords (ws : List Nat) : Entry :=
  let w (i lo n : Nat) := bitsOf (nth ws i) lo n
  { state := TunState.ofCode (w 0 28 4), kind := w 0 24 4, vc := w 0 21 3, inPort := w 0 16 5, queue := w 0 11 5,
    auto := w 0 10 1 = 1, mig := w 0 8 2, destMask := w 1 7 25, srcDock := w 2 26 6, srcHub := w 2 25 1 = 1,
    hub := w 2 20 5, altPort := w 2 15 5, rate := w 3 16 16, maxMsg := w 3 0 16, msnOut := w 4 8 24, keySlot := w 4 0 8,
    msnIn := w 5 8 24, keyed := w 5 7 1 = 1, police := w 5 6 1 = 1, adapter := w 6 20 12, gen := w 7 24 8,
    cause := w 7 16 8, msgLost := w 7 0 16,
    resv := w 0 0 8 + w 1 0 7 + w 2 0 15 + w 5 0 6 + w 6 0 20 }

/-! ## Kinds and paths -/

/-- R158: the kind code and the VCs of a tunnel ID; kind 0 is invalid or reserved. -/
def kindOf (t : Nat) : Nat × List Nat :=
  if t = 0 then (0, []) else if t ≤ 0x051 then (1, [2]) else if t ≤ 0x062 then (2, [2]) else if t ≤ 0x0FF then (0, [])
  else if t ≤ 0x1FF then (3, [0]) else if t ≤ 0x5FF then (4, [1]) else if t ≤ 0xBFF then (5, [4])
  else if t ≤ 0xDFF then (6, [5]) else if t ≤ 0xEFF then (7, [3, 5]) else if t ≤ 0xF7F then (8, [3]) else (0, [])

/-- R159: management, hub control and time tunnels. -/
def protectedTun (t : Nat) : Bool := 1 ≤ t && t ≤ 0x062

/-- R158: the management tunnel of a dock, the hub control tunnel and the time tunnel of a hub. -/
def mgmtTun (dock : Nat) : Nat := 0x001 + dock
def ctrlTun (hub : Nat) : Nat := 0x041 + hub
def timeTun (hub : Nat) : Nat := 0x052 + hub

/-- The Compass queues of a VC (R295). -/
def queueInClass (vc q : Nat) : Bool := match vc with
  | 0 => q = 0 | 1 => 1 ≤ q && q ≤ 7 | 2 => 8 ≤ q && q ≤ 11 | 3 => 12 ≤ q && q ≤ 19 | 4 => 20 ≤ q && q ≤ 27
  | 5 => 28 ≤ q && q ≤ 31 | _ => false

/-- The Hull ports of DEST_MASK. -/
def Entry.dests (e : Entry) : List Nat := maskBits 25 e.destMask

/-- R161: a unicast tunnel on VC2–VC5 carries both directions. -/
def Entry.twoWay (e : Entry) : Bool := e.dests.length = 1 && 2 ≤ e.vc && e.vc ≤ 5

/-- A VC3 tunnel with several branches (R153). -/
def Entry.vc3Multi (e : Entry) : Bool := e.vc = 3 && 1 < e.dests.length

/-- Every Hull port of the tunnel's path in this hub. -/
def Entry.path (e : Entry) : List Nat := e.inPort :: e.dests

/-- The tunnel crosses or ends at a port. -/
def Entry.crosses (e : Entry) (p : Nat) : Bool := e.path.contains p

/-- The hub is the root (R565). -/
def State.isRoot (s : State) : Bool := s.rd CHIP_STAT_ROLE = 0

/-- R565: the role that ROLE_SET and the strap give. -/
def State.roleWanted (s : State) : Nat :=
  let r := s.rd CHIP_CTL_ROLE_SET
  if r < 2 then r else if bitOf (s.rd CHIP_STRAP_STRAPS) 2 then 0 else 1

/-- R20, R154: the leaf hub on a root port. -/
def State.hubAt (s : State) (p : Nat) : Option Nat := s.ids.hubOf.lookup p

/-- R176: the side that ALT_PORT pairs with is IN_PORT: on a leaf an apex, on the root a port of the same leaf. (Assumption log 33, DEDUCED.) -/
def State.altOnIn (s : State) (e : Entry) : Bool :=
  if s.isRoot then s.hubAt e.inPort ≠ none && s.hubAt e.inPort = s.hubAt e.altPort
  else 16 ≤ e.inPort && e.inPort ≤ 17

/-- R161, R169: where a flit that arrived on a Hull port goes; none: the entry does not accept it there. -/
def State.route (s : State) (e : Entry) (p : Nat) : Option (List Nat) :=
  if p = e.inPort then some e.dests
  else if e.twoWay && e.dests.contains p then some [e.inPort]
  else if e.mig ≠ 0 && p = e.altPort then
    (if s.altOnIn e then some e.dests else if e.twoWay then some [e.inPort] else none)
  else none

/-- R176: swap the side of an entry with ALT_PORT. -/
def State.swapAlt (s : State) (e : Entry) : Entry :=
  if s.altOnIn e then { e with inPort := e.altPort, altPort := e.inPort }
  else
    let old := e.dests.headD 0
    { e with destMask := (2 ^ e.altPort), altPort := old }

/-! ## State changes (R163) -/

/-- The tunnels whose entry is not FREE, by rising ID. -/
def State.tunIds (s : State) : List Nat := s.tuns.keys

/-- Record the last failure (R185). -/
def State.lastFail (t cause : Nat) (s : State) : State :=
  (s.wr TUN_LAST_FAIL_TUNNEL t).wr TUN_LAST_FAIL_CAUSE cause

/-- An entry enters FAILED with a cause. -/
def State.failTun (t cause : Nat) (s : State) : State :=
  ((((s.onTun t (fun x => { x with
      e := { x.e with state := .failed, cause := cause }, leaves := [], docks := [], heldMsgs := [],
      stopAt := none, doneRcvd := false, retryAt := none })).lastFail t cause).groupClosed t).winGone t).ev 0x080 [EV_TUN_FAILED]

/-- R325: fields of a policer record. -/
def Policer.mode (x : Policer) : Nat := fld x.w0 30 2
def Policer.dir (x : Policer) : Nat := fld x.w0 28 2
def Policer.cir (x : Policer) : Nat := fld x.w0 0 16
def Policer.pir (x : Policer) : Nat := fld x.w1 16 16

/-- R305, R308: the caps of the buckets in milliwords; in MODE DROP a CBS below 32 acts as 32. -/
def Policer.capC (x : Policer) : Nat := (if x.mode = 1 then max 32 (fld x.w1 0 16) else fld x.w1 0 16) * 1000
def Policer.capP (x : Policer) : Nat := fld x.w2 0 16 * 1000

/-- R305: both buckets full, no message open. -/
def Policer.filled (x : Policer) : Policer := { x with c := (x.capC : Nat), p := (x.capP : Nat), colourIn := none, colourOut := none }

/-- An entry enters OPEN from OPENING (R163): MSN_OUT 0, MSN_IN 0xFF_FFFF, reassembly afresh; R305: the policer is full;
R308: POLICE with MODE 0b00 raises POL_CFG. -/
def State.openTun (t : Nat) (s : State) : State :=
  let s1 := (((s.onTun t (fun x => { x with
      e := { x.e with state := .opened, msnOut := 0, msnIn := 0xFFFFFF }, rx := {}, dockMid := false, dataError := false, wrapOut := 0, wrapIn := 0,
      leaves := [], docks := [], heldMsgs := [], revoked := false })).groupOpened t).winOpened t).ev 0x080 [EV_TUN_OPENED]
  if (s.tun t).e.police then
    { s1 with compass := { s1.compass with policers := s1.compass.policers.upd t Policer.filled } }.when
      ((s.compass.policers.get t).mode = 0) (State.ev 0x0A0 [EV_CMP_POL_CFG])
  else s1

/-- An entry enters REKEY. -/
def State.rekeyTun (t : Nat) (s : State) : State :=
  (s.onTun t (fun x => { x with e := { x.e with state := .rekey } })).ev 0x080 [EV_TUN_REKEY]

/-- An entry enters HELD. -/
def State.holdTun (t : Nat) (s : State) : State :=
  (s.onTun t (fun x => { x with e := { x.e with state := .held } })).ev 0x080 [EV_TUN_HELD]

/-- R163: a tunnel whose key is revoked goes from OPEN to REKEY, or does so when HELD ends; an entry in any other state keeps it. -/
def State.revokeTun (t : Nat) (s : State) : State :=
  match (s.tun t).e.state with
  | .opened => s.rekeyTun t
  | .held => s.onTun t (fun x => { x with revoked := true })
  | _ => s

/-- R159: install a management, hub control or time tunnel as OPEN between Hull port 24 and a port. (Assumption log 33, DEDUCED.) -/
def State.installMgmt (t port : Nat) (s : State) : State :=
  (s.onTun t (fun x => { x with
    e := { x.e with kind := (kindOf t).1, vc := 2, inPort := 24, queue := 8 + Config.mgmtQueue.val, destMask := 2 ^ port, rate := 6,
                    srcHub := true, altPort := 0x1F, state := .opening }, rx := {} })).openTun t

/-- Every tunnel that crosses a port, for which a test on its entry holds. -/
def State.crossing (s : State) (p : Nat) (q : Entry → Bool) : List Nat :=
  s.tunIds.filter (fun t => let e := (s.tun t).e; e.crosses p && q e)

/-! ## Messages (R172) -/

/-- The flits of a message sent into the Hull at a port. -/
def messageFlits (t vc p : Nat) (dests : List Nat) (words : List Word) : List HFlit :=
  let ps := pieces 30 (words.length + 1) words
  ps.zipIdx.map (fun x =>
    { tunnel := t, vc := vc, payload := x.1, last := x.2 + 1 = ps.length, inPort := p, todo := dests })

/-- R172, R173, R442: a message of content words goes from Hull port `p` to the ports `ds`; R425: a refused use of the tunnel key acts
as a revoked key (R163). -/
def State.sendMsgTo (p t : Nat) (ds : List Nat) (content : List Word) (s : State) : State :=
  let x := s.tun t
  let e := x.e
  match (if e.keyed then s.useRefusal e.keySlot 4 masterAdapters else none) with
  | some c => (s.deny e.keySlot c).revokeTun t
  | none =>
    let n := content.length + b2n e.keyed
    let hdr := pack [(16, 24, e.msnOut), (0, 16, n)]
    let body := hdr :: content
    let words := if e.keyed then body ++ [s.tunTag t e.keySlot e.gen (p ≠ e.inPort) x.wrapOut e.msnOut body] else body
    let s1 := s.onTun t (fun x => { x with
      e := { x.e with msnOut := (x.e.msnOut + 1) % 2 ^ 24 }, wrapOut := x.wrapOut + (if x.e.msnOut = 0xFFFFFF then 1 else 0) })
    { s1 with hull := { s1.hull with ingress := s1.hull.ingress ++ messageFlits t e.vc p ds words } }

/-- R172: an entry on which adapters send: OPEN, REKEY or HELD. -/
def TunState.sends : TunState → Bool
  | .opened | .rekey | .held => true
  | _ => false

/-- R172: a message sent by the adapter at Hull port `p` on a tunnel.  Nothing is sent on a tunnel that is neither OPEN, REKEY nor
HELD. -/
def State.sendMsg (p t : Nat) (content : List Word) (s : State) : State :=
  let e := (s.tun t).e
  match e.state with
  | .opened | .rekey | .held =>
    match s.route e p with
    | none => s
    | some ds => s.sendMsgTo p t ds content
  | _ => s

/-- R157: a single-word message on a hub control tunnel. -/
def ctrlWord (type port dock tunnel arg : Nat) : Word :=
  pack [(36, 4, type), (31, 5, port), (25, 6, dock), (13, 12, tunnel), (0, 13, arg)]

/-- R157: send a hub control message towards hub `h` (on a leaf, towards the root). -/
def State.sendCtrl (h type port dock tunnel arg : Nat) (s : State) : State :=
  s.sendMsg 24 (ctrlTun h) [ctrlWord type port dock tunnel arg]

/-- R157: the bytes of an entry packed into seven words, most significant byte first. -/
def entryWords (ws : List Nat) : List Word :=
  let bytes := ws.flatMap (natBytes 4) ++ [0, 0, 0]
  (pieces 5 8 bytes).map (fun b => BitVec.ofNat 40 (bytesToNat b.reverse))

/-- R157: the entry in the seven words of an ENTRY_WRITE. -/
def wordsEntry (ws : List Word) : List Nat :=
  (pieces 4 8 ((ws.flatMap wordBytes).take 32)).map bytesToNat

/-- The number of this hub. -/
def State.hubNo (s : State) : Nat := s.rd CHIP_STAT_HUB

/-! ## Admission (R170) -/

/-- R170: the states in which an entry is charged. -/
def TunState.charged : TunState → Bool
  | .opening | .opened | .rekey | .held | .failed => true
  | _ => false

/-- R170: the units an entry is charged. -/
def chargeOf (t : Nat) (e : Entry) : Nat :=
  if protectedTun t then 6 else if e.vc = 0 then 8 * e.rate else if e.vc ≤ 2 then e.rate else 0

/-- R148, R170: the Hull ports on which a tunnel is charged: its path, and on VC0 Hull port 19 between its ends. -/
def Entry.chargedAt (e : Entry) : List Nat := if e.vc = 0 then 19 :: e.path else e.path

/-- The entry uses a port in the ingress (false) or egress (true) direction; a VC0 flit goes to Hull port 19 first and from there to each
destination (R148). -/
def Entry.uses (e : Entry) (p : Nat) (egress : Bool) : Bool :=
  if e.twoWay then e.crosses p
  else if e.vc = 0 && p = 19 then (if egress then e.inPort ≠ 19 else e.inPort = 19 || e.dests.any (· ≠ 19))
  else if egress then e.dests.contains p else e.inPort = p

/-- The units charged on a port and direction by every tunnel but one. -/
def State.chargedUnits (s : State) (p : Nat) (egress : Bool) (but : Nat) : Nat :=
  (s.tunIds.map (fun t => let e := (s.tun t).e
    if t ≠ but && e.state.charged && e.uses p egress then chargeOf t e else 0)).sum

/-- The RATE sum of a VC on the egress direction of a port, with one more tunnel. -/
def State.vcRate (s : State) (p vc : Nat) (t : Nat) (e : Entry) : Nat :=
  (s.tunIds.map (fun u => let x := (s.tun u).e
    if u ≠ t && x.state.charged && x.vc = vc && x.uses p true then x.rate else 0)).sum +
  (if e.vc = vc && e.uses p true then e.rate else 0)

/-- The credit counts of a VC 1–5 of a port. -/
def Chord.cred (c : Chord) (vc : Nat) : Cred :=
  match vc with | 1 => c.vc1 | 2 => c.vc2 | 3 => c.vc3 | 4 => c.vc4 | _ => c.vc5

/-- Change the credit counts of a VC 1–5. -/
def Chord.onCred (vc : Nat) (f : Cred → Cred) (c : Chord) : Chord :=
  match vc with
  | 1 => { c with vc1 := f c.vc1 } | 2 => { c with vc2 := f c.vc2 } | 3 => { c with vc3 := f c.vc3 }
  | 4 => { c with vc4 := f c.vc4 } | _ => { c with vc5 := f c.vc5 }

/-- R170: the answer of admission: 0 OK, 2 ADMIT_CAPACITY, 3 ADMIT_CREDIT.  A VC that the partner advertised CREDITLESS has no data credits to
check (assumption log 33, DESIGN CHOICE). -/
def State.admission (s : State) (t : Nat) (e : Entry) : Nat :=
  let beyond := e.chargedAt.any (fun p => [false, true].any (fun d =>
    e.uses p d && 6000 < s.chargedUnits p d t + chargeOf t e))
  let short := (e.path.filter (· < 18)).any (fun p => [1, 2].any (fun vc =>
    e.uses p true && !(((s.chord p).cred vc).cless) &&
    ((s.chord p).cred vc).partnerD * 40000 < s.vcRate p vc t e * (s.rd (CHD_RTT_RTT p) + 200)))
  if beyond then 2 else if short then 3 else 0

/-- R168: the leaves on the path of an entry of the root. -/
def State.leavesOf (s : State) (e : Entry) : List Nat :=
  (e.path.filterMap s.hubAt).eraseDups

/-- R168: every leaf on the path is reachable over its hub control tunnel. -/
def State.leavesUp (s : State) (e : Entry) : Bool :=
  (s.leavesOf e).all (fun h => (s.tun (ctrlTun h)).e.state = .opened)

/-- R166: the dock endpoints of a tunnel: docks on the root's own ports of the path, and of each leaf those that the free value
names. -/
def State.docksOf (s : State) (t : Nat) (e : Entry) : List Nat :=
  let own := s.ids.docks.filterMap (fun d => if d.1 = s.hubNo && e.crosses d.2.1 then some d.2.2 else none)
  let far := s.ids.docks.filterMap (fun d =>
    if d.1 ≠ s.hubNo && (s.leavesOf e).contains d.1 && (Config.leafDocks t d.1).getLsbD d.2.2 then some d.2.2 else none)
  own ++ far

/-- R166: word 0 of TUN_OPEN or TUN_CLOSE. -/
def tunWord0 (op t : Nat) (e : Entry) (dock : Nat) : Word :=
  pack [(32, 8, op), (20, 12, t), (16, 4, e.kind), (13, 3, e.vc), (12, 1, b2n (!e.srcHub && e.srcDock = dock)), (0, 12, e.adapter)]

/-- R166: TUN_OPEN to a dock, held back while its management tunnel is not OPEN. -/
def State.sendTunMsg (op t dock : Nat) (s : State) : State :=
  let e := (s.tun t).e
  let m := mgmtTun dock
  let words := if op = 0x10 then [tunWord0 op t e dock, pack [(32, 8, e.gen), (31, 1, b2n e.keyed)]] else [tunWord0 op t e dock]
  if (s.tun m).e.state = .opened then s.sendMsg 24 m words
  else s.onTun t (fun x => { x with heldMsgs := x.heldMsgs ++ [dock] })

/-- R176: ALT_PORT of the leaf's entry: the apex that pairs with the one on the leaf's hop, where the leaf has two ports on this root. -/
def State.leafAlt (s : State) (h : Nat) (e : Entry) : Nat :=
  if (s.ids.hubOf.filter (·.2 = h)).length < 2 then 0x1F
  else if e.inPort = 16 || bitOf e.destMask 16 then 17
  else if e.inPort = 17 || bitOf e.destMask 17 then 16 else 0x1F

/-- R157, R173: ENTRY_WRITE of a tunnel to a leaf: the root's entry with the leaf's own hop in words 0 and 1, the leaf's pair of apexes in
ALT_PORT, and the MSN fields of an entry that enters OPEN. (Assumption log 33, DEDUCED.) -/
def State.sendEntryWrite (t h : Nat) (e : Entry) (s : State) : State :=
  let hop := Config.leafHop t h
  let e1 := { e with inPort := hop.toNat % 32, destMask := hop.toNat / 32 % 2 ^ 25, msnOut := 0, msnIn := 0xFFFFFF }
  s.sendMsg 24 (ctrlTun h) (ctrlWord 5 0 0 t 0 :: entryWords { e1 with altPort := s.leafAlt h e1 }.words)

/-- R168: with the hub control tunnel of leaf `h` OPEN the root sends it ENTRY_WRITE FREE for every tunnel closed meanwhile. -/
def State.payOwed (h : Nat) (s : State) : State :=
  let s1 := s.each (s.ids.owedFree.filter (·.1 = h)) (fun x s => s.sendEntryWrite x.2 h { (s.tun x.2).e with state := .free })
  { s1 with ids := { s1.ids with owedFree := s1.ids.owedFree.filter (·.1 ≠ h) } }

/-- R207: the time tunnel of leaf `h` enters OPEN: the leaf's status is not known yet, and TIME_DS is owed. -/
def State.timeUp (h : Nat) (s : State) : State :=
  let s1 := { s with datum := { s.datum with leafAt := s.datum.leafAt.set h s.now, dsSent := s.datum.dsSent.set h none } }
  (s1.wr (DAT_LEAF_STAT_VALID h) 0).wr (DAT_LEAF_STAT_STALE h) 0

/-- R168, R207: what the root does when the hub control tunnel or the time tunnel of a leaf enters OPEN. -/
def State.hubTunUp (t : Nat) (s : State) : State :=
  if !s.isRoot then s
  else if 0x041 < t && t ≤ 0x051 then s.payOwed (t - 0x041)
  else if 0x052 < t && t ≤ 0x062 then s.timeUp (t - 0x052)
  else s

/-- An entry returns to OPEN from HELD or REKEY. (Assumption log 33, DEDUCED.) -/
def State.reopenHeld (t : Nat) (s : State) : State :=
  ((s.onTun t (fun x => { x with e := { x.e with state := .opened }, revoked := false })).ev 0x080 [EV_TUN_OPENED]).hubTunUp t

/-- R163: an entry enters OPENING: charged, the entry installed in every leaf, then TUN_OPEN to each dock endpoint; with no
acknowledgement to await, the entry goes to OPEN. -/
def State.beginOpening (t : Nat) (s : State) : State :=
  let e := { (s.tun t).e with state := .opening }
  let hs := s.leavesOf e
  let ds := s.docksOf t e
  let s1 := s.onTun t (fun x => { x with e := e, since := s.now, writeAt := s.now, resent := false, leaves := hs, docks := ds, heldMsgs := [] })
  let s2 := s1.each hs (fun h s => s.sendEntryWrite t h { e with state := .opened })
  let s3 := if hs = [] then s2.each ds (fun d s => s.sendTunMsg 0x10 t d) else s2
  if hs = [] && ds = [] then s3.openTun t else s3

/-- R163: with every acknowledgement in, OPENING goes to OPEN; after the leaves, TUN_OPEN goes to the docks. -/
def State.checkOpening (t : Nat) (s : State) : State :=
  let x := s.tun t
  if x.e.state = .opening && x.leaves = [] && x.docks = [] then s.openTun t else s

/-- R163: CLOSING is complete. -/
def State.freeTun (t : Nat) (s : State) : State :=
  s.onTun t (fun x => { x with e := { x.e with state := .free }, leaves := [], docks := [], heldMsgs := [], rx := {},
                               stopAt := none, doneRcvd := false, retryAt := none, pruned := 0 })

end Sys2Proof.Machine
end

