-- ==== Sys2Proof/Machine/ChordOps.lean ====
section
/-!
DEFINITION. Operations of the Chord link layer that several families share: credits, acknowledgement, replay, Point messages, link
loss (R126), flush and changeover (R176).
-/
namespace Sys2Proof.Machine

/-! ## Codes -/

/-- R77: link states. -/
def LS_DETECT : Nat := 0
def LS_TRAIN : Nat := 1
def LS_CONFIG : Nat := 2
def LS_ACTIVE : Nat := 3
def LS_RETRAIN : Nat := 4
def LS_DOZE : Nat := 5
def LS_NAP : Nat := 6
def LS_DORMANT : Nat := 7
def LS_DOWN : Nat := 8
def LS_DISABLED : Nat := 9
def LS_LOOPBACK : Nat := 10

/-- R141: transmitter states. -/
def TX_SEND : Nat := 0
def TX_REPLAY : Nat := 1
def TX_STALL : Nat := 2
def TX_HOLD : Nat := 3

/-- The link state of a port. -/
def State.ls (s : State) (p : Nat) : Nat := s.rd (LANE_STAT_STATE p)

/-- The pages of a port. -/
def lanePage (p : Nat) : Nat := 0x010 + p
def chordPage (p : Nat) : Nat := 0x030 + p

/-- A port in ACTIVE. -/
def State.active (s : State) (p : Nat) : Bool := s.ls p = LS_ACTIVE

/-- A control word: code in [39:34]. -/
def ctlWord (code : Nat) (l : List (Nat × Nat × Nat)) : Word := pack ((34, 6, code) :: l)

/-- Send a stream control word. -/
def State.sendStream (p : Nat) (w : Word) (s : State) : State := s.emit (.word p 3 w)

/-! ## Acknowledgement (R100–R104) -/

/-- R100: the ACK word with the current cumulative points. -/
def ackWord (c : Chord) (rstart : Bool) : Word :=
  ctlWord 0x04 [(18, 16, c.cum), (10, 8, c.xCum), (9, 1, b2n rstart)]

/-- Send an ACK. -/
def State.sendAck (p : Nat) (rstart : Bool) (s : State) : State :=
  (s.sendStream p (ackWord (s.chord p) rstart)).onChord p (fun c => { c with unacked := 0, ackDue := none })

/-- R101: send a NAK; it carries the cumulative points, and with KIND 1 the missing XSN. -/
def State.sendNak (p : Nat) (kind xsn : Nat) (s : State) : State :=
  (s.sendStream p (ctlWord 0x05 [(18, 16, (s.chord p).cum), (10, 8, xsn), (9, 1, kind)])).bump (CHD_NAK_SENT p)

/-- R103: an ACK becomes due within 100 ns. -/
def State.wantAck (p : Nat) (s : State) : State :=
  s.onChord p (fun c => { c with ackDue := some (c.ackDue.getD (s.now + 100)) })

/-- R103: a corrupt flit or gap: from IN_SEQ one NAK of KIND 0 and NAK_WAIT; framing is void until an ACK with RSTART. -/
def State.rxLoss (p : Nat) (voids : Bool) (s : State) : State :=
  let period := s.rd (CHD_RTT_TIMER p) * 10
  if s.rd (CHD_STAT_RX_STATE p) = 0 then
    ((s.sendNak p 0 (s.chord p).xCum).wr (CHD_STAT_RX_STATE p) 1).onChord p
      (fun c => { c with void := true, framing := {}, nakAgain := some (s.now + period) })
  else s.onChord p (fun c => if voids then { c with void := true, framing := {} } else c)

/-! ## Credits (R92–R98) -/

/-- R95: credits freed when an accepted flit leaves its ingress buffer. -/
def State.freeCredits (p vc len : Nat) (s : State) : State :=
  if p < 18 && 1 ≤ vc && vc ≤ 5 then
    s.onChord p (Chord.onCred vc (fun r =>
      if r.myCless then { r with used := r.used - dataCredits len }
      else { r with freedH := r.freedH + 1, freedD := r.freedD + dataCredits len,
                    dueH := some (r.dueH.getD (s.now + 100)), dueD := some (r.dueD.getD (s.now + 100)),
                    used := r.used - dataCredits len }))
  else s

/-- R96: the CREDIT word of a VC and type with the current limit. -/
def creditWord (vc : Nat) (data : Bool) (limit : Nat) : Word :=
  ctlWord 0x06 [(31, 3, vc), (30, 1, b2n data), (14, 16, limit)]

/-- R93: credits of a VC cover a flit of payload length `len`, net of `heldH`, `heldD` needed by queued flits. -/
def Cred.covers (r : Cred) (len heldH heldD : Nat) : Bool :=
  r.cless || (1 + heldH ≤ modSub 16 r.clH r.ccH && dataCredits len + heldD ≤ modSub 16 r.clD r.ccD)

/-- R92: a flit consumes its credits at its first transmission. -/
def Cred.consume (r : Cred) (len : Nat) : Cred :=
  if r.cless then r else { r with ccH := (r.ccH + 1) % 2 ^ 16, ccD := (r.ccD + dataCredits len) % 2 ^ 16 }

/-! ## Flits on the link (R82–R85, R119) -/

/-- The header word of a flit. -/
def flitHeader (vc tunnel len lsn : Nat) (poison last replayed : Bool) : Word :=
  pack [(37, 3, vc), (25, 12, tunnel), (20, 5, len), (4, 16, lsn), (3, 1, b2n poison), (2, 1, b2n last), (1, 1, b2n replayed)]

/-- R132: the extended sequence of an LSN sent. -/
def Chord.seqTx (c : Chord) (lsn : Nat) : Nat := (if lsn < c.nextLsn then c.lsnHighTx else c.lsnHighTx - 1) * 2 ^ 16 + lsn

/-- R84, R85: the good trailer over header and payload, with the key and epoch of the direction. -/
def State.trailer (s : State) (p : Nat) (tx : Bool) (key : BitVec 256) (epoch seq : Nat) (words : List Word) : Word :=
  let ws := match words with | h :: t => clearReplayed h :: t | [] => []
  if s.rdB (CHD_STAT_AUTH p) then
    tagWord key (gcmNonce epoch (s.nearRoot p ≠ tx) false seq) ws
  else BitVec.ofNat 40 (flitCrc ws * 2 ^ 8)

/-- R127: a stub carries one zero payload word and POISON; R117: a lost entry carries zero payload words and POISON; R83: such a flit
carries a trailer in the good form. -/
def Replay.sent (r : Replay) : Replay :=
  if r.stub then { r with payload := [0#40], poison := true, stomp := false }
  else if r.lost then { r with payload := r.payload.map (fun _ => 0#40), poison := true, stomp := false } else r

/-- The words of a held entry as they go on the lanes. -/
def State.entryFlit (s : State) (p : Nat) (r : Replay) (replayed : Bool) : List Word :=
  let r := r.sent
  let h := flitHeader r.vc r.tunnel r.payload.length r.lsn r.poison r.last replayed
  let ws := h :: r.payload
  let t := s.trailer p true (s.chord p).keyTx (s.rd (CHD_STAT_EPOCH_TX p)) ((s.chord p).seqTx r.lsn) ws
  ws ++ [if r.stomp then ~~~t else t]

/-! ## Replay (R105–R110) and storage (R115, R116) -/

/-- R108: the period of the replay timer for an RTT, in units of 10 ns. -/
def timerUnits (rtt : Nat) : Nat := (max 800 (2 * rtt + 500) + 9) / 10

/-- R108: set the RTT of a port, rounded up to 10 ns, and the timer period. (Assumption log 30, DEDUCED.) -/
def State.setRtt (p rtt : Nat) (s : State) : State :=
  let r := (rtt + 9) / 10 * 10
  (s.wr (CHD_RTT_RTT p) r).wr (CHD_RTT_TIMER p) (timerUnits r)

/-- R108: (re)start the replay timer if entries are held and the transmitter is not in HOLD, else stop it. -/
def State.restartTimer (p : Nat) (s : State) : State :=
  let run := ((s.chord p).replay ≠ [] || (s.chord p).xReplay ≠ []) && s.rd (CHD_STAT_TX_STATE p) ≠ TX_HOLD
  s.onChord p (fun c => { c with timer := if run then some (s.now + s.rd (CHD_RTT_TIMER p) * 10) else none })

/-- R115: link words of an entry. -/
def Replay.size (r : Replay) : Nat := r.payload.length + 2

/-- R115, R116: words held on the die; blocks of 64 words held in the spill pool, each until its last entry is purged. -/
def Chord.onDie (c : Chord) : Nat := ((c.replay.filter (fun r => !r.spilled)).map Replay.size).sum
def Chord.blocks (c : Chord) : Nat :=
  match c.replay.filter (·.spilled) with
  | [] => 0
  | r :: l => let z := (r :: l).getLastD r; (z.pos + z.size - 1) / 64 - r.pos / 64 + 1

/-- R115: move the oldest entries to the spill pool until `room` words fit on the die; `pos` is the next free word there. -/
def spillFor (room : Nat) : List Replay → Nat → Nat → List Replay
  | [], _, _ => []
  | r :: l, held, pos =>
    if held + room ≤ 2048 then r :: l
    else if r.spilled then r :: spillFor room l held (r.pos + r.size)
    else { r with spilled := true, pos := pos } :: spillFor room l (held - r.size) (pos + r.size)

/-- R105, R110, R115, R116: make room for a new entry; none: the transmitter must stall. (Assumption log 31, DEDUCED.) -/
def Chord.makeRoom (c : Chord) (quota size : Nat) : Option Chord :=
  let c' := { c with replay := spillFor size c.replay c.onDie 0 }
  if c'.blocks ≤ quota && c.replay.length < 32767 then some c' else none

/-- R116: write the block count of a port. (Assumption log 31, DEDUCED.) -/
def State.noteSpill (p : Nat) (s : State) : State := s.wr (CHD_SPILL_USED p) (s.chord p).blocks

/-- R105, R106: purge entries up to an LSN; a purge restarts the timer and clears the replay number; freed space ends STALL. -/
def State.purgeTo (p lsn : Nat) (s : State) : State :=
  let c := s.chord p
  let d := modSub 16 lsn c.purge
  let rest := c.replay.filter (fun r => d < modSub 16 r.lsn c.purge)
  if rest.length < c.replay.length then
    let s1 := (s.onChord p (fun c => { c with replay := rest, purge := lsn, replayNum := 0, lastOldest := none })).noteSpill p
    (s1.when (s1.rd (CHD_STAT_TX_STATE p) = TX_STALL) (State.wr (CHD_STAT_TX_STATE p) TX_SEND)).restartTimer p
  else s.onChord p (fun c => { c with purge := lsn })

/-- R111, R113: purge express entries up to the cumulative XSN. -/
def State.purgeX (p xsn : Nat) (s : State) : State :=
  s.onChord p (fun c => { c with xReplay := c.xReplay.filter (fun e => 128 ≤ modSub 8 xsn e.xsn) })

/-- R106: the judgement of an acknowledged LSN: 0 in range, 1 behind the purge point, 2 beyond the last sent. -/
def Chord.judgeAck (c : Chord) (lsn : Nat) : Nat :=
  let d := modSub 16 lsn c.purge
  if d ≤ modSub 16 (c.nextLsn + 2 ^ 16 - 1) c.purge then 0 else if 32768 ≤ d then 1 else 2

/-- R106: an acknowledgement beyond the last LSN sent. -/
def State.badAck (p : Nat) (s : State) : State :=
  (s.bump (CHD_PROTO_BAD_ACK p)).ev (chordPage p) [EV_CHD_PROTO_ERR]

/-- R104, R105, R109: start a replay from the oldest held entry: the RSTART ACK, then every held entry with REPLAYED = 1.  The
fourth replay that starts from the same oldest entry as the one before it forces a retrain, which the answer says. (Assumption log 31, DEDUCED.) -/
def State.startReplay (p : Nat) (s : State) : State × Bool :=
  let c := s.chord p
  match c.replay with
  | [] => (((s.wr (CHD_STAT_TX_STATE p) TX_SEND).restartTimer p), false)
  | r :: _ =>
    let n := if c.lastOldest = some r.lsn then c.replayNum + 1 else 0
    let s1 := (((s.wr (CHD_STAT_TX_STATE p) TX_REPLAY).wrapInc (CHD_REPLAY_STARTS p)).life (portLife p 8)).onChord p
      (fun c => { c with replayNum := n, lastOldest := some r.lsn, restart := r.lsn })
    let s2 := s1.sendAck p true
    let s3 := s2.each (s2.chord p).replay (fun e s => (s.emit (.flit p (s.entryFlit p e true))).bump (CHD_REPLAY_FLITS p))
    let s4 := s3.restartTimer p
    if n = 4 then ((s4.bump (CHD_REPLAY_FORCED p)).ev (chordPage p) [EV_CHD_REPLAY_LIMIT], true) else (s4, false)

/-! ## Express on the link (R87, R111, R113) -/

/-- R85, R87: the tag of an express flit, over words 1–3 with REPLAYED taken as 0. -/
def State.expressTag (s : State) (p : Nat) (tx : Bool) (key : BitVec 256) (epoch seq : Nat) (words : List Word) : Word :=
  let ws := match words with | h :: t => (h &&& ~~~(0x100#40)) :: t | [] => []
  tagWord key (gcmNonce epoch (s.nearRoot p ≠ tx) true seq) ws

/-- R132: the extended sequence of an XSN sent, one of the last 256. -/
def Chord.seqX (c : Chord) (xsn : Nat) : Nat := c.xsnHighTx * 256 + c.nextXsn - (modSub 8 (c.nextXsn + 255) xsn + 1)

/-- The words of a held express flit as they go on both lanes. -/
def State.expressWords (s : State) (p : Nat) (e : XReplay) (replayed : Bool) : List Word :=
  let c := s.chord p
  let ws := match e.words with | h :: t => (if replayed then h ||| 0x100#40 else h) :: t | [] => []
  let seq := c.seqX e.xsn
  if s.rdB (CHD_STAT_AUTH p) then ws ++ [s.expressTag p true c.keyTx (s.rd (CHD_STAT_EPOCH_TX p)) seq ws] else ws

/-- R113: the oldest express entry is discarded and counted. -/
def State.dropStale (p : Nat) (s : State) : State :=
  (s.onChord p (fun c => { c with xReplay := c.xReplay.drop 1 })).bump (CHD_XERR_STALE p) |>.ev (chordPage p) [EV_CHD_EXP_STALE]

/-- R87, R111, R113: send a new express flit (header without XSN, payload word, what word 3 differs by from its complement) on a port. -/
def State.sendExpress (p : Nat) (hdr payload comp : Word) (s : State) : State :=
  let s1 := if 64 ≤ (s.chord p).xReplay.length then s.dropStale p else s
  let c := s1.chord p
  let e : XReplay := { xsn := c.nextXsn, words := [hdr ||| pack [(9, 8, c.nextXsn)], payload, ~~~payload ^^^ comp], firstAt := s.now }
  let s2 := s1.onChord p (fun c => { c with
    xReplay := c.xReplay ++ [e], nextXsn := (c.nextXsn + 1) % 256,
    xsnHighTx := c.xsnHighTx + (if c.nextXsn = 255 then 1 else 0) })
  let s3 := s2.emit (.express p (s2.expressWords p e false))
  if c.timer = none then s3.restartTimer p else s3

/-! ## Point messages (R121–R124) -/

/-- R124: a Point message for a port is queued, or dropped and counted where the port has no link to carry it. -/
def State.requestPoint (m : Point) (p : Nat) (s : State) : State :=
  let st := s.ls p
  if st = LS_ACTIVE || st = LS_RETRAIN || st = LS_DOZE || st = LS_NAP || st = LS_DORMANT then
    s.onChord p (fun c => { c with points := c.points ++ [m] })
  else s.bump (CHD_POINT_DROP p)

/-- A Point message to several ports. (Assumption log 28, DEDUCED.) -/
def State.pointTo (m : Point) (ports : List Nat) (s : State) : State := s.each ports (fun p s => s.requestPoint m p)

/-- R124: messages waiting at a port that becomes DOWN or DISABLED are dropped and counted. -/
def State.dropPoints (p : Nat) (s : State) : State :=
  (s.bumpBy (CHD_POINT_DROP p) (s.chord p).points.length).onChord p (fun c => { c with points := [], pointReps := [] })

/-- The spokes of the hub, and on a root its apexes used as spare spokes (R22). -/
def State.spokePorts (s : State) : List Nat := if s.isRoot then List.range 18 else List.range 16

/-- The ports that carry a link now. -/
def State.linkedPorts (s : State) (ps : List Nat) : List Nat :=
  ps.filter (fun p => let st := s.ls p; st = LS_ACTIVE || st = LS_RETRAIN || st = LS_DOZE || st = LS_NAP || st = LS_DORMANT)

/-! ## Link loss (R126, R612) and changeover (R176) -/

/-- A queue key of Compass. -/
def qKey (p q : Nat) : Nat := p * 32 + q

/-- Link words of a flit in a queue (R320). -/
def HFlit.size (f : HFlit) : Nat := f.payload.length + 2

/-- R320: note the depth of a queue, and its maximum. -/
def State.noteDepth (p q : Nat) (s : State) : State :=
  let d := min 65535 (((s.compass.queues.get (qKey p q)).map (fun x => x.f.size)).sum)
  (s.wr (CMP_QDEPTH_NOW p q) d).wr (CMP_QDEPTH_MAX p q) (max d (s.rd (CMP_QDEPTH_MAX p q)))

/-- Replace the content of a queue. -/
def State.setQueue (p q : Nat) (l : List QFlit) (s : State) : State :=
  { s with compass := { s.compass with queues := s.compass.queues.set (qKey p q) l } }.noteDepth p q

/-- Remove from the queues `qs` of a port the flits for which a test holds; the number removed. -/
def State.dropQueued (p : Nat) (qs : List Nat) (t : HFlit → Bool) (s : State) : State × Nat :=
  let n := (qs.map (fun q => ((s.compass.queues.get (qKey p q)).filter (fun x => t x.f)).length)).sum
  (s.each qs (fun q s => s.setQueue p q ((s.compass.queues.get (qKey p q)).filter (fun x => !t x.f))), n)

/-- A flit leaves the ingress buffer when its last branch is served (R151). -/
def State.settleIngress (s : State) : State :=
  let gone := s.hull.ingress.filter (fun f => f.todo = [] && f.held)
  ({ s with hull := { s.hull with ingress := s.hull.ingress.filter (fun f => f.todo ≠ []) } }).each gone
    (fun f s => s.freeCredits f.inPort f.vc f.payload.length)

/-- Drop the branch to a port of the flits in ingress buffers for which a test holds; the number of copies dropped. -/
def State.dropBranches (p : Nat) (t : HFlit → Bool) (s : State) : State × Nat :=
  let n := (s.hull.ingress.filter (fun f => f.todo.contains p && t f)).length
  let l := s.hull.ingress.map (fun f => if f.todo.contains p && t f then { f with todo := f.todo.filter (· ≠ p) } else f)
  ({ s with hull := { s.hull with ingress := l } }.settleIngress, n)

/-- R127: an entry becomes a drop stub; on a credited VC the data CC falls by the credits beyond the stub's 1. -/
def Chord.stub (c : Chord) (r : Replay) : Chord :=
  c.onCred r.vc (fun x => if x.cless then x else { x with ccD := modSub 16 x.ccD (dataCredits r.payload.length - 1) })

/-- R126, R127: the entries of the replay buffer on the VCs that a test names become drop stubs; how many. -/
def Chord.stubs (sel : Nat → Bool) (c : Chord) : Chord × Nat :=
  let hit := c.replay.filter (fun r => sel r.vc && !r.stub)
  ({ hit.foldl Chord.stub c with replay := c.replay.map (fun r => if sel r.vc then { r with stub := true } else r) }, hit.length)

/-- R126 step 2, R136: drop VC0 and VC1 traffic for a port and count it in CHD_DROP. -/
def State.dropVc01 (p : Nat) (stubs : Bool) (s : State) : State :=
  let x := (s.chord p).xReplay.length
  let (s, n0) := s.dropQueued p [0] (fun _ => true)
  let (s, n1) := s.dropQueued p [1, 2, 3, 4, 5, 6, 7] (fun _ => true)
  let (s, m1) := s.dropBranches p (fun f => f.vc = 1)
  let (c, k) := (s.chord p).stubs (· = 1)
  let s := if stubs then s.onChord p (fun _ => { c with xReplay := [] }) else s
  (s.bumpBy (CHD_DROP_VC0 p) (n0 + if stubs then x else 0)).bumpBy (CHD_DROP_VC1 p) (n1 + m1 + if stubs then k else 0)

/-- R126 step 1: the transmitter goes to HOLD and the replay timer stops. -/
def State.holdTx (p : Nat) (s : State) : State :=
  (s.wr (CHD_STAT_TX_STATE p) TX_HOLD).onChord p (fun c => { c with timer := none })

/-- R153: copies dropped on a pruned branch are counted, and each raises PRUNE. -/
def State.prunedCopies (n : Nat) (s : State) : State :=
  s.each (List.range n) (fun _ s => (s.bump HULL_PRUNE_COPIES).ev 0x070 [EV_HULL_PRUNE])

/-- R153: prune the branch of VC3 multicast tunnels at a port; the copies waiting for it are dropped. -/
def State.pruneAt (p : Nat) (s : State) : State :=
  let ts := s.crossing p (fun e => e.state ≠ .free && e.state ≠ .reserved && e.vc3Multi && e.inPort ≠ p)
  let s := s.each ts (fun t s => s.onTun t (fun x => { x with pruned := x.pruned ||| 2 ^ p }))
  let (s, n) := s.dropQueued p (List.range 32) (fun f => ts.contains f.tunnel)
  let (s, m) := s.dropBranches p (fun f => ts.contains f.tunnel)
  s.prunedCopies (n + m)

/-- R126 step 3, R153: VC2–VC5 tunnels that cross the port go to HELD, and multicast branches are pruned. -/
def State.holdTuns (p : Nat) (s : State) : State :=
  let ts := s.crossing p (fun e => e.state = .opened && 2 ≤ e.vc && !(e.vc3Multi && e.inPort ≠ p))
  (s.each ts State.holdTun).pruneAt p

/-- R155, R156: at a step 5b the partner's identities are released: a dock's ID unless pinned, a leaf's number at its last port
unless pinned to that port, and with it the unpinned IDs of its docks; a leaf tells the root of a dock's ID. -/
def State.releaseIds (p : Nat) (s : State) : State :=
  let hub := s.hubNo
  let mine := s.ids.docks.filter (fun d => d.1 = hub && d.2.1 = p)
  let s1 := if s.isRoot || 16 ≤ p then s else
    s.each mine (fun d s => s.sendCtrl hub 9 p d.2.2 0 0)
  let pinned (d : Nat × Nat × Nat) : Bool := s.ids.dockPins.contains d
  let docks := s1.ids.docks.filter (fun d => !(d.1 = hub && d.2.1 = p && (!s.isRoot || !pinned d)))
  let s2 := { s1 with ids := { s1.ids with docks := docks, granted := s1.ids.granted.filter (·.1 ≠ p), asked := s1.ids.asked.filter (·.1 ≠ p) } }
  match s2.isRoot, s2.hubAt p with
  | true, some h =>
    let left := s2.ids.hubOf.filter (·.1 ≠ p)
    if left.any (·.2 = h) then { s2 with ids := { s2.ids with hubOf := left } }
    else
      let keep := if s2.ids.hubPins.contains (p, h) then s2.ids.hubOf else left
      { s2 with ids := { s2.ids with hubOf := keep, docks := s2.ids.docks.filter (fun d => d.1 ≠ h || pinned d) } }
  | _, _ => s2

/-- R155: a leaf gives up its number when step 5b has ended the link on every apex that carried it. -/
def State.dropHubNo (p : Nat) (s : State) : State :=
  if !s.isRoot && 16 ≤ p && !(s.chord 16).linked && !(s.chord 17).linked then s.wr CHIP_STAT_HUB 0x1F else s

/-- R176: the port that pairs with `p` under R21 and is ACTIVE: on a leaf the other apex, on the root another port to the same
leaf. -/
def State.pairOf (s : State) (p : Nat) : Option Nat :=
  if s.isRoot then
    match s.hubAt p with
    | none => none
    | some h => (s.ids.hubOf.filter (fun x => x.2 = h && x.1 ≠ p && s.active x.1)).head?.map (·.1)
  else if p = 16 && s.active 17 then some 17 else if p = 17 && s.active 16 then some 16 else none

/-- R21: an apex whose link has ended carries nothing more. -/
def State.endCarry (p : Nat) (s : State) : State :=
  if !s.isRoot && s.ids.carry = some p then { s with ids := { s.ids with carry := s.pairOf p } } else s

/-- R126 step 5b: flush a port, with the CAUSE its tunnels take; `keep` keeps the partner's identities (R128).  Entries that a changeover has
discarded have been counted (R176). -/
def State.flushPort (p cause : Nat) (keep : Bool) (s : State) : State :=
  let held := ((s.chord p).replay.filter (fun r => !(r.stub && 2 ≤ r.vc))).length
  let (s, n) := s.dropQueued p (List.range 32) (fun _ => true)
  let (s, m) := s.dropBranches p (fun _ => true)
  let ts := s.crossing p (fun e =>
    (e.state = .opening || e.state = .opened || e.state = .held || e.state = .rekey) && !(e.vc3Multi && e.inPort ≠ p))
  let s := s.each ts (fun t s => s.failTun t cause)
  let s := ((s.bumpBy (CHD_FLUSH_FLITS p) (held + n + m)).bump (CHD_FLUSH_COUNT p)).life (portLife p 9)
  let s := s.onChord p (fun c => { Chord.init with
    pointSeen := c.pointSeen, downDone := true, nonceTx := c.nonceTx, quota := c.quota })
  let s := ((s.wr (CHD_STAT_GRACE p) 0).wr (CHD_SPILL_USED p) 0).wr (CHD_STAT_RX_STATE p) 0
  let s := s.ev (chordPage p) [EV_CHD_FLUSH]
  if keep then s.endCarry p else ((s.releaseIds p).dropHubNo p).endCarry p

/-- R176: the entries that name a port and its pair, OPEN or HELD. -/
def State.pairTuns (s : State) (p o : Nat) : List Nat :=
  s.crossing p (fun e => e.altPort = o && (e.state = .opened || e.state = .held || e.state = .rekey || e.state = .opening))

/-- R153, R163: the ports whose link loss holds a tunnel. -/
def Entry.holders (e : Entry) : List Nat := (if e.vc3Multi then [e.inPort] else e.path).filter (· < 18)

/-- R163: HELD ends, unless a port other than `p` that holds the tunnel is DOWN; a revocation meanwhile leads to REKEY. -/
def State.endHeld (p t : Nat) (s : State) : State :=
  let x := s.tun t
  if x.e.state ≠ .held || x.e.holders.any (fun q => q ≠ p && s.ls q = LS_DOWN) then s
  else if x.revoked then s.rekeyTun t else s.reopenHeld t

/-- R178: a tunnel's move back ends where it stands. -/
def State.endMove (t : Nat) (s : State) : State :=
  s.onTun t (fun x => { x with stopAt := none, retryAt := none, doneRcvd := false, e := { x.e with mig := 0 } })

/-- R176, R177, R178: changeover from a port that has entered DOWN to its pair: the entries are swapped and are OPEN on the other side, the VC2–VC5
flits held for the old port are discarded and counted, MIGRATED is raised; the leaf sends MIGRATE for each tunnel on the other apex.  A move back
to the old port that has not been made ends.  A discarded entry of the replay buffer leaves a stub in the form of R127, so that the link's
sequence stays whole (assumption log 33, DESIGN CHOICE). -/
def State.changeover (p o : Nat) (s : State) : State :=
  let ts := s.pairTuns p o
  let s := s.each (s.pairTuns o p) State.endMove
  let s := if s.isRoot then s else
    { s with ids := { s.ids with carry := some o }, datum := { s.datum with noStep := s.datum.noStep || s.rd DAT_STAT_STATE ≠ 0 } }
  if ts = [] then s else
  let s := s.each ts (fun t s => (s.onEntry t s.swapAlt).endMove t)
  let (s, n) := s.dropQueued p (List.range 32) (fun f => 2 ≤ f.vc)
  let (s, m) := s.dropBranches p (fun f => 2 ≤ f.vc)
  let (c, k) := (s.chord p).stubs (2 ≤ ·)
  let s := s.onChord p (fun _ => c)
  let s := (s.bumpBy (CHD_FLUSH_FLITS p) (k + n + m)).ev 0x080 [EV_TUN_MIGRATED]
  let s := s.each ts (State.endHeld p)
  if s.isRoot then s else s.each ts (fun t s => s.sendCtrl s.hubNo 7 o 0 t 0)

/-- R21, R176: an apex that is ACTIVE takes the tunnels over from a carrying apex that is DOWN. (Assumption log 33, DEDUCED.) -/
def State.takeOver (p : Nat) (s : State) : State :=
  match s.ids.carry with
  | some o => if !s.isRoot && 16 ≤ p && o ≠ p && s.ls o = LS_DOWN && s.active p then s.changeover o p else s
  | none => s

/-- R126 step 2, R176, R124: the VC0 and VC1 traffic of a lost link is dropped, the changeover is made where it applies, and the Point
messages that wait are dropped. -/
def State.linkLost (p : Nat) (s : State) : State :=
  let s1 := (s.dropVc01 p true).ev (chordPage p) [EV_CHD_LINK_DOWN]
  let s2 := match s1.pairOf p with
    | some o => s1.changeover p o
    | none => s1
  s2.dropPoints p

/-- R126 steps 2 and 3 for a port in DOWN. -/
def State.linkDown (p : Nat) (s : State) : State :=
  ((s.linkLost p).holdTuns p).onChord p (fun c => { c with downDone := true })

/-- R510, R513: a port that must rest goes to DORMANT once it holds no unacknowledged flit. (Assumption log 28, DEDUCED.) -/
def State.quietRest (p : Nat) (s : State) : State :=
  if (s.chord p).quiet && s.active p && (s.chord p).replay = [] && (s.chord p).xReplay = [] && (s.chord p).points = [] then
    (s.onChord p (fun c => { c with quiet := false })).wr (LANE_STAT_STATE p) LS_DORMANT
  else s

end Sys2Proof.Machine
end

