-- ==== Sys2Proof/Machine/HullOps.lean ====
section
/-!
DEFINITION. Entry of flits into the Hull: judgement against the tunnel entry (R169), policing (R305–R307), branches (R151, R153), entry
into an egress queue (R298–R300, R615).
-/
namespace Sys2Proof.Machine

/-! ## Buckets (R302, R304, R305) -/

/-- R302, R304: a queue's shaper is active; its rates and caps in milliwords. -/
def State.shaped (s : State) (p q : Nat) : Bool := 12 ≤ q && s.rdB (CMP_QCFG_SHAPE p q)
def State.cir (s : State) (p q : Nat) : Nat := s.rd (CMP_QRATE_CIR p q)
def State.pir (s : State) (p q : Nat) : Nat := max (s.rd (CMP_QRATE_PIR p q)) (s.cir p q)
def State.capC (s : State) (p q : Nat) : Nat := max 64 (s.rd (CMP_QBURST_CBS p q)) * 1000
def State.capP (s : State) (p q : Nat) : Nat := max (max 64 (s.rd (CMP_QBURST_PBS p q)) * 1000) (s.capC p q)

/-- The buckets of a queue's shaper. -/
def State.bucket (s : State) (p q : Nat) : Bucket := s.compass.shapers.get (qKey p q)
/-- Change the buckets of a queue's shaper. -/
def State.setBucket (p q : Nat) (b : Bucket) (s : State) : State :=
  { s with compass := { s.compass with shapers := s.compass.shapers.set (qKey p q) b } }

/-- R302: `n` fills of a bucket. -/
def fillBucket (v : Int) (rate n cap : Nat) : Int := min (cap : Int) (v + (rate * n : Nat))

/-- R302: `n` fills of every shaper in use. -/
def State.fillShapers (n : Nat) (s : State) : State :=
  s.each (List.range 18) (fun p s => s.each (List.range 32) (fun q s =>
    if s.shaped p q then
      let b := s.bucket p q
      s.setBucket p q { c := fillBucket b.c (s.cir p q) n (s.capC p q), p := fillBucket b.p (s.pir p q) n (s.capP p q) }
    else s))

/-- R305: `n` fills of every policer. -/
def State.fillPolicers (n : Nat) (s : State) : State :=
  { s with compass := { s.compass with policers := s.compass.policers.mapVals (fun _ x =>
      { x with c := fillBucket x.c x.cir n x.capC, p := fillBucket x.p x.pir n x.capP }) } }

/-- R302, R305: the fills due since the last, one for every 10 ns of Datum time. -/
def State.fillBuckets (s : State) : State :=
  let n := s.datum.whole / 10
  let s1 := { s with compass := { s.compass with filledTo := n } }
  (s1.fillShapers (n - s.compass.filledTo)).fillPolicers (n - s.compass.filledTo)

/-- R303: a fill of this cycle comes before a charge. -/
def State.fillsDue (s : State) : State := s.when (s.datum.whole / 10 ≠ s.compass.filledTo) State.fillBuckets

/-! ## Policing (R305–R307) -/

/-- R305: a record judges flits that arrive on this side: the IN_PORT side, or the DEST_MASK port of a unicast tunnel. -/
def Policer.judges (x : Policer) (e : Entry) (inSide : Bool) : Bool :=
  if inSide then x.dir = 1 || x.dir = 3 else (x.dir = 2 || x.dir = 3) && e.dests.length = 1

/-- R307: the colour of a message (0 green, 1 yellow, 2 red) from its first flit. -/
def Policer.colourOf (x : Policer) (milli : Int) : Nat := if x.p < milli then 2 else if x.c < milli then 1 else 0

/-- R307: the charge of a colour. -/
def Policer.charge (x : Policer) (colour : Nat) (milli : Int) : Policer :=
  if colour = 2 then x else if colour = 1 then { x with p := x.p - milli } else { x with c := x.c - milli, p := x.p - milli }

/-- The colour of the open message of a direction. -/
def Policer.openColour (x : Policer) (inSide : Bool) : Option Nat := if inSide then x.colourIn else x.colourOut

/-- Note the colour of the open message of a direction. -/
def Policer.note (x : Policer) (inSide : Bool) (c : Option Nat) : Policer :=
  if inSide then { x with colourIn := c } else { x with colourOut := c }

/-- Replace a policer record. -/
def State.setPolicer (t : Nat) (x : Policer) (s : State) : State :=
  { s with compass := { s.compass with policers := s.compass.policers.set t x } }

/-- INGRESS_POLICE (R305–R307): a flit of `len` payload words; the colour, or none where it is dropped. -/
def State.judge (s0 : State) (t len : Nat) (last inSide : Bool) : State × Option Nat :=
  let s := s0.when ((s0.tun t).e.police) State.fillsDue
  let e := (s.tun t).e
  let x := s.compass.policers.get t
  let milli : Int := ((len + 2) * 1000 : Nat)
  if !e.police || !x.judges e inSide then (s, some 0)
  else if x.mode = 1 then
    if milli ≤ x.c then (s.setPolicer t { x with c := x.c - milli }, some 0)
    else ((s.setPolicer t { x with dropRed := satAdd 16 x.dropRed 1 }).ev 0x0A0 [EV_CMP_POL_DROP], none)
  else if x.mode = 2 then
    let rest : Option Nat → Option Nat := fun c => if last then none else c
    match x.openColour inSide with
    | some c => (s.setPolicer t ((x.charge c milli).note inSide (rest (some c))), some c)
    | none =>
      let c := x.colourOf milli
      let y := (x.charge c milli).note inSide (rest (some c))
      let z := if c = 2 then { y with dropRed := satAdd 16 y.dropRed 1 } else if c = 1 then { y with yellow := satAdd 16 y.yellow 1 } else y
      ((s.setPolicer t z).when (c ≠ 0) (State.ev 0x0A0 [EV_CMP_POL_RED]), some c)
  else (s, some 0)

/-! ## Into the Hull (R169, R151) -/

/-- R161: a flit that arrived on a Hull port belongs to the IN_PORT side. -/
def State.inSide (s : State) (e : Entry) (p : Nat) : Bool := p = e.inPort || (e.mig ≠ 0 && p = e.altPort && s.altOnIn e)

/-- R169: a dropped flit returns its credits, is counted and raises the event. -/
def State.dropFlit (p : Nat) (f : HFlit) (wrong : Bool) (s : State) : State :=
  let s1 := if f.held then s.freeCredits p f.vc f.payload.length else s
  let bit := if wrong then EV_HULL_WRONG_INGRESS else EV_HULL_UNROUTED
  ((s1.bump (if wrong then HULL_DROP_WRONG_IN else HULL_DROP_UNROUTED)).capture 0x070 bit p f.tunnel 0).ev 0x070 [bit]

/-- R126, R136: a VC1 branch to an external port that is neither ACTIVE nor in RETRAIN, or whose link key is revoked, is dropped. -/
def State.vc1Blocked (s : State) (p : Nat) : Bool := p < 18 && (!(s.active p || s.ls p = LS_RETRAIN) || (s.chord p).revoked)

/-- R363: on the hub that owns a dock's spoke, a flit of a window message from the dock: POISON on every flit after the first of a
READ_RSP with STATUS DATA_ERROR. (Assumption log 31, DEDUCED.) -/
def State.markDataError (p : Nat) (f : HFlit) (s : State) : State × HFlit :=
  let x := s.tun f.tunnel
  if x.e.kind = 6 && p < 18 && s.rd (LANE_STAT_PARTNER_KIND p) = 0 then
    let w := f.payload.getD 1 0
    let bad : Bool := if x.dockMid then x.dataError else fld w 36 4 = 8 && fld w 24 4 = 2
    (s.onTun f.tunnel (fun y => { y with dockMid := !f.last, dataError := bad && !f.last }),
     if x.dockMid && x.dataError then { f with poison := true } else f)
  else (s, f)

/-- FLIT_ROUTE (R169, R305, R151, R126, R153): a flit that Chord has accepted, or that an adapter sends, at Hull port `p`.  A flit that still
comes on a HELD tunnel, whose producers stall (R126, R163), is dropped like one of any other entry that is not OPEN, and its credits return
(R169; assumption log 32, DESIGN CHOICE: the spec does not say that it is kept). -/
def State.enterHull (p : Nat) (f : HFlit) (s : State) : State :=
  let x := s.tun f.tunnel
  let e := x.e
  if e.state ≠ .opened then s.dropFlit p f false
  else if f.vc ≠ e.vc then s.dropFlit p f true
  else
    match s.route e p with
    | none => s.dropFlit p f true
    | some ds =>
      let (s0, g) := s.markDataError p f
      let (s1, colour) := s0.judge f.tunnel f.payload.length f.last (s.inSide e p)
      match colour with
      | none => if f.held then s1.freeCredits p f.vc f.payload.length else s1
      | some c =>
        let lost := if f.vc = 1 then ds.filter s.vc1Blocked else []
        let cut := ds.filter (fun d => bitOf x.pruned d)
        let todo := ds.filter (fun d => !lost.contains d && !cut.contains d)
        let s2 := (s1.each lost (fun d s => s.bump (CHD_DROP_VC1 d))).prunedCopies cut.length
        let s3 := { s2 with hull := { s2.hull with ingress := s2.hull.ingress ++ [{ g with inPort := p, todo := todo, colour := c }] } }
        s3.settleIngress

/-! ## Errors in the buffers (R147) -/

/-- What the error-correcting code finds in the words of a flit: a word, 0 for the header, and whether the error is uncorrectable. -/
abbrev EccErrors := List (Fin 31 × Bool)

/-- R147: every error in a word of the flit is counted and raised. -/
def State.noteEcc (ecc : EccErrors) (f : HFlit) (s : State) : State :=
  s.each (ecc.filter (fun x => x.1.val ≤ f.payload.length)) (fun x s =>
    if x.2 then (s.bump HULL_ECC_UNCORR).ev 0x070 [EV_HULL_ECC_UNCORR] else (s.bump HULL_ECC_CORR).ev 0x070 [EV_HULL_ECC_CORR])

/-- R147, R119: the flit after these errors: a cut-through flit goes on stomped, its bad payload words zero; none: a store-and-forward flit is
discarded whole. -/
def State.afterEcc (s : State) (ecc : EccErrors) (f : HFlit) : Option HFlit :=
  let bad := (ecc.filter (fun x => x.2 && x.1.val ≤ f.payload.length)).map (fun x => x.1.val)
  if bad = [] then some f
  else if f.vc = 1 && s.rdB HULL_CTL_CT_VC1 then
    some { f with stomp := true, payload := f.payload.zipIdx.map (fun x => if bad.contains (x.2 + 1) then 0#40 else x.1) }
  else none

/-! ## Into an egress queue (R298, R300, R615) -/

/-- R295: the class of a queue: 0 express, 1 sample, 2 timing, 3 media, 4 frames, 5 bulk. -/
def classOf (q : Nat) : Nat := if q = 0 then 0 else if q ≤ 7 then 1 else if q ≤ 11 then 2 else if q ≤ 19 then 3 else if q ≤ 27 then 4 else 5

/-- R298: counted length in quarter words. -/
def State.quarters (s : State) (p : Nat) (f : HFlit) : Nat := 4 * (f.payload.length + 2) + s.rd (CMP_PORT_CTL_OVH p)

/-- A class key of Compass. -/
def cKey (p c : Nat) : Nat := p * 8 + c

/-- R300: the weight of a queue. -/
def State.weight (s : State) (p q : Nat) : Nat := max 1 (s.rd (CMP_QCFG_WEIGHT p q))

/-- R300: a flit enters a queue, with its tags. (Assumption log 32, DEDUCED.) -/
def State.enqueue (p q : Nat) (f : HFlit) (s : State) : State :=
  let l := s.compass.queues.get (qKey p q)
  let start := if l = [] then s.compass.vTime.get (cKey p (classOf q)) else s.compass.fLast.get (qKey p q)
  let w := s.weight p q
  let fin := (start + (s.quarters p f * 16384 + w - 1) / w) % 2 ^ 48
  let s1 := { s with compass := { s.compass with fLast := s.compass.fLast.set (qKey p q) fin } }
  s1.setQueue p q (l ++ [{ f := f, sTag := start, fTag := fin, at_ := s.now }])

/-- The flits queued at a port on a VC. -/
def State.queuedOn (s : State) (p vc : Nat) : List HFlit :=
  (List.range 32).flatMap (fun q => if q = 0 then [] else ((s.compass.queues.get (qKey p q)).map (·.f)).filter (fun f => f.vc = vc))

/-- R615: the credits of a port cover a flit, net of what the flits queued there on its VC need. -/
def State.creditsFor (s : State) (p : Nat) (f : HFlit) : Bool :=
  let held := s.queuedOn p f.vc
  ((s.chord p).cred f.vc).covers f.payload.length held.length (held.map (fun x => dataCredits x.payload.length)).sum

/-- R15, R144: the unit ID of a Hull port. -/
def unitOf (p : Nat) : Nat := if p < 18 then 16 + p else if p = 24 then 15 else p - 15

end Sys2Proof.Machine
end

