-- ==== Sys2Proof/Machine/DiagOps.lean ====
section
/-!
DEFINITION. The pattern checkers (R575).
-/
namespace Sys2Proof.Machine

/-- The page of the diagnostics. -/
def diagPage : Nat := 0x005

/-- A lane's checker: synchronised, generator, correct bits in a row. -/
structure LaneCheck where
  sync : Bool
  gen : BitVec 31
  run : Nat
  deriving DecidableEq, Repr

/-- One bit: before synchronisation the generator follows the received bits, and 64 successive correct bits synchronise it; afterwards
it runs on its own and a differing bit is an error. -/
def LaneCheck.bit (x : LaneCheck) (b : Bool) : LaneCheck × Bool :=
  let g := lfsrStep x.gen
  let ok : Bool := g.getLsbD 0 = b
  if x.sync then ({ x with gen := g }, !ok)
  else
    let g' := if ok then g else g ^^^ 1#31
    let run := if ok && x.gen ≠ 0 then x.run + 1 else 0
    ({ sync := 64 ≤ run, gen := g', run := if 64 ≤ run then 0 else run }, false)

/-- The 44 bits of a code group, first bit most significant: the checker and the number of errors. -/
def LaneCheck.group (v : Nat) : Nat → LaneCheck → Nat → LaneCheck × Nat
  | 0, x, e => (x, e)
  | n + 1, x, e =>
    let r := x.bit (bitOf v n)
    LaneCheck.group v n r.1 (e + b2n r.2)

/-- The checker of a lane of a port. (Assumption log 54, DEDUCED.) -/
def PatCheck.lane (c : PatCheck) (laneB : Bool) : LaneCheck :=
  if laneB then ⟨c.syncB, c.genB, c.runB⟩ else ⟨c.syncA, c.genA, c.runA⟩

/-- The errors of a lane within 1 µs. (Assumption log 54, DEDUCED.) -/
def PatCheck.burst (c : PatCheck) (laneB : Bool) (now : Nat) : Nat :=
  (((if laneB then c.recentB else c.recentA).filter (fun e => now < e.1 + 1000)).map (·.2)).sum

/-- A code group checked on a lane: a synchronised lane counts it and its errors. -/
def PatCheck.check (laneB : Bool) (bits now : Nat) (c : PatCheck) : PatCheck :=
  let x := c.lane laneB
  let r := LaneCheck.group bits 44 x 0
  let was := b2n x.sync
  let add (l : List (Nat × Nat)) : List (Nat × Nat) := if r.2 = 0 then l else (l.filter (fun e => now < e.1 + 1000)) ++ [(now, r.2)]
  if laneB then
    { c with syncB := r.1.sync, genB := r.1.gen, runB := r.1.run, errB := satAdd 32 c.errB r.2, groupsB := satAdd 40 c.groupsB was,
             recentB := add c.recentB }
  else
    { c with syncA := r.1.sync, genA := r.1.gen, runA := r.1.run, errA := satAdd 32 c.errA r.2, groupsA := satAdd 40 c.groupsA was,
             recentA := add c.recentA }

/-- Change the pattern checker of a port. -/
def State.onPat (p : Nat) (f : PatCheck → PatCheck) (s : State) : State := { s with diag := { s.diag with pats := s.diag.pats.upd p f } }

/-- R575: a pattern code group arrives on a port whose CHECK is set. (Assumption log 54, DEDUCED.) -/
def State.patGroup (p : Nat) (laneB : Bool) (bits : Nat) (s : State) : State :=
  if (s.diag.pats.get p).on then s.onPat p (PatCheck.check laneB bits s.now) else s

end Sys2Proof.Machine
end

