-- ==== Sys2Proof/Machine/LaneOps.lean ====
section
/-!
DEFINITION. Operations of the lane layer that several families share: training attempts (R49–R60), capability sets (R61, R62, R137,
R138), entry to ACTIVE, RETRAIN, DOWN and DISABLED (R66, R612).
-/
namespace Sys2Proof.Machine

/-- R52: pre- and post-cursor steps of a preset. -/
def presetCursors : Nat → Nat × Nat
  | 0 => (0, 0) | 1 => (0, 4) | 2 => (2, 6) | 3 => (0, 10) | 4 => (3, 10) | 5 => (4, 14) | 6 => (2, 18) | _ => (5, 20)

/-- R74, R79: the starting preset of a port. (Assumption log 12, DESIGN CHOICE.) -/
def State.startPreset (s : State) (p : Nat) : Nat :=
  if s.rdB (LANE_EQ_START_OVR p) then s.rd (LANE_EQ_START_PRESET p)
  else match s.rd (LANE_STAT_CABLE p) with
    | 1 => 1 | 2 => 4 | 3 => 2 | 4 => 2 | 5 => 2 | _ => 4

/-- R48: the PHASE code of TRAIN words. -/
def Phase.code : Phase → Nat
  | .idle | .lock => 0 | .equalise | .align | .config => 1 | .rtLock | .rtEqualise | .rtAlign => 2

/-- R48: the TRAIN word of a lane. -/
def trainWord (l : Lane) (laneB : Bool) (preset preReq postReq : Nat) : Word :=
  ctlWord 0x02 [(33, 1, b2n laneB), (32, 1, b2n l.rdySent), (30, 2, l.phase.code), (27, 3, preset), (25, 2, preReq), (23, 2, postReq),
    (21, 2, l.preSt), (19, 2, l.postSt), (18, 1, b2n l.myReqT), (17, 1, b2n l.reqT), (0, 17, 0x1A5A5)]

/-- R48, R49: the TRAIN words of both lanes carry a request from now on. -/
def State.sendTrainReq (p preset preReq postReq : Nat) (s0 : State) : State :=
  let s := s0.onLane p (fun l => { l with reqPreset := preset, reqPre := preReq, reqPost := postReq })
  (s.emit (.word p 0 (trainWord (s.lane p) false preset preReq postReq))).emit
    (.word p 1 (trainWord (s.lane p) true preset preReq postReq))

/-- R49: the TRAIN words of both lanes carry no request. -/
def State.sendTrain (p : Nat) (s : State) : State := s.sendTrainReq p 0 0 0

/-- R48: the ALIGN word of a lane. -/
def alignWord (l : Lane) (laneB last : Bool) (seed : Nat) : Word :=
  ctlWord 0x08 [(33, 1, b2n laneB), (32, 1, b2n last), (31, 1, b2n l.deskewed), (0, 31, seed)]

/-- R49: the first slot of a training block at or after now; blocks of 16 code groups follow each other from the attempt's start. -/
def State.blockStart (s : State) (p : Nat) : Nat := (s.lane p).since + (s.now - (s.lane p).since + 31) / 32 * 32

/-- What training keeps of a pair at the start of an attempt or a retrain. -/
def Pair.fresh (x : Pair) : Pair := { inverted := x.inverted, laneB := x.laneB }

/-- R44: at an entry to ACTIVE no word waits. -/
def Pair.empty (x : Pair) : Pair := { x with zeros := [], items := [], express := [], runs := [], inGroup := false }

/-- Clear what belongs to one attempt. -/
def Lane.clear (l : Lane) : Lane :=
  { l with
    phase := .idle, deadline := none, pair0 := {}, pair1 := {}, rdySent := false, rdyRcvd := false,
    dskRcvd := false, deskewed := false, lastSent := false, lastRcvd := false, lastAt := none, viaRetrain := false, coldAfter := false,
    evalUntil := none, capsRx := [], caps := [],
    myCaps := [], authFailed := false, seenRcvd := false, seenSent := false, asked := none, askUntil := none,
    waking := false, resumed := false }

/-- R77: a port loses block lock on both lanes. -/
def State.unlock (p : Nat) (s : State) : State := (s.wr (LANE_STAT_LOCK_A p) 0).wr (LANE_STAT_LOCK_B p) 0

/-- R157: the attempt has ended, and with it the wait for a dock's ID. -/
def State.endAsk (p : Nat) (s : State) : State := { s with ids := { s.ids with asked := s.ids.asked.filter (·.1 ≠ p) } }

/-- R57: a cold attempt starts: training blocks at the starting preset, or the stored coefficients after DORMANT, and the deadline
of block lock. In DOWN the link state stays DOWN (R66). -/
def State.enterTrain (p : Nat) (s : State) : State :=
  let keep := s.ls p = LS_DORMANT && (s.lane p).coefStored
  let ps := s.startPreset p
  let pc := presetCursors ps
  let s1 := s.onLane p (fun l => { l.clear with
    phase := .lock, since := s.now, deadline := some (s.now + us 150), retryAt := none, pattern := BitVec.allOnes 31,
    reqT := false, preSt := 3, postSt := 3, myReqT := false, myAckT := false,
    sweepPreset := ps, sweepStage := if keep then 11 else 0, bestMargin := 0 })
  let s2 := if keep then s1 else (s1.wr (LANE_EQ_TX_PRE p) pc.1).wr (LANE_EQ_TX_POST p) pc.2
  let s3 := if s.ls p = LS_DOWN then s2 else s2.wr (LANE_STAT_STATE p) LS_TRAIN
  ((s3.unlock p).endAsk p).sendTrain p

/-- R58: an attempt has failed: counted; after three in succession TRAIN_FAIL and a spacing of 100 ms; outside DOWN the port goes to
DETECT (R66), and a link that it still held is given up: Chord flushes, and waiting Point messages are dropped (R124; assumption log 28,
DEDUCED). -/
def State.failAttempt (p : Nat) (s : State) : State :=
  let n := (s.lane p).fails + 1
  let s1 := ((s.bump (LANE_TRAINS_COLD_FAIL p)).life (portLife p 6)).onLane p (fun l => { l.clear with
    fails := n, retryAt := some (s.now + if n < 3 then ms 1 else ms 100), bursts := 0, burstAt := none })
  let s2 := if s.ls p = LS_DOWN then s1
    else (s1.when (s.chord p).linked (fun s => (s.dropPoints p).flushPort p 0x02 false)).wr (LANE_STAT_STATE p) LS_DETECT
  ((s2.unlock p).endAsk p).when (n = 3) (State.ev (lanePage p) [EV_LANE_TRAIN_FAIL])

/-- R73: a burst series that no training block has answered yet runs on a port that trains. (Assumption log 28, DEDUCED.) -/
def Lane.unanswered (l : Lane) : Bool := l.phase = .lock && l.burstAt.isSome && l.pair0.hits = 0 && l.pair1.hits = 0

/-- R60: the deadlines of a retrain from its trigger. -/
def State.enterRetrain (p : Nat) (s : State) : State :=
  let s1 := s.onLane p (fun l => { l.clear with
    phase := .rtLock, since := s.now, deadline := some (s.now + us 5), pattern := BitVec.allOnes 31,
    pair0 := l.pair0.fresh, pair1 := l.pair1.fresh, preSt := 3, postSt := 3,
    txPre0 := s.rd (LANE_EQ_TX_PRE p), txPost0 := s.rd (LANE_EQ_TX_POST p),
    rxPre0 := s.rd (LANE_EQ_RX_PRE p), rxPost0 := s.rd (LANE_EQ_RX_POST p) })
  let s2 := (((s1.wr (LANE_STAT_STATE p) LS_RETRAIN).unlock p).ev (lanePage p) [EV_LANE_RETRAIN]).life (portLife p 5)
  (s2.holdTx p).sendTrain p

/-- R126 step 5b with the lane going to DETECT; Point messages still waiting are dropped (R124).  The spacing of attempts goes on (R58). -/
def State.graceEnd (p cause : Nat) (s : State) : State :=
  let s1 := (s.dropPoints p).flushPort p cause false
  ((s1.onLane p Lane.clear).wr (LANE_STAT_STATE p) LS_DETECT).unlock p

/-- R66, R126 step 1: a port enters DOWN: Chord holds, the grace timer starts, the first cold attempt is due within 10 µs.  A grace
period of 0 flushes at DOWN entry (R125).  A retrain that ends so is counted (R79). -/
def State.enterDown (p : Nat) (s : State) : State :=
  let g := (s.chord p).graceMs
  let s0 := s.when (s.ls p = LS_RETRAIN) (State.bump (LANE_RETRAINS_RETRAIN_FAIL p))
  let s1 := s0.onLane p (fun l => { l.clear with fails := 0, retryAt := some (s.now + us 10) })
  let s2 := (((s1.wr (LANE_STAT_STATE p) LS_DOWN).unlock p).ev (lanePage p) [EV_LANE_DOWN]).life (portLife p 4)
  let s3 := (s2.holdTx p).onChord p (fun c => { c with graceAt := some (s.now + ms g), downDone := false })
  let s4 := s3.wr (CHD_STAT_GRACE p) 1
  if g = 0 then (s4.linkDown p).graceEnd p 0x02 else s4

/-- The port has had a link since its last flush: a state after CONFIG (R612). -/
def State.afterConfig (s : State) (p : Nat) : Bool :=
  let st := s.ls p
  st = LS_ACTIVE || st = LS_RETRAIN || st = LS_DOZE || st = LS_NAP || st = LS_DORMANT && (s.chord p).linked || st = LS_DOWN

/-- R66, R612: a port enters DISABLED; from a state after CONFIG its traffic is dropped and flushed at once, after the changeover of
R176 where it applies. -/
def State.disablePort (p : Nat) (s : State) : State :=
  let was := s.afterConfig p
  let s1 := ((((s.onLane p (fun l => { l.clear with retryAt := none, fails := 0, burstAt := none, bursts := 0 })).wr
    (LANE_STAT_STATE p) LS_DISABLED).unlock p).endAsk p).ev (lanePage p) [EV_LANE_DISABLED]
  if was then (if (s.chord p).downDone then s1.dropPoints p else (s1.linkLost p).pruneAt p).flushPort p 0x0C false
  else s1.dropPoints p

/-! ## Capability sets -/

/-- R116: at a CONFIG, the spill quotas of all ports are checked. -/
def State.takeQuotas (p : Nat) (s : State) : State :=
  let sum := ((List.range 18).map (fun q => s.rd (CHD_SPILL_QUOTA q))).sum
  if 16384 < sum then
    (s.each (List.range 18) (fun q s => s.onChord q (fun c => { c with quota := 512 }))).evNew 0x001 [EV_EVT_SPILL]
  else s.onChord p (fun c => { c with quota := s.rd (CHD_SPILL_QUOTA p) })

/-- R130: the conditions under which the hub sets AUTH. -/
def State.offersAuth (s : State) (p : Nat) : Bool :=
  1 ≤ s.rd (CHD_CTL_VER_MAX p) && s.useRefusal (s.linkSlot p) 3 masterChord = none && s.linkSlot p ≠ 0xFF &&
  1 ≤ s.lc && s.lc ≤ 3

/-- R146: the data credits advertised exceed the ingress buffer. -/
def State.creditsTooBig (s : State) (p : Nat) : Bool :=
  3072 < ((List.range 5).map (fun i => s.rd (CHD_CRED_DATA p i))).sum

/-- R143, R146: the header and data credits that a port advertises for VC `i + 1`. -/
def State.advert (s : State) (p i : Nat) : Nat × Nat :=
  if s.creditsTooBig p then ((CHD_CRED_HDR p i).reset, (CHD_CRED_DATA p i).reset)
  else (s.rd (CHD_CRED_HDR p i), s.rd (CHD_CRED_DATA p i))

/-- R125: the grace period advertised. -/
def State.myGrace (s : State) (p : Nat) : Nat := min 1000 (s.rd (CHD_GRACE_MS p))

/-- R139: a non-zero nonce from a drawn value that the hub has not sent before. -/
def freshNonce (drawn : Nat) (sent : List Nat) : Nat :=
  (((List.range (sent.length + 1)).map (fun i => (drawn + i) % (2 ^ 58 - 1) + 1)).find? (fun n => !sent.contains n)).getD 1

/-- R66, R138, R140: entry to CONFIG: the contents fixed at CONFIG are taken and a fresh nonce is drawn (R139).  The set goes out at once and
again and again (`State.capsAgain`, R61). -/
def State.enterConfig (p : Nat) (s : State) : State :=
  let auth := s.offersAuth p
  let v := min 2 (s.rd (CHD_CTL_VER_MAX p))
  let nonce := freshNonce s.freeValue s.nonces
  let credless := [0, 1].map (fun i => !s.creditsTooBig p && s.rdB (CHD_CRED_CREDITLESS p i))
  let feat := packNat [(29, 1, b2n auth), (28, 1, b2n (1 ≤ v)), (27, 1, b2n (2 ≤ v && s.rdB (CHD_CTL_XNAK_ADV p)))]
  let cred := (List.range 5).map (fun i => let a := s.advert p i; (5 + i, packNat [(17, 12, a.1), (2, 15, a.2)]))
  let au := if auth then [(10, packNat [(29, 1, s.rd (CHD_CTL_AUTH_REQ p)), (0, 28, nonce / 2 ^ 30)]), (11, nonce % 2 ^ 30)] else []
  let mine := [(2, feat)] ++ cred ++ au ++ [(12, packNat [(20, 10, s.myGrace p)])]
  let s1 := { s.drawn with nonces := s.nonces ++ [nonce] }.onLane p (fun l => { l with
    phase := .config, deadline := some (s.now + us 200), capsRx := [], caps := [], myCaps := mine, seenRcvd := false,
    seenSent := false, authFailed := false, verMax := v, authRequire := s.rdB (CHD_CTL_AUTH_REQUIRE p), credless := credless })
  let s2 := (s1.when (s.creditsTooBig p) (State.ev 0x070 [EV_HULL_BUF_CONFIG])).takeQuotas p
  let s3 := s2.onChord p (fun c => { c with nonceTx := nonce })
  if s.ls p = LS_DOWN then s3 else s3.wr (LANE_STAT_STATE p) LS_CONFIG

/-- The content of a CAPS index in a set; 0 if absent. -/
def capsOf (l : List (Nat × Nat)) (i : Nat) : Nat := (l.lookup i).getD 0

/-- R62: IDENTITY fields of a set. -/
def capsKind (l : List (Nat × Nat)) : Nat := bitsOf (capsOf l 0) 27 3
def capsHub (l : List (Nat × Nat)) : Nat := bitsOf (capsOf l 0) 22 5
def capsHnv (l : List (Nat × Nat)) : Bool := bitOf (capsOf l 0) 14
def capsHubNo (l : List (Nat × Nat)) : Nat := bitsOf (capsOf l 0) 9 5
def capsTag (l : List (Nat × Nat)) : Nat := bitsOf (capsOf l 4) 0 30

/-- R33: the highest minor version in both ranges, if there is one: the hub speaks 1.0 to 1.VER_MAX, as it stood at the entry to CONFIG. -/
def State.commonVersion (s : State) (p : Nat) (l : List (Nat × Nat)) : Option Nat :=
  let lo := bitsOf (capsOf l 1) 22 8
  let hi := bitsOf (capsOf l 1) 14 8
  let mine := 0x10 + (s.lane p).verMax
  let top := min hi mine
  if lo ≤ top && 0x10 ≤ top then some (top - 0x10) else none

/-- R137: a feature is set by both sides and its version is negotiated. -/
def feature (mine theirs : List (Nat × Nat)) (minor bit need : Nat) : Bool :=
  bitOf (capsOf mine 2) bit && bitOf (capsOf theirs 2) bit && need ≤ minor

/-- R64: the indices a set must hold. -/
def capsRequired (l : List (Nat × Nat)) : List Nat :=
  [0, 1, 2, 3, 4, 5, 6, 7, 8, 9, 12] ++ (if bitOf (capsOf l 2) 29 then [10, 11] else [])

/-- R64: a set is complete: the required indices, ascending, and COUNT the number of words before END. -/
def capsComplete (newestFirst : List (Nat × Nat)) (count : Nat) : Bool :=
  (capsRequired newestFirst).all (fun i => (newestFirst.lookup i).isSome) && newestFirst.length = count

/-- R94, R137: the advertisements of a set are consistent. -/
def capsConsistent (l : List (Nat × Nat)) : Bool :=
  (List.range 5).all (fun i =>
    let c := capsOf l (5 + i)
    if bitOf c 29 then bitOf (capsOf l 2) 28
    else 1 ≤ bitsOf c 17 12 && 8 ≤ bitsOf c 2 15)

/-- R154: the lowest leaf number that is free and not pinned to another port. -/
def State.freeHub (s : State) (p : Nat) : Option Nat :=
  ((List.range 16).map (· + 1)).find? (fun h =>
    !(s.ids.hubOf.any (·.2 = h)) && !(s.ids.hubPins.any (fun x => x.2 = h && x.1 ≠ p)))

/-- R154, R155: the number for the leaf on a root port whose set says it holds `held`. -/
def State.chooseHub (s : State) (p held : Nat) : Option Nat :=
  match s.ids.hubPins.lookup p with
  | some h => some h
  | none =>
    match s.hubAt p with
    | some h => some h
    | none => if held ≠ 0x1F && s.ids.hubOf.any (·.2 = held) then some held else s.freeHub p

/-- R156: the lowest dock ID that is free and not pinned elsewhere, or the pinned one. -/
def State.chooseDock (s : State) (hub port : Nat) : Option Nat :=
  match s.ids.dockPins.find? (fun d => d.1 = hub && d.2.1 = port) with
  | some d => some d.2.2
  | none =>
    match s.ids.docks.find? (fun d => d.1 = hub && d.2.1 = port) with
    | some d => some d.2.2
    | none => (List.range 64).find? (fun i => !(s.ids.docks.any (·.2.2 = i)) && !(s.ids.dockPins.any (·.2.2 = i)))

/-- The dock ID held for a port of this hub. -/
def State.dockAt (s : State) (p : Nat) : Option Nat :=
  (s.ids.docks.find? (fun d => d.1 = s.hubNo && d.2.1 = p)).map (·.2.2)

/-- R62: the IDENTITY word that the hub sends on a port. -/
def State.identity (s : State) (p : Nat) : Nat :=
  let l := s.lane p
  let toLeaf := capsKind l.caps = 1 && l.caps ≠ []
  let toDock := capsKind l.caps = 0 && l.caps ≠ []
  let d := if toDock then s.dockAt p else none
  let h := if s.isRoot && toLeaf then s.hubAt p else none
  packNat [(27, 3, if s.isRoot then 2 else 1), (22, 5, s.hubNo), (21, 1, b2n d.isSome), (15, 6, d.getD 0),
    (14, 1, b2n h.isSome), (9, 5, h.getD 0)]

/-- The CAPS words that the hub sends on a port, before END. -/
def State.capsSet (s : State) (p : Nat) : List (Nat × Nat) :=
  let l := s.lane p
  let minor := (s.commonVersion p l.caps).getD 0
  let cless := feature l.myCaps l.caps minor 28 1
  let cred (i c : Nat) : Nat := if i < 2 && cless && l.credless.getD i false then c + 2 ^ 29 else c
  [(0, s.identity p), (1, packNat [(22, 8, 0x10), (14, 8, 0x10 + l.verMax)]), (2, capsOf l.myCaps 2),
   (3, packNat [(27, 3, 7), (24, 3, s.rd (LANE_STAT_CABLE p)), (16, 8, s.rd (LANE_STAT_SKEW p))]), (4, s.ids.treeTag % 2 ^ 26 * 16 + s.boot.rcnt)] ++
  (l.myCaps.filter (fun x => x.1 ≠ 2)).map (fun x => if 5 ≤ x.1 && x.1 ≤ 9 then (x.1, cred (x.1 - 5) x.2) else x)

/-- R61: send one set, ending with index 15. -/
def State.sendCaps (p : Nat) (seen : Bool) (s : State) : State :=
  let l := s.capsSet p
  let words := l.map (fun x => ctlWord 0x03 [(30, 4, x.1), (0, 30, x.2)]) ++
    [ctlWord 0x03 [(30, 4, 15), (29, 1, b2n seen), (24, 5, l.length)]]
  (s.each words (fun w s => s.emit (.word p 2 w))).onLane p (fun l => { l with seenSent := l.seenSent || seen })

/-! ## Entry to ACTIVE -/

/-- R103, R105, R153: a port enters ACTIVE: the transmitter replays what it holds or sends, pruned branches are restored, a leaf
takes its lower-numbered ACTIVE apex as the carrying one if none carries.  A replay that reads the spill pool is left to REPLAY_TIMER_EXPIRY,
which brings what its reads find (R117) and is due at once (assumption log 31, DEDUCED); one that R109 stops forces a retrain. -/
def State.enterActive (p : Nat) (s : State) : State :=
  let s1 := (s.onLane p (fun l => { l with
    phase := .idle, deadline := none, pair0 := l.pair0.empty, pair1 := l.pair1.empty, activeAt := s.now, skipAt := s.now + 16256, coefStored := true, asked := none,
    askUntil := none, waking := false, retryAt := none, resumed := false })).wr
    (LANE_STAT_STATE p) LS_ACTIVE
  let s2 := (s1.wr (LANE_STAT_LOCK_A p) 1).wr (LANE_STAT_LOCK_B p) 1
  let pruned := (s2.crossing p (fun e => e.vc3Multi)).filter (fun t => bitOf (s2.tun t).pruned p)
  let s3 := s2.each pruned (fun t s => s.onTun t (fun x => { x with pruned := x.pruned &&& (2 ^ 25 - 1 - 2 ^ p) }))
  let s4 := if !s.isRoot && 16 ≤ p && s3.ids.carry = none then { s3 with ids := { s3.ids with carry := some p } } else s3
  let s4 := s4.each (s4.crossing p (fun e => e.state = .failed)) (fun t s => s.onTun t (fun x => { x with refused := false }))
  let s5 := s4.onChord p (fun c => { c with framing := {}, creditRepeat := some (s.now + us 10), quiet := false })
  if (s5.chord p).replay.any (·.spilled) then
    (s5.wr (CHD_STAT_TX_STATE p) TX_REPLAY).onChord p (fun c => { c with timer := some s.now, poolDue := true })
  else
    let r := s5.startReplay p
    if r.2 then r.1.enterRetrain p else r.1

/-- R93, R95, R121, R130: Chord of a new link from the sets of this CONFIG. (Assumption log 30, DEDUCED.) -/
def State.newChord (s : State) (p : Nat) : Chord :=
  let l := s.lane p
  let c := s.chord p
  let minor := (s.commonVersion p l.caps).getD 0
  let mine := s.capsSet p
  let cless := feature mine l.caps minor 28 1
  let cred (i : Nat) : Cred :=
    let t := capsOf l.caps (5 + i)
    let m := capsOf mine (5 + i)
    { clH := bitsOf t 17 12, clD := bitsOf t 2 15, cless := bitOf t 29 && cless, partnerD := bitsOf t 2 15,
      limH := bitsOf m 17 12, limD := bitsOf m 2 15, myCless := bitOf m 29, partition := bitsOf m 2 15 }
  { Chord.init with
    linked := true, quota := c.quota, pointSeen := c.pointSeen, points := c.points,
    vc1 := cred 0, vc2 := cred 1, vc3 := cred 2, vc4 := cred 3, vc5 := cred 4,
    graceMs := max (bitsOf (capsOf l.myCaps 12) 20 10) (min 1000 (bitsOf (capsOf l.caps 12) 20 10)),
    nonceTx := c.nonceTx, nonceRx := bitsOf (capsOf l.caps 10) 0 28 * 2 ^ 30 + bitsOf (capsOf l.caps 11) 0 30,
    settings := minor :: ([2, 5, 6, 7, 8, 9].map (capsOf l.caps)) ++ [2, 5, 6, 7, 8, 9].map (capsOf mine) }

/-- R130: authentication is on: both sides set AUTH and one asks for it. -/
def State.authOn (s : State) (p : Nat) : Bool :=
  let l := s.lane p
  let minor := (s.commonVersion p l.caps).getD 0
  feature l.myCaps l.caps minor 29 1 && (bitOf (capsOf l.myCaps 10) 29 || bitOf (capsOf l.caps 10) 29)

/-- The registers of Chord that CONFIG sets. -/
def State.noteConfig (p : Nat) (s : State) : State :=
  let l := s.lane p
  let minor := (s.commonVersion p l.caps).getD 0
  (((s.wr (CHD_STAT_VER_MINOR p) minor).wrB (CHD_STAT_AUTH p) (s.authOn p)).wrB (CHD_STAT_XNAK p) (feature l.myCaps l.caps minor 27 2)).wr
    (LANE_STAT_PARTNER_KIND p) (capsKind l.caps)

/-- R441: the keys of both directions are derived for an epoch. -/
def State.deriveKeys (p epoch : Nat) (s : State) : State :=
  s.onChord p (fun c => { c with keyTx := s.linkKey p epoch, keyRx := s.linkKey p epoch, keySlot := s.linkSlot p })

/-- R155, R158, R159: the management, hub control and time tunnels that come into being with a port, and HUB_ASSIGN; a second
port to the same leaf becomes the ALT_PORT of the tunnels. -/
def State.bringTunnels (p : Nat) (s : State) : State :=
  let kind := capsKind (s.lane p).caps
  if kind = 0 then
    match s.dockAt p with
    | none => s
    | some d =>
      if s.isRoot then s.installMgmt (mgmtTun d) p
      else (s.installMgmt (mgmtTun d) p).onEntry (mgmtTun d) (fun e => { e with
        inPort := s.ids.carry.getD 16, srcHub := false,
        altPort := if s.ids.carry = some 16 then 17 else 16 })
  else
    let h := if s.isRoot then (s.hubAt p).getD 0 else s.hubNo
    let up := if s.isRoot then (s.pairOf p).isSome else s.ids.carry ≠ some p && s.ids.carry ≠ none && (s.pairOf p).isSome
    let mgmt := if s.isRoot then (s.ids.docks.filter (fun d => d.1 = h)).map (fun d => mgmtTun d.2.2) else []
    let other := s.isRoot && s.ids.hubOf.any (fun x => x.2 = h && x.1 ≠ p)
    if up then s.each ([ctrlTun h, timeTun h] ++ mgmt) (fun t s => s.onEntry t (fun e => { e with altPort := p }))
    else
      let s0 := if other then s.each mgmt (fun t s => if (s.tun t).e.crosses p then s else s.onEntry t (fun e => { e with altPort := p })) else s
      let s1 := (s0.installMgmt (ctrlTun h) p).installMgmt (timeTun h) p
      if s.isRoot then ((s1.sendCtrl h 1 0 0 0 h).hubTunUp (ctrlTun h)).hubTunUp (timeTun h) else s1

/-- R64, R108, R121: CONFIG completes as a new link, whose round trip has not been measured yet. -/
def State.newLink (p : Nat) (s : State) : State :=
  let l := s.lane p
  let s0 := ({ s with probes := s.probes.set p Probe.init }).setRtt p 1000
  let s1 := (s0.noteConfig p).onChord p (fun _ => s.newChord p)
  let s2 := (((s1.wr (CHD_STAT_EPOCH_TX p) 0).wr (CHD_STAT_EPOCH_RX p) 0).wr (CHD_STAT_RX_STATE p) 0).deriveKeys p 0
  let s3 := (s2.wr (CHD_STAT_GRACE p) 0).onLane p (fun l => { l with
    lastKind := some (capsKind l.caps), lastTag := capsTag l.caps, fails := 0 })
  let s4 := (s3.bump (LANE_TRAINS_COLD_OK p)).wr (LANE_TTIME_LAST_COLD p) (min 65535 ((s.now - l.since) / 1000))
  (((s4.enterActive p).ev (lanePage p) [EV_LANE_ACTIVE_ENTRY]).bringTunnels p).takeOver p

end Sys2Proof.Machine
end

