-- ==== Sys2Proof/Machine/Lane.lean ====
section
/-!
DEFINITION. The meanings of the commands of the lane layer (R37–R79, R574).
-/
namespace Sys2Proof.Machine

/-! ## Receiving code groups -/

/-- The pair of a lane. -/
def Lane.pair (l : Lane) (i : Bool) : Pair := if i then l.pair1 else l.pair0
/-- Change a pair. -/
def Lane.onPair (i : Bool) (f : Pair → Pair) (l : Lane) : Lane :=
  if i then { l with pair1 := f l.pair1 } else { l with pair0 := f l.pair0 }

/-- R46, R89: what a judged code group leaves with the pair: an express word, a bad-word mark or a stream or parallel word. (Assumption log 29, DEDUCED.) -/
def Pair.take (x : Pair) (hdr : Nat) (bad : Bool) (w : Word) (now : Nat) : Pair :=
  let y := { x with zeros := (hdr = 0 : Bool) :: x.zeros.take 63 }
  if bad then
    { y with
      items := y.items ++ [.bad]
      express := if y.inGroup then y.express ++ [none] else y.express
      badAt := now :: y.badAt.filter (fun t => now < t + 1000) }
  else if hdr = 3 then { y with items := y.items ++ [.express], express := y.express ++ [some w], inGroup := true }
  else
    let run := (y.express.reverse.dropWhile Option.isNone).reverse
    { y with
      items := y.items ++ [if hdr = 2 then .data w else .ctl w]
      express := [], runs := if run = [] then y.runs else y.runs ++ [run], inGroup := false }

/-- R43, R46, R81: a bad word that is found after the descrambler is counted against its lane. -/
def State.badWord (p : Nat) (laneB : Bool) (s : State) : State :=
  let now := s.now
  let s1 := s.onLane p (fun l => l.onPair (if l.pair0.laneB = some true then !laneB else laneB)
    (fun x => { x with badAt := now :: x.badAt.filter (fun t => now < t + 1000) }))
  (s1.bump (if laneB then LANE_ERR_BAD_B p else LANE_ERR_BAD_A p)).life (portLife p 7)

/-- R574, R575: a code group outside ACTIVE: in loopback it is checked, and resent in far-end loopback; in training the pattern code groups
are checked. (Assumption log 27, DEDUCED.) -/
def State.patternRx (p : Nat) (pair : Bool) (cg : BitVec 46) (s : State) : State :=
  let x := (s.lane p).pair pair
  let g := if x.inverted then ~~~cg else cg
  if s.ls p = LS_LOOPBACK then
    (s.patGroup p (x.laneB.getD pair) (fld g 0 44)).when (s.rd (LANE_CTL_LOOP p) = 2) (State.emit (.code p pair cg))
  else if (s.ls p = LS_TRAIN || s.ls p = LS_RETRAIN) && fld g 44 2 = 2 then s.patGroup p (x.laneB.getD pair) (fld g 0 44)
  else s

/-- R68: while an entry to a low-power state ends, the pair counts the IDLE words with ENTER that it has descrambled. -/
def Pair.resting (x : Pair) (hdr : Nat) (w : Word) : Pair :=
  if x.restLeft ≠ 0 && hdr = 1 && fld w 34 6 = 0 && fld w 31 3 ≠ 0 then { x with restLeft := x.restLeft - 1 } else x

/-- CODE_GROUP_RX (R43, R81): polarity, descrambling, the parity check; in ACTIVE a reserved control code is a bad word too; a bad word is counted against the lane that carried it.  Until the port is
ACTIVE the word goes no further: a CAPS word comes as a command of its own.  After ACCEPT the descrambler runs on until the eighth IDLE word
(R68). (Assumption log 27, DEDUCED.) -/
def codeGroupRx (p : Nat) (pair : Bool) (cg : BitVec 46) (s : State) : State :=
  let x := (s.lane p).pair pair
  if x.descrambling && (s.active p || (s.lane p).phase ≠ .idle || x.restLeft ≠ 0) then
    let g := if x.inverted then ~~~cg else cg
    let hdr := fld g 44 2
    let r := scramble x.lfsr (fld g 0 44)
    let w : Word := BitVec.ofNat 40 r.1
    let act := s.active p
    let bad := hdr = 0 || r.1 / 2 ^ 40 ≠ parity w || (act && hdr = 1 && 0x0D ≤ fld w 34 6)
    let now := s.now
    let s1 := s.onLane p (Lane.onPair pair (fun x => if act then { x.take hdr bad w now with lfsr := r.2 } else { x.resting hdr w with lfsr := r.2 }))
    if bad then (s1.bump (if x.laneB.getD pair then LANE_ERR_BAD_B p else LANE_ERR_BAD_A p)).life (portLife p 7) else s1
  else s.patternRx p pair cg

def execCodeGroupRx (p : Fin 18) (pair : Bool) (cg : BitVec 46) (s : State) : Outcome := coreDone s (codeGroupRx p pair cg s)

/-- SKIP_SEND (R47): the scheduled SKIP goes on both lanes, from LAST on (R56); express words delay it by up to 64 code groups. -/
def skipSend (p : Nat) (s : State) : State :=
  let l := s.lane p
  let express := s.compass.queues.get (qKey p 0) ≠ []
  if (s.active p || l.phase = .config || l.lastSent && (l.phase = .align || l.phase = .rtAlign)) && l.skipAt ≤ s.now && !(express && s.now < l.skipAt + 128) then
    (s.emit (.word p 2 (ctlWord 0x01 []))).onLane p (fun l => { l with skipAt := l.skipAt + 16256 })
  else s

def execSkipSend (p : Fin 18) (s : State) : Outcome := coreDone s (skipSend p s)

/-! ## Starting attempts -/

/-- SIGNAL_ENERGY_DETECT (R58, R66): DETECT and DORMANT go to TRAIN; in DOWN an attempt starts at once, the spacing after a failure
being unchanged; in NAP, and in DOZE where no WAKE word has restored lock, it is the partner's wake and the port goes to RETRAIN. (Assumption
log 27, DEDUCED.) -/
def signalEnergy (p : Nat) (s : State) : State :=
  let st := s.ls p
  if s.coreOn && (st = LS_NAP || st = LS_DOZE) then s.enterRetrain p
  else if s.coreOn && (st = LS_DETECT || st = LS_DORMANT || (st = LS_DOWN && (s.lane p).phase = .idle && !(s.lane p).resumed)) then s.enterTrain p
  else s

def execSignalEnergyDetect (p : Fin 18) (s : State) : Outcome := done (signalEnergy p s)

/-- R78, R79: a wake burst is counted and raised. -/
def State.noteBurst (p : Nat) (s : State) : State := (s.bump (LANE_WAKE_BURSTS_RX p)).ev (lanePage p) [EV_LANE_WAKE_BURST]

/-- WAKE_BURST_DETECT (R66, R72): counted and raised; DETECT and DORMANT go to TRAIN.  In S2, where the lane pages are kept, the power die
holds the burst for them until the wake (R507; assumption log 52, DEDUCED). -/
def wakeBurstDetect (p : Nat) (s : State) : State :=
  if !s.coreOn then (if s.power.asleep = 2 then { s with pd := { s.pd with bursts := s.pd.bursts ++ [p] } } else s)
  else
    let s1 := s.noteBurst p
    if s.ls p = LS_DETECT || s.ls p = LS_DORMANT then s1.enterTrain p else s1

def execWakeBurstDetect (p : Fin 18) (s : State) : Outcome := dieDone s (wakeBurstDetect p s)

/-- R66, R453: the tangent function reports the port attached. -/
def State.tangentAttached (s : State) (p : Nat) : Bool := (s.pd.tans.get p).signalled

/-- TRAIN_ENTRY (R57, R66): on tangent attach a port in DETECT enters TRAIN. (Assumption log 27, DEDUCED.) -/
def trainEntry (p : Nat) (s : State) : State :=
  if s.coreOn && s.ls p = LS_DETECT && s.tangentAttached p then s.enterTrain p else s

def execTrainEntry (p : Fin 18) (s : State) : Outcome := coreDone s (trainEntry p s)

/-- COLD_RETRY_EXPIRY (R58): the spacing, or the 10 µs after DOWN entry, has passed and a new attempt starts. (Assumption log 27, DEDUCED.) -/
def coldRetry (p : Nat) (s : State) : State :=
  let l := s.lane p
  if s.coreOn && (s.ls p = LS_DETECT || s.ls p = LS_DOWN) && l.phase = .idle && !l.resumed && s.due l.retryAt then s.enterTrain p else s

def execColdRetryExpiry (p : Fin 18) (s : State) : Outcome := coreDone s (coldRetry p s)

/-! ## Training words -/

/-- An attempt, cold or retrain, fails (R51, R55, R57, R60). -/
def State.failTraining (p : Nat) (s : State) : State :=
  if s.ls p = LS_RETRAIN then s.enterDown p else s.failAttempt p

/-- R53: apply a request to one cursor: code, cursor, value of the preset, limit test, RETRAIN test; the new value and the report. (Assumption log 12, DESIGN CHOICE.) -/
def cursorRequest (code now preset : Nat) (fits allowed : Nat → Bool) (retrain : Bool) : Nat × Nat :=
  if code = 0 then (now, 3)
  else
    let v := if code = 1 then now + 1 else if code = 2 then now - 1 else preset
    if retrain && (code = 3 || !allowed v) then (now, 2)
    else if (code = 2 && now = 0) || !fits v then (now, 1)
    else (v, 0)

/-- EQ_REQUEST_RX (R52, R53): a new request of the partner moves the hub's cursors, and the result is reported.  Which cursor of one request
is judged first against pre + post ≤ 28 is the model's choice: pre, against the old post, then post. (Assumption log 12, DESIGN CHOICE.) -/
def State.eqRequest (p : Nat) (w : Word) (s : State) : State :=
  let l := s.lane p
  let rt := s.ls p = LS_RETRAIN
  let pc := presetCursors (fld w 27 3)
  let pre := s.rd (LANE_EQ_TX_PRE p)
  let post := s.rd (LANE_EQ_TX_POST p)
  let near (a b : Nat) : Bool := a ≤ b + 2 && b ≤ a + 2
  let both := fld w 25 2 = 3 && fld w 23 2 = 3
  let a := cursorRequest (fld w 25 2) pre pc.1 (fun v => v ≤ 10 && (both || v + post ≤ 28)) (near l.txPre0) rt
  let b := cursorRequest (fld w 23 2) post pc.2 (fun v => v ≤ 24 && (both || a.1 + v ≤ 28)) (near l.txPost0) rt
  (((s.wr (LANE_EQ_TX_PRE p) a.1).wr (LANE_EQ_TX_POST p) b.1).onLane p (fun l => { l with
    reqT := fld w 18 1 = 1, preSt := a.2, postSt := b.2 })).sendTrain p

/-- R42: the seeds of an ALIGN phase: the override values where allowed, else drawn, non-zero and different. (Assumption log 27, DEDUCED.) -/
def State.newSeeds (p : Nat) (s : State) : State :=
  let a := s.rd (LANE_SEED_A_SEED p)
  let b := s.rd (LANE_SEED_B_SEED p)
  if s.rdB (LANE_CTL_SEED_OVR p) && a ≠ 0 && b ≠ 0 && a ≠ b then s.onLane p (fun l => { l with seedA := a, seedB := b })
  else
    let x := s.freeValue % (2 ^ 31 - 1) + 1
    let y := (x - 1 + (s.freeValue / 2 ^ 31 % (2 ^ 31 - 2) + 1)) % (2 ^ 31 - 1) + 1
    s.drawn.onLane p (fun l => { l with seedA := x, seedB := y })

/-- R54: with RDY sent and received the ALIGN phase starts, with new seeds.  From the next training block on the blocks start with ALIGN and
TRAIN by turns (`State.trainGroup`). -/
def State.checkReady (p : Nat) (s : State) : State :=
  let l := s.lane p
  if l.rdySent && l.rdyRcvd && (l.phase = .equalise || l.phase = .rtEqualise) then
    let s1 := (s.newSeeds p).onLane p (fun l => { l with
      phase := if l.phase = .equalise then .align else .rtAlign
      deadline := some (l.since + if l.phase = .equalise then us 1800 else us 18)
      alignAt := s.blockStart p })
    (s1.emit (.word p 0 (alignWord (s1.lane p) false false (s1.lane p).seedA))).emit
      (.word p 1 (alignWord (s1.lane p) true false (s1.lane p).seedB))
  else s

/-- BLOCK_LOCK_ACQUIRED (R50, R51): both pairs have lock: one LANE value twice fails the attempt; otherwise order and polarity are
noted and equalisation starts, with the first preset of the sweep asked for. -/
def State.lockAcquired (p : Nat) (s : State) : State :=
  let l := s.lane p
  if l.pair0.locked && l.pair1.locked && (l.phase = .lock || l.phase = .rtLock) then
    if l.pair0.laneB = l.pair1.laneB then s.failTraining p
    else
      let rev := l.pair0.laneB = some true
      let a := if rev then l.pair1 else l.pair0
      let b := if rev then l.pair0 else l.pair1
      let s1 := (((s.wrB (LANE_STAT_REVERSED p) rev).wrB (LANE_STAT_POL_A p) a.inverted).wrB (LANE_STAT_POL_B p) b.inverted)
      let s2 := s1
      if l.phase = .rtLock then
        (s2.onLane p (fun l => { l with phase := .rtEqualise, deadline := some (l.since + us 15), rdySent := true })).sendTrain p
      else if l.sweepStage = 11 then
        (s2.onLane p (fun l => { l with phase := .equalise, deadline := some (l.since + us 1750), rdySent := true })).sendTrain p
      else
        let pc := presetCursors l.sweepPreset
        let s3 := s2.onLane p (fun l => { l with
          phase := .equalise, deadline := some (l.since + us 1750), evalUntil := some (s.now + us 50), myReqT := !l.myReqT })
        ((s3.wr (LANE_EQ_RX_PRE p) pc.1).wr (LANE_EQ_RX_POST p) pc.2).sendTrainReq p l.sweepPreset 3 3
  else s

/-- R50: a TRAIN or ALIGN word stands in a slot: block lock after eight of them 16 code groups apart. -/
def Pair.hit (x : Pair) (next : Bool) (now : Nat) : Pair :=
  let n := if next then x.hits + 1 else 1
  { x with hits := n, locked := x.locked || 8 ≤ n, wordAt := now }

/-- R50, R51: one TRAIN word on a pair: block lock, polarity and lane. -/
def Pair.train (x : Pair) (inverted : Bool) (laneB : Bool) (slot now : Nat) : Pair :=
  { x.hit (slot = 16) now with inverted := inverted, laneB := some laneB }

/-- R77: the lanes that have block lock are shown, each once its pair's LANE field is known. -/
def State.showLocks (p : Nat) (s : State) : State :=
  let l := s.lane p
  let shows (b : Bool) : Bool := (l.pair0.locked && l.pair0.laneB = some b) || (l.pair1.locked && l.pair1.laneB = some b)
  (s.when (shows false) (State.wr (LANE_STAT_LOCK_A p) 1)).when (shows true) (State.wr (LANE_STAT_LOCK_B p) 1)

/-- TRAIN_WORD_RX (R51): in ACTIVE it triggers a retrain (R59); in a training phase it serves block lock, polarity, lane identity,
the partner's request and its RDY.  A word in neither polarity's form is no TRAIN word.  R51 gives an inverted word both the header 0b01
and a complemented header: either is taken (assumption log 27, DESIGN CHOICE).  In DOZE and NAP it is the partner's RETRAIN (R66). -/
def trainWordRx (p : Nat) (pair : Bool) (hdr : BitVec 2) (w : Word) (slot : Nat) (s : State) : State :=
  let direct := hdr = 1 && fld w 34 6 = 0x02 && fld w 0 17 = 0x1A5A5
  let inverted := fld w 34 6 = 0x3D && fld w 0 17 = 0x05A5A && (hdr = 1 || hdr = 2)
  if !(direct || inverted) then s
  else
    let v := if inverted then ~~~w else w
    let s0 := if s.active p || s.ls p = LS_DOZE || s.ls p = LS_NAP then s.enterRetrain p else s
    let ph := (s0.lane p).phase
    if ph = .idle || ph = .config then s0
    else
      let s1 := s0.onLane p (Lane.onPair pair (fun x => x.train inverted (fld v 33 1 = 1) slot s.now))
      let s2 := (s1.showLocks p).lockAcquired p
      let l := s2.lane p
      if l.phase = .equalise || l.phase = .rtEqualise then
        let rdy := fld v 32 1 = 1 && fld v 30 2 ≠ 0
        let s3 := s2.onLane p (fun l => { l with rdyRcvd := l.rdyRcvd || rdy, myAckT := fld v 17 1 = 1 })
        let s4 := if (fld v 18 1 = 1) ≠ l.reqT then s3.eqRequest p v else s3
        s4.checkReady p
      else s2

def execTrainWordRx (p : Fin 18) (pair : Bool) (hdr : BitVec 2) (w : Word) (slot : Nat) (s : State) : Outcome :=
  coreDone s (trainWordRx p pair hdr w slot s)

/-- R48: the request that takes a cursor one step towards a value. -/
def stepCode (now want : Nat) : Nat := if now < want then 1 else if want < now then 2 else 0

/-- R53: the setting that a stage of the sweep tries after the presets: the best preset again (8), one more pre-cursor step (9), one more
post-cursor step (10), the best setting (11); a step that would break a limit of R52 is left out. (Assumption log 12, DESIGN CHOICE.) -/
def sweepTarget (n bp bo : Nat) : Nat × (Nat × Nat) :=
  if n = 8 then (8, (bp, bo))
  else if n = 9 && bp < 10 && bp + 1 + bo ≤ 28 then (9, (bp + 1, bo))
  else if n ≤ 10 && bo < 24 && bp + bo + 1 ≤ 28 then (10, (bp, bo + 1))
  else (11, (bp, bo))

/-- PRESET_EVAL_EXPIRY (R53): the margin of the setting is noted, and the sweep asks for the next: the eight presets, the best of them, then
one step of each cursor from the best (assumption log 12, DESIGN CHOICE), then the best setting and RDY. -/
def presetEval (p margin : Nat) (s : State) : State :=
  let l := s.lane p
  if l.phase = .equalise && s.due l.evalUntil then
    let pre := s.rd (LANE_EQ_RX_PRE p)
    let post := s.rd (LANE_EQ_RX_POST p)
    let better := l.bestMargin < margin || l.sweepStage = 0
    let bm := if better then margin else l.bestMargin
    let bp := if better then pre else l.bestPre
    let bo := if better then post else l.bestPost
    let bk := if better && l.sweepStage < 8 then l.sweepPreset else l.bestPreset
    let n := l.sweepStage + 1
    let s1 := s.onLane p (fun l => { l with
      bestMargin := bm, bestPre := bp, bestPost := bo, bestPreset := bk, sweepStage := n, evalUntil := some (s.now + us 50),
      myReqT := !l.myReqT })
    if n < 8 then
      let k := (l.sweepPreset + 1) % 8
      let pc := presetCursors k
      (((s1.onLane p (fun l => { l with sweepPreset := k })).wr (LANE_EQ_RX_PRE p) pc.1).wr (LANE_EQ_RX_POST p) pc.2).sendTrainReq p k 3 3
    else
      let t := sweepTarget n bp bo
      let s2 := ((s1.onLane p (fun l => { l with sweepStage := t.1 })).wr (LANE_EQ_RX_PRE p) t.2.1).wr (LANE_EQ_RX_POST p) t.2.2
      if t.1 = 8 then s2.sendTrainReq p bk 3 3
      else if t.1 < 11 then s2.sendTrainReq p 0 (stepCode pre t.2.1) (stepCode post t.2.2)
      else
        ((s2.onLane p (fun l => { l with evalUntil := none, rdySent := true })).sendTrainReq p 0
          (stepCode pre t.2.1) (stepCode post t.2.2)).checkReady p
  else s

def execPresetEvalExpiry (p : Fin 18) (margin : Nat) (s : State) : Outcome := coreDone s (presetEval p margin s)

/-- CONFIG_ENTRY (R56), or the end of a retrain (R60): LAST has been sent and received. -/
def State.lastBoth (p : Nat) (s : State) : State :=
  let l := s.lane p
  if l.lastSent && l.lastRcvd then
    if l.phase = .rtAlign then
      let s1 := (s.bump (LANE_RETRAINS_RETRAIN_OK p)).wr (LANE_TTIME_LAST_RETRAIN p) (min 65535 ((s.now - l.since) / 10))
      (s1.enterActive p).takeOver p
    else if l.phase = .align then s.enterConfig p else s
  else s

/-- ALIGN_WORD_RX (R50, R54–R56): block lock, deskew, seed, DSK and LAST; skew beyond ±16 ns fails the attempt. -/
def alignWordRx (p : Nat) (pair : Bool) (w : Word) (skew : Int) (s : State) : State :=
  let l := s.lane p
  if fld w 34 6 = 0x08 && (l.phase = .lock || l.phase = .equalise || l.phase = .rtLock || l.phase = .rtEqualise) then
    (s.onLane p (Lane.onPair pair (fun x => x.hit (s.now = x.wordAt + 32) s.now))).showLocks p
  else if fld w 34 6 = 0x08 && (l.phase = .align || l.phase = .rtAlign) then
    if 64 < skew || skew < -64 then (s.ev (lanePage p) [EV_LANE_SKIP_LIMIT]).failTraining p
    else
      let last := fld w 32 1 = 1
      let s1 := s.onLane p (Lane.onPair pair (fun x => { x.hit (s.now = x.wordAt + 32) s.now with
        seed := fld w 0 31
        lfsr := if last then BitVec.ofNat 31 (fld w 0 31) else x.lfsr
        descrambling := x.descrambling || last }))
      let s2 := s1.onLane p (fun l => { l with
        dskRcvd := l.dskRcvd || fld w 31 1 = 1
        deskewed := l.deskewed || (l.pair0.seed ≠ 0 && l.pair1.seed ≠ 0)
        lastRcvd := l.pair0.descrambling && l.pair1.descrambling })
      (s2.wr (LANE_STAT_SKEW p) (unsignedOf 8 skew)).lastBoth p
  else s

def execAlignWordRx (p : Fin 18) (pair : Bool) (w : Word) (skew : Int) (s : State) : Outcome := coreDone s (alignWordRx p pair w skew s)

/-- LAST_SEND (R56): after eight ALIGN words, the first at `alignAt` and each next one 64 ns on (R54), and an ALIGN with DSK = 1, LAST goes
on both lanes in the next slot of an ALIGN word; SKIP is scheduled from there (R47). -/
def lastSend (p : Nat) (s : State) : State :=
  let l := s.lane p
  if (l.phase = .align || l.phase = .rtAlign) && l.dskRcvd && !l.lastSent && l.alignAt + 7 * 64 ≤ s.now then
    let s1 := (s.emit (.word p 0 (alignWord l false true l.seedA))).emit (.word p 1 (alignWord l true true l.seedB))
    let at_ := l.alignAt + ((s.now - l.alignAt) / 64 + 1) * 64
    (s1.onLane p (fun l => { l with lastSent := true, lastAt := some at_, skipAt := at_ + 16256 })).lastBoth p
  else s

def execLastSend (p : Fin 18) (s : State) : Outcome := coreDone s (lastSend p s)

/-- TRAIN_DEADLINE_EXPIRY (R57): a phase of a cold attempt has missed its deadline.  While a burst series waits for the first training block
the attempt goes on, and the series counts the failure (R73; assumption log 28, DEDUCED). -/
def trainDeadline (p : Nat) (s : State) : State :=
  let l := s.lane p
  if (l.phase = .lock || l.phase = .equalise || l.phase = .align) && s.expired l.deadline then
    (if l.unanswered then s.onLane p (fun l => { l with deadline := some (s.now + us 150) }) else s.failAttempt p)
  else s

def execTrainDeadlineExpiry (p : Fin 18) (s : State) : Outcome := coreDone s (trainDeadline p s)

/-! ## CONFIG -/

/-- R65, R19–R21, R154: at CONFIG completion the port goes to DISABLED, with these event bits of the tunnel table page. -/
def State.configRefusal (s : State) (p : Nat) : Option (List Nat) :=
  let l := (s.lane p).caps
  let kind := capsKind l
  if s.isRoot then
    if kind = 0 then (if (s.dockAt p).isNone then some [EV_TUN_DOCK_ID_EXHAUSTED] else none)
    else if kind = 1 then (if (s.hubAt p).isNone then some [EV_TUN_HUB_NUM_EXHAUSTED] else none)
    else some []
  else if p < 16 then (if kind = 0 then none else some [])
  else if kind ≠ 2 then some []
  else if !capsHnv l && s.hubNo = 0x1F then some []
  else if p = 17 && s.afterConfig 16 && (s.lane 16).lastTag / 16 ≠ capsTag l / 16 then some []
  else none

/-- CONFIG_COMPLETE (R64): DISABLED where the partner does not fit; in DOWN the attempt is complete and waits for R67; otherwise a
new link. -/
def State.configComplete (p : Nat) (s : State) : State :=
  let l := s.lane p
  match s.configRefusal p with
  | some bits => ((s.wr (LANE_STAT_PARTNER_KIND p) (capsKind l.caps)).when (bits ≠ []) (State.ev 0x080 bits)).disablePort p
  | none =>
    let s0 := if !s.isRoot && 16 ≤ p then { s with ids := { s.ids with treeTag := capsTag l.caps / 16 } } else s
    let s1 := if !s.isRoot && p = 16 && s.afterConfig 17 && (s.lane 17).lastTag / 16 ≠ capsTag l.caps / 16 then s0.disablePort 17 else s0
    if s.ls p = LS_DOWN then s1.onLane p (fun l => { l with phase := .idle, deadline := none, resumed := true, retryAt := none })
    else s1.newLink p

/-- R20, R154–R157: what the first complete set of a partner settles: the root's choice of a dock ID or a hub number, the leaf's
number, the leaf's DOCK_REQ. -/
def State.settleIdentity (p : Nat) (s : State) : State :=
  let l := s.lane p
  let kind := capsKind l.caps
  if s.isRoot then
    if kind = 0 then
      match s.dockAt p, s.chooseDock 0 p with
      | none, some d => { s with ids := { s.ids with docks := s.ids.docks ++ [(0, p, d)] } }
      | _, _ => s
    else if kind = 1 then
      match s.chooseHub p (capsHub l.caps) with
      | some h => { s with ids := { s.ids with hubOf := s.ids.hubOf.filter (·.1 ≠ p) ++ [(p, h)] } }
      | none => s
    else s
  else if p < 16 then
    if kind = 0 && (s.dockAt p).isNone && (s.ids.asked.lookup p).isNone then
      let ent := (l.deadline.getD s.now) - us 50
      ({ s with ids := { s.ids with asked := s.ids.asked ++ [(p, ent)] } }).sendCtrl s.hubNo 2 p 0 0 0
    else s
  else
    let other := if p = 16 then 17 else 16
    if kind = 2 && capsHnv l.caps && !s.active other then s.wr CHIP_STAT_HUB (capsHubNo l.caps) else s

/-- R64, R94, R130, R155, R157: the hub may send SEEN = 1 for the set it holds. (Assumption log 28, DEDUCED.) -/
def State.maySee (s : State) (p : Nat) : Bool :=
  let l := s.lane p
  let kind := capsKind l.caps
  let other := if p = 16 then 17 else 16
  let auth := !l.authRequire || (bitOf (capsOf l.myCaps 2) 29 && bitOf (capsOf l.caps 2) 29)
  let hub := if s.isRoot then (kind ≠ 1 || (match s.hubAt p with | some h => (capsHub l.caps = h : Bool) | none => true))
    else if 16 ≤ p then !(capsHnv l.caps && s.active other) || (capsHubNo l.caps = s.hubNo : Bool)
    else kind ≠ 0 || (s.dockAt p).isSome
  capsConsistent l.caps && auth && hub

/-- A complete set with its SEEN bit: version (R33), identities, the hub's answer, and completion. -/
def State.capsSetRx (p : Nat) (set : List (Nat × Nat)) (seen : Bool) (s : State) : State :=
  let s1 := s.onLane p (fun l => { l with caps := set, capsRx := [], seenRcvd := seen })
  if (s1.commonVersion p set).isNone then (s1.wr (LANE_STAT_PARTNER_KIND p) (capsKind set)).disablePort p
  else
    let s2 := s1.settleIdentity p
    let lacksAuth := (s.lane p).authRequire && !(bitOf (capsOf (s.lane p).myCaps 2) 29 && bitOf (capsOf set 2) 29)
    let s3 := if lacksAuth && !(s2.lane p).authFailed then
        (s2.ev (chordPage p) [EV_CHD_AUTH_FAIL]).onLane p (fun l => { l with authFailed := true })
      else s2
    let s4 := s3.sendCaps p (s3.maySee p)
    if seen && (s4.lane p).seenSent then s4.configComplete p else s4

/-- CAPS_RX (R61, R64): a word that passed parity on a lane; copies that differ are discarded. -/
def capsRx (p : Nat) (a b : Option Word) (s : State) : State :=
  let w := match a, b with
    | some x, some y => if x = y then some x else none
    | some x, none => some x
    | none, y => y
  match w with
  | none => s
  | some w =>
    let l := s.lane p
    if l.phase = .config && fld w 34 6 = 0x03 then
      let i := fld w 30 4
      if i = 15 then
        if capsComplete l.capsRx (fld w 24 5) then s.capsSetRx p l.capsRx (fld w 29 1 = 1)
        else s.onLane p (fun l => { l with capsRx := [] })
      else
        let next := match l.capsRx with
          | [] => [(i, fld w 0 30)]
          | (j, c) :: r => if j < i then (i, fld w 0 30) :: (j, c) :: r else if j = i then (j, c) :: r else [(i, fld w 0 30)]
        s.onLane p (fun l => { l with capsRx := next })
    else s

def execCapsRx (p : Fin 18) (copyA copyB : Option Word) (s : State) : Outcome := coreDone s (capsRx p copyA copyB s)

/-- CONFIG_TIMEOUT (R64): CONFIG is not complete 200 µs after entry. -/
def configTimeout (p : Nat) (s : State) : State :=
  let l := s.lane p
  if l.phase = .config && s.expired l.deadline then
    s.failAttempt p
  else s

def execConfigTimeout (p : Fin 18) (s : State) : Outcome := coreDone s (configTimeout p s)

/-! ## Leaving ACTIVE -/

/-- BLOCK_LOCK_LOSS (R50, R59, R66): in ACTIVE, 8 of the last 64 code groups with header 0b00 start a retrain; in a DOZE exit that
did not restore lock likewise; in training the pair loses its lock once four expected slots of 32 ns have passed without a word.  A loss
after ACCEPT = 1 makes the exit a retrain (R69). -/
def blockLockLoss (p : Nat) (pair : Bool) (s : State) : State :=
  let l := s.lane p
  let x := l.pair pair
  if s.active p then (if 8 ≤ (x.zeros.filter id).length then s.enterRetrain p else s)
  else if s.ls p = LS_DOZE && l.waking then s.enterRetrain p
  else if x.restLeft ≠ 0 then s.onLane p (fun l => { l with viaRetrain := true })
  else if l.phase ≠ .idle && x.locked && x.wordAt + 128 < s.now then
    let s1 := s.onLane p (Lane.onPair pair (fun x => { x with hits := 0, locked := false }))
    s1.wr (if x.laneB.getD pair then LANE_STAT_LOCK_B p else LANE_STAT_LOCK_A p) 0
  else s

def execBlockLockLoss (p : Fin 18) (pair : Bool) (s : State) : Outcome := coreDone s (blockLockLoss p pair s)

/-- BAD_WORD_BURST (R59): 32 bad words on a lane within 1 µs; after ACCEPT = 1 the exit is a retrain (R69). -/
def badWordBurst (p : Nat) (pair : Bool) (s : State) : State :=
  if 32 ≤ ((((s.lane p).pair pair).badAt).filter (fun t => s.now ≤ t + 1000)).length then
    if s.active p then (s.ev (lanePage p) [EV_LANE_BAD_BURST]).enterRetrain p
    else s.when (((s.lane p).pair pair).restLeft ≠ 0) (State.onLane p (fun l => { l with viaRetrain := true }))
  else s

def execBadWordBurst (p : Fin 18) (pair : Bool) (s : State) : Outcome := coreDone s (badWordBurst p pair s)

/-- RETRAIN_DEADLINE_EXPIRY (R60): a retrain that misses a deadline goes to DOWN. -/
def retrainDeadline (p : Nat) (s : State) : State :=
  if s.ls p = LS_RETRAIN && s.expired (s.lane p).deadline then s.enterDown p else s

def execRetrainDeadlineExpiry (p : Fin 18) (s : State) : Outcome := coreDone s (retrainDeadline p s)

/-- FORCE_RETRAIN (R76): acts in ACTIVE. -/
def forceRetrain (p : Nat) (s : State) : State := if s.coreOn && s.active p then s.enterRetrain p else s

def execForceRetrain (p : Fin 18) (s : State) : Outcome := coreDone s (forceRetrain p s)

/-- LANE_ENABLE (R66, R76): a write of ENABLE under the page's LOCK. -/
def State.laneEnable (p : Nat) (v : Bool) (s : State) : State :=
  if s.locked (lanePage p) then s
  else
    let s1 := s.wrB (LANE_CTL_ENABLE p) v
    let st := s.ls p
    if v then
      if st = LS_DISABLED || st = LS_LOOPBACK then s1.wr (LANE_STAT_STATE p) LS_DETECT else s1
    else if st = LS_DISABLED || st = LS_LOOPBACK then s1
    else s1.disablePort p

def execLaneEnable (p : Fin 18) (v : Bool) (s : State) : Outcome := coreDone s (s.laneEnable p v)

/-- LOOP_WRITE (R66, R574): LOOP acts while ENABLE is 0; the reserved value 0b11 is non-zero and acts so too (assumption log 27, DESIGN
CHOICE). -/
def State.loopWrite (p : Nat) (v : Nat) (s : State) : State :=
  if s.locked (lanePage p) then s
  else
    let s1 := s.wr (LANE_CTL_LOOP p) v
    if s.rdB (LANE_CTL_ENABLE p) then s1
    else if v ≠ 0 && s.ls p = LS_DISABLED then s1.wr (LANE_STAT_STATE p) LS_LOOPBACK
    else if v = 0 && s.ls p = LS_LOOPBACK then (s1.wr (LANE_STAT_STATE p) LS_DISABLED).ev (lanePage p) [EV_LANE_DISABLED]
    else s1

def execLoopWrite (p : Fin 18) (v : BitVec 2) (s : State) : Outcome := coreDone s (s.loopWrite p v.toNat)

/-- LANE_ERR_READ (R79): the counts are returned and cleared. -/
def laneErrRead (p : Nat) (s : State) : State :=
  let v := s.rd (LANE_ERR_BAD_B p) * 2 ^ 16 + s.rd (LANE_ERR_BAD_A p)
  ((s.emit (.read (lanePage p) 0x04C (BitVec.ofNat 32 v))).wr (LANE_ERR_BAD_A p) 0).wr (LANE_ERR_BAD_B p) 0

def execLaneErrRead (p : Fin 18) (s : State) : Outcome := coreDone s (laneErrRead p s)

/-! ## Wake bursts and low power -/

/-- SEND_BURST (R73, R79): a burst series starts in DETECT or DORMANT. -/
def State.sendBurst (p : Nat) (s : State) : State :=
  if s.ls p = LS_DETECT || s.ls p = LS_DORMANT then
    (s.emit (.burst p)).onLane p (fun l => { l with bursts := 1, burstAt := some (s.now + ms 1) })
  else s

def execSendBurst (p : Fin 18) (s : State) : Outcome := coreDone s (s.sendBurst p)

/-- WAKE_BURST_REPEAT (R73): training blocks end the series; otherwise the burst is repeated, and after 60 the port returns to
DORMANT with the failure counted; a series that was started in DETECT ends there. -/
def wakeBurstRepeat (p : Nat) (s : State) : State :=
  let l := s.lane p
  if s.due l.burstAt then
    if l.pair0.hits ≠ 0 || l.pair1.hits ≠ 0 || s.active p then s.onLane p (fun l => { l with burstAt := none, bursts := 0 })
    else if l.bursts < 60 then
      (s.emit (.burst p)).onLane p (fun l => { l with bursts := l.bursts + 1, burstAt := some (s.now + ms 1) })
    else
      let s1 := (s.bump (LANE_TRAINS_COLD_FAIL p)).onLane p (fun l => { l.clear with burstAt := none, bursts := 0 })
      if s.ls p = LS_DETECT then s1 else s1.wr (LANE_STAT_STATE p) LS_DORMANT
  else s

def execWakeBurstRepeat (p : Fin 18) (s : State) : Outcome := coreDone s (wakeBurstRepeat p s)

/-- R69: a guaranteed tunnel crosses or ends at the port. -/
def State.guaranteedAt (s : State) (p : Nat) : Bool :=
  (s.tunIds.filter (fun t => !protectedTun t)).any (fun t =>
    let e := (s.tun t).e
    e.crosses p && e.vc ≤ 2 && (e.state = .opening || e.state = .opened || e.state = .rekey || e.state = .held))

/-- R69: the hub may go to a low-power state on the port. -/
def State.mayRest (s : State) (p code : Nat) : Bool :=
  s.active p && 1 ≤ code && code ≤ s.rd (LANE_CTL_MAX_LP p) && !s.guaranteedAt p && (s.chord p).replay = [] &&
  (s.chord p).xReplay = []

/-- R48: an IDLE word with ENTER and ACCEPT. -/
def idleWord (enter : Nat) (accept : Bool) : Word := ctlWord 0x00 [(31, 3, enter), (30, 1, b2n accept)]

/-- LOW_POWER_ENTRY (R68): eight more IDLE words, then the state; the descramblers run on until the partner's eighth. (Assumption log 28, DEDUCED.) -/
def State.restEntry (p code : Nat) (s : State) : State :=
  let s1 := s.each (List.replicate 8 ()) (fun _ s => s.emit (.word p 2 (idleWord code false)))
  (s1.onLane p (fun l => { l with
    asked := none, askUntil := none, waking := false, viaRetrain := false,
    pair0 := { l.pair0 with restLeft := 8 }, pair1 := { l.pair1 with restLeft := 8 } })).wr (LANE_STAT_STATE p)
    (if code = 1 then LS_DOZE else if code = 2 then LS_NAP else LS_DORMANT)

/-- ENTER_RX (R68, R69): the partner asks; a different ENTER of the hub outstanding yields to the shallower. (Assumption log 28, DEDUCED.) -/
def enterRx (p : Nat) (w : Word) (s : State) : State :=
  let n := fld w 31 3
  if fld w 34 6 = 0 && n ≠ 0 && s.active p then
    let code := match (s.lane p).asked with | some m => min m n | none => n
    if s.mayRest p code then (s.emit (.word p 2 (idleWord code true))).restEntry p code
    else (s.emit (.word p 2 (idleWord code false))).onLane p (fun l => { l with asked := none, askUntil := none })
  else s

def execEnterRx (p : Fin 18) (w : Word) (s : State) : Outcome := coreDone s (enterRx p w s)

/-- ENTER_SEND (R68, R69): the hub asks for a low-power state where it may. -/
def State.enterSend (p code : Nat) (s : State) : State :=
  if s.mayRest p code && (s.lane p).asked = none then
    (s.emit (.word p 2 (idleWord code false))).onLane p (fun l => { l with asked := some code, askUntil := some (s.now + 1000) })
  else s

def execEnterSend (p : Fin 18) (code : BitVec 3) (s : State) : Outcome := coreDone s (s.enterSend p code.toNat)

/-- IDLE_ACCEPT_RX (R68): the answer to the hub's ENTER. -/
def idleAcceptRx (p : Nat) (w : Word) (s : State) : State :=
  match (s.lane p).asked with
  | none => s
  | some n =>
    if fld w 34 6 = 0 && fld w 31 3 = n && s.active p then
      if fld w 30 1 = 1 then s.restEntry p n else s.onLane p (fun l => { l with asked := none, askUntil := none })
    else s

def execIdleAcceptRx (p : Fin 18) (w : Word) (s : State) : Outcome := coreDone s (idleAcceptRx p w s)

/-- ENTER_ANSWER_TIMEOUT (R69): a missing answer ends the handshake. -/
def enterTimeout (p : Nat) (s : State) : State :=
  if s.expired (s.lane p).askUntil then s.onLane p (fun l => { l with asked := none, askUntil := none }) else s

def execEnterAnswerTimeout (p : Fin 18) (s : State) : Outcome := coreDone s (enterTimeout p s)

/-- R70: the 32 WAKE words on both lanes. -/
def State.sendWakes (p : Nat) (s : State) : State :=
  s.each (List.replicate 32 ()) (fun _ s => (s.emit (.word p 0 (ctlWord 0x0A [(33, 1, 0)]))).emit (.word p 1 (ctlWord 0x0A [(33, 1, 1)])))

/-- LINK_WAKE (R66, R69, R70, R73): WAKE words in DOZE, or RETRAIN where a trigger waits; RETRAIN from NAP, TRAIN with a burst series from
DORMANT. (Assumption log 28, DEDUCED.) -/
def State.linkWake (p : Nat) (s : State) : State :=
  let st := s.ls p
  if st = LS_DOZE && (s.lane p).viaRetrain then s.enterRetrain p
  else if st = LS_DOZE then (s.sendWakes p).onLane p (fun l => { l with waking := true })
  else if st = LS_NAP then s.enterRetrain p
  else if st = LS_DORMANT then (s.sendBurst p |>.enterTrain p).onLane p (fun l => { l with bursts := 1, burstAt := some (s.now + ms 1) })
  else s

def execLinkWake (p : Fin 18) (s : State) : Outcome := coreDone s (s.linkWake p)

/-- R76: the port goes to DOWN and its first cold attempt begins at once. (Assumption log 27, DEDUCED.) -/
def State.downCold (p : Nat) (s : State) : State :=
  (s.enterDown p).enterTrain p

/-- FORCE_COLD (R76): the effect in each link state; DOZE, NAP and DORMANT wake first (R66), DOZE through WAKE words to ACTIVE. (Assumption log 27, DEDUCED.) -/
def State.forceCold (p : Nat) (s : State) : State :=
  let st := s.ls p
  if st = LS_ACTIVE || st = LS_RETRAIN then s.downCold p
  else if st = LS_DOZE then
    let s1 := s.linkWake p
    if s1.ls p = LS_RETRAIN then s1.downCold p else s1.onLane p (fun l => { l with coldAfter := true })
  else if st = LS_NAP then (s.enterRetrain p).downCold p
  else if st = LS_DORMANT then s.linkWake p
  else if st = LS_DOWN || st = LS_TRAIN || st = LS_CONFIG then s.enterTrain p
  else s

def execForceCold (p : Fin 18) (s : State) : Outcome := coreDone s (s.forceCold p)

/-- WAKE_WORD_RX (R70): the receiver resumes from its frozen state; a hub that did not start the exit answers with WAKE words.  A retrain that
waits takes the exit (R69), and a FORCE_COLD that waits acts (R76). -/
def wakeWordRx (p : Nat) (w : Word) (s : State) : State :=
  let l := s.lane p
  if fld w 34 6 = 0x0A && s.ls p = LS_DOZE then
    if l.viaRetrain then s.enterRetrain p
    else
      let s1 := ((if l.waking then s else s.sendWakes p).enterActive p).takeOver p
      s1.when l.coldAfter (State.downCold p)
  else s

def execWakeWordRx (p : Fin 18) (w : Word) (s : State) : Outcome := coreDone s (wakeWordRx p w s)

end Sys2Proof.Machine
end

