-- ==== Sys2Proof/Machine/Chord.lean ====
section
/-!
DEFINITION. The meanings of the commands of the Chord link layer (R80–R143, R612), but for Point messages.
-/
namespace Sys2Proof.Machine

/-! ## Point messages (R121, R122, R124) -/

/-- R121: a POINT word. -/
def pointWord (m : Point) (psn : Nat) : Word :=
  ctlWord 0x07 [(30, 4, m.type), (26, 4, psn), (25, 1, b2n m.oh), (19, 6, m.origin), (0, 19, m.arg)]

/-- R122: a pair of identical words, one on each lane. -/
def State.sendPair (p : Nat) (w : Word) (s : State) : State := (s.emit (.word p 0 w)).emit (.word p 1 w)

/-- POINT_SEND (R122, R124): the first message waiting is sent as a pair, at most eight in a microsecond; a resting port is woken. -/
def pointSend (p : Nat) (s : State) : State :=
  let c := s.chord p
  match c.points with
  | [] => s
  | m :: rest =>
    let st := s.ls p
    let sent := c.pointSent.filter (fun t => s.now < t + 1000)
    if st = LS_DOZE || st = LS_NAP || st = LS_DORMANT then s.linkWake p
    else if st ≠ LS_ACTIVE || 8 ≤ sent.length then s
    else
      let w := pointWord m c.psn
      ((s.onChord p (fun c => { c with
        points := rest, psn := (c.psn + 1) % 16, pointSent := sent ++ [s.now],
        pointReps := c.pointReps ++ [{ word := w, due := s.now + 100, left := 2 }] })).sendPair p w).bump (CHD_POINT_SENT p)

/-- R122: the Point messages that wait go ahead of a stream word. -/
def State.pointsFirst (p : Nat) (s : State) : State := s.each (s.chord p).points (fun _ s => pointSend p s)

/-! ## Framing (R46, R81, R82, R103) -/

/-- R45: an item of a lane that belongs to a parallel word. -/
def RxItem.parallel : RxItem → Bool
  | .express => true
  | .ctl w =>
    let k := fld w 34 6
    k = 0x01 || k = 0x02 || k = 0x03 || k = 0x08 || k = 0x0A || (k = 0x00 && fld w 31 3 ≠ 0)
  | _ => false

/-- A lane lacks a good word. -/
def RxItem.isBad (x : RxItem) : Bool := x = .bad

/-- R82, R83: a flit is complete when its length is reached, or at once where its header cannot be a flit's. -/
def flitComplete (words : List Word) : Bool :=
  match words with
  | [] => false
  | h :: _ =>
    let vc := fld h 37 3
    let len := fld h 20 5
    vc = 0 || vc = 6 || vc = 7 || len = 0 || len = 31 || words.length = len + 2

/-- A word joins the flit being framed. (Assumption log 29, DEDUCED.) -/
def State.frameWord (p : Nat) (w : Word) (bad : Bool) (s : State) : State :=
  s.onChord p (fun c =>
    let f : Framing := { words := c.framing.words ++ [w], bad := c.framing.bad || bad }
    if flitComplete f.words then { c with framing := {}, framed := c.framed ++ [(f.words, f.bad)] } else { c with framing := f })

/-- A stream item of a lane: data words are framed, a mark in a flit counts as one of its words (sent on as zero, R119), control
words are removed; a reserved code is a bad word (R81). (Assumption log 29, DEDUCED.) -/
def State.streamItem (p : Nat) (laneB : Bool) (x : RxItem) (s : State) : State :=
  let c := s.chord p
  let mark (s : State) : State := if c.void || c.framing.words = [] then s else s.frameWord p 0#40 true
  match x with
  | .bad => mark s
  | .data w => if c.void then s else s.frameWord p w false
  | .ctl w =>
    if 0x0D ≤ fld w 34 6 then mark (s.badWord p laneB) else s
  | .express => s

/-- WORD_FRAME_RX (R46, R81, R82): the next deskewed slot of both lanes.  A parallel word takes both lanes; a lane that disagrees with
the other makes both code groups bad words.  A bad code group opposite a good parallel word is taken as that word's other copy (assumption log
29, DESIGN CHOICE: the spec does not say whether the lanes then disagree). -/
def wordFrameRx (p : Nat) (s : State) : State :=
  let l := s.lane p
  let swap := l.pair0.laneB = some true
  let a := if swap then l.pair1.items else l.pair0.items
  let b := if swap then l.pair0.items else l.pair1.items
  match a, b with
  | x :: _, y :: _ =>
    let s1 := s.onLane p (fun l => { l with
      pair0 := { l.pair0 with items := l.pair0.items.drop 1 }, pair1 := { l.pair1 with items := l.pair1.items.drop 1 } })
    if !s.active p then s1
    else if (x.parallel && (y.parallel || y.isBad)) || (y.parallel && x.isBad) then
      let k := match x, y with
        | .ctl w, _ => fld w 34 6
        | _, .ctl w => fld w 34 6
        | _, _ => 0
      if k = 0x03 || k = 0x08 || k = 0x0A then s1.bump (CHD_PROTO_STRAY p) else s1
    else if x.parallel || y.parallel then
      ((((s1.badWord p false).badWord p true).streamItem p false .bad).streamItem p true .bad)
    else (s1.streamItem p false x).streamItem p true y
  | _, _ => s

def execWordFrameRx (p : Fin 18) (s : State) : Outcome := coreDone s (wordFrameRx p s)

/-! ## Flits (R83, R102, R103, R118–R120, R135) -/

/-- R132: the extended sequence of a received LSN. -/
def Chord.seqRx (c : Chord) (lsn : Nat) : Nat :=
  let d := modSub 16 lsn c.cum
  c.lsnHighRx * 65536 + c.cum + d - (if d ≤ 32768 then 65536 else 131072)

/-- R83: the form of a trailer under a key: 0 good, 1 stomped, 2 neither. -/
def State.trailerForm (s : State) (p : Nat) (key : BitVec 256) (epoch : Nat) (body : List Word) (tr : Word) : Nat :=
  let good := s.trailer p false key epoch ((s.chord p).seqRx (fld (body.headD 0) 4 16)) body
  if tr = good then 0 else if tr = ~~~good then 1 else 2

/-- R134: the receiver proceeds as though SWITCH had arrived. -/
def State.switchRx (p : Nat) (s : State) : State :=
  (s.wr (CHD_STAT_EPOCH_RX p) (s.rd (CHD_STAT_EPOCH_RX p) + 1)).onChord p (fun c => { c with
    epRx := .none, keyOld := c.keyRx, keyRx := c.keyNext, epOldUntil := some (s.now + 1000) })

/-- TAG_BURST (R135): a failed tag on words that passed parity. -/
def State.tagFail (p : Nat) (s : State) : State :=
  let l := s.now :: (s.chord p).tagFails.filter (fun t => s.now < t + ms 1)
  let s1 := ((s.bump (CHD_AUTH_TAG_FAIL p)).life (portLife p 11)).onChord p (fun c => { c with tagFails := if 16 ≤ l.length then [] else l })
  if 16 ≤ l.length then s1.ev (chordPage p) [EV_CHD_TAG_BURST] else s1

/-- R102, R120: a flit in sequence is accepted: the cumulative point, the acknowledgement, the state and the buffer. -/
def State.acceptFlit (p lsn vc len : Nat) (s : State) : State :=
  let n := (s.chord p).unacked + 1
  let s1 := s.wr (CHD_STAT_RX_STATE p) 0
  s1.onChord p (fun c => Chord.onCred vc (fun r => { r with used := r.used + dataCredits len }) { c with
    cum := lsn
    lsnHighRx := c.lsnHighRx + (if lsn = 0 then 1 else 0)
    unacked := n
    nakAgain := none
    ackDue := some (if 16 ≤ n then s.now else min (s.now + 100) (c.ackDue.getD (s.now + 100))) })

/-- R83, R98: a flit that is discarded as corrupt: counted and a loss under R103. -/
def State.discardCorrupt (p : Nat) (s : State) : State := ((s.bump (CHD_RXERR_CORRUPT p)).life (portLife p 10)).rxLoss p true

/-- A corrupt flit; R118, R119: a VC1 flit in sequence that has started cut-through, the egress credits for it being there, is forwarded
stomped, holding no credits. -/
def State.corruptFlit (p : Nat) (ws : List Word) (s : State) : State :=
  let h := ws.headD 0
  let c := s.chord p
  let f : HFlit := {
    tunnel := fld h 25 12, vc := 1, payload := (ws.drop 1).dropLast, last := fld h 2 1 = 1, poison := fld h 3 1 = 1,
    stomp := true, inPort := p, todo := [], held := false }
  let cut := fld h 37 3 = 1 && fld h 20 5 ≠ 0 && fld h 20 5 ≠ 31 && modSub 16 (fld h 4 16) c.cum = 1 && s.rdB HULL_CTL_CT_VC1 &&
    ((s.route (s.tun f.tunnel).e p).getD []).all (fun d => 18 ≤ d || s.creditsFor d f)
  (if cut then s.enterHull p f else s).discardCorrupt p

/-- FLIT_RX (R102): the oldest complete flit is checked under R83 and classified by its LSN. -/
def flitRx (p : Nat) (s : State) : State :=
  match (s.chord p).framed with
  | [] => s
  | (ws, bad) :: rest =>
    let s0 := s.onChord p (fun c => { c with framed := rest })
    let h := ws.headD 0
    let body := ws.dropLast
    let tr := ws.getLastD 0
    let vc := fld h 37 3
    let len := fld h 20 5
    let lsn := fld h 4 16
    let shape := bad || vc = 0 || vc = 6 || vc = 7 || len = 0 || len = 31
    let c := s0.chord p
    let auth := s0.rdB (CHD_STAT_AUTH p)
    let ep := s0.rd (CHD_STAT_EPOCH_RX p)
    let f0 := s0.trailerForm p c.keyRx ep body tr
    let next := auth && !shape && f0 = 2 && c.epRx = .ready && s0.trailerForm p c.keyNext ((ep + 1) % 256) body tr ≠ 2
    let form := if next then s0.trailerForm p c.keyNext ((ep + 1) % 256) body tr else f0
    let s1 := if next then s0.switchRx p else s0
    if shape then s1.corruptFlit p ws
    else if form = 2 then (s1.when auth (State.tagFail p)).corruptFlit p ws
    else
      let d := modSub 16 lsn (c.cum + 1)
      let cr := c.cred vc
      if 32768 ≤ d then (s1.bump (CHD_MISC_DUP p)).wantAck p
      else if d ≠ 0 then (s1.bump (CHD_RXERR_GAP p)).rxLoss p false
      else if cr.myCless && cr.partition < cr.used + dataCredits len then
        (s1.bump (CHD_CREDERR_CLESS_OVF p)).discardCorrupt p
      else
        let s2 := s1.acceptFlit p lsn vc len
        let f : HFlit := { tunnel := fld h 25 12, vc := vc, payload := body.drop 1, last := fld h 2 1 = 1, poison := fld h 3 1 = 1,
                           stomp := form = 1, inPort := p, todo := [] }
        if form = 1 then
          let s3 := s2.bump (CHD_POISON_RX p)
          if vc = 1 && s3.rdB HULL_CTL_CT_VC1 then s3.enterHull p f else s3.freeCredits p vc len
        else s2.enterHull p f

def execFlitRx (p : Fin 18) (s : State) : Outcome := coreDone s (flitRx p s)

/-! ## Acknowledgement -/

/-- ACK_SEND (R103): accepted flits, duplicates or express flits await acknowledgement. -/
def ackSend (p : Nat) (s : State) : State :=
  if s.active p && (s.chord p).ackDue ≠ none then (s.pointsFirst p).sendAck p false else s

def execAckSend (p : Fin 18) (s : State) : Outcome := coreDone s (ackSend p s)

/-- NAK_REPEAT (R103): no flit has been accepted for one replay-timer period since the last NAK. -/
def nakRepeat (p : Nat) (s : State) : State :=
  if s.active p && s.rd (CHD_STAT_RX_STATE p) = 1 && s.expired (s.chord p).nakAgain then
    ((s.pointsFirst p).sendNak p 0 (s.chord p).xCum).onChord p (fun c => { c with nakAgain := some (s.now + s.rd (CHD_RTT_TIMER p) * 10) })
  else s

def execNakRepeat (p : Fin 18) (s : State) : Outcome := coreDone s (nakRepeat p s)

/-- R106, R111: the acknowledging part of an ACK or a NAK of KIND 0; a purge restarts the replay timer. -/
def State.takeAck (p lsn xsn : Nat) (s : State) : State :=
  let n := (s.chord p).xReplay.length
  let s1 := (s.purgeTo p lsn).purgeX p xsn
  if (s1.chord p).xReplay.length < n then s1.restartTimer p else s1

/-- ACK_RX (R100, R103, R106). -/
def ackRx (p : Nat) (w : Word) (s : State) : State :=
  if fld w 34 6 = 0x04 && s.active p then
    let lsn := fld w 18 16
    let j := (s.chord p).judgeAck lsn
    if j = 2 then s.badAck p
    else
      let s1 := if j = 0 then s.takeAck p lsn (fld w 10 8) else s
      if fld w 9 1 = 1 then s1.onChord p (fun c => { c with void := false, framing := {} }) else s1
  else s

def execAckRx (p : Fin 18) (w : Word) (s : State) : Outcome := coreDone s (ackRx p w s)

/-! ## Epoch changes (R133, R134) -/

/-- R133: the EPOCH word. -/
def epochWord (phase e : Nat) : Word := ctlWord 0x09 [(32, 2, phase), (24, 8, e)]

/-- R133, R441: start an epoch change in the hub's transmit direction; beyond epoch 255 the port takes a cold attempt instead. -/
def State.startEpoch (p : Nat) (s : State) : State :=
  if s.rd (CHD_STAT_EPOCH_TX p) = 255 then s.forceCold p
  else
    (s.sendStream p (epochWord 1 (s.rd (CHD_STAT_EPOCH_TX p) + 1))).onChord p (fun c => { c with
      epTx := .announced, epTxAt := s.now, epRepeat := some (s.now + us 2), epDeadline := some (s.now + us 100) })

/-- EPOCH_NOW (R140): ignored with authentication off. -/
def State.epochNow (p : Nat) (s : State) : State :=
  if s.rdB (CHD_STAT_AUTH p) && s.active p && (s.chord p).epTx = .none && s.useRefusal (s.linkSlot p) 3 masterChord = none then
    s.startEpoch p
  else s

def execEpochNow (p : Fin 18) (s : State) : Outcome := coreDone s (s.epochNow p)

/-! ## Replay -/

/-- R104, R105: a replay of a transmitter that holds no entry: the RSTART ACK, which the receiver's framing waits for. -/
def State.emptyReplay (p : Nat) (s : State) : State :=
  let s1 := (((s.wr (CHD_STAT_TX_STATE p) TX_REPLAY).wrapInc (CHD_REPLAY_STARTS p)).life (portLife p 8)).onChord p (fun c => { c with
    replayNum := 0, lastOldest := none, restart := c.nextLsn })
  (s1.sendAck p true).restartTimer p

/-- REPLAY_START with the spill pool's check (R105, R109, R117): entries `bad` read from the pool with an uncorrectable error are lost,
`corr` single-bit errors are corrected, an uncorrectable header takes the port cold. -/
def State.replayFrom (p : Nat) (bad : List Nat) (corr : Nat) (hdrBad : Bool) (s0 : State) : State :=
  let s := s0.onChord p (fun c => { c with poolDue := false })
  let c := s.chord p
  let pool := c.replay.any (·.spilled)
  let hit (r : Replay) : Bool := r.spilled && !r.lost && bad.contains r.lsn
  let n := (c.replay.filter hit).length
  let s1 := if pool then s.bumpBy (CHD_SPILLERR_CORR p) corr else s
  if c.replay = [] then s.emptyReplay p
  else if pool && hdrBad then s1.forceCold p
  else
    let s2 := if n = 0 then s1 else
      (((s1.onChord p (fun c => { c with replay := c.replay.map (fun r => if hit r then { r with lost := true } else r) })).bumpBy
        (CHD_SPILLERR_LOSS p) n).ev (chordPage p) [EV_CHD_SPILL]).evNew 0x001 [EV_EVT_SPILL]
    if n ≠ 0 && s.rdB (CHD_STAT_AUTH p) then
      let s3 := ((s2.wr (CHD_STAT_TX_STATE p) TX_REPLAY).restartTimer p).onChord p (fun c => { c with epForLoss := true })
      if (s3.chord p).epTx = .none then s3.startEpoch p else s3
    else
      let (s3, force) := s2.startReplay p
      if force then s3.enterRetrain p else s3

/-- R113: resend an express entry. -/
def State.resendExpress (p : Nat) (e : XReplay) (s : State) : State := s.emit (.express p (s.expressWords p e true))

/-- R113: discard the express entries past MAX_AGE; with nothing held the replay timer stops (R108). -/
def State.dropAged (p : Nat) (s : State) : State :=
  let age := us (max 1 (s.rd (CHD_XCTL_MAX_AGE p)))
  let old := (s.chord p).xReplay.filter (fun e => e.firstAt + age < s.now)
  let s1 := s.onChord p (fun c =>
    let rest := c.xReplay.filter (fun e => s.now ≤ e.firstAt + age)
    { c with xReplay := rest, timer := if rest = [] && c.replay = [] then none else c.timer })
  s1.each old (fun _ s => (s.bump (CHD_XERR_STALE p)).ev (chordPage p) [EV_CHD_EXP_STALE])

/-- NAK_RX (R101, R106, R107, R113). (Assumption log 31, DEDUCED.) -/
def nakRx (p : Nat) (w : Word) (bad : List Nat) (corr : Nat) (hdrBad : Bool) (s : State) : State :=
  if fld w 34 6 = 0x05 && s.active p then
    let lsn := fld w 18 16
    let s0 := (s.bump (CHD_NAK_RCVD p)).ev (chordPage p) [EV_CHD_NAK_RX]
    let c := s.chord p
    let j := c.judgeAck lsn
    let tx := s.rd (CHD_STAT_TX_STATE p)
    if j = 1 then s0
    else if j = 2 then s0.badAck p
    else if fld w 9 1 = 1 then
      let s1 := (s0.purgeTo p lsn).dropAged p
      match (s1.chord p).xReplay.find? (fun e => e.xsn = fld w 10 8) with
      | some e => if s.rdB (CHD_STAT_XNAK p) then s1.resendExpress p e else s1
      | none => s1
    else if tx = TX_REPLAY && (lsn + 1) % 2 ^ 16 = c.restart then s0
    else
      let s1 := s0.takeAck p lsn (fld w 10 8)
      if (s1.chord p).epForLoss then s1 else s1.replayFrom p bad corr hdrBad
  else s

def execNakRx (p : Fin 18) (w : Word) (bad : List Nat) (corr : Nat) (hdrBad : Bool) (s : State) : Outcome :=
  coreDone s (nakRx p w bad corr hdrBad s)

/-- REPLAY_TIMER_EXPIRY (R108, R105, R113): the oldest express flit is resent, and the held flits are replayed. -/
def replayTimer (p : Nat) (bad : List Nat) (corr : Nat) (hdrBad : Bool) (s : State) : State :=
  if s.active p && s.expired (s.chord p).timer then
    let s1 := s.dropAged p
    let s2 := match (s1.chord p).xReplay with
      | e :: _ => s1.resendExpress p e
      | [] => s1
    if (s2.chord p).replay = [] || (s2.chord p).epForLoss then s2.restartTimer p
    else s2.replayFrom p bad corr hdrBad
  else s

def execReplayTimerExpiry (p : Fin 18) (bad : List Nat) (corr : Nat) (hdrBad : Bool) (s : State) : Outcome :=
  coreDone s (replayTimer p bad corr hdrBad s)

/-- REPLAY_END (R105): the last held entry has been resent. -/
def replayEnd (p : Nat) (s : State) : State :=
  if s.rd (CHD_STAT_TX_STATE p) = TX_REPLAY && !(s.chord p).epForLoss && !(s.chord p).poolDue then s.wr (CHD_STAT_TX_STATE p) TX_SEND else s

def execReplayEnd (p : Fin 18) (s : State) : Outcome := coreDone s (replayEnd p s)

/-! ## Credits -/

/-- R95: the current limit of a VC and type goes to the partner. -/
def State.sendCredit (p vc : Nat) (data : Bool) (s : State) : State :=
  let r := (s.chord p).cred vc
  let lim := (if data then r.limD + r.freedD else r.limH + r.freedH) % 2 ^ 16
  (s.sendStream p (creditWord vc data lim)).onChord p (Chord.onCred vc (fun r =>
    if data then { r with limD := lim, freedD := 0, dueD := none } else { r with limH := lim, freedH := 0, dueH := none }))

/-- CREDIT_SEND (R95): credits of VC `vc + 1` and a type have been freed since the last CREDIT word. -/
def creditSend (p : Nat) (vc : Nat) (data : Bool) (s : State) : State :=
  let r := (s.chord p).cred (vc + 1)
  if s.active p && !r.myCless && (if data then r.freedD else r.freedH) ≠ 0 then (s.pointsFirst p).sendCredit p (vc + 1) data else s

def execCreditSend (p : Fin 18) (vc : Fin 5) (data : Bool) (s : State) : Outcome := coreDone s (creditSend p vc data s)

/-- CREDIT_REPEAT (R95): every credited VC and type. -/
def creditRepeat (p : Nat) (s : State) : State :=
  if s.active p && s.due (s.chord p).creditRepeat then
    let vcs := [1, 2, 3, 4, 5].filter (fun vc => !((s.chord p).cred vc).myCless)
    ((s.pointsFirst p).each vcs (fun vc s => (s.sendCredit p vc false).sendCredit p vc true)).onChord p
      (fun c => { c with creditRepeat := some (s.now + us 10) })
  else s

def execCreditRepeat (p : Fin 18) (s : State) : Outcome := coreDone s (creditRepeat p s)

/-- R97: a LIMIT is taken only within half the range beyond CC and CL. -/
def limitOk (limit cc cl : Nat) : Bool := modSub 16 limit cc ≤ 32767 && modSub 16 limit cl ≤ 32767

/-- CREDIT_RX (R97). -/
def creditRx (p : Nat) (w : Word) (s : State) : State :=
  if fld w 34 6 = 0x06 && s.active p then
    let vc := fld w 31 3
    let data := fld w 30 1 = 1
    let lim := fld w 14 16
    let r := (s.chord p).cred vc
    if 1 ≤ vc && vc ≤ 5 && !r.cless && (if data then limitOk lim r.ccD r.clD else limitOk lim r.ccH r.clH) then
      s.onChord p (Chord.onCred vc (fun r => if data then { r with clD := lim } else { r with clH := lim }))
    else (s.bump (CHD_CREDERR_BAD_LIMIT p)).ev (chordPage p) [EV_CHD_CREDIT_ERR]
  else s

def execCreditRx (p : Fin 18) (w : Word) (s : State) : Outcome := coreDone s (creditRx p w s)

/-! ## Express copies (R89, R90, R111, R114) -/

/-- R114: with XNAK, a NAK of KIND 1 names the lowest missing XSN. -/
def State.expressNak (p : Nat) (s : State) : State :=
  if s.rdB (CHD_STAT_XNAK p) then s.sendNak p 1 (((s.chord p).xCum + 1) % 256) else s

/-- R111: advance the cumulative point over every contiguous accepted XSN. -/
def Chord.advanceX : Nat → Chord → Chord
  | 0, c => c
  | n + 1, c =>
    let x := (c.xCum + 1) % 256
    if c.xAcc.contains x then
      Chord.advanceX n { c with xCum := x, xAcc := c.xAcc.filter (· ≠ x), xsnHighRx := c.xsnHighRx + (if x = 0 then 1 else 0) }
    else c

/-- EXPRESS_LINK_ACCEPT (R111, R114): a good copy; beyond the next XSN a lower one of the window is missing. -/
def State.expressAccept (p : Nat) (ws : List Word) (s : State) : State :=
  let c := s.chord p
  let xsn := fld (ws.headD 0) 9 8
  let d := modSub 8 xsn c.xCum
  if 1 ≤ d && d ≤ 64 && !c.xAcc.contains xsn then
    let s1 := (s.onChord p (fun c => Chord.advanceX 65 { c with xAcc := xsn :: c.xAcc, xIn := c.xIn ++ [ws] })).wantAck p
    if d = 1 then s1 else s1.expressNak p
  else s

/-- R89: a tag of an express copy under a key and epoch; R111, R132: an XSN outside the window lies behind the cumulative point. -/
def State.expressTagOk (s : State) (p : Nat) (key : BitVec 256) (epoch : Nat) (ws : List Word) (tag : Word) : Bool :=
  let c := s.chord p
  let d := modSub 8 (fld (ws.headD 0) 9 8) c.xCum
  let seq := c.xsnHighRx * 256 + c.xCum + d - (if 1 ≤ d && d ≤ 64 then 256 else 512)
  tag = s.expressTag p false key epoch seq ws

/-- R90, R114: the waits that are over: a good first copy needs no other; a bad one whose other copy has not come is a loss. -/
def State.waitsOver (p : Nat) (s : State) : State :=
  let late := (s.chord p).xWait.filter (fun x => x.2.2 < s.now)
  let s1 := s.onChord p (fun c => { c with xWait := c.xWait.filter (fun x => s.now ≤ x.2.2) })
  s1.each (late.filter (fun x => !x.2.1)) (fun _ s => (s.bump (CHD_XERR_BOTH_BAD p)).expressNak p)

/-- R90, R114: a copy has been judged; the partner of a copy already seen ends the wait. (Assumption log 29, DEDUCED.) -/
def State.expressPair (p : Nat) (laneB good : Bool) (s0 : State) : State :=
  let s := s0.waitsOver p
  let w := (s.chord p).xWait
  match w with
  | x :: rest =>
    if x.1 ≠ laneB then
      let s1 := s.onChord p (fun c => { c with xWait := rest })
      if !x.2.1 && !good then (s1.bump (CHD_XERR_BOTH_BAD p)).expressNak p else s1
    else s.onChord p (fun c => { c with xWait := w ++ [(laneB, good, s.now + 20)] })
  | [] => s.onChord p (fun c => { c with xWait := [(laneB, good, s.now + 20)] })

/-- EXPRESS_COPY_RX (R89): a lane's group of 3 express words, or 4 with authentication on; a run that ends short is a bad copy.  Between READY
and SWITCH a tag under e + 1 is good too and is no SWITCH: flits may still come under e (R134 says so of flits only; assumption log 29, DESIGN
CHOICE). -/
def expressCopyRx (p : Nat) (pair : Bool) (s : State) : State :=
  let x := (s.lane p).pair pair
  let auth := s.rdB (CHD_STAT_AUTH p)
  let n := if auth then 4 else 3
  let run := x.runs.headD x.express
  let group := run.take n
  if s.active p && group ≠ [] && (group.length = n || x.runs ≠ []) then
    let s0 := s.onLane p (Lane.onPair pair (fun x => match x.runs with
      | r :: rest => { x with runs := if r.length ≤ n then rest else r.drop n :: rest }
      | [] => { x with express := x.express.drop n }))
    let laneB := x.laneB.getD pair
    let all := group.filterMap id
    let ws := all.take 3
    let shape := all.length = n && ws.getD 2 0 = ~~~(ws.getD 1 0) && fld (ws.headD 0) 37 3 = 0
    let c := s0.chord p
    let ep := s0.rd (CHD_STAT_EPOCH_RX p)
    let tag := all.getD 3 0
    let cur := !auth || s0.expressTagOk p c.keyRx ep ws tag
    let old := auth && c.epOldUntil.any (fun t => s.now ≤ t) && s0.expressTagOk p c.keyOld ((ep + 255) % 256) ws tag
    let next := auth && c.epRx = .ready && s0.expressTagOk p c.keyNext ((ep + 1) % 256) ws tag
    let good := shape && (cur || old || next)
    let s2 := if auth && all.length = n && shape && !good then s0.tagFail p else s0
    let s3 := s2.expressPair p laneB good
    if good then s3.expressAccept p ws else s3
  else s

def execExpressCopyRx (p : Fin 18) (pair : Bool) (s : State) : Outcome := coreDone s (expressCopyRx p pair s)

/-- EXPRESS_COPY_WAIT_EXPIRY (R90, R114): the second copies of flits whose first copy was bad have not come within 20 ns. -/
def expressCopyWait (p : Nat) (s : State) : State :=
  s.waitsOver p

def execExpressCopyWaitExpiry (p : Fin 18) (s : State) : Outcome := coreDone s (expressCopyWait p s)

/-- EXPRESS_ENTRY_STALE (R113): entries past MAX_AGE are discarded. -/
def execExpressEntryStale (p : Fin 18) (s : State) : Outcome := coreDone s (s.dropAged p)

/-! ## Link loss (R125–R128) -/

/-- LINK_DOWN (R126): the port enters DOWN and carries out steps 1 to 3. -/
def State.takeDown (p : Nat) (s : State) : State :=
  let s1 := if s.afterConfig p && s.ls p ≠ LS_DOWN then s.enterDown p else s
  if s1.ls p = LS_DOWN && !(s1.chord p).downDone then s1.linkDown p else s1

def execLinkDown (p : Fin 18) (s : State) : Outcome := coreDone s (s.takeDown p)

/-- R136, R163: with the link key renewed the traffic of a revoked port resumes. -/
def State.renewed (p : Nat) (s : State) : State :=
  if (s.chord p).revoked then
    let s1 := s.onChord p (fun c => { c with revoked := false, revokeAt := none })
    let ts := s1.crossing p (fun e => e.state = .rekey && !(e.path.any (fun q => q < 18 && (s1.chord q).revoked)) &&
      s1.tunKeyOk e.keyed e.keySlot)
    s1.each ts State.reopenHeld
  else s

/-- R126 step 5a: the same partner with the same settings. (Assumption log 33, DEDUCED.) -/
def State.resume (p : Nat) (s : State) : State :=
  let fresh := s.newChord p
  let e := (s.rd (CHD_STAT_EPOCH_TX p) + 1) % 256
  let s0 := if (s.chord p).downDone then s else s.linkDown p
  let s1 := ((s0.noteConfig p).wr (CHD_STAT_EPOCH_TX p) e).wr (CHD_STAT_EPOCH_RX p) ((s.rd (CHD_STAT_EPOCH_RX p) + 1) % 256)
  let s2 := s1.onChord p (fun c => { c with
    nonceRx := fresh.nonceRx, quota := fresh.quota, graceMs := fresh.graceMs, graceAt := none, downDone := false,
    nextXsn := 0, xReplay := [], xCum := 255, xAcc := [], xWait := [], xsnHighTx := 0, xsnHighRx := 0,
    epTx := .none, epRx := .none, epRepeat := none, epDeadline := none, epOldUntil := none, epForLoss := false })
  let s3 := (s2.deriveKeys p e).onChord p (fun c => { c with keyRx := s2.linkKey p (s2.rd (CHD_STAT_EPOCH_RX p)) })
  let s4 := s3.wr (CHD_STAT_GRACE p) 0
  let s5 := (s4.each (s4.crossing p (fun x => x.state = .held)) (State.endHeld p)).renewed p
  let s6 := ((s5.bump (CHD_MISC_RESUME p)).ev (chordPage p) [EV_CHD_RESUME]).bump (LANE_TRAINS_COLD_OK p)
  let s7 := s6.wr (LANE_TTIME_LAST_COLD p) (min 65535 ((s.now - (s.lane p).since) / 1000))
  (((s7.onLane p (fun l => { l with fails := 0 })).enterActive p).ev (lanePage p) [EV_LANE_ACTIVE_ENTRY]).takeOver p

/-- R155, R156: after a flush with another partner, the identities sent and received in this CONFIG stand; a leaf asks for its dock's ID anew. -/
def State.keepSent (p : Nat) (before : Ids) (s : State) : State :=
  if s.isRoot then
    let docks := before.docks.filter (fun d => d.1 = s.hubNo && d.2.1 = p && !s.ids.docks.contains d)
    let hubs := before.hubOf.filter (fun x => x.1 = p && !s.ids.hubOf.contains x)
    { s with ids := { s.ids with docks := s.ids.docks ++ docks, hubOf := s.ids.hubOf ++ hubs } }
  else if p < 16 then
    ({ s with ids := { s.ids with asked := s.ids.asked ++ [(p, s.now + us 150)] } }).sendCtrl s.hubNo 2 p 0 0 0
  else
    let l := (s.lane p).caps
    s.when (capsKind l = 2 && capsHnv l && !s.active (if p = 16 then 17 else 16)) (State.wr CHIP_STAT_HUB (capsHubNo l))

/-- LINK_RESUME (R67, R126 step 5a, R128): a cold attempt in DOWN has completed. -/
def linkResume (p : Nat) (s : State) : State :=
  let l := s.lane p
  if s.ls p = LS_DOWN && l.resumed then
    let same := l.lastKind = some (capsKind l.caps) && l.lastTag = capsTag l.caps
    if same && (s.newChord p).settings = (s.chord p).settings then s.resume p
    else
      let s0 := if (s.chord p).downDone then s else s.linkDown p
      if same then (s0.flushPort p 0x07 true).newLink p
      else (((s0.ev (lanePage p) [EV_LANE_PARTNER_CHANGED]).flushPort p 0x07 false).keepSent p s.ids).newLink p
  else s

def execLinkResume (p : Fin 18) (s : State) : Outcome := coreDone s (linkResume p s)

/-- R126 step 5b for a port in DOWN. -/
def State.endGrace (p : Nat) (s : State) : State :=
  (if (s.chord p).downDone then s else s.linkDown p).graceEnd p 0x02

/-- GRACE_EXPIRY (R126 step 5b). -/
def graceExpiry (p : Nat) (s : State) : State :=
  if s.ls p = LS_DOWN && s.expired (s.chord p).graceAt && !(s.lane p).resumed then s.endGrace p else s

def execGraceExpiry (p : Fin 18) (s : State) : Outcome := coreDone s (graceExpiry p s)

/-- FLUSH_NOW (R140): acts in DOWN. -/
def State.flushNow (p : Nat) (s : State) : State := if s.ls p = LS_DOWN then s.endGrace p else s

def execFlushNow (p : Fin 18) (s : State) : Outcome := coreDone s (s.flushNow p)

/-! ## Epoch words -/

/-- R133: READY has arrived, so SWITCH is sent and the new key is in force; the replay that waited for it starts (R117). -/
def State.switchTx (p e : Nat) (s : State) : State :=
  let s1 := ((s.sendStream p (epochWord 3 e)).wr (CHD_STAT_EPOCH_TX p) e).onChord p (fun c => { c with
    epTx := .none, epRepeat := none, epDeadline := none, keyTx := s.linkKey p e, keySlot := s.linkSlot p })
  let s2 := s1.renewed p
  if (s2.chord p).epForLoss then
    let (s3, force) := (s2.onChord p (fun c => { c with epForLoss := false })).startReplay p
    if force then s3.enterRetrain p else s3
  else s2

/-- EPOCH_RX (R133): ANNOUNCE starts the derivation, or is answered again; READY is answered with SWITCH; SWITCH puts the new key in
force. -/
def epochRx (p : Nat) (w : Word) (s : State) : State :=
  if fld w 34 6 = 0x09 && s.active p && s.rdB (CHD_STAT_AUTH p) then
    let e := fld w 24 8
    let c := s.chord p
    let nextRx := (s.rd (CHD_STAT_EPOCH_RX p) + 1) % 256
    let ph := fld w 32 2
    if ph = 1 && e = nextRx then
      if c.epRx = .ready then s.sendStream p (epochWord 2 e)
      else s.onChord p (fun c => { c with epRx := .announced, epRxAt := if c.epRx = .announced then c.epRxAt else s.now })
    else if ph = 2 && c.epTx = .announced && e = s.rd (CHD_STAT_EPOCH_TX p) + 1 then s.switchTx p e
    else if ph = 3 && c.epRx = .ready && e = nextRx then s.switchRx p
    else s
  else s

def execEpochRx (p : Fin 18) (w : Word) (s : State) : Outcome := coreDone s (epochRx p w s)

/-- ANNOUNCE_REPEAT (R133). -/
def announceRepeat (p : Nat) (s : State) : State :=
  if s.active p && (s.chord p).epTx = .announced && s.expired (s.chord p).epRepeat then
    ((s.pointsFirst p).sendStream p (epochWord 1 (s.rd (CHD_STAT_EPOCH_TX p) + 1))).onChord p (fun c => { c with epRepeat := some (s.now + us 2) })
  else s

def execAnnounceRepeat (p : Fin 18) (s : State) : Outcome := coreDone s (announceRepeat p s)

/-- EPOCH_KEY_DERIVED (R133, R441): the receiver holds key e + 1 and sends READY; R425, R440: an unusable root key abandons the derivation. -/
def epochKeyDerived (p : Nat) (s : State) : State :=
  if s.active p && (s.chord p).epRx = .announced then
    match s.useRefusal (s.linkSlot p) 3 masterChord with
    | some cause => (s.deny (s.linkSlot p) cause).onChord p (fun c => { c with epRx := .none })
    | none =>
      let e := (s.rd (CHD_STAT_EPOCH_RX p) + 1) % 256
      (s.sendStream p (epochWord 2 e)).onChord p (fun c => { c with epRx := .ready, keyNext := s.linkKey p e })
  else s

def execEpochKeyDerived (p : Fin 18) (s : State) : Outcome := coreDone s (epochKeyDerived p s)

/-- EPOCH_TIMEOUT (R134): 100 µs after ANNOUNCE a change is abandoned on either side; the sender counts it and raises AUTH_FAIL, and starts
again a change that R117 or R136 waits for. -/
def epochTimeout (p : Nat) (s0 : State) : State :=
  let s := s0.when ((s0.chord p).epRx ≠ .none && (s0.chord p).epRxAt + us 100 < s0.now) (State.onChord p (fun c => { c with epRx := .none }))
  let c := s.chord p
  if c.epTx = .announced && s.expired c.epDeadline then
    let s1 := ((s.onChord p (fun c => { c with epTx := .none, epRepeat := none, epDeadline := none })).bump
      (CHD_AUTH_EPOCH_FAIL p)).ev (chordPage p) [EV_CHD_AUTH_FAIL]
    if c.epForLoss || c.revoked then s1.epochNow p else s1
  else s

def execEpochTimeout (p : Fin 18) (s : State) : Outcome := coreDone s (epochTimeout p s)

/-- REVOKE_GRACE_EXPIRY (R136): no epoch change under a new key within the grace period: step 5b, with CAUSE 0x08. (Assumption log 33, DEDUCED.) -/
def revokeGrace (p : Nat) (s : State) : State :=
  if (s.chord p).revoked && s.expired (s.chord p).revokeAt then s.graceEnd p 0x08 else s

def execRevokeGraceExpiry (p : Fin 18) (s : State) : Outcome := coreDone s (revokeGrace p s)

end Sys2Proof.Machine
end

