-- ==== Sys2Proof/Machine/FrameOps.lean ====
section
/-!
DEFINITION. Station egress of the frame bridge (R335, R338) and the authentication of publications (R341).
-/
namespace Sys2Proof.Machine

/-- The octets of a frame's content; the encodings of the standards stay within the 1500 octets of an Ethernet frame. (Assumption log 14,
DESIGN CHOICE.) -/
def bodyBytes : Body → List Nat
  | .octets l => l
  | .sv f => (Config.svBytes f).take 1500
  | .goose f => (Config.gooseBytes f).take 1500

/-- Their number. -/
def bodyLen (b : Body) : Nat := (bodyBytes b).length

/-- R331: octets of a frame from the destination MAC through the last payload octet. -/
def frameLen (f : Frame) : Nat := 14 + (if f.tag.isSome then 4 else 0) + bodyLen f.body + (if f.red.isSome then 6 else 0)

/-- The page of a station port (0 A, 1 B). -/
def stationPage (x : Nat) : Nat := 0x0E1 + x

/-- A station port is enabled (R616). -/
def State.stationOn (s : State) (x : Nat) : Bool := s.rd (FRM_SP_CTL_MODE x) ≠ 0

/-- The octets in an egress queue of a station port. -/
def State.stationHeld (s : State) (x q : Nat) : Nat := ((s.bridge.queues.get (x * 8 + q)).map frameLen).sum

/-- R335: a frame enters a queue of a station port, or is dropped where the queue or the shared space is full. -/
def State.stationPut (x pcp : Nat) (f : Frame) (s : State) : State :=
  let n := frameLen f
  let q := pcp % 8
  let all := ((List.range 8).map (fun i => s.stationHeld x i)).sum
  if 65536 < s.stationHeld x q + n || 262144 < all + n then
    (s.bump (FRM_SP_DROP_TX x)).ev (stationPage x) [EV_FRMSP_TX_DROP]
  else { s with bridge := { s.bridge with queues := s.bridge.queues.upd (x * 8 + q) (fun l => l ++ [f]) } }

/-- R342: redundancy in force: PRP or HSR. -/
def State.redundant (s : State) : Bool := s.rd FRM_CTL_RED_MODE = 1 || s.rd FRM_CTL_RED_MODE = 2

/-- R338: a frame from the tree or of the hub goes to the station ports of a mask ([0] A, [1] B); with PRP or HSR it goes to both,
numbered by its source. -/
def State.toLan (mask pcp : Nat) (f : Frame) (s : State) : State :=
  if s.redundant then
    let n := s.bridge.seqs.get f.sa.toNat
    let s1 := { s with bridge := { s.bridge with seqs := s.bridge.seqs.set f.sa.toNat ((n + 1) % 2 ^ 16) } }
    (s1.stationPut 0 pcp { f with red := some { lanB := false, seq := n } }).stationPut 1 pcp { f with red := some { lanB := true, seq := n } }
  else s.each (maskBits 2 mask) (fun x s => s.stationPut x pcp f)

/-! ## Authentication (R341) -/

/-- A publication's content with an extension. -/
def bodyWithExt (x : Option AuthExt) : Body → Body
  | .sv f => .sv { f with ext := x }
  | .goose f => .goose { f with ext := x }
  | .octets l => .octets l

/-- The extension of a publication. -/
def bodyExt : Body → Option AuthExt
  | .sv f => f.ext
  | .goose f => f.ext
  | .octets _ => none

/-- What the MAC value covers: the frame without its extension and redundancy tag. -/
def signedFrame (f : Frame) : Frame := { f with body := bodyWithExt none f.body, red := none }

/-- R341: the extension under a key slot. -/
def State.authExt (s : State) (slot : Nat) (f : Frame) : AuthExt :=
  let c := (s.keys.slots.get slot).inUse
  { keyId := c.keyId.toNat, mac := Config.frameMac c.key (signedFrame f) }

/-- R341, R425: a frame to be sent with its extension; none: the use of the key is refused. -/
def State.signFrame (auth : Bool) (slot : Nat) (f : Frame) (s : State) : State × Option Frame :=
  if !auth then (s, some f)
  else match s.useRefusal slot 5 masterBridge with
    | some c => (s.deny slot c, none)
    | none => (s, some { f with body := bodyWithExt (some (s.authExt slot f)) f.body })

/-- R341: a received frame passes authentication under a key slot. -/
def State.checkFrame (auth : Bool) (slot : Nat) (f : Frame) (s : State) : State × Bool :=
  if !auth then (s, true)
  else match s.useRefusal slot 5 masterBridge with
    | some c => (((s.deny slot c).bump FRM_AUTH_FAIL).ev 0x0E0 [EV_FRM_AUTH_FAIL], false)
    | none =>
      if bodyExt f.body = some (s.authExt slot f) then (s, true)
      else ((s.bump FRM_AUTH_FAIL).ev 0x0E0 [EV_FRM_AUTH_FAIL], false)

end Sys2Proof.Machine
end

