-- ==== Sys2Proof/Machine/GooseOps.lean ====
section
/-!
DEFINITION. GOOSE output records (R340) and the UTC offset (R218).
-/
namespace Sys2Proof.Machine

/-- R218: the UTC offset in seconds: from PTP or TIME SEL 0x7, or from DAT_UTC where the source gives none. -/
def State.utcOffset (s : State) : Int :=
  match s.datum.utc with
  | some v => if bitOf v 18 then signed 16 v else signed 16 (s.rd DAT_UTC_OFFSET)
  | none => signed 16 (s.rd DAT_UTC_OFFSET)

/-- R344: the octets of a NAME record: the length stands in its first byte. -/
def State.nameOf (s : State) (i : Nat) : List Nat :=
  let b (o : Nat) : Nat := bitsOf (s.recW 0x0E0 5 i (o / 16) (o % 16 / 4)) (8 * (3 - o % 4)) 8
  ((List.range 63).map (fun o => b (o + 1))).take (b 0)

/-- What a GOOSE record holds. -/
def State.goose (s : State) (r : Nat) : GooseRun := s.bridge.goose.get r
/-- Change what a GOOSE record holds. -/
def State.onGoose (r : Nat) (f : GooseRun → GooseRun) (s : State) : State :=
  { s with bridge := { s.bridge with goose := s.bridge.goose.upd r f } }

/-- R344: T1 and T0 of an output record. -/
def State.gooseT1 (s : State) (r : Nat) : Nat := bitsOf (s.gooseW r 6) 8 8
def State.gooseT0 (s : State) (r : Nat) : Nat := bitsOf (s.gooseW r 7) 0 16

/-- R340: the frame of an output record. -/
def State.gooseFrame (s : State) (r stNum sqNum ttl : Nat) : Frame :=
  let x := s.goose r
  { da := BitVec.ofNat 48 (bitsOf (s.gooseW r 1) 0 16 * 2 ^ 32 + s.gooseW r 2), sa := Config.hubMac,
    tag := some (bitsOf (s.gooseW r 6) 17 3, bitsOf (s.gooseW r 6) 20 12), etherType := 0x88B8,
    body := .goose {
      appid := bitsOf (s.gooseW r 1) 16 16, gocbRef := s.nameOf (bitsOf (s.gooseW r 5) 20 10),
      datSet := s.nameOf (bitsOf (s.gooseW r 5) 10 10), goId := s.nameOf (bitsOf (s.gooseW r 5) 0 10), ttl := ttl, t := x.t,
      stNum := stNum, sqNum := sqNum, sim := false, confRev := s.gooseW r 4, ndsCom := false,
      data := [.bool x.stVal, .quality x.q, .other] } }

/-- GOOSE_PUBLISH, GOOSE_RETRANSMIT (R340): send the dataset; a change starts a new stNum and the interval T1. -/
def State.gooseSend (r : Nat) (change : Bool) (s : State) : State :=
  let st := if change then (s.recW 0x0E0 7 r 0 0 + 1) % 2 ^ 32 else s.recW 0x0E0 7 r 0 0
  let sq := if change then 0 else (s.recW 0x0E0 7 r 0 1 + 1) % 2 ^ 32
  let iv := if change then s.gooseT1 r else min (2 * (s.goose r).interval) (s.gooseT0 r)
  let s1 := s.onGoose r (fun x => { x with interval := iv, nextAt := some (s.now + ms iv) })
  let s2 := (s1.setRec 0x0E0 7 r 0 0 st).setRec 0x0E0 7 r 0 1 sq
  let (s3, o) := s2.signFrame (bitOf (s.gooseW r 0) 13) (bitsOf (s.gooseW r 0) 0 8) (s2.gooseFrame r st sq (3 * iv))
  match o with
  | some f => s3.toLan (bitsOf (s.gooseW r 0) 28 2) (bitsOf (s.gooseW r 6) 17 3) f
  | none => s3

/-- R340: a change of stVal or quality is published. -/
def State.goosePublish (r : Nat) (stVal : Bool) (q : Nat) (t : Int) (s : State) : State :=
  let x := s.goose r
  if x.nextAt.isSome && x.stVal = stVal && x.q = q then s
  else (s.onGoose r (fun x => { x with stVal := stVal, q := q, t := t })).gooseSend r true

/-- R269, R340: an output record acts on an accepted flit: ESN, OPCODE, EVSEQ, FLAGS, SUSPECT, ingress time in ns of Datum; the flit that
confirms the SUSPECT one on which it has acted (R268) publishes good. -/
def State.gooseAct (r esn opcode evseq flags : Nat) (suspect : Bool) (t : Nat) (s : State) : State :=
  let g := bitsOf (s.gooseW r 0) 20 8
  let k := s.sink (16 + r)
  match k.order g evseq (flags % 64 = bitsOf (s.gooseW r 0) 14 6) with
  | none => s.bump EXP_DEDUP_OLD_EVENT
  | some (x, act) =>
    let confirms : Bool := !suspect && !act && x.acted && x.doubt = some esn
    let y : XSeen := { x with doubt := if act then (if suspect then some esn else none) else if confirms then none else x.doubt }
    let s1 := s.onSink (16 + r) (fun k => { k with seen := k.seen.set g (some y) })
    if !act && !confirms then s1
    else
      let opT := bitsOf (s.gooseW r 3) 24 8
      let opF := bitsOf (s.gooseW r 3) 16 8
      let s2 := s1.onGroup g (fun z => { z with evActed := evseq })
      if opcode = opT || opcode = opF then
        s2.goosePublish r (opcode = opT) ((if suspect then 3 else 0) + (if bitOf flags 7 then 0x800 else 0)) ((t : Int) - s.utcOffset * 1000000000)
      else s2

end Sys2Proof.Machine
end

