-- ==== Sys2Proof/Machine/ExpressOps.lean ====
section
/-!
DEFINITION. The congruent pair (R259–R284): decision, release, sources, mismatches, checkpoints and spare C.
-/
namespace Sys2Proof.Machine

/-! ## Flits (R87, R259, R260) -/

/-- Fields of words 1 and 2. -/
def XFlit.tunnel (x : XFlit) : Nat := fld x.hdr 25 12
def XFlit.esn (x : XFlit) : Nat := fld x.hdr 17 8
def XFlit.suspect (x : XFlit) : Bool := fld x.hdr 7 1 = 1
def XFlit.opcode (x : XFlit) : Nat := fld x.payload 32 8
def XFlit.evseq (x : XFlit) : Nat := fld x.payload 8 24
def XFlit.flags (x : XFlit) : Nat := fld x.payload 0 8

/-- R261: the header as the hub sends it: TUNNEL, ESN, SUSPECT; XSN and REPLAYED are the link's, [6:0] are 0. -/
def XFlit.clean (x : XFlit) : XFlit := { x with hdr := x.hdr &&& 0xFFFFFE0080#40 }

/-- R277: the flit with SUSPECT = 1. -/
def XFlit.suspected (x : XFlit) : XFlit := { x with hdr := x.hdr ||| 0x80#40 }

/-- R259: a reserved OPCODE. -/
def opReserved (op : Nat) : Bool := op = 0 || (0x09 ≤ op && op ≤ 0x7F)

/-! ## Journal and checkpoints (R279, R280) -/

/-- The current bank. -/
def State.bankCur (s : State) : Option Bank := if s.rd EXP_STAT_CKPT_BANK = 0 then s.express.bank0 else s.express.bank1
/-- The other bank. -/
def State.bankOther (s : State) : Option Bank := if s.rd EXP_STAT_CKPT_BANK = 0 then s.express.bank1 else s.express.bank0

/-- R280, R276: write a journal entry, whose words A and B compare; one that finds 256 is not written. -/
def State.journalAdd (port verdict : Nat) (x : XFlit) (s0 : State) : State :=
  if !s0.compared then s0
  else
    let s := match s0.upsetAt 7 with | some y => s0.noteMismatch y port x.tunnel | none => s0
    let e := s.express
    if 256 ≤ e.journal.length then { s with express := { e with made := e.made + 1, lost := some e.made } }
    else
      let j : JEntry := { num := e.made, port := port, words := [x.hdr, x.payload, ~~~x.payload], at_ := s.now, verdict := verdict }
      { s with express := { e with made := e.made + 1, journal := e.journal ++ [j] } }.wr EXP_STAT_JOURNAL (e.journal.length + 1)

/-- CHECKPOINT_WRITE (R279): a bank with the present state replaces the other one and becomes current; the journal keeps the entries
since the start of the bank that was current. -/
def State.writeBank (index : Nat) (s : State) : State :=
  let e := s.express
  let b : Bank := {
    index := index, number := (e.ckpts + 1) % 2 ^ 16, second := s.rd EXP_STAT_CKPT_BANK = 0, start := e.made, groups := e.groups,
    sinks := e.sinks, levels := s.pins.driven, sent := e.sent, handoff := e.handoff }
  let from_ := match s.bankCur with | some c => c.start | none => 0
  let j := e.journal.filter (fun x => from_ ≤ x.num)
  let cur := s.rd EXP_STAT_CKPT_BANK
  let e1 := { e with ckpts := (e.ckpts + 1) % 2 ^ 16, journal := j }
  let e2 := if cur = 0 then { e1 with bank1 := some b } else { e1 with bank0 := some b }
  ((({ s with express := e2 }).wr EXP_STAT_CKPT_BANK (1 - cur)).wr EXP_STAT_CKPT_INDEX index).wr EXP_STAT_JOURNAL j.length

/-- R280: the journal is intact for a bank. -/
def State.journalIntact (s : State) (b : Bank) : Bool := match s.express.lost with | some n => n < b.start | none => true

/-- R284: the bank that spare C may use. -/
def State.usableBank (s : State) (m : Mismatch) : Option Bank :=
  match s.bankCur, s.bankOther with
  | some c, o =>
    if !m.curBad then some c
    else match o with
      | some b => if !m.otherBad && (b.number + 1) % 2 ^ 16 = c.number && !m.journalBad && s.journalIntact b then some b else none
      | none => none
  | none, _ => none

/-! ## Takeover (R281, R282) -/

/-- R282: send SPARE_TAKEOVER with a phase (1 START, 2 DONE, 3 RESTORED). -/
def State.sendTakeover (phase index : Nat) (s : State) : State :=
  let ports := ((List.range 16) ++ (if s.isRoot then [16, 17] else s.ids.carry.toList)).filter s.active
  s.pointTo { type := 6, oh := true, origin := s.hubNo, arg := packNat [(17, 2, phase), (16, 1, s.rd EXP_CTL_POLICY), (0, 16, index)] } ports

/-- SPARE_TAKEOVER (R281 steps 1–3): spare C is released; with no usable bank CKPT_FAIL is raised (R284).  The times of steps 4 and 6
are free within their bounds. (Assumption log 43, DEDUCED.) -/
def State.startTakeover (m : Mismatch) (s : State) : State :=
  let b := s.usableBank m
  let d := s.freeValue % 1001
  let e := s.freeValue / 1024 % 1001
  let idx := match b with | some b => b.index % 2 ^ 16 | none => s.rd EXP_STAT_CKPT_INDEX
  let s1 := { s.drawn with express := { s.express with
    takeover := some { startAt := s.now, dualAt := s.now + d, doneAt := s.now + d + e, index := idx } } }
  let s2 := ((s1.wr EXP_STAT_ENGINES 1).sendTakeover 1 idx).ev expPage [EV_EXP_TAKEOVER_START]
  match b with
  | some _ => s2
  | none =>
    (({ s2 with express := { s2.express with groups := s2.express.groups.mapVals (fun _ g => { g with last := none, seen := [] }) } }).ev
      expPage [EV_EXP_CKPT_FAIL]).life 0x42

/-- R281: a mismatch that is to start the takeover does so. -/
def State.startDue (s : State) : State :=
  match s.express.due with
  | some m => ({ s with express := { s.express with due := none } }).startTakeover m
  | none => s

/-- MISMATCH (R277): recorded and raised; with SPARE_EN the pair's first mismatch starts the takeover. -/
def State.mismatch (m : Mismatch) (port tunnel : Nat) (s : State) : State := (s.noteMismatch m port tunnel).startDue

/-- R279, R280, R276: the pair writes a checkpoint, whose words it compares, unless a mismatch falls in the same cycle. -/
def State.checkpoint (index : Nat) (s : State) : State :=
  match s.upsetAt 7 with
  | some y => s.mismatch y 0 0
  | none => if s.engines = 0 && s.express.mmAt ≠ some s.now then s.writeBank index else s

/-! ## Into Q0 (R271) -/

/-- R271, R136: a decided flit enters Q0 of an egress port, or is dropped for that branch. -/
def State.enterQ0 (x : XFlit) (d : Nat) (s : State) : State :=
  let l := s.compass.queues.get (qKey d 0)
  if !s.active d then (s.bump EXP_DROP_INACTIVE).ev expPage [EV_EXP_DROP]
  else if (s.chord d).revoked then s.bump (CHD_DROP_VC0 d)
  else if 32 ≤ l.length then (s.bump EXP_DROP_QFULL).ev expPage [EV_EXP_DROP]
  else
    let y := x.clean
    let ws := [y.hdr, y.payload] ++ (if y.comp = 0 then [] else [y.comp])
    let f : HFlit := { tunnel := x.tunnel, vc := 0, payload := ws, last := true, inPort := 19, todo := [], held := false }
    (s.wr (EXP_QMAX_QMAX d) (max l.length (s.rd (EXP_QMAX_QMAX d)))).setQueue d 0 (l ++ [{ f := f, at_ := s.now }])

/-- R288: the hand-off of a flit to the frame bridge, whose output records act on it. (Assumption log 43, DEDUCED.) -/
def State.handOff (x : XFlit) (s : State) : State :=
  s.each (s.gooseOuts (groupOf x.tunnel)) (fun r s => s.gooseAct r x.esn x.opcode x.evseq x.flags x.suspect s.datum.whole)

/-- A flit leaves the pair towards egress ports. -/
def State.emitX (x : XFlit) (ports : List Nat) (s : State) : State := s.each ports (fun d s => s.enterQ0 x d)

/-- R281 step 4: C emits what it has re-decided since M, clean. -/
def State.emitFenced (k : Takeover) (s : State) : State :=
  s.each k.fenced (fun f s => (s.emitX f.2.1 (f.2.2.filter (· < 18))).when (f.2.2.contains 20) (State.handOff f.2.1))

/-- R281 steps 4–6, as far as the model's clock has come. (Assumption log 43, DEDUCED.) -/
def State.spareProgress (s0 : State) : State :=
  let s := s0.startDue
  match s.express.takeover with
  | none => s
  | some k =>
    let s1 := if !k.dual && k.dualAt ≤ s.now then
        ({ s with express := { s.express with takeover := some { k with dual := true, fenced := [] } } }).emitFenced k
      else s
    if k.doneAt ≤ s.now then
      let s2 := ({ s1 with express := { s1.express with takeover := none } }).wr EXP_STAT_ENGINES 2
      let s3 := (((s2.bump EXP_COUNT_TAKEOVER).life 0x41).wr EXP_TAKEOVER_TOTAL (k.doneAt - k.startAt)).wr EXP_TAKEOVER_DUAL (k.doneAt - k.dualAt)
      (s3.sendTakeover 2 k.index).ev expPage [EV_EXP_TAKEOVER_DONE]
    else s1

/-! ## De-duplication (R267, R268) -/

/-- The verdict on an ESN: 0 duplicate, 1 new, 2 stale, 3 late, 4 confirmation. -/
def XGroup.verdict (g : XGroup) (esn : Nat) (suspect : Bool) : Nat :=
  match g.last with
  | none => 1
  | some l =>
    let d := modSub 8 esn l
    let before := g.seen.find? (fun x => x.1 = esn)
    if 1 ≤ d && d ≤ 127 then 1
    else if 128 ≤ d && d ≤ 191 then 2
    else match before with
      | some (_, wasSuspect) => if wasSuspect && !suspect then 4 else 0
      | none => if d = 0 then 0 else 3

/-- The map after an ESN has been accepted. -/
def XGroup.accept (g : XGroup) (esn : Nat) (suspect : Bool) (verdict : Nat) : XGroup :=
  let last := if verdict = 1 then esn else g.last.getD esn
  let kept := (if g.last.isNone then [] else g.seen).filter (fun x => x.1 ≠ esn && modSub 8 last x.1 ≤ 64)
  { g with last := some last, seen := kept ++ [(esn, suspect)] }

/-! ## Sinks (R269, R286) -/

/-- R286: a sink pin acts on an opcode. -/
def State.pinAct (n op : Nat) (s : State) : State :=
  if op = s.pinOn n then
    (s.onSink n (fun k => { k with
      pulseEnd := if s.pinPulse n then some (s.now + us (s.pinWidth n)) else none })).setSink n true
  else if op = s.pinOff n && s.pinOff n ≠ 0 then (s.onSink n (fun k => { k with pulseEnd := none })).setSink n false
  else s

/-- R269, R286: a sink pin meets an accepted flit. -/
def State.pinSink (n : Nat) (x : XFlit) (s : State) : State :=
  let g := groupOf x.tunnel
  let may : Bool := x.flags % 64 = s.pinElement n && (!bitOf x.flags 7 || s.pinActTest n) && (!x.suspect || s.pinActSuspect n)
  match (s.sink n).order g x.evseq may with
  | none => s.bump EXP_DEDUP_OLD_EVENT
  | some (y, act) =>
    let s1 := s.onSink n (fun k => { k with seen := k.seen.set g (some y) })
    if act then (s1.onGroup g (fun z => { z with evActed := x.evseq })).pinAct n x.opcode else s1

/-! ## Decision and release (R261, R265, R271, R275, R277) -/

/-- R265: the hub is the first on the tunnel's path for a flit from a port. -/
def State.firstHub (s : State) (e : Entry) (p : Nat) : Bool :=
  p = 19 || p = 20 || (p = e.inPort && s.rd (LANE_STAT_PARTNER_KIND p) = 0)

/-- R277: A's words of a flit with a mismatch at a word. -/
def XFlit.asA (x : XFlit) (m : Mismatch) : XFlit :=
  if m.point = 2 && m.word.val = 1 then { x with hdr := x.hdr ^^^ m.flip }
  else if m.point = 2 && m.word.val = 2 then { x with payload := x.payload ^^^ m.flip }
  else if m.point = 2 && m.word.val = 3 then { x with comp := m.flip } else x

/-- R275, R277, R281: an accepted flit leaves the pair. -/
def State.releaseX (port : Nat) (x : XFlit) (ds : List Nat) (m : Option Mismatch) (s : State) : State :=
  let ports := ds.filter (fun d => d ≠ port && d < 18)
  let bridge := ds.contains 20 && port ≠ 20
  let hold := match m with | some y => 1 ≤ y.point.val && y.point.val ≤ 4 | none => false
  let holdBridge := hold || (match m with | some y => y.point.val = 6 | none => false)
  let fwd := s.rd EXP_CTL_POLICY = 1
  let bad := match m with | some y => (x.asA y).suspected | none => x
  let s1 := if !hold then s.emitX x ports else if fwd then s.emitX bad ports else s
  let s2 := if !bridge then s1 else if !holdBridge then s1.handOff x else if fwd then s1.handOff bad else s1
  match s2.express.takeover with
  | none => s2
  | some k =>
    if k.dual then (s2.emitX x ports).when bridge (State.handOff x)
    else
      { s2 with express := { s2.express with takeover := some { k with fenced := k.fenced ++ [(port, x, (if bridge then [20] else []) ++ ports)] } } }

/-- R276: an internal source, whose flit has its ESN and EVSEQ compared and no verdict. -/
def ownPort (port : Nat) : Bool := port = 19 || port = 20

/-- R276: the disagreement that shows at a flit which the pair decides: of routing, words, verdict or numbering, and of the hand-off. -/
def State.flitUpset (s : State) (port : Nat) (ds : List Nat) : Option Mismatch :=
  (((s.upsetAt 1).or (s.upsetAt 2)).or (if ownPort port then s.upsetAt 4 else s.upsetAt 3)).or
    (if ds.contains 20 && port ≠ 20 then s.upsetAt 6 else none)

/-- An accepted flit: supervision, sinks, release. (Assumption log 43, DEDUCED.) -/
def State.acceptX (port : Nat) (x : XFlit) (ds : List Nat) (s : State) : State :=
  let g := groupOf x.tunnel
  let e := (s.tun x.tunnel).e
  let forced : Option Mismatch :=
    if s.express.force && s.compared && ds.any (fun d => d ≠ port && (d < 18 || d = 20)) then some { point := 2, word := 1, flip := 1 } else none
  let m1 := match forced with
    | some y => some y
    | none => s.flitUpset port ds
  let s1 := if forced.isSome then { s with express := { s.express with force := false } } else s
  let s2 := match m1 with | some y => s1.mismatch y port x.tunnel | none => s1
  let s3 := s2.onGroup g (fun y => { y with flits := (y.flits + 1) % 2 ^ 16, at_ := some s.now, superAt := s.superNext e })
  (s3.each (s3.sinkPins g) (fun n s => s.pinSink n x)).releaseX port x ds m1

/-- R276, R277: a flit that is dropped on its verdict, on which the engines disagree: under FORWARD_SUSPECT it is released where A has
accepted it. (Assumption log 43, DEDUCED.) -/
def State.dropUpset (port : Nat) (x : XFlit) (ds : List Nat) (s : State) : State :=
  match (if ownPort port then s.upsetAt 4 else s.upsetAt 3) with
  | none => s
  | some y =>
    let s1 := s.mismatch y port x.tunnel
    if s.rd EXP_CTL_POLICY = 1 && y.flip ≠ 0 then
      (s1.emitX x.suspected (ds.filter (fun d => d ≠ port && d < 18))).when (ds.contains 20 && port ≠ 20) (State.handOff x.suspected)
    else s1

/-- A flit from a port or an internal source, whose entry accepts it, is judged (R261, R265, R267, R268). -/
def State.judgeX (port : Nat) (x : XFlit) (ds : List Nat) (s : State) : State :=
  let g := groupOf x.tunnel
  let own := ownPort port
  if opReserved x.opcode then (((s.journalAdd port 6 x).bump EXP_DROP_BAD_OP).ev expPage [EV_EXP_DROP]).dropUpset port x ds
  else
    let v := if own then 5 else (s.group g).verdict x.esn x.suspect
    if v = 0 then (((s.journalAdd port 0 x).bump EXP_DEDUP_DUP).onGroup g (fun y => { y with dups := satAdd 16 y.dups 1 })).dropUpset port x ds
    else if v = 2 then ((s.journalAdd port 2 x).bump EXP_DEDUP_STALE).dropUpset port x ds
    else
      let s1 := if own then s else s.onGroup g (fun y => y.accept x.esn x.suspect v)
      let near := match (s.group g).at_ with | some t => s.now < t + 900 | none => false
      if near && s.firstHub (s.tun x.tunnel).e port then
        (((s1.journalAdd port 6 x).bump EXP_DROP_SPACING).ev expPage [EV_EXP_SPACING]).dropUpset port x ds
      else (s1.journalAdd port v x).acceptX port x ds

/-- R169, R267: a flit that Chord delivers, or an internal source sends, at a Hull port. (Assumption log 43, DEDUCED.) -/
def State.decideX (port : Nat) (x : XFlit) (s : State) : State :=
  let e := (s.tun x.tunnel).e
  let f : HFlit := { tunnel := x.tunnel, vc := 0, payload := [], last := true, inPort := port, todo := [], held := false }
  if e.state ≠ .opened then s.dropFlit port f false
  else if e.vc ≠ 0 then s.dropFlit port f true
  else match s.route e port with
    | none => s.dropFlit port f true
    | some ds => (s.judgeX port x.clean ds).startDue

/-! ## Sources (R262–R264, R285, R288) -/

/-- The opcode and the flags (TEST, ELEMENT) of a source's state now: a pin's level, or what the bridge presented last. (Assumption log 40, DEDUCED.) -/
def State.sourceState (s : State) (origin : Nat) : Nat × Nat :=
  if origin < 16 then
    let on := bitOf s.pins.level origin ≠ s.rdB (EVP_CFG_POL origin)
    (if on then s.pinOn origin else s.pinOff origin, s.pinElement origin)
  else
    let x := s.goose (origin - 16)
    (x.op, (if x.test then 128 else 0) + bitsOf (s.gooseW (origin - 16) 0) 14 6)

/-- R262: send a flit of the source of a group with its present opcode, flags and EVSEQ. -/
def State.sendSource (g : Nat) (repeated : Bool) (s : State) : State :=
  let e := (s.tun (0x100 + g)).e
  let src := (s.group g).src
  let x : XFlit := {
    hdr := pack [(25, 12, 0x100 + g), (17, 8, src.esn)]
    payload := pack [(32, 8, src.opcode), (8, 24, src.evseq), (0, 8, src.flags + (if repeated then 64 else 0))] }
  let s1 := s.onGroup g (fun y => { y with src := { y.src with esn := (y.src.esn + 1) % 256, lastStart := some s.now } })
  s1.decideX e.inPort x

/-- The source of a group may send: its tunnel is OPEN with an internal IN_PORT. -/
def State.sourceReady (s : State) (g : Nat) : Bool :=
  let e := (s.tun (0x100 + g)).e
  e.state = .opened && (e.inPort = 19 || e.inPort = 20)

/-- R262, R263: send a new event that covers `n` events; OP_OFF 0x00 sends nothing (R285). -/
def State.newEvent (g origin n : Nat) (s : State) : State :=
  let (op, fl) := s.sourceState origin
  let s1 := s.onGroup g (fun y => { y with src := { y.src with deferred := none, covers := 0 } })
  if op = 0 then s1
  else
    let hb := (s.tun (0x100 + g)).e.hb
    let s2 := if origin < 16 then
        { s1 with express := { s1.express with sent := s1.express.sent.set origin (some (bitOf s.pins.level origin, s.short)) } }
      else s1
    (s2.onGroup g (fun y => { y with src := { y.src with
      origin := origin, opcode := op, flags := fl, begun := true, quiet := false
      evseq := if y.src.begun then (y.src.evseq + n) % 2 ^ 24 else 0
      repeats := [s.now + us 20, s.now + us 200, s.now + ms 2]
      beatAt := if hb ≤ 10 then some (s.now + ms 2 + ms (2 ^ hb)) else none } })).sendSource g false

/-- R264, R285: an event arises at an internal source; `edge`: a pin's, whose merging with a deferred flit is counted. -/
def State.sourceEvent (g origin : Nat) (edge : Bool) (s : State) : State :=
  let src := (s.group g).src
  if !s.sourceReady g then s
  else match src.deferred with
    | some _ =>
      (s.onGroup g (fun y => { y with src := { y.src with covers := y.src.covers + 1, origin := origin } })).when edge (State.bump EXP_DROP_SPACING)
    | none =>
      match src.lastStart with
      | some t =>
        if s.now < t + 1000 then s.onGroup g (fun y => { y with src := { y.src with deferred := some (t + 1000), covers := 1, origin := origin } })
        else s.newEvent g origin 1
      | none => s.newEvent g origin 1

end Sys2Proof.Machine
end

