-- ==== Sys2Proof/Machine/Express.lean ====
section
/-!
DEFINITION. The meanings of the commands of the express adapter (R259–R293).
-/
namespace Sys2Proof.Machine

/-- EXPRESS_FLIT_RX (R267, R271): the oldest express flit that Chord has accepted on a port reaches the pair; `m`: a disagreement of
its engines, which shows at the next comparison at its point. (Assumption log 43, DEDUCED.) -/
def expressFlitRx (p : Nat) (m : Option Mismatch) (s : State) : State :=
  match (s.chord p).xIn with
  | [] => s
  | ws :: rest => ((s.onChord p (fun c => { c with xIn := rest })).disagree m).decideX p { hdr := ws.getD 0 0, payload := ws.getD 1 0 }

def execExpressFlitRx (p : Fin 18) (m : Option Mismatch) (s : State) : Outcome := unitDone s (expressFlitRx p m s)

/-- GATE_OVERRUN (R312): express words delay the flit that is being sent on a port; carried past its gate's closing it is counted
once. -/
def State.delayFlit (p n : Nat) (s : State) : State :=
  match s.compass.sending.get p with
  | none => s
  | some k =>
    if k.until_ ≤ s.now then s
    else
      let u := k.until_ + n
      let past := match k.closeAt with | some c => c < u && !k.overrun | none => false
      let s1 := { s with compass := { s.compass with sending := s.compass.sending.set p (some { k with until_ := u, overrun := k.overrun || past }) } }
      if past then (s1.bump (CMP_GCL_CNT_OVERRUN p)).ev (0x0A1 + p) [EV_CMPP_OVERRUN] else s1

/-- EXPRESS_Q0_START (R272): the head flit of Q0 takes the lanes of an ACTIVE port; `ecc`: the errors found in Q0, of which an uncorrectable one
discards the flit (R147). -/
def expressQ0Start (p : Nat) (ecc : EccErrors) (s : State) : State :=
  match s.compass.queues.get (qKey p 0) with
  | [] => s
  | x :: rest =>
    if !s.active p || (s.chord p).revoked || (s.chord p).quiet || s.power.asleep ≠ 0 then s
    else
      let n := if s.rdB (CHD_STAT_AUTH p) then 8 else 6
      let s1 := (s.noteEcc ecc x.f).setQueue p 0 rest
      match s.afterEcc ecc x.f with
      | none => s1
      | some f => (s1.sendExpress p (f.payload.getD 0 0) (f.payload.getD 1 0) (f.payload.getD 2 0)).delayFlit p n

def execExpressQ0Start (e : EgressStart) (s : State) : Outcome := unitDone s (expressQ0Start e.port e.ecc s)

/-- FORCE_MISMATCH (R289). -/
def forceMismatch (s : State) : State :=
  if s.coreOn && s.compared then { s with express := { s.express with force := true } } else s

def execForceMismatch (s : State) : Outcome := unitDone s (forceMismatch s)

/-! ## Restoration (R283) -/

/-- RESTORE (R283): self-test of A and B; ignored unless C decides alone. -/
def restore (s : State) : State :=
  if s.coreOn && s.engines = 2 then
    { s with express := { s.express with testing := true } }.wr EXP_STAT_ENGINES 3
  else s

def execRestore (s : State) : Outcome := unitDone s (restore s)

/-- R283: restoration has failed, and C goes on deciding. -/
def State.restoreFail (s : State) : State :=
  ({ s with express := { s.express with testing := false, awaiting := false, rerun := none } }.wr EXP_STAT_ENGINES 2).ev
    expPage [EV_EXP_RESTORE_FAIL]

/-- RESTORE_SELFTEST_DONE (R283): a pass leads to restoration at the next tick. -/
def restoreSelftestDone (pass : Bool) (s : State) : State :=
  if !s.express.testing then s
  else if pass then { s with express := { s.express with testing := false, awaiting := true } }
  else s.restoreFail

def execRestoreSelftestDone (pass : Bool) (s : State) : Outcome := unitDone s (restoreSelftestDone pass s)

/-- RESTORE_HANDBACK (R283 steps 3 and 4): A and B have re-run the journal and agree or not. -/
def restoreHandback (good : Bool) (s : State) : State :=
  match s.express.rerun with
  | none => s
  | some i =>
    if good then
      ((({ s with express := { s.express with rerun := none, upset := none, due := none } }.wr EXP_STAT_ENGINES 0).bump EXP_COUNT_RESTORE).sendTakeover 3
        (i % 2 ^ 16)).ev expPage [EV_EXP_RESTORED]
    else s.restoreFail

def execRestoreHandback (good : Bool) (s : State) : Outcome := unitDone s (restoreHandback good s)

/-- EXTRA_CHECKPOINT (R280): 96 journal entries since the start of the current checkpoint. -/
def extraCheckpoint (s : State) : State :=
  let from_ := match s.bankCur with | some b => b.start | none => 0
  if from_ + 96 ≤ s.express.made then s.checkpoint (s.lattice.last.getD 0 % 2 ^ 32) else s

def execExtraCheckpoint (s : State) : Outcome := unitDone s (extraCheckpoint s)

/-! ## Sources (R263, R264) -/

/-- The source of a group may start a flit: 1 µs since its last (R264). -/
def State.spaced (s : State) (g : Nat) : Bool := match (s.group g).src.lastStart with | some t => t + 1000 ≤ s.now | none => true

/-- EXPRESS_REPEAT (R263). -/
def expressRepeat (g : Nat) (s : State) : State :=
  match (s.group g).src.repeats with
  | [] => s
  | t :: rest =>
    if t ≤ s.now && s.spaced g then
      let s1 := s.onGroup g (fun y => { y with src := { y.src with repeats := rest } })
      if s.sourceReady g then s1.sendSource g true else s1
    else s

def execExpressRepeat (g : Fin 256) (s : State) : Outcome := unitDone s (expressRepeat g s)

/-- HEARTBEAT (R263). -/
def heartbeat (g : Nat) (s : State) : State :=
  let src := (s.group g).src
  if s.due src.beatAt && s.spaced g && s.sourceReady g && src.begun && !src.quiet then
    (s.onGroup g (fun y => { y with src := { y.src with
      beatAt := (src.beatAt).map (· + ms (2 ^ (s.tun (0x100 + g)).e.hb)) } })).sendSource g true
  else s

def execHeartbeat (g : Fin 256) (s : State) : Outcome := unitDone s (heartbeat g s)

/-- EXPRESS_DEFERRED_SEND (R264, R262): the event deferred is sent with the state now. -/
def expressDeferredSend (g : Nat) (s : State) : State :=
  let src := (s.group g).src
  if s.due src.deferred && s.sourceReady g then s.newEvent g src.origin src.covers else s

def execExpressDeferredSend (g : Fin 256) (s : State) : Outcome := unitDone s (expressDeferredSend g s)

/-! ## Sinks (R286, R287) -/

/-- PIN_PULSE_END (R286). -/
def pinPulseEnd (n : Nat) (s : State) : State :=
  if s.expired (s.sink n).pulseEnd then (s.onSink n (fun k => { k with pulseEnd := none })).setSink n false else s

def execPinPulseEnd (n : Fin 16) (s : State) : Outcome := unitDone s (pinPulseEnd n.val s)

/-- SUPERVISION_LOSS (R287, R340). -/
def supervisionLoss (g : Nat) (s : State) : State :=
  let outs := s.gooseOuts g
  if !s.expired (s.group g).superAt then s
  else
    let s0 := s.onGroup g (fun y => { y with superAt := none })
    if s.sinkPins g = [] && outs = [] then s0
    else
      let s1 := ((s0.bump EXP_SUPER_MISSES).wr EXP_SUPER_GROUP g).ev expPage [EV_EXP_SUPERVISION]
      (s1.sinksFall g).each outs (fun r s => s.goosePublish r (s.goose r).stVal 0x41 ((s.datum.whole : Int) - s.utcOffset * 1000000000))

def execSupervisionLoss (g : Fin 256) (s : State) : Outcome := unitDone s (supervisionLoss g s)

/-! ## Records (R292, R293) -/

/-- EXP_READ (R292): a GROUP_STAT or PIN record into EXP_DATA0–2. -/
def expRead (s : State) : State :=
  let k := s.rd EXP_SEL_KIND
  let i := s.rd EXP_SEL_INDEX
  let put (l : List Nat) (s : State) : State := (s.each l.zipIdx (fun x s => s.wr (EXP_DATA_WORD x.2) x.1)).wr EXP_CMD_STATUS 0
  if !s.coreOn || s.rdB EXP_CMD_BUSY then s
  else if k = 1 then
    let g := s.group i
    put [(g.last.getD 0) * 2 ^ 24 + g.evActed, g.src.esn * 2 ^ 24 + g.src.evseq, g.flits * 2 ^ 16 + g.dups] s
  else if k = 2 && i < 16 then put [s.pinW i 0, s.pinW i 1, 0] s
  else s.wr EXP_CMD_STATUS 3

def execExpRead (s : State) : Outcome := unitDone s (expRead s)

/-- R293: a PIN record that may become valid. -/
def State.pinOk (s : State) (n w0 w1 : Nat) : Bool :=
  let e := (s.tun (0x100 + bitsOf w0 23 8)).e
  let off := bitsOf w0 7 8
  e.kind = 3 && (s.rd (EVP_CFG_FUNC n) ≠ 8 || e.inPort = 19) && !opReserved (bitsOf w0 15 8) && (off = 0 || !opReserved off) &&
  !(bitOf w1 31 && bitsOf w1 16 15 = 0)

/-- R289, R293: STATUS of a record write. -/
def State.expStatus (s : State) : Nat :=
  let i := s.rd EXP_SEL_INDEX
  let w0 := s.rd (EXP_DATA_WORD 0)
  if s.rd EXP_SEL_KIND ≠ 2 || 16 ≤ i then 3
  else if s.locked expPage then 1
  else if !bitOf w0 31 then 0
  else if s.pinValid i then 1
  else if s.pinOk i w0 (s.rd (EXP_DATA_WORD 1)) then 0 else 2

/-- EXP_WRITE (R293). (Assumption log 26, DEDUCED.) -/
def expWrite (s : State) : State :=
  if !s.coreOn || s.rdB EXP_CMD_BUSY then s
  else
    let st := s.expStatus
    let s1 := s.wr EXP_CMD_STATUS st
    if st = 0 then s1.setRecs expPage 2 (s.rd EXP_SEL_INDEX) 0 [0xFFFFFFFF, 0xFFFFE000] [s.rd (EXP_DATA_WORD 0), s.rd (EXP_DATA_WORD 1)]
    else s1.ev expPage [EV_EXP_CFG_REJECT]

def execExpWrite (s : State) : Outcome := unitDone s (expWrite s)

/-- R292: FANIN of a Hull port. -/
def State.fanin (s : State) (p : Nat) : Nat :=
  min 255 ((List.range 256).filter (fun g => let e := (s.tun (0x100 + g)).e; e.state = .opened && e.crosses p)).length

/-- EXP_QMAX_READ (R292). -/
def expQmaxRead (s : State) : State :=
  let p := s.rd EXP_QSEL_PORT
  if !s.coreOn then s
  else (s.emit (.read expPage 0x06C (BitVec.ofNat 32 (s.fanin p * 2 ^ 16 + s.rd (EXP_QMAX_QMAX p))))).wr (EXP_QMAX_QMAX p) 0

def execExpQmaxRead (s : State) : Outcome := unitDone s (expQmaxRead s)

end Sys2Proof.Machine
end

