-- ==== Sys2Proof/Machine/GclOps.lean ====
section
/-!
DEFINITION. Gate lists of the external ports (0–17) and of station ports A and B (18, 19): entries in force, closings, changes at a tick
(R310–R316, R335).
-/
namespace Sys2Proof.Machine

/-- The gate lists of a port. -/
def State.gcl (s : State) (x : Nat) : Gcl := s.compass.gcl.get x
/-- Change the gate lists of a port. -/
def State.onGcl (x : Nat) (f : Gcl → Gcl) (s : State) : State := { s with compass := { s.compass with gcl := s.compass.gcl.upd x f } }

/-- R335: the registers of a port's gate lists; a station port's stand in for Compass's. -/
def gclEn (x : Nat) : Field := if x < 18 then CMP_PORT_CTL_GCL_EN x else FRM_SP_CTL_GCL_EN (x - 18)
def gclLen (x : Nat) : Field := if x < 18 then CMP_GCL_ADMIN_LEN x else FRM_SP_GCL_ADMIN_LEN (x - 18)
def gclLog (x : Nat) : Field := if x < 18 then CMP_GCL_ADMIN_LOG2M x else FRM_SP_GCL_ADMIN_LOG2M (x - 18)
def gclChange (x : Nat) : Field := if x < 18 then CMP_GCL_CHANGE_INDEX x else FRM_SP_GCL_CHANGE_INDEX (x - 18)
def gclPending (x : Nat) : Field := if x < 18 then CMP_GCL_CMD_PENDING x else FRM_SP_GCL_CMD_PENDING (x - 18)
def gclStatus (x : Nat) : Field := if x < 18 then CMP_GCL_CMD_STATUS x else FRM_SP_GCL_CMD_STATUS (x - 18)

/-- The page and the event bits (CHANGED, LATE, REJECT) of a port's gate lists. -/
def gclPage (x : Nat) : Nat := if x < 18 then 0x0A1 + x else 0x0E1 + (x - 18)
def gclBit (x k : Nat) : Nat := if x < 18 then k else EV_FRMSP_GCL_CHANGED + k

/-- R311, R335: gates of an entry, bit g for gate g. -/
def gatesOf (x : Nat) (w : Reg) : Nat := if x < 18 then fld w 22 10 else fld w 22 8

/-- R311: the reserved bits of an entry. -/
def gclReserved (x : Nat) (w : Reg) : Nat := if x < 18 then fld w 20 2 else fld w 20 2 + fld w 30 2

/-- R10: an entry as a read shows it: its reserved bits, which R313 judges as they were written, read as 0. -/
def shownEntry (x : Nat) (w : Reg) : Nat := w.toNat &&& (if x < 18 then 0xFFCFFFFF else 0x3FCFFFFF)

/-- R311: the duration of an entry in ns. -/
def intervalOf (w : Reg) : Nat := fld w 0 20 * 10

/-- R311: number and gates of the entry in force when a time has passed since the start of the list; the last entry holds. -/
def entryIn (x : Nat) : List Reg → Nat → Nat → Nat × Nat
  | [], n, _ => (n, 1023)
  | [w], n, _ => (n, gatesOf x w)
  | w :: l, n, t => if t < intervalOf w then (n, gatesOf x w) else entryIn x l (n + 1) (t - intervalOf w)

/-- R311: starts of the entries of a list. -/
def entryStarts : List Reg → Nat → List Nat
  | [], _ => []
  | w :: l, t => t :: entryStarts l (t + intervalOf w)

/-- R314: a pending change takes effect at a tick of this index and instant: one after the cycle of the COMMIT. -/
def State.gclQualifies (s : State) (x idx t : Nat) : Bool :=
  s.rdB (gclPending x) && (s.gcl x).commitAt < t && modSub 32 idx (s.gcl x).nextChange < 2 ^ 31 && idx % 2 ^ (s.gcl x).nextLog2m = 0

/-- A run of a list: the list, the instant of Datum of its start, and whether the change is still to come. -/
structure GclRun where
  list : List Reg
  start : Nat
  log2m : Nat
  change : Bool
  deriving DecidableEq, Repr

/-- R311, R314, R316: the run after a lattice tick at an instant. (Assumption log 32, DEDUCED.) -/
def State.runAfter (s : State) (x : Nat) (r : GclRun) (t : Nat) : GclRun :=
  let idx := s.indexAt t
  let forced := s.lattice.stageS = some (t / 1000000000) && t % 1000000000 = 0
  if r.change && s.gclQualifies x idx t then
    { list := (s.gcl x).nextList, start := t, log2m := (s.gcl x).nextLog2m, change := false }
  else if idx % 2 ^ r.log2m = 0 || forced then { r with start := t } else r

/-- The runs from a tick on, for a few ticks. -/
def State.runsFrom (s : State) (x : Nat) : Nat → GclRun → Nat → List (Nat × GclRun)
  | 0, _, _ => []
  | n + 1, r, t => let r' := s.runAfter x r t; (t, r') :: State.runsFrom s x n r' (s.nextTick t)

/-- The runs that govern the near future, with the instant from which each does; none: every gate is open (R315). -/
def State.gclRuns (s : State) (x : Nat) : Option (List (Nat × GclRun)) :=
  if !s.rdB (gclEn x) then none
  else match (s.gcl x).startAt with
    | none => none
    | some b =>
      let r : GclRun := { list := (s.gcl x).oper, start := b, log2m := (s.gcl x).operLog2m, change := s.rdB (gclPending x) }
      some ((0, r) :: s.runsFrom x 4 r (s.nextTick s.datum.whole))

/-- Number and gates of the entry in force at an instant of Datum, now or soon. (Assumption log 32, DEDUCED.) -/
def State.gatesAt (s : State) (x t : Nat) : Nat × Nat :=
  match s.gclRuns x with
  | none => (0, if x < 18 then 1023 else 255)
  | some l =>
    let r := (l.filter (fun y => y.1 ≤ t)).getLast?.map (·.2)
    match r with
    | some r => entryIn x r.list 0 (t - r.start)
    | none => (0, 1023)

/-- The instants at which gates may change after an instant of Datum, within the next ticks. -/
def State.gateInstants (s : State) (x t : Nat) : List Nat :=
  match s.gclRuns x with
  | none => []
  | some l => (l.flatMap (fun y => y.1 :: entryStarts y.2.list y.2.start)).filter (t < ·)

/-- R312: a gate is open at an instant and stays open until another. -/
def State.gateHolds (s : State) (x g t u : Nat) : Bool :=
  bitOf (s.gatesAt x t).2 g && ((s.gateInstants x t).filter (· < u)).all (fun i => bitOf (s.gatesAt x i).2 g)

/-- R312: the first closing of a gate after an instant. -/
def State.gateCloses (s : State) (x g t : Nat) : Option Nat :=
  ((s.gateInstants x t).filter (fun i => !bitOf (s.gatesAt x i).2 g)).min?

/-- R326: show the gate states now. -/
def State.noteGates (x : Nat) (s : State) : State :=
  if x < 18 then
    let e := s.gatesAt x s.datum.whole
    let run := s.rdB (gclEn x) && (s.gcl x).startAt.isSome
    ((s.wr (CMP_PORT_STAT_GATES x) e.2).wr (CMP_PORT_STAT_ENTRY x) e.1).wrB (CMP_PORT_STAT_GCL_RUN x) run
  else s

/-- R311, R314–R316: a lattice tick of an index and instant at the gate lists of a port; `forced`: the boundary S of a period change. -/
def State.gclTick (x idx t : Nat) (forced : Bool) (s : State) : State :=
  let start : Option Nat := if s.rdB (gclEn x) then some t else none
  if s.gclQualifies x idx t then
    let s1 := s.onGcl x (fun g => { g with oper := g.nextList, operLog2m := g.nextLog2m, startAt := start })
    let s2 := (s1.wrB (gclPending x) false).ev (gclPage x) [gclBit x 0]
    let g := s2.gcl x
    let s3 := if x < 18 then (s2.wr (CMP_GCL_OPER_LEN x) g.oper.length).wr (CMP_GCL_OPER_LOG2M x) g.operLog2m else s2
    s3.noteGates x
  else if idx % 2 ^ (s.gcl x).operLog2m = 0 || forced then (s.onGcl x (fun g => { g with startAt := start })).noteGates x
  else s

end Sys2Proof.Machine
end

