-- ==== Sys2Proof/Machine/CompassOps.lean ====
section
/-!
DEFINITION. Operations of Compass: eligibility, order within a class, energy tokens, starting a flit, buckets (R295–R320).
-/
namespace Sys2Proof.Machine

/-- R295: the gate of a queue. -/
def gateOf (q : Nat) : Option Nat := if q < 12 then none else if q ≤ 19 then some 0 else if q ≤ 27 then some (q - 19) else some 9

/-- R312: how long a flit takes the lanes. -/
def HFlit.duration (f : HFlit) : Nat := (f.size + 1) / 2 * 2

/-- R302: both buckets full. -/
def State.fillShaper (p q : Nat) (s : State) : State := s.setBucket p q { c := (s.capC p q : Nat), p := (s.capP p q : Nat) }

/-- R297, R312, R510: the head flit of a queue is eligible now; VC3–VC5 stop while a sleep state is entered. -/
def State.eligible (s : State) (p q : Nat) (x : QFlit) : Bool :=
  let gate := match gateOf q with
    | none => true
    | some g => s.gateHolds p g s.datum.whole (s.datum.whole + x.f.duration)
  gate && !(12 ≤ q && s.power.stopped) && (!s.shaped p q || 0 ≤ (s.bucket p q).p)

/-- R297: the pass of a head flit. -/
def State.passOf (s : State) (p q : Nat) (x : QFlit) : Nat :=
  let shaper := if s.shaped p q && ((s.bucket p q).c < 0 || s.cir p q = 0) then 2 else 1
  max (x.f.colour + 1) shaper

/-- R296: the head flit of a queue, if it is a candidate: it entered in an earlier cycle. -/
def State.head (s : State) (p q : Nat) : Option QFlit :=
  match s.compass.queues.get (qKey p q) with
  | x :: _ => if x.at_ < s.now then some x else none
  | [] => none

/-- R295: the queues of a class 1–5. -/
def queuesOf (c : Nat) : List Nat := (List.range 32).filter (fun q => classOf q = c)

/-- R299: the mode of a class 1–5 on a port: 0 WFQ, 1 STRICT, 2 FIFO; 0b11 acts as 0b00. -/
def State.classMode (s : State) (p c : Nat) : Nat :=
  let m := s.rd (match c with
    | 1 => CMP_CLASS_SAMPLE p | 2 => CMP_CLASS_TIMING p | 3 => CMP_CLASS_MEDIA p | 4 => CMP_CLASS_FRAMES p | _ => CMP_CLASS_BULK p)
  if m = 3 then 0 else m

/-- R299, R300: what a head flit is ordered by within a pass; the least goes first, then the lower queue index. -/
def State.orderKey (s : State) (p c q : Nat) (x : QFlit) : Nat :=
  match s.classMode p c with
  | 0 => (x.sTag + 2 ^ 47 + 2 ^ 48 - s.compass.vTime.get (cKey p c)) % 2 ^ 48
  | 1 => 31 - q
  | _ => x.at_

/-- R296, R297, R299: the flit that a class supplies: its queue, its pass and the flit. -/
def State.choice (s : State) (p c : Nat) : Option (Nat × Nat × QFlit) :=
  let heads := (queuesOf c).filterMap (fun q => match s.head p q with
    | some x => if s.eligible p q x then some (q, s.passOf p q x, x) else none
    | none => none)
  match (heads.map (fun h => h.2.1)).min? with
  | none => none
  | some m => leastBy (fun h => s.orderKey p c h.1 h.2.2) (heads.filter (fun h => h.2.1 = m))

/-! ## Energy tokens (R317–R319) -/

/-- R317: flits are checked against tokens. -/
def State.tokensOn (s : State) : Bool := s.rdB CMP_CTL_ETOK_EN && s.rd CMP_STAT_ETOK_RATE ≠ 0xFFFF

/-- R318: the cost of a flit on a port, in quarter tokens. -/
def State.tokenCost (s : State) (p : Nat) (f : HFlit) : Nat := s.quarters p f * min 4 (max 1 (s.rd (CMP_PORT_CTL_EW p)))

/-- A port can start a flit: ACTIVE, transmitter in SEND, link key not revoked, no flit on the lanes, not on its way to DORMANT (R513),
and the hub not in S1 (R507). -/
def State.portFree (s : State) (p : Nat) : Bool :=
  s.active p && s.rd (CHD_STAT_TX_STATE p) = TX_SEND && !(s.chord p).revoked && !(s.chord p).quiet && s.power.asleep = 0 &&
  (match s.compass.sending.get p with | some k => k.until_ ≤ s.now | none => true)

/-- R318: the deferral that stands on a port: its queue and flit, while that flit stays eligible. -/
def State.deferral (s : State) (p : Nat) : Option (Nat × Nat × QFlit) :=
  match s.compass.deferred.get p with
  | none => none
  | some q => match s.head p q with
    | some x => if s.eligible p q x then some (q, s.passOf p q x, x) else none
    | none => none

/-- R296, R318: the VC3–VC5 flit that a port would start now: the deferred one, or that of the first class which supplies one. -/
def State.bestEffort (s : State) (p : Nat) : Option (Nat × Nat × QFlit) :=
  (s.deferral p).or ((s.choice p 3).or ((s.choice p 4).or (s.choice p 5)))

/-- R319: a port before this one in the rotating order, starting after the port served last, wants tokens that the bucket holds in this
cycle. -/
def State.turnOfOther (s : State) (p : Nat) : Bool :=
  let place (o : Nat) : Nat := (o + 18 - (s.compass.etokLast + 1) % 18) % 18
  (List.range 18).any (fun o => place o < place p && s.portFree o && s.compass.queues.get (qKey o 0) = [] &&
    (s.choice o 1).isNone && (s.choice o 2).isNone &&
    (match s.bestEffort o with | some d => s.tokenCost o d.2.2.f ≤ s.compass.etok | none => false))

/-- Show the tokens held (R322). -/
def State.noteTokens (s : State) : State := s.wr CMP_STAT_ETOK_LEVEL (min 65535 (s.compass.etok / 4))

/-- R317: the cap of the token bucket, in quarters. -/
def State.etokCap (s : State) : Nat := 4 * (s.rd CMP_STAT_ETOK_RATE * min 16 (max 1 (s.rd CMP_ETOK_BURST)))

/-- R317: the refills due since the last, one at every microsecond of Datum. -/
def State.refillTokens (s : State) : State :=
  let n := s.datum.whole / 1000
  let e := min s.etokCap (s.compass.etok + 4 * s.rd CMP_STAT_ETOK_RATE * (n - s.compass.etokTo))
  ({ s with compass := { s.compass with etokTo := n, etok := e } }).noteTokens

/-- R303, R319: a fill and a refill of this cycle come before a charge and a deduction. -/
def State.bucketsFirst (s : State) : State := s.fillsDue.when (s.datum.whole / 1000 ≠ s.compass.etokTo) State.refillTokens

/-! ## Starting a flit -/

/-- R312: the flit now takes the lanes. -/
def State.takeLanes (p q : Nat) (f : HFlit) (s : State) : State :=
  let w := s.datum.whole
  let close := match gateOf q with
    | none => none
    | some g => (s.gateCloses p g w).map (fun c => s.now + (c - w))
  let k : Sending := { queue := q, until_ := s.now + f.duration, closeAt := close }
  { s with compass := { s.compass with sending := s.compass.sending.set p (some k) } }

/-- R320, R321: a departure's sojourn, and the alarm. -/
def State.noteSojourn (p q : Nat) (x : QFlit) (s : State) : State :=
  let d := min 16777215 (s.now - x.at_)
  let s1 := (s.wr (CMP_QDELAY_LAST_NS p q) d).wr (CMP_QDELAY_MAX_NS p q) (max d (s.rd (CMP_QDELAY_MAX_NS p q)))
  let thr := s.rd (CMP_QCFG_DTHR p q)
  if thr ≠ 0 && thr * 100 < d then
    ((s1.wr (CMP_QALARM_QUEUE p) q).wr (CMP_QALARM_NS p) d).ev (0x0A1 + p) [EV_CMPP_QDELAY]
  else s1

/-- R303: the charge of a shaped queue. -/
def State.chargeShaper (p q pass : Nat) (f : HFlit) (s : State) : State :=
  if s.shaped p q then
    let m : Int := (s.quarters p f * 250 : Nat)
    let b := s.bucket p q
    s.setBucket p q { c := if pass = 1 then b.c - m else b.c, p := b.p - m }
  else s

/-- R80, R92, R105, R108, R110: Chord frames a flit: credits consumed, LSN, replay entry, the words on the lanes. -/
def State.frameFlit (p : Nat) (f : HFlit) (s : State) : State :=
  let c := s.chord p
  let e : Replay := { lsn := c.nextLsn, vc := f.vc, tunnel := f.tunnel, payload := f.payload, last := f.last, poison := f.poison, stomp := f.stomp }
  let s1 := s.onChord p (fun c => ({ c with
    replay := c.replay ++ [e], nextLsn := (c.nextLsn + 1) % 2 ^ 16,
    lsnHighTx := c.lsnHighTx + (if c.nextLsn = 65535 then 1 else 0) }).onCred f.vc (fun r => r.consume f.payload.length))
  let s2 := (s1.emit (.flit p (s1.entryFlit p e false))).when f.stomp (State.bump (CHD_POISON_TX p))
  let s3 := if (s2.chord p).timer = none then s2.restartTimer p else s2
  s3.when (32767 ≤ (s3.chord p).replay.length) (State.wr (CHD_STAT_TX_STATE p) TX_STALL)

/-- R296: the head flit of a queue starts, unless the replay storage has no room for it (R110, R116). -/
def State.startFlit (p q pass : Nat) (x : QFlit) (s : State) : State × Bool :=
  match (s.chord p).makeRoom (if s.diag.test = 1 then 0 else (s.chord p).quota) x.f.size with
  | none =>
    if 32767 ≤ (s.chord p).replay.length then (s.wr (CHD_STAT_TX_STATE p) TX_STALL, false)
    else (((s.wr (CHD_STAT_TX_STATE p) TX_STALL).ev (chordPage p) [EV_CHD_SPILL]).evNew 0x001 [EV_EVT_SPILL], false)
  | some c =>
    let s1 := (s.onChord p (fun _ => c)).noteSpill p
    let s2 := (s1.setQueue p q ((s1.compass.queues.get (qKey p q)).drop 1)).takeLanes p q x.f
    (((s2.chargeShaper p q pass x.f).noteSojourn p q x).frameFlit p x.f, true)

/-- R300: V of a class in WFQ after a selection. -/
def State.noteVirtual (p q : Nat) (x : QFlit) (s : State) : State :=
  let k := cKey p (classOf q)
  let v := s.compass.vTime.get k
  if s.classMode p (classOf q) = 0 && modSub 48 x.sTag v < 2 ^ 47 then
    { s with compass := { s.compass with vTime := s.compass.vTime.set k x.sTag } }
  else s

/-- R147: the head flit of a queue is discarded whole. -/
def State.dropHead (p q : Nat) (s : State) : State := s.setQueue p q ((s.compass.queues.get (qKey p q)).drop 1)

/-- A chosen flit starts; `ecc`: the errors found in the egress queue storage (R147). -/
def State.serve (p : Nat) (ecc : EccErrors) (h : Nat × Nat × QFlit) (s : State) : State × Bool :=
  match s.afterEcc ecc h.2.2.f with
  | none => ((s.noteEcc ecc h.2.2.f).dropHead p h.1, false)
  | some g =>
    let r := s.startFlit p h.1 h.2.1 { h.2.2 with f := g }
    if r.2 then ((r.1.noteVirtual p h.1 h.2.2).noteEcc ecc h.2.2.f, true) else r

/-- R318, R319: a flit of VC3–VC5 pays with tokens and starts, or is deferred, which counts once. -/
def State.serveTokens (p : Nat) (ecc : EccErrors) (h : Nat × Nat × QFlit) (s : State) : State :=
  let cost := s.tokenCost p h.2.2.f
  if !s.tokensOn then
    let s0 := { s with compass := { s.compass with deferred := s.compass.deferred.set p none } }
    (s0.serve p ecc h).1
  else if cost ≤ s.compass.etok && !s.turnOfOther p then
    let s0 := { s with compass := { s.compass with deferred := s.compass.deferred.set p none } }
    let r := s0.serve p ecc h
    if r.2 then ({ r.1 with
      compass := { r.1.compass with etok := r.1.compass.etok - cost, etokLast := p }
      power := { r.1.power with spent := r.1.power.spent + cost } }).noteTokens else r.1
  else if cost ≤ s.compass.etok || s.compass.deferred.get p = some h.1 then s
  else
    { s with compass := { s.compass with deferred := s.compass.deferred.set p (some h.1) } }.bump CMP_ETOK_STALL_STALLS

/-- R321: a port captures depth and delay of its queues. -/
def State.snapQueues (p idx : Nat) (s : State) : State :=
  let r : QSnap := { index := idx % 2 ^ 16, depths := (List.range 32).map (fun q => s.rd (CMP_QDEPTH_NOW p q)), delays := (List.range 32).map (fun q => s.rd (CMP_QDELAY_LAST_NS p q)) }
  { s with compass := { s.compass with snaps := s.compass.snaps.set p (some r) } }

end Sys2Proof.Machine
end

