-- ==== Sys2Proof/Machine/Compass.lean ====
section
/-!
DEFINITION. The meanings of the commands of Compass (R294–R329).
-/
namespace Sys2Proof.Machine

/-- R69: a flit of a management, hub control or time tunnel waits at a port that rests. -/
def State.wakesPort (s : State) (p : Nat) : Bool :=
  (s.ls p = LS_DOZE || s.ls p = LS_NAP || s.ls p = LS_DORMANT) && !(s.lane p).waking && (s.lane p).phase = .idle && s.power.asleep = 0 &&
  [8, 9, 10, 11].any (fun q => (s.compass.queues.get (qKey p q)).any (fun x => protectedTun x.f.tunnel))

/-- COMPASS_SELECT (R296): at a flit boundary of a port one flit starts: Q0 first, then the classes in their order; `ecc`: the errors found in the
flit's queue (R147).  A flit that may wake a resting port wakes it (R69). -/
def compassSelect (p : Nat) (ecc : EccErrors) (s0 : State) : State :=
  let s := s0.bucketsFirst
  if s.wakesPort p then s.linkWake p
  else if !s.portFree p then s
  else if (s.compass.queues.get (qKey p 0)) ≠ [] then expressQ0Start p ecc s
  else match s.choice p 1, s.choice p 2 with
    | some h, _ => (s.serve p ecc h).1
    | none, some h => (s.serve p ecc h).1
    | none, none =>
      let s1 := if (s.deferral p).isSome then s else { s with compass := { s.compass with deferred := s.compass.deferred.set p none } }
      match s.bestEffort p with
      | some h => s1.serveTokens p ecc h
      | none => s1

def execCompassSelect (e : EgressStart) (s : State) : Outcome := unitDone s (compassSelect e.port e.ecc s)

/-- BUCKET_FILL (R302, R305): the fills due since the last, one for every 10 ns of Datum time. -/
def bucketFill (s : State) : State := s.fillBuckets

def execBucketFill (s : State) : Outcome := unitDone s (bucketFill s)

/-- ETOK_REFILL (R317): the refills due since the last, one at every microsecond of Datum. -/
def etokRefill (s : State) : State := s.refillTokens

def execEtokRefill (s : State) : Outcome := unitDone s (etokRefill s)

/-- QUEUE_SHAPER_WRITE (R302, R328): a write of CMP_QCFG (0), CMP_QRATE (1) or CMP_QBURST (2) of the queue that CMP_QSEL names. -/
def queueShaperWrite (p reg : Nat) (v : Reg) (s : State) : State :=
  let q := s.rd (CMP_QSEL_QUEUE p)
  if !s.coreOn then s
  else if reg = 0 then
    let was := s.rdB (CMP_QCFG_SHAPE p q)
    let s1 := s.wr (CMP_QCFG_WEIGHT p q) (fld v 24 8)
    if q < 12 then s1
    else
      let s2 := (s1.wr (CMP_QCFG_SHAPE p q) (fld v 16 1)).wr (CMP_QCFG_DTHR p q) (fld v 0 16)
      s2.when (!was && fld v 16 1 = 1) (State.fillShaper p q)
  else if q < 12 then s
  else if reg = 1 then ((s.wr (CMP_QRATE_PIR p q) (fld v 16 16)).wr (CMP_QRATE_CIR p q) (fld v 0 16)).fillShaper p q
  else ((s.wr (CMP_QBURST_PBS p q) (fld v 16 16)).wr (CMP_QBURST_CBS p q) (fld v 0 16)).fillShaper p q

def execQueueShaperWrite (p : Fin 18) (reg : Fin 3) (v : Reg) (s : State) : Outcome := unitDone s (queueShaperWrite p reg v s)

/-! ## Gate lists -/

/-- GATE_ENTRY_ADVANCE (R311): the gate states of the entry in force now are shown. -/
def execGateEntryAdvance (x : Fin 20) (s : State) : Outcome := unitDone s (s.noteGates x)

/-- R313: STATUS of a COMMIT. -/
def State.gclStatusOf (s : State) (x : Nat) : Nat :=
  let n := s.rd (gclLen x)
  let l := (List.range n).map (fun e => (s.gcl x).admin.get e)
  if s.rdB (gclPending x) then 1
  else if n = 0 || 256 < n || 4 < s.rd (gclLog x) || l.any (fun w => fld w 0 20 < 4 || gclReserved x w ≠ 0) then 2
  else 0

/-- GCL_COMMIT (R313, R314). -/
def gclCommit (x : Nat) (s : State) : State :=
  let st := s.gclStatusOf x
  let s1 := s.wr (gclStatus x) st
  if !s.coreOn then s
  else if st ≠ 0 then s1.ev (gclPage x) [gclBit x 2]
  else
    let l := (List.range (s.rd (gclLen x))).map (fun e => (s.gcl x).admin.get e)
    let ch := s.rd (gclChange x)
    let s2 := (s1.onGcl x (fun g => { g with nextList := l, nextLog2m := s.rd (gclLog x), nextChange := ch, commitAt := s.datum.whole })).wrB (gclPending x) true
    s2.when (modSub 32 (s.indexAt s.datum.whole) ch < 2 ^ 31) (State.ev (gclPage x) [gclBit x 1])

def execGclCommit (x : Fin 20) (s : State) : Outcome := unitDone s (gclCommit x s)

/-- R314: the tick that makes the pending change falls in this cycle. -/
def State.changeNow (s : State) (x : Nat) : Bool :=
  let t := s.lattice.next * s.period
  t ≤ s.datum.whole && s.gclQualifies x (s.indexAt s.datum.whole) (s.datum.whole / s.period * s.period)

/-- GCL_CANCEL (R314): without effect in the cycle of the tick that makes the change. -/
def gclCancel (x : Nat) (s : State) : State := if s.coreOn && !s.changeNow x then s.wrB (gclPending x) false else s

def execGclCancel (x : Fin 20) (s : State) : Outcome := unitDone s (gclCancel x s)

/-- GCL_ADMIN_WRITE (R313, R329): a write to administrative entry `i` below 256, to GCL_ADMIN (256) or to GCL_CHANGE (257). -/
def gclAdminWrite (x i : Nat) (v : Reg) (s : State) : State :=
  if !s.coreOn then s
  else if s.rdB (gclPending x) then (s.when (x < 18) (State.bump (CMP_GCL_CNT_WR_IGNORED x))).ev (gclPage x) [gclBit x 2]
  else if i < 256 then s.onGcl x (fun g => { g with admin := g.admin.set i v })
  else if i = 256 then (s.wr (gclLen x) (fld v 16 9)).wr (gclLog x) (fld v 0 3)
  else s.wr (gclChange x) v.toNat

def execGclAdminWrite (x : Fin 20) (i : Fin 258) (v : Reg) (s : State) : Outcome := unitDone s (gclAdminWrite x i v s)

/-- GCL_ENABLE (R315): a write of GCL_EN; the list starts at the next cycle boundary, or every gate opens. -/
def gclEnable (x : Nat) (v : Bool) (s : State) : State :=
  if !s.coreOn || s.locked (gclPage x) then s
  else
    let s1 := s.wrB (gclEn x) v
    (if v then s1 else s1.onGcl x (fun g => { g with startAt := none })).noteGates x

def execGclEnable (x : Fin 20) (v : Bool) (s : State) : Outcome := unitDone s (gclEnable x v s)

/-! ## Reads -/

/-- CMP_QDEPTH_READ (R320): MAX is read and cleared to nothing since. -/
def cmpQdepthRead (p : Nat) (s : State) : State :=
  let q := s.rd (CMP_QSEL_QUEUE p)
  if !s.coreOn then s
  else (s.emit (.read (0x0A1 + p) 0x070
    (BitVec.ofNat 32 (s.rd (CMP_QDEPTH_MAX p q) * 2 ^ 16 + s.rd (CMP_QDEPTH_NOW p q))))).wr (CMP_QDEPTH_MAX p q) 0

def execCmpQdepthRead (p : Fin 18) (s : State) : Outcome := unitDone s (cmpQdepthRead p s)

/-- CMP_QDELAY_MAX_READ (R320). -/
def cmpQdelayMaxRead (p : Nat) (s : State) : State :=
  let q := s.rd (CMP_QSEL_QUEUE p)
  if !s.coreOn then s
  else (s.emit (.read (0x0A1 + p) 0x074 (BitVec.ofNat 32 (s.rd (CMP_QDELAY_MAX_NS p q))))).wr (CMP_QDELAY_MAX_NS p q) 0

def execCmpQdelayMaxRead (p : Fin 18) (s : State) : Outcome := unitDone s (cmpQdelayMaxRead p s)

/-! ## Policer records -/

/-- POL_READ (R324, R325). -/
def polRead (s : State) : State :=
  let t := s.rd CMP_POL_SEL_TUNNEL
  let x := s.compass.policers.get t
  let put (i v : Nat) (s : State) : State := s.wr (CMP_POL_DATA_WORD i) v
  if !s.coreOn || s.rdB CMP_POL_CMD_BUSY then s
  else if t = 0 then s.wr CMP_POL_CMD_STATUS 3
  else
    ((((s.wr CMP_POL_CMD_STATUS 0) |> put 0 x.w0.toNat) |> put 1 x.w1.toNat) |> put 2 x.w2.toNat) |> put 3 (x.dropRed * 2 ^ 16 + x.yellow)

def execPolRead (s : State) : Outcome := unitDone s (polRead s)

/-- R308: STATUS of a record write. -/
def State.polStatus (s : State) (t : Nat) (x : Policer) : Nat :=
  let cbs := fld x.w1 0 16
  if t = 0 then 3
  else if x.mode = 3 then 2
  else if x.mode = 1 && (!(0x200 ≤ t && t ≤ 0x5FF) || (s.tun t).e.rate < x.cir) then 2
  else if x.mode = 2 && ((0x100 ≤ t && t ≤ 0x5FF) || x.pir < x.cir || fld x.w2 0 16 < cbs || (0 < cbs && cbs < 32)) then 2
  else if x.mode ≠ 0 && x.dir = 0 then 2
  else 0

/-- POL_WRITE (R305, R308, R325). -/
def polWrite (s : State) : State :=
  let t := s.rd CMP_POL_SEL_TUNNEL
  let w (i : Nat) : Reg := BitVec.ofNat 32 (s.rd (CMP_POL_DATA_WORD i))
  let x : Policer := { w0 := w 0 &&& 0xF000FFFF, w1 := w 1, w2 := w 2 &&& 0x0000FFFF }
  if !s.coreOn || s.rdB CMP_POL_CMD_BUSY then s
  else
    let st := s.polStatus t x
    let s1 := s.wr CMP_POL_CMD_STATUS st
    if st = 0 then s1.setPolicer t x.filled else s1.ev 0x0A0 [EV_CMP_POL_REJECT]

def execPolWrite (s : State) : Outcome := unitDone s (polWrite s)

end Sys2Proof.Machine
end

