-- ==== Sys2Proof/Machine/WinOps.lean ====
section
/-!
DEFINITION. Operations of the window bridge: records, messages, reads, prefetch, interrupt polls, reverse writes (R354–R380).
-/
namespace Sys2Proof.Machine

/-! ## Records (R354–R356) -/

def State.winValid (s : State) (w : Nat) : Bool := bitOf (s.winW w 0) 31
def State.winApt (s : State) (w : Nat) : Bool := bitOf (s.winW w 0) 30
def State.winSize (s : State) (w : Nat) : Nat := bitsOf (s.winW w 0) 24 6
def State.winTun (s : State) (w : Nat) : Nat := bitsOf (s.winW w 0) 12 12
def State.winPrefetch (s : State) (w : Nat) : Bool := bitOf (s.winW w 0) 11
def State.winFault (s : State) (w : Nat) : Bool := bitOf (s.winW w 0) 10
def State.winPfLen (s : State) (w : Nat) : Nat := bitsOf (s.winW w 0) 4 5 * 256
def State.winOff (s : State) (w : Nat) : Nat := bitsOf (s.winW w 1) 0 24 * 4096
def State.winBase (s : State) (w : Nat) : Nat := bitsOf (s.winW w 2) 0 28 * 4096

/-- R355: the window that an offset of an aperture matches. -/
def State.winMatch (s : State) (apt : Bool) (o : Nat) : Option Nat :=
  (List.range 256).find? (fun w => s.winValid w && s.winApt w = apt && s.winOff w ≤ o && o < s.winOff w + 2 ^ s.winSize w)

/-- R356: a tunnel of KIND WINDOW whose entry names Hull port 21. -/
def State.winTunOk (s : State) (t : Nat) : Bool := (s.tun t).e.kind = 6 && (s.tun t).e.path.contains 21

/-! ## Messages (R358, R359) -/

/-- R359: bytes packed five to a word. -/
def packBytes (b : List Nat) : List Word :=
  (pieces 5 (b.length + 1) b).map (fun l => pack ((l.zipIdx).map (fun x => (32 - 8 * x.2, 8, x.1))))

/-- R359: the bytes of content words. -/
def unpackBytes (l : List Word) (n : Nat) : List Nat := (l.flatMap wordBytes).take n

/-- The 32-bit words of bytes in address order. -/
def dwords (b : List Nat) : List Nat := (pieces 4 (b.length + 1) b).map bytesToNat

/-- R358: READ or WRITE. -/
def winReqWords (op tag : Nat) (spec : Bool) (len lbe fbe addr : Nat) (bytes : List Nat) : List Word :=
  [pack [(36, 4, op), (28, 8, tag), (27, 1, b2n spec), (16, 11, len), (12, 4, lbe), (8, 4, fbe)], pack [(0, 40, addr)]] ++ packBytes bytes

/-- Send a window message to a dock. -/
def State.winSend (t : Nat) (ws : List Word) (s : State) : State := s.sendMsg 21 t ws

/-- R360, R370: a TAG that no read uses and that does not rest. -/
def State.freeTag (s : State) : Option Nat :=
  (List.range 256).find? (fun g =>
    !(s.win.reqs.any (fun r => !r.write && r.sent && r.tag = g)) &&
    !(s.win.rested.any (fun r => r.1 = g && s.now < r.2.2 && (s.tun r.2.1).e.state = .opened)))

/-! ## Prefetch (R364, R365) -/

/-- R364, R367: the entry that holds a read wholly, for a window that may be read speculatively. (Assumption log 41, DEDUCED.) -/
def State.pfHit (s : State) (r : WinReq) : Option PfEntry :=
  if !s.winPrefetch r.window || s.winFault r.window then none
  else s.win.prefetch.find? (fun e => e.tunnel = r.tunnel && e.lo ≤ r.addr && r.addr + r.len * 4 ≤ e.lo + e.len)

/-- Replace the prefetch entries. -/
def State.setPf (l : List PfEntry) (s : State) : State := { s with win := { s.win with prefetch := l } }

/-- Move an entry to the end of use. -/
def State.touchPf (e : PfEntry) (s : State) : State := s.setPf (s.win.prefetch.filter (fun x => x ≠ e) ++ [e])

/-- R360: a read goes to the dock as READ under a TAG; with no TAG left it stays. -/
def State.sendRead (r : WinReq) (s : State) : State :=
  match s.freeTag with
  | none => s
  | some g => (s.setReqs (s.win.reqs.map (fun x => if x = r then { r with tag := g, sent := true } else x))).winSend r.tunnel
      (winReqWords 1 g false r.len r.lbe r.fbe r.addr [])

/-- R365: entries go; the reads that wait for one that is not filled go to the dock themselves, at once where their tunnel is OPEN. -/
def State.dropPf (test : PfEntry → Bool) (s : State) : State :=
  let gone := (s.win.prefetch.filter (fun e => test e && e.filledAt.isNone)).map (·.tag)
  let freed (r : WinReq) : Bool := match r.waits with | some g => gone.contains g | none => false
  let free (r : WinReq) : WinReq := if freed r then { r with waits := none } else r
  ((s.setPf (s.win.prefetch.filter (fun e => !test e))).setReqs (s.win.reqs.map free)).each
    ((s.win.reqs.filter (fun r => freed r && (s.tun r.tunnel).e.state = .opened)).map free) State.sendRead

/-! ## Sending requests in order (R362, R369) -/

/-- R364: the speculative READ behind a demand READ. -/
def State.sendSpec (r : WinReq) (s : State) : State :=
  let w := r.window
  let lo := r.addr + r.len * 4
  let stop := min (lo + s.winPfLen w) (s.winBase w + 2 ^ s.winSize w)
  if !s.winPrefetch w || s.winFault w || s.winPfLen w = 0 || !s.rdB WIN_CTL_PF_EN || stop ≤ lo then s
  else match s.freeTag with
    | none => s
    | some g =>
      let e : PfEntry := { window := w, tunnel := r.tunnel, lo := lo, len := stop - lo, tag := g }
      let old := if 64 ≤ s.win.prefetch.length then s.win.prefetch.drop 1 else s.win.prefetch
      let q : WinReq := { spec := true, tag := g, window := w, tunnel := r.tunnel, addr := lo, len := (stop - lo) / 4, fbe := 15,
                          lbe := if stop - lo = 4 then 0 else 15, sent := true }
      let s1 := (s.dropPf (fun x => !(old.contains x))).setPf (old ++ [e])
      (s1.setReqs (s1.win.reqs ++ [q])).winSend r.tunnel (winReqWords 1 g true q.len q.lbe q.fbe lo [])

/-- R364: a read that a filled entry holds is served from it. -/
def State.serveHit (r : WinReq) (e : PfEntry) (s : State) : State :=
  ((s.complete r 0 (dwords ((e.data.drop (r.addr - e.lo)).take (r.len * 4)))).wrapInc WIN_PF_HITS).touchPf e

/-- One request of an OPEN tunnel goes out: a write as WRITE, a read from prefetch or as READ; with no TAG left it stays. -/
def State.dispatchReq (r : WinReq) (s : State) : State :=
  let others := s.win.reqs.filter (· ≠ r)
  if r.write then
    let s1 := (s.setReqs others).dropPf (fun e => e.tunnel = r.tunnel && e.lo < r.addr + r.len * 4 && r.addr < e.lo + e.len)
    s1.winSend r.tunnel (winReqWords 2 0 false r.len r.lbe r.fbe r.addr r.data)
  else
    match s.pfHit r with
    | some e =>
      if e.filledAt.isSome then (s.setReqs others).serveHit r e
      else s.setReqs (s.win.reqs.map (fun x => if x = r then { r with waits := some e.tag } else x))
    | none => if s.freeTag.isSome then (s.sendRead r).sendSpec r else s

/-- R362: the requests of a tunnel that wait are sent in the order of receipt while it is OPEN. -/
def State.pumpTun (t : Nat) (s : State) : State :=
  if (s.tun t).e.state ≠ .opened then s
  else s.each (s.win.reqs.filter (fun r => r.tunnel = t && !r.sent && r.waits.isNone)) (fun r s => s.dispatchReq r)

/-- R355, R369: a host request is decoded and takes its place. (Assumption log 41, DEDUCED.) -/
def State.hostRequest (apt : Bool) (o : Nat) (mk : Nat → Nat → Nat → WinReq) (s : State) : State :=
  match s.winMatch apt o with
  | none =>
    let r := mk 0 0 0
    ((s.complete r 0 (allOnes r.len)).bump WIN_ERR_UNMAPPED).ev winPage [EV_WIN_UNMAPPED]
  | some w =>
    let t := s.winTun w
    let r := mk w t (s.winBase w + (o - s.winOff w))
    match (s.tun t).e.state with
    | .opened | .held | .rekey => (s.setReqs (s.win.reqs ++ [r])).pumpTun t
    | _ => s.failReq .link false r

/-! ## Time (R368) -/

/-- R368: the grace limit of a tunnel's path in ns, over the links that this hub holds. (Assumption log 41, DEDUCED.) -/
def State.pathGrace (s : State) (t : Nat) : Nat :=
  ms ((((s.tun t).e.path.filter (· < 18)).map (fun p => (s.chord p).graceMs)).foldl max 0)

/-- R368: a nanosecond passes for the requests in progress. -/
def State.winNano (s : State) : State :=
  if s.win.reqs = [] then s
  else { s with win := { s.win with reqs := s.win.reqs.map (fun r => match (s.tun r.tunnel).e.state with
    | .opened => { r with ran := r.ran + 1 }
    | .held | .rekey => { r with held := r.held + 1 }
    | _ => r) } }

/-! ## Upstream (R374, R378, R379) -/

/-- R379: bytes in the inbound queue. -/
def State.upBytes (s : State) : Nat := (s.win.upstream.map (fun u => match u with | .write _ _ b _ _ => b.length | .vector _ => 0)).sum

/-- Show the level of the inbound queue (R381), a part of 256 bytes as one. (Assumption log 41, DEDUCED.) -/
def State.noteUp (s : State) : State := s.wr WIN_STAT_RW_LEVEL (min 256 ((s.upBytes + 255) / 256))

/-- R362, R374: F1's vector of a dock, behind the dock's writes. -/
def State.dockVector (d : Nat) (s : State) : State :=
  let behind : Bool := s.win.upstream.any (fun u => match u with | .write e _ _ _ _ => e = d | .vector _ => false)
  if behind then { s with win := { s.win with upstream := s.win.upstream ++ [.vector d] } } else s.sendVector 1 d

/-- Vectors at the front of the queue go. -/
def State.flushVectors : Nat → State → State
  | 0, s => s
  | n + 1, s => match s.win.upstream with
    | .vector d :: rest => ({ s with win := { s.win with upstream := rest } }.sendVector 1 d).flushVectors n
    | _ => s

/-- R378: RW_ACK with the last accepted RSEQ. -/
def State.sendRwAck (d : Nat) (s : State) : State :=
  let r := s.win.reverse.get d
  let s1 := { s with win := { s.win with reverse := s.win.reverse.set d { r with owed := 0, dueAt := none } } }
  s1.winSend r.tunnel [pack [(36, 4, 4), (28, 8, (r.expected + 255) % 256)]]

/-- R379: the hub has a READ or an INT_READ to a dock in progress. -/
def State.readsTo (s : State) (d : Nat) : Bool :=
  s.win.reqs.any (fun r => !r.write && r.sent && (s.tun r.tunnel).e.srcDock = d) || ((s.win.polls.get d).out).isSome

/-- R358: a message of the bridge is discarded as a dock's error. -/
def State.dockErr (s : State) : State := (s.bump WIN_ERR2_DOCK).ev winPage [EV_WIN_DOCK_ERR]

end Sys2Proof.Machine
end

