-- ==== Sys2Proof/Machine/DspOps.lean ====
section
/-!
DEFINITION. Operations of the display inputs (R406–R414).
-/
namespace Sys2Proof.Machine

/-- The page of the display adapter. -/
def dspPage : Nat := 0x108

/-- Registers of an input. -/
def dspState (i : Nat) : Field := if i = 0 then DSP_STAT_STATE_A else DSP_STAT_STATE_B
def dspRate (i : Nat) : Field := if i = 0 then DSP_STAT_RATE_A else DSP_STAT_RATE_B
def dspLanes (i : Nat) : Field := if i = 0 then DSP_STAT_LANES_A else DSP_STAT_LANES_B
def dspFec (i : Nat) : Field := if i = 0 then DSP_STAT_FEC_A else DSP_STAT_FEC_B
def dspDsc (i : Nat) : Field := if i = 0 then DSP_STAT_DSC_A else DSP_STAT_DSC_B
def dspRes (i : Nat) : Field := if i = 0 then DSP_RES_RES_A else DSP_RES_RES_B

/-- An input. -/
def State.din (s : State) (i : Nat) : DspIn := s.dsp.ins.get i
def State.onDin (i : Nat) (f : DspIn → DspIn) (s : State) : State := { s with dsp := { s.dsp with ins := s.dsp.ins.upd i f } }

/-- DSP_CTL.EN of an input, on a root with HOST_EN (R386, R595). -/
def State.dspOn (s : State) (i : Nat) : Bool :=
  s.coreOn && s.isRoot && bitOf (s.rd CHIP_STRAP_STRAPS) 2 && s.rdB (if i = 0 then DSP_CTL_EN_A else DSP_CTL_EN_B)

/-- DSP_CFG and DSP_MIR of an input as written. -/
def State.cfgReg (s : State) (i : Nat) : Nat := s.regOf (dspFields 0 0) (0x048 + 4 * i)
def State.mirReg (s : State) (i : Nat) : Nat := s.regOf (dspFields 0 0) (0x050 + 4 * i)

/-- Tunnels of an input (R407). -/
def streamTun (i : Nat) : Nat := 0xF00 + i
def slotTun (i m : Nat) : Nat := 0xF10 + 4 * i + m

/-- A slot is in use. -/
def DspIn.slotValid (x : DspIn) (m : Nat) : Bool := bitOf x.mir (8 * m + 7)

/-- The tunnel is OPEN or HELD. -/
def State.openOrHeld (s : State) (t : Nat) : Bool := match (s.tun t).e.state with | .opened => true | .held => true | _ => false

/-- R411: HPD of an input is to be high. -/
def State.hpdWanted (s : State) (i : Nat) : Bool :=
  let x := s.din i
  s.dspOn i && s.openOrHeld (streamTun i) && s.openOrHeld (slotTun i x.primary) && (x.slots.get x.primary).hpd && x.pulseBy.isNone && x.holdBy.isNone

/-- R411, R417: HPD follows; in a low period that is no IRQ pulse the link ends and DSP_CFG and DSP_MIR are taken; an input that leaves
OFF takes its primary slot from DSP_CFG. (Assumption log 59, DEDUCED.) -/
def State.hpdFollow (i : Nat) (s : State) : State :=
  let x := s.din i
  let off : Bool := s.rd (dspState i) = 0
  let want := !off && s.hpdWanted i
  let s1 := if want = x.hpd then s
    else ((s.emit (.hpd i want)).onDin i (fun y => { y with hpd := want })).ev dspPage [EV_DSP_HPD_CHANGE]
  if want then if s.rd (dspState i) ≤ 1 then s1.wr (dspState i) 2 else s1
  else if x.pulseBy.isSome then s1
  else
    let s2 := s1.onDin i (fun y => { y with
      cfg := s.cfgReg i, mir := s.mirReg i, timing := [], aux := none, auxBy := none, reply := none,
      primary := if off then bitsOf (s.cfgReg i) 0 2 else y.primary })
    ((((s2.wr (dspState i) (if s.dspOn i then 1 else 0)).wr (dspRate i) 0).wr (dspLanes i) 0).wr (dspFec i) 0).wr (dspDsc i) 0 |>.wr (dspRes i) 0

/-- HPD of both inputs follows the tunnels, the docks and DSP_CTL. -/
def State.dspNano (s : State) : State := (s.hpdFollow 0).hpdFollow 1

/-- R417: MAX_RATE and MAX_LANES in force. -/
def DspIn.maxRate (x : DspIn) : Nat := bitsOf x.cfg 8 3
def DspIn.maxLanes (x : DspIn) : Nat := max 1 (bitsOf x.cfg 4 2)

/-- The link symbol clock of a rate code in Hz. -/
def symbolClock : Nat → Nat
  | 1 => 162000000
  | 2 => 270000000
  | 3 => 540000000
  | 4 => 810000000
  | _ => 0

/-- A quotient rounded up. -/
def ceilDiv (a b : Nat) : Nat := (a + b - 1) / b

/-- R414: the reservation of a stream, 0.1 M words/s. (Assumption log 59, DEDUCED.) -/
def dspReserve (m : DpMsa) (rate : Nat) : Nat :=
  let words := ceilDiv (m.hwidth * m.bpp) 40 + 2
  ceilDiv (words * m.vheight * m.mvid * symbolClock rate * 33) (m.nvid * m.htotal * m.vtotal * 30 * 100000)

/-- R414: the reservations on every external port of the input's stream tunnel lie within DSP_BUDGET. -/
def State.withinBudget (s : State) (i : Nat) : Bool :=
  let budget := min 4000 (s.rd DSP_BUDGET_UNITS)
  ((s.tun (streamTun i)).e.dests.filter (· < 18)).all (fun p =>
    ([0, 1].map (fun j => if (s.tun (streamTun j)).e.dests.contains p then s.rd (dspRes j) else 0)).sum ≤ budget)

/-- A display message on the stream tunnel. -/
def State.dspSend (i : Nat) (ws : List Word) (s : State) : State := s.sendMsg 23 (streamTun i) ws

/-- R413: a slot in use cannot show the stream. -/
def State.cannotShow (s : State) (i m : Nat) : Bool :=
  let x := s.din i
  x.slotValid m && s.rd (dspState i) = 4 && (!(x.slots.get m).outOk || (s.rdB (dspDsc i) && !(x.slots.get m).dscOk))

/-- R413: a slot that cannot show the stream raises MIRROR_FAIL when it begins to; R417 names no register for its count, which is the
event's own. (Assumption log 59, DEDUCED.) -/
def State.mirrorCheck (i : Nat) (s : State) : State :=
  s.each (List.range 4) (fun m s =>
    let c := s.cannotShow i m
    (s.onDin i (fun y => { y with slots := y.slots.upd m (fun z => { z with failed := c }) })).when (c && !((s.din i).slots.get m).failed)
      (State.ev dspPage [EV_DSP_MIRROR_FAIL]))

end Sys2Proof.Machine
end

