-- ==== Sys2Proof/Machine/Display.lean ====
section
/-!
DEFINITION. The meanings of the commands of the display tunnels (R406–R414, R417).
-/
namespace Sys2Proof.Machine

/-! ## The input link and its stream (R406, R412, R414) -/

/-- DP_LINK_TRAIN (R406): the source trains at a rate and a lane count within DSP_CFG, or the training fails. -/
def dpLinkTrain (i rate lanes : Nat) (fec ok : Bool) (s : State) : State :=
  let x := s.din i
  if !x.hpd || !s.dspOn i then s
  else if ok && 1 ≤ rate && rate ≤ x.maxRate && 1 ≤ lanes && lanes ≤ x.maxLanes then
    ((((s.wr (dspState i) 3).wr (dspRate i) rate).wr (dspLanes i) lanes).wrB (dspFec i) fec).ev dspPage [EV_DSP_TRAINED]
  else ((s.wr (dspState i) 2).wr (dspRate i) 0).wr (dspLanes i) 0

def execDpLinkTrain (i : Fin 2) (rate : Fin 5) (lanes : Fin 4) (fec ok : Bool) (s : State) : Outcome :=
  unitDone s (dpLinkTrain i rate lanes fec ok s)

/-- R408: the words 2–13 of an MSA message. -/
def msaWords (m : DpMsa) : List Nat :=
  [m.mvid, m.nvid, m.htotal, m.vtotal, m.hstart, m.vstart, m.hsync, m.vsync, m.hwidth, m.vheight, m.misc0, m.misc1]

/-- DP_MSA_RX (R408, R412–R414): the reservation follows a change of timing, free where R414 divides by 0; the input streams, or is
OVER_BUDGET with BLANK = 1. (Assumption log 59, DEDUCED.) -/
def dpMsaRx (i : Nat) (m : DpMsa) (s : State) : State :=
  let x := s.din i
  let st := s.rd (dspState i)
  if st < 3 then s
  else
    let timing := msaWords m ++ [m.bpp, b2n m.dsc]
    let open_ : Bool := m.nvid * m.htotal * m.vtotal = 0
    let res := if open_ then s.freeValue else min 65535 (dspReserve m (s.rd (dspRate i)))
    let s1 := if x.timing = timing then s
      else (((s.when open_ State.drawn).onDin i (fun y => { y with timing := timing })).wr (dspRes i) res).wrB (dspDsc i) m.dsc
    let good := s1.withinBudget i
    let s2 := (s1.wr (dspState i) (if good then 4 else 5)).when (!good && st ≠ 5) (State.ev dspPage [EV_DSP_OVER_BUDGET])
    let head := pack [(36, 4, 1), (28, 8, x.frame), (25, 3, s.rd (dspRate i)), (23, 2, s.rd (dspLanes i)), (22, 1, b2n m.dsc),
      (21, 1, s.rd (dspFec i)), (20, 1, b2n (!good))]
    let s3 := (s2.dspSend i (head :: BitVec.ofNat 40 s.short :: (msaWords m).map (BitVec.ofNat 40))).onDin i (fun y => { y with frame := (y.frame + 1) % 256 })
    s3.mirrorCheck i

def execDpMsaRx (i : Fin 2) (m : DpMsa) (s : State) : Outcome := unitDone s (dpMsaRx i m s)

/-- The FRAME of the frame in progress: that of the last MSA. (Assumption log 59, DEDUCED.) -/
def DspIn.nowFrame (x : DspIn) : Nat := (x.frame + 255) % 256

/-- DP_LINE_RX (R412, R414): a line is sent only within the budget. -/
def dpLineRx (i line : Nat) (bytes : List Nat) (s : State) : State :=
  if s.rd (dspState i) = 4 && s.withinBudget i then
    s.dspSend i (pack [(36, 4, 2), (28, 8, (s.din i).nowFrame), (15, 13, line), (0, 15, bytes.length)] :: packBytes bytes)
  else s

def execDpLineRx (i : Fin 2) (line : BitVec 13) (bytes : List (BitVec 8)) (s : State) : Outcome :=
  unitDone s (dpLineRx i line.toNat (bytes.map BitVec.toNat) s)

/-- DP_SDP_RX (R412): 4 header and 32 payload bytes. -/
def dpSdpRx (i line : Nat) (bytes : List Nat) (s : State) : State :=
  if 4 ≤ s.rd (dspState i) then
    s.dspSend i (pack [(36, 4, 3), (28, 8, (s.din i).nowFrame), (15, 13, line)] :: packBytes (bytes.take 36))
  else s

def execDpSdpRx (i : Fin 2) (line : BitVec 13) (bytes : List (BitVec 8)) (s : State) : Outcome :=
  unitDone s (dpSdpRx i line.toNat (bytes.map BitVec.toNat) s)

/-! ## AUX (R409, R410) -/

/-- R409: a byte of the ranges that the hub answers itself. (Assumption log 23, PRESUMED.) -/
def State.dpcdRead (s : State) (i a : Nat) : Nat :=
  let x := s.din i
  let slot := x.slots.get x.primary
  let rates : List Nat := [0x06, 0x06, 0x0A, 0x14, 0x1E]
  let lanes : List Nat := [1, 1, 2, 4]
  if 0x68000 ≤ a then 0
  else if 0x100 ≤ a then
    if a = 0x202 || a = 0x203 then
      let n := lanes.getD (s.rd (dspLanes i)) 0
      let k := 2 * (a - 0x202)
      if s.rd (dspState i) < 3 then 0 else b2n (k < n) * 0x07 + b2n (k + 1 < n) * 0x70
    else if a = 0x204 then b2n (3 ≤ s.rd (dspState i))
    else if a < 0x200 then x.dpcd.get a
    else (Config.dpcdByte a).toNat
  else if a = 0x001 then rates.getD (min x.maxRate slot.rate) 0x06
  else if a = 0x002 then putBits (Config.dpcdByte a).toNat 0 5 (lanes.getD (min x.maxLanes slot.lanes) 1)
  else if a = 0x021 then putBits (Config.dpcdByte a).toNat 0 1 0
  else if a = 0x090 then putBits (Config.dpcdByte a).toNat 0 1 1
  else if 0x060 ≤ a && a ≤ 0x06F then
    if bitOf x.cfg 3 && slot.dscOk then (Config.dpcdByte a).toNat else 0
  else (Config.dpcdByte a).toNat

/-- R409: the hub answers the request itself. -/
def ownAux (cmd addr : Nat) : Bool := 8 ≤ cmd && (addr < 0x300 || (0x68000 ≤ addr && addr < 0x6A000))

/-- R410: the forwarded request goes to the dock of the primary slot. -/
def State.forwardAux (i cmd addr len : Nat) (data : List Nat) (s : State) : State :=
  let x := s.din i
  let tag := (x.tag + 1) % 256
  let to_ := ms (min 20 (max 1 (s.rd DSP_TIMING_AUX_TO)))
  let s1 := s.onDin i (fun y => { y with aux := some (cmd, addr, len, data), tag := tag, auxBy := some (s.now + to_), reply := none })
  s1.sendMsg 23 (slotTun i x.primary) (pack [(36, 4, 8), (32, 4, cmd), (12, 20, addr), (8, 4, len - 1), (0, 8, tag)] :: packBytes data)

/-- R410: AUX_TO has passed: the next retry gets AUX_NACK. -/
def State.auxLost (i : Nat) (s : State) : State :=
  ((s.onDin i (fun y => { y with reply := some (1, []), auxBy := none })).bump
    (if i = 0 then DSP_CNT_A_AUX_TIMEOUT else DSP_CNT_B_AUX_TIMEOUT)).ev dspPage [EV_DSP_AUX_TIMEOUT]

/-- AUX_REQUEST (R409, R410): native commands 8 (write) and 9 (read), I2C-over-AUX below 8; the reply codes are 0 ACK, 1 NACK, 2 DEFER and
8 I2C_DEFER; a retry at the instant of AUX_TO without a response gets AUX_NACK. -/
def auxRequest (i cmd addr len : Nat) (data : List Nat) (s : State) : State :=
  let x := s.din i
  let defer : Nat := if cmd < 8 then 8 else 2
  if !s.dspOn i then s
  else if ownAux cmd addr then
    if cmd = 9 then s.emit (.aux i 0 ((List.range len).map (fun k => s.dpcdRead i (addr + k))))
    else
      let s1 := if 0x100 ≤ addr && addr < 0x200 then
          s.onDin i (fun y => { y with dpcd := data.zipIdx.foldl (fun m b => m.set (addr + b.2) b.1) y.dpcd })
        else s
      s1.emit (.aux i 0 [])
  else if x.aux = some (cmd, addr, len, data) then
    match x.reply with
    | some r => (s.onDin i (fun y => { y with aux := none, auxBy := none, reply := none })).emit (.aux i r.1 r.2)
    | none =>
      if s.due x.auxBy then
        ((s.auxLost i).onDin i (fun y => { y with aux := none, reply := none })).emit (.aux i 1 [])
      else s.emit (.aux i defer [])
  else (s.forwardAux i cmd addr len data).emit (.aux i defer [])

def execAuxRequest (i : Fin 2) (cmd : BitVec 4) (addr : BitVec 20) (len : Fin 17) (data : List (BitVec 8)) (s : State) : Outcome :=
  unitDone s (auxRequest i cmd.toNat addr.toNat len (data.map BitVec.toNat) s)

/-- Input and slot of a control tunnel (R407). -/
def slotOf (t : Nat) : Option (Nat × Nat) := if 0xF10 ≤ t && t < 0xF18 then some ((t - 0xF10) / 4, (t - 0xF10) % 4) else none

/-- AUX_RSP_RX (R410): the answer for the next retry; one for an abandoned TAG is dropped. -/
def auxRspRx (t : Nat) (ws : List Word) (s : State) : State :=
  let w := ws.getD 0 0
  match slotOf t with
  | none => s
  | some (i, m) =>
    let x := s.din i
    if fld w 36 4 = 9 && m = x.primary && x.aux.isSome && x.reply.isNone && fld w 0 8 = x.tag then
      s.onDin i (fun y => { y with reply := some (fld w 32 4, unpackBytes (ws.drop 1) (fld w 8 5)), auxBy := none })
    else s

def execAuxRspRx (t : BitVec 12) (msg : List Word) (s : State) : Outcome := unitDone s (auxRspRx t.toNat msg s)

/-- AUX_TIMEOUT (R410): the next retry gets AUX_NACK. -/
def auxTimeout (i : Nat) (s : State) : State :=
  if s.expired (s.din i).auxBy && (s.din i).reply.isNone then s.auxLost i else s

def execAuxTimeout (i : Fin 2) (s : State) : Outcome := unitDone s (auxTimeout i s)

/-! ## Docks and HPD (R411, R413) -/

/-- DISPLAY_STATUS_RX (R408, R411, R413): a dock's STATUS. (Assumption log 59, DEDUCED.) -/
def displayStatusRx (t : Nat) (ws : List Word) (s : State) : State :=
  let w := ws.getD 0 0
  match slotOf t with
  | none => s
  | some (i, m) =>
    if fld w 36 4 ≠ 10 then s
    else
      let x := s.din i
      let old := x.slots.get m
      let ok : Bool := fld w 33 1 = 1
      let slot : Slot5 := {
        failed := old.failed, hpd := fld w 35 1 = 1, outOk := ok, dscOk := fld w 32 1 = 1, underrun := fld w 16 16, rate := fld w 13 3, lanes := fld w 11 2,
        badAt := if ok then none else some (old.badAt.getD s.now) }
      let d := modSub 16 (fld w 16 16) old.underrun
      let s1 := s.onDin i (fun y => { y with slots := y.slots.set m slot })
      let s2 := s1.when (d ≠ 0) (fun s => (s.bumpBy (if i = 0 then DSP_CNT_A_UNDERRUN else DSP_CNT_B_UNDERRUN) d).ev dspPage [EV_DSP_UNDERRUN])
      let s3 := s2.mirrorCheck i
      let s4 := if fld w 34 1 = 1 && m = x.primary && x.hpd && x.holdBy.isNone then
          s3.onDin i (fun y => { y with pulseBy := some (s.now + us 750) })
        else s3
      s4.hpdFollow i

def execDisplayStatusRx (t : BitVec 12) (msg : List Word) (s : State) : Outcome := unitDone s (displayStatusRx t.toNat msg s)

/-- HPD_IRQ_PULSE_END (R411). -/
def hpdPulseEnd (i : Nat) (s : State) : State :=
  if s.due (s.din i).pulseBy then (s.onDin i (fun y => { y with pulseBy := none })).hpdFollow i else s

def execHpdIrqPulseEnd (i : Fin 2) (s : State) : Outcome := unitDone s (hpdPulseEnd i s)

/-- PRIMARY_CHANGE (R411): the primary's control tunnel has FAILED, or its dock has reported OUT_OK = 0 for 1 s. (Assumption log 59, DEDUCED.) -/
def primaryChange (i : Nat) (s : State) : State :=
  let x := s.din i
  let bad : Bool := (s.tun (slotTun i x.primary)).e.state = .failed || (x.slots.get x.primary).badAt.any (fun t => t + 1000000000 < s.now)
  match (List.range 4).find? (fun m => m ≠ x.primary && x.slotValid m && (x.slots.get m).hpd) with
  | some m =>
    if bad && s.dspOn i then
      ((s.onDin i (fun y => { y with primary := m, holdBy := some (s.now + ms 5), pulseBy := none })).ev dspPage [EV_DSP_PRIMARY_CHANGE]).hpdFollow i
    else s
  | none => s

def execPrimaryChange (i : Fin 2) (s : State) : Outcome := unitDone s (primaryChange i s)

/-- HPD_HOLD_END (R411). -/
def hpdHoldEnd (i : Nat) (s : State) : State :=
  if s.due (s.din i).holdBy then (s.onDin i (fun y => { y with holdBy := none })).hpdFollow i else s

def execHpdHoldEnd (i : Fin 2) (s : State) : Outcome := unitDone s (hpdHoldEnd i s)

end Sys2Proof.Machine
end

