-- ==== Sys2Proof/Machine/LogOps.lean ====
section
/-!
DEFINITION. Operations of the lifetime log (R567–R573).
-/
namespace Sys2Proof.Machine

/-- The page of the lifetime log. -/
def logPage : Nat := 0x004

/-- Change the lifetime log. -/
def State.onLog (f : LogUnit → LogUnit) (s : State) : State := { s with log := f s.log }

/-- A bank of the log. -/
def LogUnit.bank (l : LogUnit) (b : Bool) : LogBank := if b then l.bank1 else l.bank0

/-- Put a bank. -/
def LogUnit.setBank (l : LogUnit) (b : Bool) (x : LogBank) : LogUnit := if b then { l with bank1 := x } else { l with bank0 := x }

/-- R570: the target of a commit is marked unfinished while it is written. -/
def State.beginCommit (s : State) : State :=
  let x := s.log.bank (!s.log.last1)
  (s.onLog (fun l => { l.setBank (!l.last1) { x with commit := 0 } with writing := some l.work, startAt := s.now, retried := false })).wr LOG_STAT_COMMITTING 1

/-- R570: a commit starts, or is due behind the one in progress; a request in the cycle in which one starts is served by it. (Assumption log 47, DEDUCED.) -/
def State.startCommit (cmd : Bool) (s : State) : State :=
  if s.log.writing.isSome then
    if s.log.startAt = s.now then s.onLog (fun l => { l with byCmd := l.byCmd || cmd })
    else s.onLog (fun l => { l with again := true, againCmd := l.againCmd || cmd })
  else s.beginCommit.onLog (fun l => { l with byCmd := cmd })

/-- R558, R572: an entry made while the core die was off takes the number that its page's event has since been given. -/
def State.numbered (s : State) (x : List Nat) : List Nat :=
  if x.length ≤ 7 then x
  else x.set 0 (x.headD 0 / 2 ^ 28 * 2 ^ 28 + (s.pages.get (x.getD 7 0)).seq.toNat % 2 ^ 28)

/-- R572: the entries that waited for the commit or for the core die enter the ring. -/
def State.ringHeld (s : State) : State := (s.each (s.log.held.map s.numbered) State.ringPut).onLog (fun l => { l with held := [] })

/-- R568, R572: when the core die next runs, what the power die kept is added and the waiting entries enter the ring. (Assumption log 57, DEDUCED.) -/
def State.takeKept (s : State) : State :=
  let l := s.log
  let full (i : Nat) : Bool := l.work.get i < 2 ^ 32 - 1 && 2 ^ 32 - 1 ≤ l.work.get i + l.kept.get i
  ((s.onLog (fun l => { l with
    work := l.kept.keys.foldl (fun m i => m.set i (satAdd 32 (m.get i) (l.kept.get i))) l.work, kept := Map.empty })).when
    (l.kept.keys.any full) (State.ev logPage [EV_LOG_SATURATED])).ringHeld

/-- R568: TMAX and VMIN hold extremes. -/
def State.lifeMax (t : Int) (s : State) : State :=
  let c := signed 32 (s.log.work.get 0x01C)
  if !s.log.tmaxSet || c < t then s.onLog (fun l => { l with work := l.work.set 0x01C (unsignedOf 32 t), tmaxSet := true }) else s
def State.lifeMin (v : Nat) (s : State) : State :=
  if !s.log.vminSet || v < s.log.work.get 0x033 then s.onLog (fun l => { l with work := l.work.set 0x033 v, vminSet := true }) else s

end Sys2Proof.Machine
end

