-- ==== Sys2Proof/Machine/TanOps.lean ====
section
/-!
DEFINITION. Operations of the tangent line and of the rails of a port (R447–R480).
-/
namespace Sys2Proof.Machine

/-! ## Pages, states and presentations -/

/-- Pages of the tangent function. -/
def tangPage : Nat := 0x00B
def tanPage (p : Nat) : Nat := 0x050 + p

/-- The states of R453. -/
def PS_UNATTACHED : Nat := 0
def PS_ATTACH_WAIT : Nat := 1
def PS_SRC : Nat := 2
def PS_SNK : Nat := 3
def PS_GUARD : Nat := 4
def PS_FAULT_WAIT : Nat := 5
def PS_LATCHED : Nat := 6
def PS_DISABLED : Nat := 7

/-- The states of R464. -/
def CS_HELLO : Nat := 0
def CS_NEGOTIATE : Nat := 1
def CS_TRANSITION : Nat := 2
def CS_CONTRACT : Nat := 3
def CS_SWAP : Nat := 4
def CS_AUX_ONLY : Nat := 5
def CS_HARD_RESET : Nat := 6

/-- The phases of R470. -/
def PH_RAMP : Nat := 2
def PH_SETTLE : Nat := 3
def PH_OFF : Nat := 4
def PH_SWAP_OFF : Nat := 5
def PH_RESET_OFF : Nat := 6

/-- R12, R13: a deadline of the power die has passed: the ambient cycle in which it expired is over, so that what arrives in it comes first. -/
def State.cycleOver (s : State) (o : Option Nat) : Bool := o.any (fun t => t / 40 < s.now / 40)

/-- The tangent state of a port. -/
def State.tan (s : State) (p : Nat) : TanPort := s.pd.tans.get p
/-- Change the tangent state of a port. -/
def State.onTan (p : Nat) (f : TanPort → TanPort) (s : State) : State := { s with pd := { s.pd with tans := s.pd.tans.upd p f } }
/-- State of a port under R453, contract state under R464. -/
def State.ps (s : State) (p : Nat) : Nat := s.rd (TAN_PORT_STAT_PSTATE p)
def State.cs (s : State) (p : Nat) : Nat := s.rd (TAN_PORT_STAT_CSTATE p)
/-- The port is attached. -/
def State.joined (s : State) (p : Nat) : Bool := s.ps p = PS_SRC || s.ps p = PS_SNK
/-- The hub is main source on a port. -/
def State.mainSrc (s : State) (p : Nat) : Bool := s.rdB (TAN_PORT_STAT_MAIN_SRC p)
/-- A feed is power-good. -/
def State.feedPg (s : State) : Bool := [0, 1].any (fun x => (s.pd.feeds.get x).pg)
/-- R499: a main-sink contract is in force. -/
def State.sinkContract (s : State) : Bool := (List.range 18).any (fun p => s.rdB (TAN_PORT_STAT_MAIN_ON p) && !s.mainSrc p)
/-- R594: a TEST strap is latched as 1. -/
def State.testStrap (s : State) : Bool := bitsOf (s.rd CHIP_STRAP_STRAPS) 4 2 ≠ 0

/-- R453, R477, R594: the presentation of an unattached port: true Ip, false Rd. -/
def State.presentsIp (s : State) (p : Nat) : Bool :=
  s.feedPg && !s.testStrap && (s.rd (TAN_PORT_CTL_ROLE p) = 0 || (s.rd (TAN_PORT_CTL_ROLE p) = 2 && (s.tan p).ip))

/-- R452: the next presentation of a dual-role port, drawn from 25 ms to 35 ms. -/
def State.drawToggle (p : Nat) (s : State) : State :=
  let n := s.freeValue % 10000001
  s.drawn.onTan p (fun x => { x with toggleAt := some (s.now + ms 25 + n) })

/-! ## Contracts -/

/-- R467, R468: the power of the source contracts of the other ports, in force or granted, in 0.5 W. -/
def State.srcPower (s : State) (but : Nat) : Nat :=
  (((List.range 18).filter (fun p => p ≠ but && s.mainSrc p)).map (fun p =>
    max (s.rd (TAN_CONTRACT_P_C p)) (if (s.tan p).granted then (s.tan p).reqP else 0))).sum

/-- R481: SRC_P shows the sum of P_C of the source contracts. -/
def State.noteSrc (s : State) : State :=
  s.wr TAN_STAT_SRC_P (((List.range 18).filter s.mainSrc).map (fun p => s.rd (TAN_CONTRACT_P_C p))).sum

/-- R483: TAN_BUDGET in 0.5 W. -/
def State.budget (s : State) : Nat := 2 * min 1800 (s.rd TAN_BUDGET_W)

/-- R454: the main-rail rating of the cable, 10 mA units. -/
def State.cableI (s : State) (p : Nat) : Nat := match s.rd (TAN_PORT_STAT_CABLE p) with
  | 1 => 250
  | 2 => 250
  | 3 => 250
  | 4 => 200
  | _ => 100

/-- R467: IMAX of an OFFER. -/
def State.offerImax (s : State) (p : Nat) : Nat :=
  if !s.rdB TAN_CTL_MAIN_EN || !s.feedPg || s.rdB FEED_STAT_WARN then 0
  else min (min 250 (s.rd (TAN_PORT_CTL_ILIM p))) (s.cableI p)

/-- R467: PMAX of an OFFER. -/
def State.offerPmax (s : State) (p : Nat) : Nat := min 200 (s.budget - s.srcPower p)

/-- R32, R459, R473: swaps are common: protocol 1.1, and SWAP in the HELLOs of both sides. -/
def State.swapCommon (s : State) (p : Nat) : Bool :=
  s.rd (TAN_PORT_STAT_VER_MINOR p) = 1 && bitOf (s.rd (TAN_PARTNER_ARG p)) 9 && (s.tan p).mySwap

/-- R466: the data word of an OFFER. -/
def State.offerWord (s : State) (p : Nat) : Word :=
  pack [(30, 10, s.rd FEED_THR_UV), (20, 10, s.rd FEED_THR_OV), (12, 8, s.offerImax p), (4, 8, s.offerPmax p),
    (3, 1, b2n (s.swapCommon p && s.rdB (TAN_PORT_CTL_SWAP_EN p) && s.rdB (TAN_PORT_CTL_SINK_EN p)))]

/-- A message waits to be sent. -/
def State.tanPut (p : Nat) (m : TanMsg) (s : State) : State := s.onTan p (fun x => { x with queue := x.queue ++ [m] })

/-- R467: an OFFER waits to be sent; its data word is made when it is sent. -/
def State.putOffer (p : Nat) (s : State) : State :=
  if (s.tan p).queue.any (fun m => m.type = 3) then s else s.tanPut p { type := 3 }

/-- R467: a fresh OFFER on every port in CONTRACT whose IMAX or PMAX has risen. -/
def State.reoffer (s : State) : State :=
  s.each (List.range 18) (fun p s =>
    if s.joined p && s.cs p = CS_CONTRACT && s.mainSrc p && ((s.tan p).offerI < s.offerImax p || (s.tan p).offerP < s.offerPmax p)
    then s.putOffer p else s)

/-- R455: attach is signalled to the lane layer. -/
def State.signalAttach (p : Nat) (s : State) : State := s.onTan p (fun x => { x with signalled := true })

/-- R464: CONTRACT is entered. -/
def State.enterContract (p : Nat) (s : State) : State :=
  let done := (s.tan p).swapping
  let s1 := (s.wr (TAN_PORT_STAT_CSTATE p) CS_CONTRACT).onTan p (fun x => { x with
    phase := 0, readyBy := none, swapBy := none, swapping := false, granted := false, resets := 0 })
  ((s1.signalAttach p).ev (tanPage p) (EV_TAN_CONTRACT :: if done then [EV_TAN_SWAP_DONE] else [])).noteSrc

/-- R465, R476: AUX_ONLY is entered. (Assumption log 56, DEDUCED.) -/
def State.enterAuxOnly (p : Nat) (s : State) : State :=
  let s1 := (s.wr (TAN_PORT_STAT_CSTATE p) CS_AUX_ONLY).onTan p (fun x => { x with
    queue := [], out := none, helloAt := none, waitBy := none, granted := false })
  (s1.signalAttach p).ev (tanPage p) [EV_TAN_AUX_ONLY]

/-- The main rail of a port is off and its contract void. -/
def State.voidContract (p : Nat) (s : State) : State :=
  ((((s.emit (.rail p true false)).wr (TAN_PORT_STAT_MAIN_ON p) 0).wr (TAN_CONTRACT_I_C p) 0).wr (TAN_CONTRACT_P_C p) 0).noteSrc

/-- R480: a rail is turned on; a rail that has stayed on for 1 s clears the count of quick faults. -/
def State.railOn (p : Nat) (main : Bool) (s : State) : State :=
  (s.emit (.rail p main true)).onTan p (fun x => { x with
    faults := if x.railAt.any (fun t => t + 1000000000 ≤ s.now) then 0 else x.faults, railAt := some s.now })

/-! ## Hard reset (R475, R476) -/

/-- Everything in progress is abandoned; `rcvd`: on reception; `firmware`: written by firmware. (Assumption log 56, DEDUCED.) -/
def State.hardReset (p : Nat) (rcvd firmware : Bool) (s : State) : State :=
  if !s.joined p then s
  else
    let x := s.tan p
    let stay : Bool := s.cs p = CS_AUX_ONLY && !firmware
    let n := if firmware then 1 else x.resets + 1
    let sourcing : Bool := s.mainSrc p && (s.rdB (TAN_PORT_STAT_MAIN_ON p) || 2 ≤ x.phase)
    let s1 := (s.when (!rcvd) (State.emit (.tangentReset p))).onTan p (fun x => { x with
      msgId := 0, lastRx := none, queue := [], out := none, hellos := 0, helloAt := none, granted := false,
      phase := if sourcing then PH_RESET_OFF else 0, readyBy := none, swapBy := none, swapping := false,
      resets := n, resetRcvd := rcvd, resetAt := some s.now, waitBy := some (s.now + ms 100) })
    let s2 := (s1.voidContract p).wrB (TAN_PORT_STAT_MAIN_SRC p) x.attSrc
    let s3 := (((s2.bump (TAN_FAULTS_HARD_RESETS p)).life (portLife p 2)).ev (tanPage p) [EV_TAN_HARD_RESET]).noteSrc
    let s4 := if stay then s3
      else if 3 ≤ n then s3.enterAuxOnly p
      else s3.wr (TAN_PORT_STAT_CSTATE p) CS_HARD_RESET
    s4.reoffer

/-- R475: the hub sends HARD_RESET. -/
def State.sendHardReset (p : Nat) (s : State) : State := s.hardReset p false false

/-! ## Leaving and faults -/

/-- R66: the lane layer sees the tangent detach, with the core die off at its wake. (Assumption log 56, DEDUCED.) -/
def State.laneDetach (p : Nat) (s : State) : State :=
  let st := s.ls p
  if !s.coreOn then { s with pd := { s.pd with gone := s.pd.gone.filter (· ≠ p) ++ [p] } }
  else if st = LS_ACTIVE || st = LS_RETRAIN || st = LS_DOZE || st = LS_NAP || st = LS_DORMANT then s.enterDown p
  else if st = LS_DISABLED && s.rdB (LANE_CTL_ENABLE p) then s.wr (LANE_STAT_STATE p) LS_DETECT
  else s

/-- The port leaves an attached state, or any other, for state `st`: rails off, no contract. (Assumption log 56, DEDUCED.) -/
def State.leavePort (p st : Nat) (wait : Option Nat) (s : State) : State :=
  let was := s.joined p
  let told := (s.tan p).signalled
  let s1 := ((s.when was (fun s => (s.emit (.rail p false false)).voidContract p)).wr (TAN_PORT_STAT_PSTATE p) st).wr (TAN_PORT_STAT_CSTATE p) 7
  let s2 := ((s1.wr (TAN_PORT_STAT_AUX_ON p) 0).wr (TAN_PORT_STAT_MAIN_SRC p) 0).wr (TAN_PORT_STAT_VER_MINOR p) 15
  let s3 := s2.onTan p (fun x => {
    ip := x.ip, waitBy := wait, leftAt := s.now, faults := if x.railAt.any (fun t => t + 1000000000 ≤ s.now) then 0 else x.faults })
  (((s3.when was (State.ev (tanPage p) [EV_TAN_DETACH])).when told (State.laneDetach p)).noteSrc).reoffer

/-- R453: the port goes to UNATTACHED, or to DISABLED where it is not enabled. -/
def State.enterUnattached (p : Nat) (s : State) : State :=
  if !s.rdB (TAN_PORT_CTL_ENABLE p) || s.rd (TAN_PORT_CTL_ROLE p) = 3 then s.leavePort p PS_DISABLED none
  else s.leavePort p PS_UNATTACHED none

/-- R479, R480: a fault of the main rail (`main`), or of the auxiliary rail or a contact. -/
def State.tanFault (p : Nat) (main : Bool) (s : State) : State :=
  let x := s.tan p
  let quick : Bool := x.railAt.any (fun t => s.now < t + 1000000000)
  let n := if quick then x.faults + 1 else 0
  let s1 := (((s.bump (if main then TAN_FAULTS_MAIN_TRIPS p else TAN_FAULTS_AUX_TRIPS p)).life (portLife p 1)).ev (tanPage p) [EV_TAN_FAULT]).onTan p
    (fun x => { x with faults := n })
  if 4 ≤ n then
    let s2 := ((s1.leavePort p PS_LATCHED none).ev (tanPage p) [EV_TAN_FAULT_LATCH])
    s2.ring (tanPage p) 5 p (s2.regOf (tanFields p 0) 0x054) (s2.regOf (tanFields p 0) 0x00C)
  else s1.leavePort p PS_FAULT_WAIT (some (s.now + ms (min 10000 (max 100 (s.rd TAN_RETRY_MS)))))

/-! ## Messages (R457–R462) -/

/-- R458: a header word. -/
def State.tanHeader (s : State) (p : Nat) (m : TanMsg) (id : Nat) : Word :=
  pack [(36, 4, m.type), (33, 3, id), (30, 3, m.data.length), (29, 1, b2n (s.mainSrc p)), (0, 27, m.arg)]

/-- R457: the words of a transmission: header, data, CRC. (Assumption log 55, DEDUCED.) -/
def withCrc (ws : List Word) : List Word := ws ++ [pack [(8, 32, flitCrc ws)]]

/-- R457: the length of a transmission in ns: preamble, delimiter, words of 44 bits and the end, 1.6 µs a bit. -/
def tanNs (data : Nat) : Nat := (32 + 16 + 44 * (data + 2) + 2) * 1600

/-- R461: an ACK. -/
def State.tanAck (p id : Nat) (s : State) : State := s.emit (.tangent p (withCrc [s.tanHeader p { type := 1 } id]))

/-- R462: REJECT with CAUSE UNSUPPORTED. -/
def State.tanUnsupported (p : Nat) (s : State) : State :=
  ((s.tanPut p { type := 6, arg := 4 }).bump (TAN_MSG_BAD p)).ev (tanPage p) [EV_TAN_UNSUPPORTED]

/-- R459: the data words of a message type. -/
def tanWords (t : Nat) : Nat := if t = 3 || t = 4 then 1 else 0

/-- R457, R460, R462: a message arrives on the line; `type` is the one of the command, `bad` a word that fails parity; one with another number
of data words than R459 gives is not allowed, and one in the ambient cycle of a hard reset is lost (R475). (Assumption log 55, DEDUCED.) -/
def State.tanReceive (p type : Nat) (ws : List Word) (bad : Bool) (f : Nat → Word → State → State) (s : State) : State :=
  let h := ws.getD 0 0
  let n := fld h 30 3
  let t := fld h 36 4
  let id := fld h 33 3
  let reserved : Bool := t = 0 || 10 ≤ t
  if !s.joined p || (s.tan p).resetAt.any (fun t => t / 40 = s.now / 40) then s
  else if bad || 4 < n || ws ≠ withCrc (ws.take (n + 1)) || ws.length ≠ n + 2 then s.bump (TAN_MSG_BAD p)
  else if t ≠ type && !reserved then s
  else
    let s1 := s.tanAck p id
    if (s.tan p).lastRx = some id then s1
    else
      let s2 := s1.onTan p (fun x => { x with lastRx := some id })
      if reserved then s2.tanUnsupported p else if n ≠ tanWords t then s2.sendHardReset p else f (fld h 0 27) (ws.getD 1 0) s2

/-- The outstanding message is of a type. -/
def State.awaiting (s : State) (p type : Nat) : Bool := (s.tan p).out.any (fun o => o.m.type = type)

/-- The outstanding message has been answered. -/
def State.answered (p : Nat) (s : State) : State := s.onTan p (fun x => { x with
  out := none, msgId := if x.out.any (fun o => o.ackAt.isNone) then (x.msgId + 1) % 8 else x.msgId })

/-- R459: ARG of the hub's HELLO. -/
def State.helloArg (s : State) (p : Nat) : Nat :=
  packNat [(19, 8, 0x10), (11, 8, 0x11), (10, 1, b2n (s.rd (TAN_PORT_CTL_ROLE p) = 2)), (9, 1, s.rd (TAN_PORT_CTL_SWAP_EN p)), (8, 1, 1),
    (4, 3, if s.isRoot then 2 else 1)]

/-- R32, R465: the highest minor version common to the hub and a HELLO. -/
def commonMinor (arg : Nat) : Option Nat :=
  let hi := min 0x11 (bitsOf arg 11 8)
  if max 0x10 (bitsOf arg 19 8) ≤ hi then some (hi - 0x10) else none

end Sys2Proof.Machine
end

