-- ==== Sys2Proof/Machine/FeedOps.lean ====
section
/-!
DEFINITION. Operations of the feeds and of FEED_WARN (R488–R506).
-/
namespace Sys2Proof.Machine

/-- The page of the feeds. -/
def feedPage : Nat := 0x00A

/-- A feed: 0 A, 1 B. -/
def State.feed (s : State) (x : Nat) : Feed := s.pd.feeds.get x

/-- R504: FEED_STAT shows a feed. -/
def State.noteFeed (x : Nat) (s : State) : State :=
  let f := s.feed x
  s.wr (if x = 0 then FEED_STAT_FEED_A else FEED_STAT_FEED_B)
    (packNat [(6, 1, b2n f.limit), (5, 1, b2n f.blocked), (4, 1, b2n f.faultBy.isSome), (3, 1, b2n f.pg), (0, 3, f.st.code)])

/-- Change a feed. -/
def State.onFeed (x : Nat) (f : Feed → Feed) (s : State) : State :=
  ({ s with pd := { s.pd with feeds := s.pd.feeds.upd x f } }).noteFeed x

/-- An event bit of a feed, by its place in the field of feed A (R505). -/
def State.feedEv (x bit : Nat) (s : State) : State := s.ev feedPage [bit + 8 * x]

/-- R492, R506: the measurements of feed x: FEED_MEAS, FEED_BUS with its minimum, VMIN of the lifetime log. -/
def State.feedMeas (x : Nat) (m : FeedMeas) (s : State) : State :=
  let rs := max 1 (s.rd (if x = 0 then FEED_SENSE_RS_A else FEED_SENSE_RS_B))
  let i := min 4095 (m.vs * 100 / rs)
  let s1 := if x = 0 then (s.wr FEED_MEAS_A_VIN m.vin).wr FEED_MEAS_A_I i else (s.wr FEED_MEAS_B_VIN m.vin).wr FEED_MEAS_B_I i
  ((s1.wr FEED_BUS_V m.fbus).wr FEED_BUS_MIN (min (s.rd FEED_BUS_MIN) m.fbus)).when (s.coreOn && s.feedPg) (State.lifeMin m.fbus)

/-- R490, R498: a feed goes to a state; one that leaves ON loses power-good. (Assumption log 57, DEDUCED.) -/
def State.feedTo (x : Nat) (st : FeedState) (s : State) : State :=
  let was := (s.feed x).pg
  (s.onFeed x (fun f => { st := st, since := s.now, offAt := f.offAt, hadStart := f.startBy, hadFault := f.faultBy })).when was (State.feedEv x EV_FEED_A_PG_DOWN)

/-- R490, R494: START is entered: Q2 ramps in its limit, and the start timer runs. (Assumption log 57, DEDUCED.) -/
def State.feedStart (x : Nat) (s : State) : State :=
  (s.feedTo x .start).onFeed x (fun f => { f with
    limit := true, startBy := some (s.now + ms (min 1000 (max 10 (s.rd FEED_INRUSH_T_START)))) })

/-- R490: LATCHED is entered, with its ring entry (R572) and its lifetime count (R568). (Assumption log 57, DEDUCED.) -/
def State.feedLatch (x ev : Nat) (s : State) : State :=
  let s1 := ((s.feedTo x .latched).feedEv x ev).life (0x31 + x)
  s1.ring feedPage 4 (s1.regOf (feedFields 0 0) 0x00C) (s1.regOf (feedFields 0 0) 0x05C) (s1.regOf (feedFields 0 0) 0x060)

/-- A feed entered a state in the ambient cycle that the present instant lies in. -/
def State.sameCycle (s : State) (t : Nat) : Bool := t / 40 = s.now / 40

/-- R490: a feed that can latch: ON, or OV_OFF entered in the same ambient cycle. -/
def State.feedConducts (s : State) (x : Nat) (start : Bool) : Bool :=
  let f := s.feed x
  f.st = .on || (start && f.st = .start) || (f.st = .ovOff && s.sameCycle f.since)

/-! ## FEED_WARN (R499–R501) -/

/-- R500: the ports on which the hub sends its own FEED_WARN. -/
def State.warnPorts (s : State) : List Nat :=
  (s.spokePorts ++ if s.isRoot then [] else [s.ids.carry.getD 16]).filter s.active

/-- R500: the hub's own FEED_WARN message. (Assumption log 57, DEDUCED.) -/
def State.sendWarn (s : State) : State :=
  s.pointTo { type := 1, oh := true, origin := s.hubNo, arg := s.pd.warn.arg } s.warnPorts

/-- R468: REQUESTs that were judged in the ambient cycle in which FEED_WARN asserts and raise the contract are judged as under it. -/
def State.ungrant (s : State) : State :=
  s.each (List.range 18) (fun p s =>
    let x := s.tan p
    if x.granted && s.sameCycle x.grantAt && x.queue.any (fun m => m.type = 5) &&
        (s.rd (TAN_CONTRACT_I_C p) < x.reqI || s.rd (TAN_CONTRACT_P_C p) < x.reqP) then
      ((s.onTan p (fun y => { y with granted := false, queue := y.queue.filter (fun m => m.type ≠ 5) })).tanPut p { type := 6, arg := 2 }).putOffer p
        |>.ev tangPage [EV_TANG_FEED_REJECT]
    else s)

/-- R501 step 1 with SHED = 1: every main rail that the hub sources goes off, and HARD_RESET follows. -/
def State.shed (s : State) : State :=
  s.each (List.range 18) (fun p s =>
    if s.joined p && s.mainSrc p && (s.rdB (TAN_PORT_STAT_MAIN_ON p) || (s.tan p).phase = PH_RAMP || (s.tan p).phase = PH_SETTLE)
    then s.sendHardReset p else s)

/-- R546: an image write in its steps 3 and 4 is aborted; the target's COMMIT stays 0. (Assumption log 57, DEDUCED.) -/
def State.abortImage (s : State) : State :=
  if s.stored.committing.isSome then
    ((({ s with stored := { s.stored with target := none, committing := none } }).wr CFG_STAT_BUSY 0).wr CFG_STAT_STATUS 3).ev 0x003 [EV_CFG_ABORTED]
  else s

end Sys2Proof.Machine
end

