-- ==== Sys2Proof/Machine/Feed.lean ====
section
/-!
DEFINITION. The meanings of the commands of the feeds (R488–R506).
-/
namespace Sys2Proof.Machine

/-- FEED_QUALIFY (R490, R594). -/
def feedQualify (x : Nat) (m : FeedMeas) (s0 : State) : State :=
  let s := s0.feedMeas x m
  if (s.feed x).st = .absent && !s.testStrap && s.rd FEED_THR_UV ≤ m.vin && m.vin ≤ s.rd FEED_THR_OV then s.feedStart x else s

def execFeedQualify (x : Fin 2) (m : FeedMeas) (s : State) : Outcome := dieDone s (feedQualify x m s)

/-- FEED_VIN_LOSS (R490, R496): VIN below 5.0 V; a latched feed is toggled. -/
def feedVinLoss (x : Nat) (m : FeedMeas) (s0 : State) : State :=
  let s := s0.feedMeas x m
  if m.vin < 50 && (s.feed x).st ≠ .disabled && (s.feed x).st ≠ .absent then s.feedTo x .absent else s

def execFeedVinLoss (x : Fin 2) (m : FeedMeas) (s : State) : Outcome := dieDone s (feedVinLoss x m s)

/-- FEED_ON (R490, R498): FBUS lies within 1.0 V of VIN; the qualification of power-good begins. -/
def feedOn (x : Nat) (m : FeedMeas) (s0 : State) : State :=
  let s := s0.feedMeas x m
  if (s.feed x).st = .start && m.vin ≤ m.fbus + 10 && m.fbus ≤ m.vin + 10 then
    (s.feedTo x .on).onFeed x (fun f => { f with pgFrom := some s.now })
  else s

def execFeedOn (x : Fin 2) (m : FeedMeas) (s : State) : Outcome := dieDone s (feedOn x m s)

/-- R490: an overvoltage has taken the feed out of a state whose timer expired before it, in the same ambient cycle: the latch prevails. -/
def State.latchWins (s : State) (x : Nat) (by_ : Option Nat) : Bool :=
  (s.feed x).st = .ovOff && s.sameCycle (s.feed x).since && s.cycleOver by_

/-- FEED_START_TIMEOUT (R494). -/
def feedStartTimeout (x : Nat) (m : FeedMeas) (s0 : State) : State :=
  let s := s0.feedMeas x m
  if ((s.feed x).st = .start && s.cycleOver (s.feed x).startBy) || s.latchWins x (s.feed x).hadStart then
    (s.bump (if x = 0 then FEED_TRIPS_A_START_FAIL else FEED_TRIPS_B_START_FAIL)).feedLatch x EV_FEED_A_START_FAIL
  else s

def execFeedStartTimeout (x : Fin 2) (m : FeedMeas) (s : State) : Outcome := dieDone s (feedStartTimeout x m s)

/-- FEED_CB_TRIP (R495): the fault timer has reached FT. -/
def feedCbTrip (x : Nat) (m : FeedMeas) (s0 : State) : State :=
  let s := s0.feedMeas x m
  if ((s.feed x).st = .on && s.cycleOver (s.feed x).faultBy) || s.latchWins x (s.feed x).hadFault then
    (s.bump (if x = 0 then FEED_TRIPS_A_CB else FEED_TRIPS_B_CB)).feedLatch x EV_FEED_A_CB_TRIP
  else s

def execFeedCbTrip (x : Fin 2) (m : FeedMeas) (s : State) : Outcome := dieDone s (feedCbTrip x m s)

/-- FEED_FAST_TRIP (R495): Vs has reached FAST, in START or ON. -/
def feedFastTrip (x : Nat) (m : FeedMeas) (s0 : State) : State :=
  let s := s0.feedMeas x m
  if s.feedConducts x true && s.rd FEED_CB_FAST * 10 ≤ m.vs then
    (s.bump (if x = 0 then FEED_TRIPS_A_FAST else FEED_TRIPS_B_FAST)).feedLatch x EV_FEED_A_FAST_TRIP
  else s

def execFeedFastTrip (x : Fin 2) (m : FeedMeas) (s : State) : Outcome := dieDone s (feedFastTrip x m s)

/-- FEED_CB_LIMIT (R493, R495, R498): in ON, Vs at CB or above starts the fault timer and the limit; below CB they end, and the
qualification of power-good begins anew. -/
def feedCbLimit (x : Nat) (m : FeedMeas) (s0 : State) : State :=
  let s := s0.feedMeas x m
  let f := s.feed x
  if f.st ≠ .on then s
  else if s.rd FEED_CB_CB * 5 ≤ m.vs then
    if f.faultBy.isSome then s
    else s.onFeed x (fun f => { f with limit := true, pgFrom := none, faultBy := some (s.now + ms (min 100 (max 1 (s.rd FEED_CB_FT)))) })
  else if f.faultBy.isSome then s.onFeed x (fun f => { f with limit := false, faultBy := none, pgFrom := some s.now })
  else s

def execFeedCbLimit (x : Fin 2) (m : FeedMeas) (s : State) : Outcome := dieDone s (feedCbLimit x m s)

/-- FEED_OV (R490, R497): counted and raised; a feed latched in the same ambient cycle stays latched. -/
def feedOv (x : Nat) (m : FeedMeas) (s0 : State) : State :=
  let s := s0.feedMeas x m
  let f := s.feed x
  let note (s : State) : State := (s.bump (if x = 0 then FEED_OV_CNT_OV_A else FEED_OV_CNT_OV_B)).feedEv x EV_FEED_A_OV
  if m.vin ≤ s.rd FEED_THR_OV then s
  else if f.st = .start || f.st = .on then note (s.feedTo x .ovOff)
  else if f.st = .latched && s.sameCycle f.since then note s
  else s

def execFeedOv (x : Fin 2) (m : FeedMeas) (s : State) : Outcome := dieDone s (feedOv x m s)

/-- FEED_OV_RECOVER (R490): VIN at or below OV − 1.0 V. -/
def feedOvRecover (x : Nat) (m : FeedMeas) (s0 : State) : State :=
  let s := s0.feedMeas x m
  if (s.feed x).st = .ovOff && m.vin + 10 ≤ s.rd FEED_THR_OV then s.feedStart x else s

def execFeedOvRecover (x : Fin 2) (m : FeedMeas) (s : State) : Outcome := dieDone s (feedOvRecover x m s)

/-- FEED_REVERSE (R491): FBUS exceeds VIN by the reverse threshold. -/
def feedReverse (x : Nat) (m : FeedMeas) (s0 : State) : State :=
  let s := s0.feedMeas x m
  let f := s.feed x
  if (f.st = .start || f.st = .on) && !f.blocked && m.vin ≤ m.fbus then
    ((s.onFeed x (fun f => { f with blocked := true })).bump (if x = 0 then FEED_TRIPS_A_REVERSE else FEED_TRIPS_B_REVERSE)).feedEv x EV_FEED_A_REVERSE
  else s

def execFeedReverse (x : Fin 2) (m : FeedMeas) (s : State) : Outcome := dieDone s (feedReverse x m s)

/-- FEED_REVERSE_CLEAR (R491): VIN exceeds FBUS, and Q1 turns on again. -/
def feedReverseClear (x : Nat) (m : FeedMeas) (s0 : State) : State :=
  let s := s0.feedMeas x m
  if (s.feed x).blocked && m.fbus ≤ m.vin then s.onFeed x (fun f => { f with blocked := false }) else s

def execFeedReverseClear (x : Fin 2) (m : FeedMeas) (s : State) : Outcome := dieDone s (feedReverseClear x m s)

/-- PG_UP (R498, R499, R467, R478): the conditions have held for 1 ms; FEED_WARN is evaluated from now on, offers may rise, and the
hub no longer runs from cable power alone. -/
def pgUp (x : Nat) (m : FeedMeas) (s0 : State) : State :=
  let s := s0.feedMeas x m
  let f := s.feed x
  if f.st = .on && !f.pg && f.faultBy.isNone && s.due (f.pgFrom.map (· + ms 1)) && s.rd FEED_THR_UV + 5 ≤ m.vin && m.vin ≤ s.rd FEED_THR_OV then
    let s1 := (s.onFeed x (fun f => { f with pg := true })).feedEv x EV_FEED_A_PG_UP
    (({ s1 with pd := { s1.pd with warn := { s1.pd.warn with armed := true } } }).wr TAN_STAT_DB_ACTIVE 0).reoffer
  else s

def execPgUp (x : Fin 2) (m : FeedMeas) (s : State) : Outcome := dieDone s (pgUp x m s)

/-- PG_DOWN (R498): VIN below UV; a feed that leaves ON loses PG with that. -/
def pgDown (x : Nat) (m : FeedMeas) (s0 : State) : State :=
  let s := s0.feedMeas x m
  if (s.feed x).pg && m.vin < s.rd FEED_THR_UV then
    (s.onFeed x (fun f => { f with pg := false, pgFrom := some s.now })).feedEv x EV_FEED_A_PG_DOWN
  else s

def execPgDown (x : Fin 2) (m : FeedMeas) (s : State) : Outcome := dieDone s (pgDown x m s)

/-- FEED_WARN_ASSERT (R468, R499–R501, R437, R546, R570): `fbus` in 0.1 V.  With the core die off only step 1 is performed. -/
def feedWarnAssert (fbus : Nat) (s : State) : State :=
  let cause := b2n (fbus < s.rd FEED_THR_WARN) + 2 * b2n (!s.feedPg && !s.sinkContract)
  if !s.pd.warn.armed || s.rdB FEED_STAT_WARN || cause = 0 then s
  else
    let arg := packNat [(18, 1, 1), (16, 2, cause), (6, 10, fbus)]
    let s1 := { s with pd := { s.pd with warn := { s.pd.warn with at_ := s.now, arg := arg, repeatAt := some (s.now + ms 10) } } }
    let s2 := ((((s1.wr FEED_STAT_WARN 1).wr FEED_STAT_CAUSE cause).wr FEED_BUS_V fbus).wr FEED_BUS_MIN (min (s.rd FEED_BUS_MIN) fbus)).bump FEED_WARN_CNT_ASSERTS
    let s3 := ((s2.ev feedPage [EV_FEED_WARN_ON]).life 0x030).ungrant.when (s.rdB FEED_CTL_SHED) State.shed
    let s4 := s3.ring feedPage 2 arg (s3.regOf (feedFields 0 0) 0x00C) (s3.regOf (feedFields 0 0) 0x058)
    if s4.coreOn then (s4.sendWarn.abortImage).startCommit false else s4

def execFeedWarnAssert (fbus : BitVec 10) (s : State) : Outcome := dieDone s (feedWarnAssert fbus.toNat s)

/-- FEED_WARN_DEASSERT (R499, R500, R467). -/
def feedWarnDeassert (fbus : Nat) (s : State) : State :=
  if s.rdB FEED_STAT_WARN && s.pd.warn.at_ + ms 10 ≤ s.now && s.rd FEED_THR_WARN + 10 ≤ fbus && (s.feedPg || s.sinkContract) then
    let arg := packNat [(6, 10, bitsOf s.pd.warn.arg 6 10)]
    let s1 := { s with pd := { s.pd with warn := { s.pd.warn with arg := arg, repeatAt := none } } }
    let s2 := ((s1.wr FEED_STAT_WARN 0).wr FEED_STAT_CAUSE 0).ev feedPage [EV_FEED_WARN_OFF]
    (s2.when s2.coreOn State.sendWarn).reoffer
  else s

def execFeedWarnDeassert (fbus : BitVec 10) (s : State) : Outcome := dieDone s (feedWarnDeassert fbus.toNat s)

/-- FEED_WARN_REPEAT (R500). -/
def feedWarnRepeat (s : State) : State :=
  if s.rdB FEED_STAT_WARN && s.due s.pd.warn.repeatAt then
    ({ s with pd := { s.pd with warn := { s.pd.warn with repeatAt := some (s.now + ms 10) } } }).when s.coreOn State.sendWarn
  else s

def execFeedWarnRepeat (s : State) : Outcome := dieDone s (feedWarnRepeat s)

/-- FEED_ENABLE (R490, R496, R504): a write of EN_x under the page's LOCK; a latched feed returns to ABSENT after 1 ms at 0. -/
def feedEnable (x : Nat) (en : Bool) (s : State) : State :=
  if !s.coreOn || s.locked feedPage then s
  else
    let s1 := s.wrB (if x = 0 then FEED_CTL_EN_A else FEED_CTL_EN_B) en
    let f := s.feed x
    if !en then
      let s2 := if f.st = .latched || f.st = .disabled then s1 else s1.feedTo x .disabled
      s2.onFeed x (fun f => { f with offAt := some (f.offAt.getD s.now) })
    else
      let s2 := if f.st = .disabled || (f.st = .latched && s.due (f.offAt.map (· + ms 1))) then s1.feedTo x .absent else s1
      s2.onFeed x (fun f => { f with offAt := none })

def execFeedEnable (x : Fin 2) (en : Bool) (s : State) : Outcome := dieDone s (feedEnable x en s)

/-- FEED_THR_WRITE (R506): 18.0 V ≤ UV < WARN < OV ≤ 60.0 V, or the register is unchanged with THR_REJECT. -/
def feedThrWrite (v : Nat) (s : State) : State :=
  let uv := bitsOf v 0 10
  let ov := bitsOf v 10 10
  let wn := bitsOf v 20 10
  if !s.coreOn || s.locked feedPage then s
  else if 180 ≤ uv && uv < wn && wn < ov && ov ≤ 600 then ((s.wr FEED_THR_UV uv).wr FEED_THR_OV ov).wr FEED_THR_WARN wn
  else s.ev feedPage [EV_FEED_THR_REJECT]

def execFeedThrWrite (v : Reg) (s : State) : Outcome := dieDone s (feedThrWrite v.toNat s)

/-- FEED_BUS_MIN_READ (R506): the read returns MIN and V and starts MIN anew. -/
def feedBusMinRead (s : State) : State :=
  if !s.coreOn then s
  else (s.emit (.read feedPage 0x058 (BitVec.ofNat 32 (s.regOf (feedFields 0 0) 0x058)))).wr FEED_BUS_MIN 0x3FF

def execFeedBusMinRead (s : State) : Outcome := dieDone s (feedBusMinRead s)

end Sys2Proof.Machine
end

