-- ==== Sys2Proof/Machine/KeySlotOps.lean ====
section
/-!
DEFINITION. Slots and life cycle: writing a slot, invalidation and its effects, verification (R418–R423, R427–R431, R437, R439, R440).
-/
namespace Sys2Proof.Machine

/-- The page of the key store. -/
def keyPage : Nat := 0x110

/-- A slot. -/
def State.slot (s : State) (k : Nat) : Slot := s.keys.slots.get k

/-- Change a slot. -/
def State.onSlot (k : Nat) (f : Slot → Slot) (s : State) : State := { s with keys := { s.keys with slots := s.keys.slots.upd k f } }

/-- Change the key store beside its slots. -/
def State.onKeys (f : KeyStore → KeyStore) (s : State) : State := { s with keys := f s.keys }

/-- R418, R420: a committed copy. -/
def sealCopy (k idx gen : Nat) (w1 w2 : Reg) (pgen : Nat) (keyId : Reg) (key : BitVec 256) : SlotCopy :=
  let c : SlotCopy := { gen, w1, w2, pgen, keyId, key, commit := gen }
  { c with tag := c.goodTag k idx }

/-- R437: the copy that an update goes to: true for copy 1. (Assumption log 49, DEDUCED.) -/
def Slot.target1 (x : Slot) (k : Nat) : Bool :=
  if !x.c1.valid k 1 then true else if !x.c0.valid k 0 then false else x.c1.gen ≤ x.c0.gen

/-- The ports that LINK_MAP gives a slot (R434). -/
def State.mappedPorts (s : State) (k : Nat) : List Nat := (List.range 18).filter (fun p => s.linkSlot p = k)

/-- R434, R440: the ports whose link runs under a key of a slot. -/
def State.portsUnder (s : State) (k : Nat) : List Nat := (List.range 18).filter (fun p => (s.chord p).keySlot = k)

/-- R440, R136: the link key of a port is revoked; a change of epoch in progress is abandoned. -/
def State.revokeLink (p : Nat) (s : State) : State :=
  let c := s.chord p
  if s.rdB (CHD_STAT_AUTH p) && c.linked && !c.revoked then
    (s.onChord p (fun c => { c with
      revoked := true, revokeAt := some (s.now + ms c.graceMs), epTx := .none, epRepeat := none, epDeadline := none,
      epRx := .none })).dropVc01 p false
  else s

/-- The tunnels whose entry is KEYED and names a slot. -/
def State.keyedTuns (s : State) (k : Nat) : List Nat := s.tunIds.filter (fun t => let e := (s.tun t).e; e.keyed && e.keySlot = k)

/-- R163, R440: the tunnels that a revoked link key takes out of use. -/
def State.revokeCrossing (p : Nat) (s : State) : State := s.each (s.crossing p (fun _ => true)) State.revokeTun

/-- R440: the effect of an unusable key, by the purpose it had. -/
def State.unusable (k purpose : Nat) (s : State) : State :=
  if purpose = 3 then s.each (s.portsUnder k) (fun p s => let s1 := s.revokeLink p
    if (s1.chord p).revoked then s1.revokeCrossing p else s1)
  else if purpose = 4 then s.each (s.keyedTuns k) State.revokeTun
  else s

/-- The slots in KEY whose parent is one of a list (R439). -/
def State.children (s : State) (l : List Nat) : List Nat :=
  s.keys.slots.keys.filter (fun k => let x := s.slot k; x.st = .key && x.inUse.parent < 0xFE && l.contains x.inUse.parent)

/-- R437, R440: a command that has used a key in this instant completes as STALE. -/
def State.staleUse (k : Nat) (s : State) : State :=
  if s.keys.usedAt = s.now && s.keys.used.any (·.1 = k) then
    (s.onKeys (fun x => { x with stale := x.stale || s.keys.used.contains (k, true), used := x.used.filter (·.1 ≠ k) })).bump KEY_REVOKE_STALE
  else s

/-- R439: a descendant becomes REVOKED in the key cache. -/
def State.cascade (k : Nat) (s : State) : State :=
  let c := (s.slot k).inUse
  (((s.onSlot k (fun x => { x with st := .revoked, invalidGen := some c.gen })).bump KEY_REVOKE_CASCADE).unusable k c.purpose).staleUse k

/-- R439: every descendant, generation by generation; a chain is at most five derivations long (R434). -/
def State.cascadeFrom : Nat → List Nat → State → State
  | 0, _, s => s
  | n + 1, l, s => let cs := s.children l
    if cs.isEmpty then s else State.cascadeFrom n cs (s.each cs State.cascade)

/-- R439: the key of a slot, with the purpose and generation it had, has become invalid. (Assumption log 50, DEDUCED.) -/
def State.invalidateKey (k purpose gen : Nat) (s : State) : State :=
  let s1 := ((s.onSlot k (fun x => { x with invalidGen := some gen })).unusable k purpose).staleUse k
  (State.cascadeFrom 6 [k] s1).ev keyPage [EV_KEY_REVOKED]

/-- R440: a slot is KEY again with a greater GEN: its tunnels return to OPEN, and its ports start the epoch change. (Assumption log 50, DEDUCED.) -/
def State.renewKey (k : Nat) (s : State) : State :=
  let ts := (s.keyedTuns k).filter (fun t => let e := (s.tun t).e
    e.state = .rekey && s.tunKeyOk true k && !(e.path.any (fun q => q < 18 && (s.chord q).revoked)))
  let s1 := s.each ts State.reopenHeld
  s1.each ((s1.mappedPorts k).filter (fun p => (s1.chord p).revoked)) State.epochNow

/-- R437, R439: a slot gets its new copy: the old key, if there was one, becomes invalid. -/
def State.writeSlot (k : Nat) (st : SlotState) (gen : Nat) (w1 w2 : Reg) (pgen : Nat) (keyId : Reg) (key : BitVec 256) (s : State) : State :=
  let x := s.slot k
  let t := x.target1 k
  let c := sealCopy k (b2n t) gen w1 w2 pgen keyId key
  let s1 := s.onSlot k (fun x => if t then { x with c1 := c, use1 := true, st := st } else { x with c0 := c, use1 := false, st := st })
  let s2 := if x.st = .key then s1.invalidateKey k x.inUse.purpose x.inUse.gen else s1
  if st = .key then s2.renewKey k else s2

/-! ## The life-cycle record (R427–R431) -/

/-- A copy of the record is valid. -/
def LcCopy.good (c : LcCopy) : Bool := c.valid && c.commit = c.gen

/-- R421, R428: the copy of the record in use. -/
def KeyStore.lcRec (x : KeyStore) : LcCopy :=
  if x.lc0.good && (!x.lc1.good || x.lc1.gen ≤ x.lc0.gen) then x.lc0 else if x.lc1.good then x.lc1 else {}

/-- R428, R437: commit a new record. -/
def State.writeLc (f : LcCopy → LcCopy) (s : State) : State :=
  let r := s.keys.lcRec
  let c : LcCopy := { f r with gen := r.gen + 1, commit := r.gen + 1, valid := true }
  if !s.keys.lc1.good then s.onKeys (fun x => { x with lc1 := c })
  else if !s.keys.lc0.good || s.keys.lc0.gen < s.keys.lc1.gen then s.onKeys (fun x => { x with lc0 := c })
  else s.onKeys (fun x => { x with lc1 := c })

/-- R431: the slots that a new life-cycle state makes unusable. -/
def State.lcLosers (s : State) (old new : Nat) : List Nat :=
  s.keys.slots.keys.filter (fun k => let x := s.slot k; x.st = .key && x.inUse.lcAllows old && !x.inUse.lcAllows new)

/-- R428, R431: the life-cycle state changes; the record holds FIELD during SERVICE. -/
def State.setLc (new : Nat) (s : State) : State :=
  let old := s.lc
  let ls := s.lcLosers old new
  let s1 := if new = 3 || old = 3 && new = 2 then s else s.writeLc (fun c => { c with state := new, count := (c.count + 1) % 2 ^ 32 })
  let s2 := (s1.wr KEY_STAT_LC new).ev keyPage [EV_KEY_LC_CHANGE]
  s2.each ls (fun k s => s.invalidateKey k (s.slot k).inUse.purpose (s.slot k).inUse.gen)

/-- R430: every slot is overwritten with zero, which acts as a revocation of each; a BAD slot stays BAD (R423). -/
def State.retireSlots (s : State) : State :=
  let live := s.keys.slots.keys.filter (fun k => (s.slot k).st = .key)
  let s1 := s.each live (fun k s => s.invalidateKey k (s.slot k).inUse.purpose (s.slot k).inUse.gen)
  s1.onKeys (fun x => { x with slots := x.slots.mapVals (fun _ y => if y.st = .bad then { st := .bad } else Slot.init) })

/-! ## Verification (R421, R422) -/

/-- R422: both copies of a slot fail: BAD, in the bad-slot map, descendants revoked. -/
def State.badSlot (k : Nat) (s : State) : State :=
  let x := s.slot k
  let s1 := (s.onSlot k (fun x => { x with st := .bad })).writeLc (fun c => { c with bad := if c.bad.contains k then c.bad else c.bad ++ [k] })
  let s2 := if x.st = .key then s1.invalidateKey k x.inUse.purpose x.inUse.gen else s1
  s2.ev keyPage [EV_KEY_BAD_SLOT]

/-- R422: the failing copy is rewritten from the valid one. -/
def State.repairSlot (k : Nat) (good1 : Bool) (s : State) : State :=
  let g := if good1 then (s.slot k).c1 else (s.slot k).c0
  let c := sealCopy k (b2n (!good1)) g.gen g.w1 g.w2 g.pgen g.keyId g.key
  ((((s.onSlot k (fun x => if good1 then { x with c0 := c } else { x with c1 := c })).bump KEY_INTEG_REPAIRED)).ev keyPage
    [EV_KEY_REPAIRED]).life 0x43

/-- R421, R422: verify both copies of a slot that is not BAD. -/
def State.verifySlot (k : Nat) (s : State) : State :=
  let x := s.slot k
  let v0 := x.c0.valid k 0
  let v1 := x.c1.valid k 1
  if x.st = .bad || (v0 && v1) || (x.c0.erased && x.c1.erased) then s
  else if v0 then s.repairSlot k false
  else if v1 then s.repairSlot k true
  else s.badSlot k

/-- R422: the record itself. -/
def State.verifyLc (s : State) : State :=
  let k := s.keys
  if k.lc0.good && !k.lc1.good then
    ((s.onKeys (fun x => { x with lc1 := x.lc0 })).bump KEY_INTEG_REPAIRED).ev keyPage [EV_KEY_REPAIRED]
  else if k.lc1.good && !k.lc0.good then
    ((s.onKeys (fun x => { x with lc0 := x.lc1 })).bump KEY_INTEG_REPAIRED).ev keyPage [EV_KEY_REPAIRED]
  else s

/-- R421: the state that a slot is loaded with: the valid copy with the higher GEN, copy 0 of two with the same. -/
def State.loadSlot (k : Nat) (s : State) : State :=
  s.onSlot k (fun x =>
    let v0 := x.c0.valid k 0
    let v1 := x.c1.valid k 1
    let u := v1 && (!v0 || x.c0.gen < x.c1.gen)
    let c := if u then x.c1 else x.c0
    { x with
      use1 := u, invalidGen := none
      st := if s.keys.lcRec.bad.contains k then .bad
            else if v0 || v1 then (if c.mramState = 1 then .key else if c.mramState = 2 then .revoked else .empty)
            else .empty })

/-- R421: a derived slot whose parent is not KEY, or has another GEN, is loaded as REVOKED. -/
def State.orphan (s : State) (k : Nat) : Bool :=
  let x := s.slot k
  let c := x.inUse
  x.st = .key && c.parent < 0xFE &&
    ((s.slot c.parent).st ≠ .key || (s.slot c.parent).inUse.gen ≠ c.pgen)

/-- R421: orphans, generation by generation. -/
def State.dropOrphans : Nat → State → State
  | 0, s => s
  | n + 1, s => let l := s.keys.slots.keys.filter s.orphan
    if l.isEmpty then s else State.dropOrphans n (s.each l (fun k s => s.onSlot k (fun x => { x with st := .revoked })))

/-- R421, R422, R507: the key cache is loaded from MRAM: slots, repair; the next scrub pass is due an interval later. (Assumption log 50, DEDUCED.) -/
def State.loadCache (s : State) : State :=
  let s2 := s.each (s.keys.slots.keys ++ s.keys.lcRec.bad) State.loadSlot
  let s3 := (s2.each s2.keys.slots.keys State.verifySlot).verifyLc
  (State.dropOrphans 6 s3).onKeys (fun x => { x with scrubAt := s.now + max 1 (s.rd KEY_SCRUB_INTERVAL) * 3600000000000 })

/-- R421, R422, R428: the key store at the release of full reset: life-cycle state and cache. (Assumption log 50, DEDUCED.) -/
def State.loadKeys (s : State) : State := (s.wr KEY_STAT_LC s.keys.lcRec.state).loadCache

end Sys2Proof.Machine
end

