-- ==== Sys2Proof/Machine/Key.lean ====
section
/-!
DEFINITION. The commands of the key store (R422, R428–R438).
-/
namespace Sys2Proof.Machine

/-- A command as the command unit has it: master bit, ARG0–ARG3, input bytes. -/
structure KeyArgs where
  master : Nat
  a : List Nat
  input : List Nat
  deriving DecidableEq, Repr

/-- ARGi. -/
def KeyArgs.arg (r : KeyArgs) (i : Nat) : Nat := r.a.getD i 0

/-- What a command completes with: the state, STATUS, output bytes. (Assumption log 48, DEDUCED.) -/
structure KeyAns where
  s : State
  status : Nat
  out : List Nat := []

/-- R432: the arguments of a request. -/
def State.keyArgs (s : State) : KeyReq → KeyArgs
  | .mailbox => { master := masterMailbox, a := (List.range 4).map (fun i => (s.keys.args.get i).toNat),
                  input := (List.range s.keys.inLen).map (fun i => s.keys.inBytes.get i) }
  | .sequencer a b => { master := masterSequencer, a := a.map (·.toNat), input := b.map (·.toNat) }
  | .maint a b => { master := masterMaint, a := a.map (·.toNat), input := b.map (·.toNat) }

/-- R428, R434: a command runs in the life-cycle states of its row; in FIELD the maintenance port may issue only GET_INFO. (Assumption log 48, DEDUCED.) -/
def State.keyRun (lcs : List Nat) (info : Bool) (r : KeyArgs) (f : KeyArgs → State → KeyAns) (s : State) : KeyAns :=
  if !lcs.contains s.lc || (r.master = masterMaint && s.lc = 2 && !info) then ⟨s, 3, []⟩ else f r s

/-- R434, R436, R437: the completion of a command: CMD_DONE, DEFERRED; for the mailbox STATUS, the output bytes and F2's vector. -/
def KeyAns.finish (r : KeyReq) (x : KeyAns) : State :=
  let s1 := x.s.ev keyPage ([EV_KEY_CMD_DONE] ++ (if x.status = 7 then [EV_KEY_DEFERRED] else []))
  if r = .mailbox then
    (s1.onKeys (fun k => { k with status := x.status, outBytes := x.out })).sendVector 2 0
  else s1

/-- R434, R435: a command of the mailbox, the management sequencer or the maintenance port (active with strap MNT_EN). (Assumption log 18, DESIGN CHOICE.) -/
def State.keyCmd (lcs : List Nat) (info : Bool) (r : KeyReq) (f : KeyArgs → State → KeyAns) (s : State) : State :=
  let heard := match r with | .maint _ _ => bitOf (s.rd CHIP_STRAP_STRAPS) 1 | _ => true
  let s0 := s.when (r = .mailbox) (State.onKeys (fun k => { k with stale := false }))
  if s.coreOn && heard then (s0.keyRun lcs info (s.keyArgs r) f).finish r else s

/-- R437: step 1 and the verification of a command that writes MRAM: DEFERRED, or MRAM_FAIL after the second failed verification. -/
def State.keyWrite (fails : Nat) (f : State → KeyAns) (s : State) : KeyAns :=
  if s.rdB FEED_STAT_WARN then ⟨s, 7, []⟩
  else if 2 ≤ fails then ⟨(s.bump KEY_INTEG_MRAM_FAIL).ev keyPage [EV_KEY_MRAM_FAIL], 9, []⟩
  else f s

/-- R425, R437: a use of a slot, or DENIED. (Assumption log 48, DEDUCED.) -/
def State.keyUse (k purpose master : Nat) (f : State → KeyAns) (s : State) : KeyAns :=
  match s.useRefusal k purpose master with
  | some c => ⟨s.deny k c, 2, []⟩
  | none => f (s.onKeys (fun x => { x with
      usedAt := s.now, used := (k, decide (master = masterMailbox)) :: (if x.usedAt = s.now then x.used else []) }))

/-- R434: a slot index that no command takes. -/
def State.noSlot (s : State) (k : Nat) : Bool := 255 < k || (s.slot k).st = .bad

/-- R418, R424: word 1 holds a reserved code. -/
def badWord1 (w : Nat) : Bool := bitsOf w 30 2 = 3 || bitsOf w 26 4 = 0 || 7 < bitsOf w 26 4

/-- Word 1 of a slot in KEY, reserved bits zero. -/
def keyWord1 (w : Nat) : Reg := BitVec.ofNat 32 (putBits (w / 2 ^ 14 * 2 ^ 14) 30 2 1)

/-- R434: the GEN that a command writes to a slot. -/
def Slot.newGen (x : Slot) : Nat := if x.st = .empty then 1 else x.inUse.gen + 1

/-- R434: GEN can go no further. -/
def Slot.exhausted (x : Slot) : Bool := x.st ≠ .empty && x.inUse.gen = 0xFFFFFFFF

/-- Word 2 for a parent (R418). -/
def parentWord (parent lc : Nat) : Reg := BitVec.ofNat 32 (packNat [(24, 8, parent), (21, 3, lc)])

def lcPFS : List Nat := [1, 2, 3]
def lcAll : List Nat := [0, 1, 2, 3, 4]

/-- GET_INFO (R434): words 0–4 of the copy in use, STATE as the key cache has it. (Assumption log 49, DEDUCED.) -/
def keyGetInfo (r : KeyArgs) (s : State) : KeyAns :=
  let k := r.arg 0
  if s.noSlot k then ⟨s, 1, []⟩
  else
    let x := s.slot k
    let c := x.inUse
    let w1 := putBits c.w1.toNat 30 2 x.st.code
    ⟨s, 0, [c.gen, w1, c.w2.toNat, c.pgen, c.keyId.toNat].flatMap (natBytes 4)⟩

def execGetInfo (r : KeyReq) (s : State) : Outcome := unitDone s (s.keyCmd lcAll true r keyGetInfo)

/-- GENERATE (R434, R437). -/
def keyGenerate (fails : Nat) (r : KeyArgs) (s : State) : KeyAns :=
  let k := r.arg 0
  if s.noSlot k then ⟨s, 1, []⟩
  else if badWord1 (r.arg 1) then ⟨s, 4, []⟩
  else if (s.slot k).exhausted then ⟨s, 8, []⟩
  else s.keyWrite fails (fun s =>
    ⟨s.drawn.writeSlot k .key (s.slot k).newGen (keyWord1 (r.arg 1)) (parentWord 0xFF 0) 0 (BitVec.ofNat 32 (r.arg 2))
      (Config.freeDraw s.free), 0, []⟩)

def execGenerate (r : KeyReq) (fails : Fin 3) (s : State) : Outcome := unitDone s (s.keyCmd lcPFS false r (keyGenerate fails))

/-- R434: how many derivations a slot lies below a root or an underived key. -/
def State.depth (s : State) : Nat → Nat → Nat
  | 0, _ => 0
  | n + 1, k => let p := (s.slot k).inUse.parent
    if (s.slot k).st = .empty || p = 0xFF then 0 else if p = 0xFE then 1 else 1 + s.depth n p

/-- DERIVE's input: label and context, if the lengths are in range (R434). -/
def deriveInput (b : List Nat) : Option (List Nat × List Nat) :=
  let l := b.getD 0 0
  let c := b.getD 1 0 * 256 + b.getD 2 0
  if 1 ≤ l && l ≤ 64 && c ≤ 256 && 3 + l + c ≤ b.length then some ((b.drop 3).take l, (b.drop (3 + l)).take c) else none

/-- R427: the root of a life-cycle state. -/
def lcRoot (c : Nat) : BitVec 256 := kdf Config.deviceSecret labelLcRoot [c]

/-- R433: the label is reserved to the key store. -/
def reservedLabel (l : List Nat) : Bool := l.take 3 = [0x4B, 0x4E, 0x2D]

/-- DERIVE (R425, R427, R433, R434, R437). (Assumption log 48, DEDUCED.) -/
def keyDerive (fails : Nat) (r : KeyArgs) (s : State) : KeyAns :=
  let par := r.arg 0
  let k := r.arg 1
  let root := par = 0xFE
  if s.noSlot k || (!root && s.noSlot par) then ⟨s, 1, []⟩
  else match deriveInput r.input with
  | none => ⟨s, 4, []⟩
  | some (label, ctx) =>
    if reservedLabel label || badWord1 (r.arg 2) || par = 0xFF || (!root && 4 ≤ s.depth 6 par) then ⟨s, 4, []⟩
    else
      let go (key : BitVec 256) (pgen : Nat) (s : State) : KeyAns :=
        if (s.slot k).exhausted then ⟨s, 8, []⟩
        else s.keyWrite fails (fun s =>
          ⟨s.writeSlot k .key (s.slot k).newGen (keyWord1 (r.arg 2)) (parentWord par (if root then s.lc else 0)) pgen
            (BitVec.ofNat 32 (r.arg 3)) (kdf key label ctx), 0, []⟩)
      if root then go (lcRoot s.lc) 0 s
      else s.keyUse par 1 r.master (fun s => go (s.slot par).inUse.key (s.slot par).inUse.gen s)

def execDerive (r : KeyReq) (fails : Fin 3) (s : State) : Outcome := unitDone s (s.keyCmd lcPFS false r (keyDerive fails))

/-- A big-endian number of some bytes of a list. -/
def beNat (b : List Nat) (i n : Nat) : Nat := bytesToNat ((b.drop i).take n).reverse

/-- IMPORT (R425, R434, R436, R437). -/
def keyImport (fails : Nat) (r : KeyArgs) (s : State) : KeyAns :=
  let kek := r.arg 0
  let k := r.arg 1
  if s.noSlot kek || s.noSlot k then ⟨s, 1, []⟩
  else if r.input.length ≠ 48 then ⟨s, 4, []⟩
  else s.keyUse kek 2 r.master (fun s =>
    match Config.keyUnwrap (s.slot kek).inUse.key r.input with
    | none => ⟨s, 5, []⟩
    | some b =>
      if badWord1 (beNat b 0 4) then ⟨s, 4, []⟩
      else if (s.slot k).exhausted then ⟨s, 8, []⟩
      else s.keyWrite fails (fun s =>
        ⟨s.writeSlot k .key (s.slot k).newGen (keyWord1 (beNat b 0 4)) (parentWord 0xFF 0) 0 (BitVec.ofNat 32 (beNat b 4 4))
          (BitVec.ofNat 256 (beNat b 8 32)), 0, []⟩))

def execImportKey (r : KeyReq) (fails : Fin 3) (s : State) : Outcome := unitDone s (s.keyCmd lcPFS false r (keyImport fails))

/-- EXPORT (R425, R434, R436). (Assumption log 48, DEDUCED.) -/
def keyExport (r : KeyArgs) (s : State) : KeyAns :=
  let kek := r.arg 0
  let k := r.arg 1
  if s.noSlot kek || s.noSlot k then ⟨s, 1, []⟩
  else s.keyUse kek 2 r.master (fun s =>
    let c := (s.slot k).inUse
    if (s.slot k).st ≠ .key then ⟨s.deny k 4, 2, []⟩
    else if !c.exportable || c.purpose = 6 then ⟨s.deny k 1, 2, []⟩
    else ⟨s, 0, Config.keyWrap (s.slot kek).inUse.key
      (natBytesBE 4 c.w1.toNat ++ natBytesBE 4 c.keyId.toNat ++ natBytesBE 32 c.key.toNat)⟩)

def execExportKey (r : KeyReq) (s : State) : Outcome := unitDone s (s.keyCmd lcPFS false r keyExport)

/-- REVOKE (R423, R434, R437, R439). (Assumption log 49, DEDUCED.) -/
def keyRevoke (fails : Nat) (r : KeyArgs) (s : State) : KeyAns :=
  let k := r.arg 0
  let c := (s.slot k).inUse
  if s.noSlot k then ⟨s, 1, []⟩
  else if (s.slot k).st ≠ .key then ⟨s, 3, []⟩
  else if (s.slot k).exhausted then ⟨s, 8, []⟩
  else s.keyWrite fails (fun s =>
    ⟨s.writeSlot k .revoked (c.gen + 1) (BitVec.ofNat 32 (putBits c.w1.toNat 30 2 2)) c.w2 c.pgen c.keyId c.key, 0, []⟩)

def execRevoke (r : KeyReq) (fails : Fin 3) (s : State) : Outcome := unitDone s (s.keyCmd lcPFS false r (keyRevoke fails))

/-- ERASE (R423, R434, R437): both copies read as erased MRAM again, so that GEN starts at 1. (Assumption log 49, DEDUCED.) -/
def keyErase (fails : Nat) (r : KeyArgs) (s : State) : KeyAns :=
  let k := r.arg 0
  if s.noSlot k then ⟨s, 1, []⟩
  else if (s.slot k).st ≠ .revoked then ⟨s, 3, []⟩
  else s.keyWrite fails (fun s =>
    ⟨s.onSlot k (fun x => { x with c0 := {}, c1 := {}, use1 := false, st := .empty }), 0, []⟩)

def execErase (r : KeyReq) (fails : Fin 3) (s : State) : Outcome := unitDone s (s.keyCmd lcPFS false r (keyErase fails))

/-- R564: the 16 bytes of the serial, byte 4k + j in bits [8j + 7:8j] of register k. -/
def serialBytes : List Nat := [0, 1, 2, 3].flatMap (fun k => natBytes 4 (Config.serial k).toNat)

/-- R438: the report of 128 bytes. -/
def State.attestReport (s : State) (challenge : List Nat) : List Nat :=
  [0x4B, 0x4E, 0x41, 0x54] ++ serialBytes ++ [s.lc, 0xB0, 0, 0] ++ natBytesBE 4 s.keys.lcRec.count ++ [0, 0, 0, 0] ++
    natBytesBE 32 (Config.sha256 s.keys.patch).toNat ++ challenge ++
    natBytesBE 32 (Config.sha256 ((List.range 256).flatMap (fun k => (s.slot k).inUse.headBytes))).toNat

/-- ATTEST (R425, R434, R438). -/
def keyAttest (r : KeyArgs) (s : State) : KeyAns :=
  if s.noSlot 0 then ⟨s, 1, []⟩
  else if r.input.length ≠ 32 then ⟨s, 4, []⟩
  else s.keyUse 0 6 r.master (fun s =>
    let rep := s.attestReport r.input
    let key := (s.slot 0).inUse.key
    ⟨s, 0, rep ++ Config.ecdsaPublic key ++ Config.ecdsaSign key (Config.sha256 rep)⟩)

def execAttest (r : KeyReq) (s : State) : Outcome := unitDone s (s.keyCmd lcPFS false r keyAttest)

/-- R428: word 1 of the ATTEST key that PROVISION generates: MASTERS [22:20], EXPORT 0, every life-cycle state. (Assumption log 49, DEDUCED.) -/
def attestWord1 : Nat := packNat [(30, 2, 1), (26, 4, 6), (23, 3, 7), (17, 6, 0b111000)]

/-- PROVISION (R428, R434, R437). (Assumption log 49, DEDUCED.) -/
def keyProvision (fails : Nat) (_ : KeyArgs) (s : State) : KeyAns :=
  if s.noSlot 0 then ⟨s, 1, []⟩
  else s.keyWrite fails (fun s =>
    ⟨(s.drawn.writeSlot 0 .key (s.slot 0).newGen (keyWord1 attestWord1) (parentWord 0xFF 0) 0 0 (Config.freeDraw s.free)).setLc 1, 0, []⟩)

def execProvision (r : KeyReq) (fails : Fin 3) (s : State) : Outcome := unitDone s (s.keyCmd [0] false r (keyProvision fails))

/-- LC_CHALLENGE (R429, R434): 32 bytes from the internal generator. -/
def keyChallenge (_ : KeyArgs) (s : State) : KeyAns :=
  let v := (Config.freeDraw s.free).toNat
  ⟨s.drawn.onKeys (fun k => { k with challenge := some v }), 0, natBytesBE 32 v⟩

def execLcChallenge (r : KeyReq) (s : State) : Outcome := unitDone s (s.keyCmd [2] false r keyChallenge)

/-- R429: the owner's key and signature over a challenge. (Assumption log 49, DEDUCED.) -/
def State.ownerGood (s : State) (ch : Nat) (input : List Nat) : Bool :=
  let pub := input.take 64
  let digest := Config.sha256 ([0x4B, 0x4E, 0x2D, 0x53, 0x56, 0x43] ++ natBytesBE 32 ch ++ serialBytes)
  (s.keys.slots.keys.any (fun k => let x := s.slot k
    x.st = .key && x.inUse.purpose = 7 && x.inUse.lcAllows 2 && x.inUse.key = Config.sha256 pub)) &&
  Config.ecdsaVerify pub digest ((input.drop 64).take 64)

/-- LC_ADVANCE to SERVICE (R429): a challenge serves one attempt. (Assumption log 50, DEDUCED.) -/
def keyToService (r : KeyArgs) (s : State) : KeyAns :=
  let s1 := s.onKeys (fun k => { k with challenge := none })
  match s.keys.challenge with
  | some ch =>
    if s.ownerGood ch r.input then ⟨s1.setLc 3, 0, []⟩ else ⟨s1.ev keyPage [EV_KEY_LC_AUTH_FAIL], 6, []⟩
  | none => ⟨s1.ev keyPage [EV_KEY_LC_AUTH_FAIL], 6, []⟩

/-- LC_ADVANCE (R428–R431, R437): PROVISIONED to FIELD or RETIRED, FIELD to SERVICE or RETIRED, SERVICE to FIELD or RETIRED. (Assumption log 48, DEDUCED.) -/
def keyAdvance (fails : Nat) (r : KeyArgs) (s : State) : KeyAns :=
  let dest := r.arg 0
  let lc := s.lc
  if lc = 2 && dest = 3 then (if r.input.length ≠ 128 then ⟨s, 4, []⟩ else keyToService r s)
  else if lc = 3 && dest = 2 then ⟨s.setLc 2, 0, []⟩
  else if lc = 1 && dest = 2 then s.keyWrite fails (fun s => ⟨s.setLc 2, 0, []⟩)
  else if (lc = 1 || lc = 2 || lc = 3) && dest = 4 then s.keyWrite fails (fun s => ⟨s.retireSlots.setLc 4, 0, []⟩)
  else ⟨s, 3, []⟩

def execLcAdvance (r : KeyReq) (fails : Fin 3) (s : State) : Outcome := unitDone s (s.keyCmd lcPFS false r (keyAdvance fails))

/-- LINK_MAP (R434, R446): a port's LINK_ROOT slot; it acts at the port's next CONFIG or epoch change. -/
def keyLinkMap (r : KeyArgs) (s : State) : KeyAns :=
  let p := r.arg 0
  let k := r.arg 1
  if k ≠ 0xFF && s.noSlot k then ⟨s, 1, []⟩
  else if 17 < p then ⟨s, 4, []⟩
  else
    let f := KEY_LINKMAP_SLOT (p / 4)
    ⟨s.wr f (putBits (s.rd f) (8 * (p % 4)) 8 k), 0, []⟩

def execLinkMap (r : KeyReq) (s : State) : Outcome := unitDone s (s.keyCmd lcPFS false r keyLinkMap)

/-- WAKE_SRC (R434, R520): the 16 bytes of the last-wake record. -/
def keyWakeSrc (_ : KeyArgs) (s : State) : KeyAns := ⟨s, 0, s.power.wakeSrc⟩

def execWakeSrc (r : KeyReq) (s : State) : Outcome := unitDone s (s.keyCmd lcAll false r keyWakeSrc)

/-- R422: words of a copy of a slot no longer verify. -/
def State.loseCopy (x : Fin 256 × Bool) (s : State) : State :=
  s.onSlot x.1 (fun y => if x.2 then { y with c1 := { y.c1 with tag := y.c1.tag + 1 } } else { y with c0 := { y.c0 with tag := y.c0.tag + 1 } })

/-- R422: words of a copy of the life-cycle record no longer verify. (Assumption log 50, DEDUCED.) -/
def State.loseLc (b : Bool) (s : State) : State :=
  s.onKeys (fun k => if b then { k with lc1 := { k.lc1 with valid := false } } else { k with lc0 := { k.lc0 with valid := false } })

/-- KEY_SCRUB (R422, R446): a pass that finds the copies `lost` and `lcLost` failing; `cache` is an uncorrectable word of the key cache,
reloaded from MRAM. (Assumption log 50, DEDUCED.) -/
def keyScrub (lost : List (Fin 256 × Bool)) (lcLost : List Bool) (cache : Bool) (s : State) : State :=
  if s.coreOn && s.keys.scrubAt ≤ s.now then
    let s1 := (s.each lost State.loseCopy).each lcLost State.loseLc
    let s2 := (s1.each s1.keys.slots.keys State.verifySlot).verifyLc
    let s3 := if cache then s2.ev keyPage [EV_KEY_CACHE_ERR] else s2
    (s3.onKeys (fun k => { k with scrubAt := s.now + max 1 (s.rd KEY_SCRUB_INTERVAL) * 3600000000000 })).wrapInc KEY_SCRUB_PASSES
  else s

def execKeyScrub (lost : List (Fin 256 × Bool)) (lcLost : List Bool) (cache : Bool) (s : State) : Outcome :=
  unitDone s (keyScrub lost lcLost cache s)

end Sys2Proof.Machine
end

