-- ==== Sys2Proof/Machine/Operands.lean ====
section
/-!
DEFINITION. The operand forms of register accesses: who accesses, what a maintenance-port frame spells, and the registers of a 40-bit
quantity (R11, R426, R587).
-/
namespace Sys2Proof.Machine

/-- R426: the world of a master. -/
def secureMaster (m : RegMaster) : Bool := m ≠ .host

/-- R11: the _HI register whose value a read of a _LO register latches. (Assumption log 21, DEDUCED.) -/
def hiOf (b : Block) (off : Nat) : Option Nat :=
  if off = 0x020 then some 0x024
  else if off = 0x028 then some 0x02C
  else match b with
    | .evt => if off = 0x050 then some 0x054 else if off = 0x060 then some 0x064 else if off = 0x068 then some 0x06C else none
    | .rst => if off = 0x048 then some 0x04C else none
    | .dat => if off = 0x04C then some 0x050 else none
    | .lat => if off = 0x05C then some 0x060 else none
    | .win => if off = 0x060 then some 0x064 else none
    | .usb => if off = 0x040 then some 0x044 else none
    | .diag => if off = 0x05C then some 0x060 else none
    | _ => none

/-- R11: DAT_SET_SEC_HI is held until DAT_SET_SEC_LO is written. (Assumption log 21, DEDUCED.) -/
def heldHi (page off : Nat) : Bool := page = 0x0C0 && off = 0x05C

/-- A maintenance-port frame as R587 lays it out: a write or a read of an address. -/
inductive MaintCmd where
  | write (page off v : Nat)
  | read (page off : Nat)
  deriving DecidableEq, Repr

/-- R587: the frame of some bytes and further clocks; none: it is discarded. -/
def maintCmd (b : List Nat) (extra : Nat) : Option MaintCmd :=
  match b with
  | c :: a2 :: a1 :: a0 :: rest =>
    let a := a2 * 65536 + a1 * 256 + a0
    let page := bitsOf a 12 10
    let off := bitsOf a 0 12
    if extra ≠ 0 || bitsOf a 22 2 ≠ 0 || bitsOf a 0 2 ≠ 0 then none
    else if c = 0x02 && rest.length = 4 then some (.write page off (bytesToNat rest))
    else if c = 0x0B && rest.length = 5 then some (.read page off)
    else none
  | _ => none

end Sys2Proof.Machine
end

