-- ==== Sys2Proof/Machine/SampleOps.lean ====
section
/-!
DEFINITION. Operations of the sample adapter: records (R240, R252, R254, R258), sample words (R231, R232), conversion (R250, R251),
acceptance (R237), substitution (R247), cross-checks (R245, R246) and the check of rates (R249).
-/
namespace Sys2Proof.Machine

/-! ## Records -/

/-- The page of the sample adapter. -/
def smpPage : Nat := 0x0D0

/-- A word of a sample record. -/
def State.smp (s : State) (kind index entry word : Nat) : Nat := s.recW smpPage kind index entry word

/-- R257: what a kind of record has: indices, entries (1: ENTRY is not used), read only, masks of its words. -/
def smpKind : Nat → Option (Nat × Nat × Bool × List Nat)
  | 1 => some (1024, 1, false, [0xFFC00000, 0xFFFFFFFF, 0xFFFFFFFF])
  | 2 => some (1024, 1, true, [0xFFFFFFFF, 0xFFFFFFFF, 0xFFFFFFFF])
  | 3 => some (64, 1, false, [0xFFFFFFFF, 0x0FFFFFFF, 0x000000FF])
  | 4 => some (64, 16, false, [0x83FF0000])
  | 5 => some (64, 64, false, [0x7FFFF000])
  | 6 => some (64, 1, true, [0xFFFFFFFF, 0xFFFFFFFF])
  | 7 => some (256, 1, false, [0xFFFFFFC0, 0xFFFFFFFF, 0xFFFFFFFF, 0xFFFFFFF0])
  | 8 => some (256, 1, false, [0xFFFFFFFF, 0x0000007F])
  | 9 => some (256, 1, false, [0xFFE00E00, 0xFFFF007F, 0xFFFFFFFF])
  | 10 => some (512, 4, false, [0xFFFFFFFF, 0xFFFFFFFF, 0xFFFFFFFF, 0xFFFFFFFF])
  | 11 => some (512, 1, true, [0xFFFFFFFF, 0xFFFFFFFF])
  | _ => none

/-- Add to a saturating 16-bit count in a record word. -/
def State.bumpSmp (kind index word lo : Nat) (s : State) : State :=
  let w := s.smp kind index 0 word
  s.setRec smpPage kind index 0 word (putBits w lo 16 (satAdd 16 (bitsOf w lo 16) 1))

/-- Add 1 to a record word modulo 2^32. -/
def State.incSmp (kind index word : Nat) (s : State) : State := s.setRec smpPage kind index 0 word (s.smp kind index 0 word + 1)

/-- R258: fields of a STREAM record. -/
def State.streamValid (s : State) (i : Nat) : Bool := bitOf (s.smp 1 i 0 0) 31
def State.streamN (s : State) (i : Nat) : Nat := bitsOf (s.smp 1 i 0 0) 26 5 + 1
def State.streamK (s : State) (i : Nat) : Nat := bitsOf (s.smp 1 i 0 0) 22 4 + 1
def State.streamUnit (s : State) (i c : Nat) : Nat := bitsOf (s.smp 1 i 0 (if c < 16 then 1 else 2)) (2 * (c % 16)) 2

/-- R249: an instant lies before the boundary at which a record became invalid. -/
def beforeStop (stop : Option Nat) (t : Nat) : Bool := match stop with | some b => t < b | none => false

/-- R237, R249: the STREAM record is valid for an instant: now, or until the boundary at which it became invalid. -/
def State.streamLive (s : State) (i t : Nat) : Bool := s.streamValid i || beforeStop (s.samples.streamStop.get i) t

/-- R240: fields of a composite. -/
def State.compValid (s : State) (c : Nat) : Bool := bitOf (s.smp 3 c 0 0) 31
def State.compN (s : State) (c : Nat) : Nat := bitsOf (s.smp 3 c 0 0) 25 6 + 1
def State.compK (s : State) (c : Nat) : Nat := bitsOf (s.smp 3 c 0 0) 21 4 + 1
def State.compDelay (s : State) (c : Nat) : Nat := bitsOf (s.smp 3 c 0 0) 12 9
def State.compHold (s : State) (c : Nat) : Nat := bitsOf (s.smp 3 c 0 0) 8 4
def State.compXchkN (s : State) (c : Nat) : Nat := max 1 (bitsOf (s.smp 3 c 0 0) 0 8)
def State.compOut (s : State) (c : Nat) : Nat := bitsOf (s.smp 3 c 0 1) 16 12
def State.compTolAbs (s : State) (c : Nat) : Nat := bitsOf (s.smp 3 c 0 1) 0 16
def State.compTolRel (s : State) (c : Nat) : Nat := bitsOf (s.smp 3 c 0 2) 0 8

/-- R240: the valid source slots of a composite with their streams. -/
def State.compSources (s : State) (c : Nat) : List (Nat × Nat) :=
  (List.range 16).filterMap (fun i => let w := s.smp 4 c i 0; if bitOf w 31 then some (i, bitsOf w 16 10) else none)

/-- R252: fields of an outgoing stream. -/
def State.svoValid (s : State) (i : Nat) : Bool := bitOf (s.smp 7 i 0 0) 31
def State.svoStream (s : State) (i : Nat) : Nat := bitsOf (s.smp 7 i 0 0) 21 10
def State.svoFirst (s : State) (i : Nat) : Nat := bitsOf (s.smp 7 i 0 0) 16 5
def State.svoN (s : State) (i : Nat) : Nat := bitsOf (s.smp 7 i 0 0) 11 5 + 1
def State.svoAsdus (s : State) (i : Nat) : Nat := bitsOf (s.smp 7 i 0 0) 8 3 + 1
def State.svoPorts (s : State) (i : Nat) : Nat := bitsOf (s.smp 7 i 0 0) 6 2
def State.svoDelay (s : State) (i : Nat) : Nat := bitsOf (s.smp 7 i 0 3) 8 9
def State.svoHold (s : State) (i : Nat) : Nat := bitsOf (s.smp 7 i 0 3) 4 4

/-- R254: fields of an incoming stream. -/
def State.sviValid (s : State) (i : Nat) : Bool := bitOf (s.smp 9 i 0 0) 31
def State.sviStream (s : State) (i : Nat) : Nat := bitsOf (s.smp 9 i 0 0) 21 10
def State.sviPorts (s : State) (i : Nat) : Nat := bitsOf (s.smp 9 i 0 0) 10 2

/-- The octets of an svID of a length, from SVID records at an index. -/
def State.svId (s : State) (index len : Nat) : List Nat :=
  ((List.range 64).map (fun o => bitsOf (s.smp 10 index (o / 16) (o % 16 / 4)) (8 * (3 - o % 4)) 8)).take len

/-- The composite that a stream index is the output of: a valid one, or one whose instants before a period change are still emitted
(R249). -/
def State.compOf (s : State) (stream : Nat) : Option Nat :=
  ((List.range 64).find? (fun c => s.compValid c && s.compOut c = 0x200 + stream)).or
    ((List.range 64).find? (fun c => (s.samples.comps.get c).stop.isSome && s.compOut c = 0x200 + stream))

/-- R252: the shape of a source of an outgoing stream: channels, k, and the unit of a channel. -/
def State.shapeOf (s : State) (stream : Nat) : Nat × Nat × (Nat → Nat) :=
  match s.compOf stream with
  | some c => (s.compN c, s.compK c, fun ch =>
      let w := s.smp 5 c ch 0
      match (s.compSources c).lookup (bitsOf w 27 4) with
      | some src => s.streamUnit src (bitsOf w 22 5)
      | none => 2)
  | none => (s.streamN stream, s.streamK stream, s.streamUnit stream)

/-- A source of an outgoing stream, where a valid composite or STREAM record gives it. -/
def State.sourceOf (s : State) (stream : Nat) : Option (Nat × Nat × (Nat → Nat)) :=
  if (s.compOf stream).any s.compValid || s.streamValid stream then some (s.shapeOf stream) else none

/-- R258: a valid composite, SVOUT_A or SVIN record names a stream. -/
def State.streamNamed (s : State) (i : Nat) : Bool :=
  (List.range 64).any (fun c => s.compValid c && (s.compOut c = 0x200 + i || (s.compSources c).any (·.2 = i))) ||
  (List.range 256).any (fun r => (s.svoValid r && s.svoStream r = i) || (s.sviValid r && s.sviStream r = i))

/-- R241: D lies in 2–500 µs and within 6 × P/k. -/
def delayOk (p k d : Nat) : Bool := 2 ≤ d && d ≤ 500 && d * 1000 * k ≤ 6 * p

/-- R241: a channel reference of a composite names a valid slot and a channel of its stream. -/
def State.chanOk (s : State) (c slot ch : Nat) : Bool :=
  match (s.compSources c).lookup slot with
  | some st => ch < s.streamN st
  | none => false

/-- R241: a composite whose header would be `w0`, `w1` may become valid. -/
def State.compOk (s : State) (c w0 w1 : Nat) : Bool :=
  let k := bitsOf w0 21 4 + 1
  let out := bitsOf w1 16 12
  let src := s.compSources c
  let others := (List.range 64).filter (fun d => d ≠ c && s.compValid d)
  delayOk s.period k (bitsOf w0 12 9) && rateOk s.period k &&
  src.all (fun x => s.streamValid x.2 && s.streamK x.2 % k = 0) &&
  (List.range (bitsOf w0 25 6 + 1)).all (fun ch =>
    let w := s.smp 5 c ch 0
    s.chanOk c (bitsOf w 27 4) (bitsOf w 22 5) && (!bitOf w 21 || s.chanOk c (bitsOf w 17 4) (bitsOf w 12 5))) &&
  0x200 ≤ out && out ≤ 0x5FF && !(src.any (fun x => 0x200 + x.2 = out)) &&
  !((List.range 256).any (fun r => s.svoValid r && 0x200 + s.svoStream r = out && s.streamValid (s.svoStream r))) &&
  !(others.any (fun d => s.compOut d = out || (s.compSources d).any (fun x => 0x200 + x.2 = out)))

/-- R252: an outgoing stream whose words 0 and 3 would be `w0`, `w3` may be valid. -/
def State.svoOk (s : State) (w0 w3 : Nat) : Bool :=
  match s.sourceOf (bitsOf w0 21 10) with
  | none => false
  | some (n, k, _) => bitsOf w0 16 5 + bitsOf w0 11 5 < n && rateOk s.period k && delayOk s.period k (bitsOf w3 8 9)

/-! ## Sample words (R231) -/

/-- VALUE and QUAL of a sample word; a reserved QUAL reads as 0x2 (R232). -/
def sampleValue (w : Word) : Int := signed 36 (fld w 4 36)
def sampleQual (w : Word) : Nat := if 8 ≤ fld w 0 4 then 2 else fld w 0 4

/-- A sample word. -/
def sampleWord (v : Int) (q : Nat) : Word := pack [(4, 36, unsignedOf 36 v), (0, 4, q)]

/-- A word as the hub passes it on. -/
def sampleClean (w : Word) : Word := sampleWord (sampleValue w) (sampleQual w)

/-- QUAL 0x0, 0x4 or 0x5. -/
def sampleGood (w : Word) : Bool := sampleQual w = 0 || sampleQual w = 4 || sampleQual w = 5

/-- R235: the payload of a part. -/
def partPayload (t part nparts j : Nat) (words : List Word) : List Word :=
  pack [(0, 40, t)] :: pack [(38, 2, part), (36, 2, nparts - 1), (32, 4, j)] :: words

/-- R235: the flits of a set sent by the adapter on a sample tunnel. -/
def setFlits (tunnel t j : Nat) (words : List Word) : List HFlit :=
  let ps := pieces 28 (words.length + 1) words
  ps.zipIdx.map (fun x =>
    { tunnel := tunnel, vc := 1, payload := partPayload (t % 2 ^ 40) x.2 ps.length j x.1, last := true, inPort := 18, todo := [] })

/-- Send a set from Hull port 18. -/
def State.sendSet (tunnel t j : Nat) (words : List Word) (s : State) : State :=
  s.each (setFlits tunnel t j words) (fun f s => s.enterHull 18 f)

/-! ## Acceptance (R237) -/

/-- R237: some consumer that takes an instant of a stream has begun its emission for it. -/
def State.emissionBegun (s : State) (stream t : Nat) : Bool :=
  let begun (f : Feeder) (k : Nat) : Bool := f.first ≤ t && (match f.last with | some l => t ≤ l | none => false) && (s.gridIndex k t).isSome
  (List.range 64).any (fun c => (s.compSources c).any (·.2 = stream) && begun (s.samples.comps.get c) (s.compK c)) ||
  (List.range 256).any (fun r => s.svoStream r = stream && begun (s.samples.svouts.get r) (s.shapeOf stream).2.1)

/-- R235, R258: the number of parts of a stream, and the channels of a part. -/
def partsOf (n : Nat) : Nat := (n + 27) / 28
def partChannels (n part : Nat) : Nat := min 28 (n - 28 * part)

/-- Parts of a stream's instant that have been accepted. -/
def State.accepted (s : State) (stream t : Nat) : List SetPart := s.samples.parts.filter (fun p => p.stream = stream && p.inst = t)

/-- R238: hold an accepted part; a set that it completes is counted. (Assumption log 42, DEDUCED.) -/
def State.takePart (stream t part n : Nat) (words : List Word) (s : State) : State :=
  let keep := s.samples.parts.filter (fun p => s.datum.whole < p.inst + ms 200)
  let s1 := { s with samples := { s.samples with parts := keep ++ [{ stream := stream, inst := t, part := part, words := words }] } }
  if (s1.accepted stream t).length = partsOf n then s1.incSmp 2 stream 0 else s1

/-- R237: a drop that POLICED counts. (Assumption log 42, DEDUCED.) -/
def State.policed (stream : Nat) (s : State) : State :=
  ((s.bumpSmp 2 stream 1 0).capture smpPage EV_SMP_POLICED 18 (0x200 + stream) 0).ev smpPage [EV_SMP_POLICED]

/-- SAMPLE_PART_RX (R237): a part is checked and accepted or dropped. -/
def State.checkPart (stream : Nat) (poison : Bool) (payload : List Word) (s : State) : State :=
  let n := s.streamN stream
  let info := payload.getD 1 0
  let part := fld info 38 2
  if poison then ((s.bumpSmp 2 stream 2 16).capture smpPage EV_SMP_STUB 18 (0x200 + stream) 0).ev smpPage [EV_SMP_STUB, EV_SMP_POLICED]
  else if !s.streamLive stream (s.fullOf (payload.getD 0 0).toNat) then s.policed stream
  else if payload.length < 2 || fld info 0 32 ≠ 0 || fld info 36 2 ≠ partsOf n - 1 || partsOf n ≤ part ||
      payload.length ≠ 2 + partChannels n part then s.policed stream
  else
    let t := s.fullOf (payload.getD 0 0).toNat
    if s.gridIndex (s.streamK stream) t ≠ some (fld info 32 4) then s.policed stream
    else if s.datum.whole + 1000 < t then s.policed stream
    else if s.emissionBegun stream t then
      ((s.bumpSmp 2 stream 1 16).capture smpPage EV_SMP_LATE 18 (0x200 + stream) 0).ev smpPage [EV_SMP_LATE]
    else if (s.accepted stream t).any (·.part = part) then s.policed stream
    else s.takePart stream t part n (payload.drop 2)

/-! ## Substitution (R247) and cross-checks (R245, R246) -/

/-- R248: the accepted parts of a source's set: none of a tunnel that is not OPEN. (Assumption log 42, DEDUCED.) -/
def State.sourceParts (s : State) (stream t : Nat) : List SetPart :=
  if (s.tun (0x200 + stream)).e.state = .opened then s.accepted stream t else []

/-- A channel's word among the parts of a set. -/
def channelOf (ps : List SetPart) (ch : Nat) : Option Word :=
  match ps.find? (fun p => p.part = ch / 28) with
  | some p => (p.words[ch % 28]?).map sampleClean
  | none => none

/-- R247: the run count of a source slot after a set that is or is not whole; a missing set is counted, and the first of a run raises
SRC_SUBST. -/
def State.noteSet (stream slot : Nat) (whole : Bool) (f : Feeder) (s : State) : State × Feeder :=
  if whole then (s, { f with runs := f.runs.set slot {} })
  else
    let r := f.runs.get slot
    let s1 := (s.bumpSmp 2 stream 2 0).when (r.missing = 0) (State.ev smpPage [EV_SMP_SRC_SUBST])
    (s1, { f with runs := f.runs.set slot { r with missing := r.missing + 1 } })

/-- R247: note the held value of a channel. -/
def Feeder.hold (f : Feeder) (slot ch : Nat) (w : Option Word) : Feeder :=
  match w with
  | some w => if sampleQual w = 0 || sampleQual w = 4 then { f with held := f.held.set (slot * 32 + ch) (some (sampleValue w)) } else f
  | none => f

/-- SUBSTITUTION (R247): the word of a channel that is missing. -/
def State.substitute (slot ch holdMax : Nat) (f : Feeder) (s : State) : State × Feeder × Word :=
  let r := f.runs.get slot
  match (if r.missing ≤ holdMax then f.held.get (slot * 32 + ch) else none) with
  | some v => (s.bump SMP_SUBST_HELD, f, sampleWord v 3)
  | none =>
    let s1 := (s.bump SMP_SUBST_FAILED).when (!r.failed) (State.ev smpPage [EV_SMP_SRC_FAIL])
    (s1, { f with runs := f.runs.set slot { r with failed := true } }, sampleWord 0 7)

/-- R245: the cross-check passes. -/
def crossOk (tolAbs tolRel : Nat) (p x : Int) : Bool :=
  (p - x).natAbs ≤ max (tolAbs * 256) (tolRel * max p.natAbs x.natAbs / 1024)

/-- CROSS_CHECK (R246): the output word (none: to be substituted), and whether a check failed. -/
def crossCheck (tolAbs tolRel : Nat) (p x : Option Word) : Option Word × Bool :=
  match p, x with
  | some a, some b =>
    if sampleGood a && sampleGood b then
      if crossOk tolAbs tolRel (sampleValue a) (sampleValue b) then (some a, false)
      else (some (if sampleQual a = 5 then a else sampleWord (sampleValue a) 1), true)
    else if sampleGood b then (some b, false) else (some a, false)
  | some a, none => (some a, false)
  | none, some b => (if sampleGood b then some b else none, false)
  | none, none => (none, false)

/-- R246: count a failed cross-check; the XCHK_N-th of a run raises XCHK. -/
def State.noteCheck (c ch : Nat) (failed : Bool) (f : Feeder) (s : State) : State × Feeder :=
  if !failed then (s, { f with xfails := f.xfails.set ch 0 })
  else
    let n := f.xfails.get ch + 1
    let s1 := s.bump SMP_XCHK_COUNT
    let s2 := if n = s.compXchkN c then ((s1.wr SMP_XCHK_COMP c).wr SMP_XCHK_CH ch).ev smpPage [EV_SMP_XCHK] else s1
    (s2, { f with xfails := f.xfails.set ch n })

/-! ## Conversion (R250, R251) -/

/-- Rounding half away from zero of a quotient. -/
def divRound (v : Int) (d : Nat) : Int :=
  let q : Int := ((2 * v.natAbs + d) / (2 * d) : Nat)
  if v < 0 then -q else q

/-- A value clamped to a range, and whether it was outside. -/
def saturate (lo hi v : Int) : Int × Bool := if v < lo then (lo, true) else if hi < v then (hi, true) else (v, false)

/-- R250: a sample value as INT32, and whether it saturated. -/
def toInt32 (unit : Nat) (v : Int) : Int × Bool :=
  saturate (-2147483648) 2147483647 (if unit = 0 then divRound v 100 else if unit = 1 then divRound v 10 else v)

/-- R250: an INT32 as a sample value, and whether it saturated. -/
def fromInt32 (unit : Nat) (v : Int) : Int × Bool :=
  saturate (-34359738368) 34359738367 (if unit = 0 then v * 100 else if unit = 1 then v * 10 else v)

/-- R251: the quality bits of a QUAL. -/
def qualOut : Nat → Nat
  | 0 => 0 | 1 => 3 | 2 => 1 | 3 => 3 + 0x80 + 0x400 | 4 => 0x2000 | 5 => 0x800 | 6 => 1 + 4 | 7 => 1 + 0x40 | _ => 1

/-- R251: the QUAL of quality bits; validity 0b10, which R251 does not name, is taken as invalid (assumption log 16, DEDUCED). -/
def qualIn (q : Nat) : Nat :=
  let validity := bitsOf q 0 2
  if bitOf q 11 then 5
  else if (validity = 1 || validity = 2) && bitOf q 2 then 6
  else if (validity = 1 || validity = 2) && bitOf q 6 then 7
  else if validity = 1 || validity = 2 then 2
  else if (validity = 3 && bitOf q 7) || bitOf q 10 then 3
  else if validity = 3 then 1
  else if bitOf q 13 then 4
  else 0

/-- R250, R251: a pair as it is published; saturation is counted. -/
def State.pairOut (unit : Nat) (w : Word) (s : State) : State × (Int × Nat) :=
  let r := toInt32 unit (sampleValue w)
  if r.2 then ((s.bump SMP_SAT_OUT).ev smpPage [EV_SMP_SAT], (r.1, qualOut 6)) else (s, (r.1, qualOut (sampleQual w)))

/-- R250, R251, R255: a received pair as a sample word; `weak`: its time is not to be trusted. -/
def State.pairIn (unit : Nat) (weak : Bool) (x : Int × Nat) (s : State) : State × Word :=
  let r := fromInt32 unit x.1
  let q := qualIn x.2
  if r.2 then ((s.bump SMP_SAT_IN).ev smpPage [EV_SMP_SAT], sampleWord r.1 6)
  else (s, sampleWord r.1 (if weak && (q = 0 || q = 4) then 1 else q))

/-! ## Rates (R249) and Datum steps -/

/-- Clear VALID of a record. -/
def State.invalidate (kind i : Nat) (s : State) : State := s.setRec smpPage kind i 0 0 (s.smp kind i 0 0 % 2 ^ 31)

/-- RATE_INVALID (R249): at the boundary `b` (ns of Datum) records whose rate or delay has become invalid are cleared; instants before
the boundary are still emitted. -/
def State.recheckRates (b : Nat) (s : State) : State :=
  let p := s.period
  let stop (f : Feeder) : Feeder := { f with stop := some b, next := if beforeStop (some b) (f.next.getD b) then f.next else none }
  let svos := (List.range 256).filter (fun r => s.svoValid r && (match s.sourceOf (s.svoStream r) with
    | some (_, k, _) => !(rateOk p k && delayOk p k (s.svoDelay r))
    | none => false))
  let svis := (List.range 256).filter (fun r => s.sviValid r && !rateOk p (s.streamK (s.sviStream r)))
  let comps := (List.range 64).filter (fun c => s.compValid c && !(rateOk p (s.compK c) && delayOk p (s.compK c) (s.compDelay c)))
  let streams := (List.range 1024).filter (fun i => s.streamValid i && !rateOk p (s.streamK i))
  let s1 := s.each svos (fun r s => ({ s with samples := { s.samples with svouts := s.samples.svouts.upd r stop } }).invalidate 7 r)
  let s2 := s1.each svis (fun r s => ({ s with samples := { s.samples with sviStop := s.samples.sviStop.set r (some b) } }).invalidate 9 r)
  let s3 := s2.each comps (fun c s => ({ s with samples := { s.samples with comps := s.samples.comps.upd c stop } }).invalidate 3 c)
  let s4 := s3.each streams (fun i s => ({ s with samples := { s.samples with streamStop := s.samples.streamStop.set i (some b) } }).invalidate 1 i)
  if svos = [] && svis = [] && comps = [] && streams = [] then s else s4.ev smpPage [EV_SMP_RATE_INVALID]

/-- The first instant of the next set of a consumer after a Datum step forward to `now`: instants whose emission the step has passed
over are not emitted (assumption log 17, DEDUCED). -/
def Feeder.skipTo (f : Feeder) (bound : Nat) : Feeder :=
  match f.next with
  | some t => if t < bound then { f with next := some bound } else f
  | none => f

/-- Datum has stepped forward: the consumers go on at the next tick. (Assumption log 17, DEDUCED.) -/
def State.stepConsumers (s : State) : State :=
  let b := s.nextTick s.datum.whole
  { s with samples := { s.samples with
    comps := s.samples.comps.mapVals (fun _ f => f.skipTo b), svouts := s.samples.svouts.mapVals (fun _ f => f.skipTo b) } }

end Sys2Proof.Machine
end

