-- ==== Sys2Proof/Machine/TimeOps.lean ====
section
/-!
DEFINITION. Operations of Datum time: the state machine (R192, R616), measurements and the servo (R201), steps (R212), the source
(R191), grandmaster data (R207, R613) and PTP ports (R203, R205).
-/
namespace Sys2Proof.Machine

/-- Pages of Datum and the lattice. -/
def datPage : Nat := 0x0C0
def latPage : Nat := 0x0C1

/-- DAT_STAT.STATE: 0 UNSYNC, 1 ACQUIRE, 2 LOCKED, 3 HOLDOVER. -/
def State.datState (s : State) : Nat := s.rd DAT_STAT_STATE

/-- SOURCE_ACT: 0 free run, 1 PTP, 2 1PPS, 3 apex. -/
def State.source (s : State) : Nat := s.rd DAT_STAT_SOURCE_ACT

/-- R566: CLK_RATE: |DAT_RATE| is above 5 ppm while Datum is LOCKED. -/
def State.clockRate (s : State) : State :=
  s.when (s.datState = 2 && 5 * 2 ^ 48 < (signed 32 (s.rd DAT_RATE_RATE)).natAbs * 1000000) (State.ev 0x001 [EV_EVT_CLK_RATE])

/-- Datum enters a state (R192, R212, R225). -/
def State.setDatum (st : Nat) (s : State) : State :=
  let old := s.datState
  let d := s.datum
  let d1 : Datum := { d with
    goodRun := 0, badRun := 0, slew := if st = 3 || st = 0 then 0 else d.slew, integ := if st = 0 then 0 else d.integ,
    noStep := if st = 2 || st = 0 then false else d.noStep }
  let s1 := ((({ s with datum := d1 }).wr DAT_STAT_STATE st).wrB LAT_STAT_SYNCED (st = 2)).when (st = 0) (State.wr DAT_RATE_RATE 0)
  if st = old then s1
  else
    let s2 := s1.when (st = 2) (fun s => ((s.wr DAT_STAT_KEEPER 0).ev datPage [EV_DAT_LOCKED]).clockRate)
    (s2.when (old = 2) (State.ev datPage [EV_DAT_LOCK_LOST])).when (st = 3) (State.ev datPage [EV_DAT_HOLDOVER])

/-- R616: in free run Datum is LOCKED at once. -/
def State.freeRunLock (s : State) : State := if s.source = 0 && s.datState ≠ 2 then s.setDatum 2 else s

/-- R224, R616, R613: clockClass in use; CLASS_FREE in free run and HOLDOVER. -/
def State.classNow (s : State) : Nat :=
  if s.source = 0 || s.datState = 3 then s.rd DAT_PTP_CLASS_FREE else s.rd DAT_STAT_CLASS

/-! ## Steps (R212) -/

/-- R211, R249, R316: the staged period takes effect at its boundary. -/
def State.applyPeriod (s : State) : State :=
  match s.lattice.stageS with
  | none => s
  | some b =>
    let t := b * 1000000000
    if s.datum.whole < t then s
    else
      let old := s.period
      let a := s.rd LAT_STAT_A_NEXT
      let c := s.rd LAT_STAT_B_NEXT
      let p := latticeP a c
      let emitted : Bool := match s.lattice.last with | some n => t ≤ n * old | none => false
      let s1 := { s with lattice := { s.lattice with
        stageS := none, markAt := none, changedAt := b, oldPeriod := old, last := some (if emitted then t / p else t / p - 1) } }
      let s2 := (((s1.wr LAT_STAT_A a).wr LAT_STAT_B c).wr LAT_STAT_PENDING 0).wr LAT_PERIOD_NS p
      let s3 := (s2.recheckRates t).ev latPage [EV_LAT_CHANGE_DONE]
      s3.each (List.range 20) (fun x s => if s.rdB (gclEn x) then (s.onGcl x (fun g => { g with startAt := some t })).noteGates x else s)

/-- R212: time becomes another; the answer says whether a tick is to be emitted at the step. (Assumption log 34, DEDUCED.) -/
def State.stepTo (t : Nat) (s : State) : State × Bool :=
  let next := s.lattice.next * s.period
  let s1 := ({ s with datum := { s.datum with t := t } }).ev datPage [EV_DAT_STEP]
  if next < s1.datum.whole then (((s1.applyPeriod).stepConsumers).ev latPage [EV_LAT_TICK_SLIP], true) else (s1, false)

/-! ## Measurements (R192, R201) -/

/-- The interval T of the source in use, in ns: the exchange interval, or a second. (Assumption log 34, DEDUCED.) -/
def State.interval (s : State) : Nat := if s.source = 3 then us (min 10000 (max 10 (s.rd DAT_PROBE_INT))) else 1000000000

/-- R201: the servo's frequency and phase terms. (Assumption log 34, DEDUCED.) -/
def State.servo (theta : Int) (s : State) : State :=
  let iv : Int := (s.interval : Nat)
  let integ := s.datum.integ + theta * 65536 / ((2 ^ s.rd DAT_SERVO_KI_SHIFT : Nat) : Int)
  let rate := clampS 32 (-integ * 268435456 / iv)
  let lim : Int := ((min 500 (max 1 (s.rd DAT_SERVO_SLEW_MAX)) * 2 ^ 48 / 1000000 : Nat) : Int)
  let slew := max (-lim) (min lim (-(theta * 17592186044416 / ((2 ^ s.rd DAT_SERVO_KP_SHIFT : Nat) : Int)) / iv))
  (({ s with datum := { s.datum with integ := integ, slew := slew } }).wr DAT_RATE_RATE (unsignedOf 32 rate)).clockRate

/-- SERVO_UPDATE (R192, R201): an accepted measurement θ in 2^-4 ns; the answer says whether a tick is emitted at a step. (Assumption log 34, DEDUCED.) -/
def State.measure (theta : Int) (s : State) : State × Bool :=
  let s1 := if s.datState = 0 || s.datState = 3 then s.setDatum 1 else s
  let mag := theta.natAbs
  let s2 := { s1 with datum := { s1.datum with
    theta := theta, measuredAt := s.now, noStep := s1.datum.noStep && !(s1.datState = 2 && 16 ≤ s1.datum.goodRun)
    goodRun := if mag ≤ 320 then s1.datum.goodRun + 1 else 0, badRun := if 16000 < mag then s1.datum.badRun + 1 else 0 } }
  let st := s2.datState
  if st = 1 && 16 * s.rd DAT_STEP_THR_NS < mag && !s2.datum.noStep then
    let t := ((s2.datum.t : Int) - theta * 17592186044416).toNat
    ({ s2 with datum := { s2.datum with integ := 0 } }).stepTo t
  else
    let s3 := s2.servo theta
    if st = 1 && 16 ≤ s3.datum.goodRun then (s3.setDatum 2, false)
    else if st = 2 && 4 ≤ s3.datum.badRun then (s3.setDatum 1, false)
    else (s3, false)

/-- Source loss: HOLDOVER from ACQUIRE or LOCKED (R192). -/
def State.holdover (s : State) : State := if s.datState = 1 || s.datState = 2 then s.setDatum 3 else s

/-! ## Grandmaster data (R207, R613) -/

/-- PTP of a station port. -/
def State.ptp (s : State) (x : Nat) : PtpPort := s.datum.ptp.get x
/-- Change PTP of a station port. -/
def State.onPtp (x : Nat) (f : PtpPort → PtpPort) (s : State) : State := { s with datum := { s.datum with ptp := s.datum.ptp.upd x f } }

/-- R613: the hub's own default data set. (Assumption log 35, PRESUMED.) -/
def State.ownData (s : State) : GmData :=
  { prio1 := s.rd DAT_PTP_PRIO1, prio2 := s.rd DAT_PTP_PRIO2, clockClass := s.classNow, accuracy := 0xFE, variance := 0xFFFF,
    timeSource := 0xA0, steps := 0, gm := 0x1D6E6418 * 2 ^ 32 + bytesToNat (natBytesBE 4 (Config.serial 3).toNat), utc := signed 16 (s.rd DAT_UTC_OFFSET),
    leap61 := false, leap59 := false, utcValid := s.rdB DAT_UTC_UTC_VALID, ptpScale := true, timeTrace := false, freqTrace := false }

/-- R203, R207: grandmaster data as DAT_CTL.PROFILE has them: the fields of IEEE C37.238-2017 are 0 without it. -/
def State.profiled (s : State) (d : GmData) : GmData :=
  if s.rdB DAT_CTL_PROFILE then d else { d with gmInacc := 0, netInacc := 0, altOfs := 0, altJump := 0, altNext := 0 }

/-- Port states of IEEE 1588 that the hub shows: 6 MASTER, 7 PASSIVE, 9 SLAVE, 3 DISABLED. -/
def State.ptpState (s : State) (x : Nat) : Nat := s.rd (FRM_SP_STAT_PTP_STATE x)

/-- R207, R613: the data that a hub's master ports carry: on the root the followed grandmaster's one step further, or its own; on a
leaf the last TIME_DS. -/
def State.gmNow (s : State) : Option GmData :=
  if s.isRoot then
    let x := s.rd DAT_STAT_PTP_PORT
    if s.source = 1 && (s.datState = 1 || s.datState = 2) && s.ptpState x = 9 then
      match (s.ptp x).announce with
      | some d => some (s.profiled { d with steps := d.steps + 1 })
      | none => some s.ownData
    else some s.ownData
  else s.datum.ds.map s.profiled

/-- What the default best master clock algorithm compares, in order; the least is best. (Assumption log 35, PRESUMED.) -/
def gmRank (d : GmData) : List Nat := [d.prio1, d.clockClass, d.accuracy, d.variance, d.prio2, d.gm, d.steps]

/-- Lexicographic order. (Assumption log 35, PRESUMED.) -/
def lexLt : List Nat → List Nat → Bool
  | a :: l, b :: m => a < b || (a = b && lexLt l m)
  | [], _ :: _ => true
  | _, [] => false

/-- R203, R205: the state that the best master clock algorithm gives an enabled station port. (Assumption log 35, PRESUMED.) -/
def State.bmcOf (s : State) (x : Nat) : Nat :=
  let own := gmRank s.ownData
  let better (y : Nat) : Option GmData :=
    match (s.ptp y).announce with | some d => (if s.stationOn y && lexLt (gmRank d) own then some d else none) | none => none
  if s.source ≠ 1 then 6
  else match better x, better (1 - x) with
    | none, none => 6
    | some _, none => 9
    | none, some _ => 6
    | some d, some e =>
      if gmRank d = gmRank e then (if x = 0 then 9 else if s.rd FRM_CTL_RED_MODE = 1 then 9 else 7)
      else if lexLt (gmRank d) (gmRank e) then 9
      else if d.gm = e.gm then (if s.rd FRM_CTL_RED_MODE = 1 then 9 else 7) else 6

/-- Show the PTP state of the station ports. -/
def State.notePtp (s : State) : State :=
  s.each [0, 1] (fun x t =>
    let st := if !s.stationOn x then 3 else s.bmcOf x
    if t.ptpState x = st || (t.ptpState x = 0 && st = 3) then t
    else (t.wr (FRM_SP_STAT_PTP_STATE x) st).ev datPage [EV_DAT_PTP_STATE])

/-- R205: the port that Datum follows: A while it is in SLAVE; a change switches the servo in ACQUIRE without steps. -/
def State.followPtp (s : State) : State :=
  let s1 := s.notePtp
  let pick := if s1.ptpState 0 = 9 then some 0 else if s1.ptpState 1 = 9 then some 1 else none
  match pick with
  | none => s1
  | some x =>
    if s1.source = 1 && s1.rd DAT_STAT_PTP_PORT ≠ x then
      let s2 := s1.wr DAT_STAT_PTP_PORT x
      if s2.datState = 0 then s2
      else
        let s3 := s2.setDatum 1
        { s3 with datum := { s3.datum with noStep := true } }
    else s1

/-- R194, R218: UTC data of the source in use, in the layout of TIME SEL 0x7; LEAP_PENDING where a leap flag is newly set. -/
def State.setUtc (v : Nat) (s : State) : State :=
  let l61 := bitOf v 16
  let l59 := bitOf v 17
  let fresh := (l61 && !s.datum.leap61) || (l59 && !s.datum.leap59)
  ({ s with datum := { s.datum with utc := some v, leap61 := l61, leap59 := l59 } }).when fresh (State.ev datPage [EV_DAT_LEAP_PENDING])

/-- The UTC word of grandmaster data. -/
def gmUtcWord (d : GmData) : Nat := packNat [(0, 16, unsignedOf 16 d.utc), (16, 1, b2n d.leap61), (17, 1, b2n d.leap59), (18, 1, b2n d.utcValid)]

/-! ## The source (R191, R616) -/

/-- R191: an apex has a root hub at its far end. -/
def State.apexToRoot (s : State) : Bool := [16, 17].any (fun p => (s.chord p).linked && s.rd (LANE_STAT_PARTNER_KIND p) = 2)

/-- R191: the source that DAT_CTL.SOURCE selects; a reserved code keeps the one in use. -/
def State.sourceWanted (s : State) : Nat :=
  match s.rd DAT_CTL_SOURCE with
  | 0 => 0 | 1 => 1 | 2 => 2 | 3 => 3
  | 7 => if s.apexToRoot then 3 else if s.stationOn 0 || s.stationOn 1 then 1 else 0
  | _ => s.source

/-- R192, R225, R616: the source in use becomes another. -/
def State.changeSource (s : State) : State :=
  let w := s.sourceWanted
  if w = s.source then s.freeRunLock
  else
    let s1 := (s.wr DAT_STAT_SOURCE_ACT w).ev datPage [EV_DAT_SOURCE_CHANGE]
    let s2 := { s1 with datum := { s1.datum with utc := none, leap61 := false, leap59 := false, accuracy := 0xFE, measuredAt := s.now } }
    if w = 0 then
      let s3 := s2.setDatum 2
      ({ s3 with datum := { s3.datum with slew := 0 } }).followPtp
    else (s2.setDatum 0).followPtp

/-! ## TIME_DS and TIME_STATUS (R207) -/

/-- The ten content words of TIME_DS. -/
def gmWords (d : GmData) : List Word :=
  [pack [(36, 4, 1), (28, 8, d.prio1), (20, 8, d.prio2), (12, 8, d.clockClass), (4, 8, d.accuracy)],
   pack [(24, 16, d.variance), (16, 8, d.timeSource), (0, 16, d.steps)],
   pack [(0, 40, d.gm / 2 ^ 24)],
   pack [(16, 24, d.gm), (0, 16, unsignedOf 16 d.utc)],
   pack [(39, 1, b2n d.leap61), (38, 1, b2n d.leap59), (37, 1, b2n d.utcValid), (36, 1, b2n d.ptpScale), (35, 1, b2n d.timeTrace),
     (34, 1, b2n d.freqTrace), (0, 32, d.gmInacc)],
   pack [(8, 32, d.netInacc)], pack [(8, 32, unsignedOf 32 d.altOfs)], pack [(8, 32, unsignedOf 32 d.altJump)],
   pack [(0, 40, d.altNext / 256)], pack [(32, 8, d.altNext)]]

/-- The data that ten content words carry. -/
def gmOfWords (ws : List Word) : GmData :=
  let f (i lo n : Nat) := fld (ws.getD i 0) lo n
  { prio1 := f 0 28 8, prio2 := f 0 20 8, clockClass := f 0 12 8, accuracy := f 0 4 8, variance := f 1 24 16, timeSource := f 1 16 8,
    steps := f 1 0 16, gm := f 2 0 40 * 2 ^ 24 + f 3 16 24, utc := signed 16 (f 3 0 16), leap61 := f 4 39 1 = 1, leap59 := f 4 38 1 = 1,
    utcValid := f 4 37 1 = 1, ptpScale := f 4 36 1 = 1, timeTrace := f 4 35 1 = 1, freqTrace := f 4 34 1 = 1, gmInacc := f 4 0 32,
    netInacc := f 5 8 32, altOfs := signed 32 (f 6 8 32), altJump := signed 32 (f 7 8 32), altNext := f 8 0 40 * 256 + f 9 32 8 }

/-- The port of the carrying apex of a leaf. -/
def State.carrying (s : State) : Nat := s.ids.carry.getD 16

/-- The two content words of TIME_STATUS. -/
def State.statusWords (s : State) : List Word :=
  [pack [(36, 4, 2), (34, 2, s.datState), (33, 1, s.rd DAT_STAT_KEEPER), (30, 3, s.source)],
   pack [(8, 32, s.rd (DAT_PORT_OFFSET_THETA s.carrying))]]

/-! ## The keeper (R213, R214) -/

/-- R213 step 1: full time of the ambient edge of this cycle and RATE go to the keeper. (Assumption log 44, DEDUCED.) -/
def State.handOffTime (s : State) : State :=
  let edge := edgeBefore s.now
  let rate := signed 32 (s.rd DAT_RATE_RATE)
  let t := fullTime ((s.datum.t : Int) - ((s.now - edge : Nat) : Int) * ((2 ^ 48 : Int) + rate + s.datum.slew)).toNat
  { s with keeper := { t := some t, rate := rate, at_ := edge, cycle := some (edge, t) } }

/-- R213 steps 3 and 4: the keeper presents full time for the ambient edge of this cycle; Datum takes it, counted on from the edge, and
RATE, and enters HOLDOVER; in free run it is LOCKED at once. (Assumption log 44, DEDUCED.) -/
def State.restoreTime (s : State) : State :=
  match s.keeperTime with
  | none => s
  | some f =>
    let edge := edgeBefore s.now
    let t := ((f : Int) + ((s.now - edge : Nat) : Int) * ((2 ^ 48 : Int) + s.keeper.rate)).toNat
    let s1 := (({ s with datum := { s.datum with t := t }, keeper := { cycle := some (edge, f) } }).wr DAT_RATE_RATE
      (unsignedOf 32 s.keeper.rate)).setDatum 3
    let s2 := { s1 with lattice := { s1.lattice with last := some (s1.datum.whole / s1.period) } }
    (s2.wr DAT_STAT_KEEPER 1).freeRunLock

end Sys2Proof.Machine
end

