-- ==== Sys2Proof/Machine/ResetOps.lean ====
section
/-!
DEFINITION. Asserting a full reset, what it leaves (R531, R532, R561), and the stored configuration's copies (R541–R546).
-/
namespace Sys2Proof.Machine

def rstPage : Nat := 0x002
def cfgPage : Nat := 0x003
def pwrPage : Nat := 0x008

/-! ## What the power die holds (R528, R532, R547, R561) -/

/-- A register is held in the power die, or fixed by the part and the board. -/
def heldReg (page off : Nat) : Bool :=
  powerPage page ||
  page = 0x002 && (off = 0x044 || off = 0x048 || off = 0x04C || (0x058 ≤ off && off ≤ 0x07C)) ||
  page = 0x008 && (off = 0x048 || off = 0x05C || off = 0x060) ||
  page = 0x000 && ((0x048 ≤ off && off ≤ 0x054) || off = 0x05C)

/-- The register file with nothing but what the power die holds. -/
def keptRegs (m : Map (none : Option Nat)) : Map (none : Option Nat) := m.keep (fun k => heldReg (k / 2 ^ 27) (k / 2 ^ 15 % 4096))

/-- R532: the state of the core die after a full reset has taken hold: cleared but for the power die, the MRAM and the pins. (Assumption log 53, DEDUCED.) -/
def State.clearCore (s : State) : State :=
  { State.reset with
    now := s.now, pending := s.pending, out := s.out, taken := s.out.length, nonces := s.nonces, free := s.free, coreOn := false
    regs := keptRegs s.regs
    pages := s.pages.keep powerPage
    keys := { slots := s.keys.slots.mapVals (fun _ x => { c0 := x.c0, c1 := x.c1 }), lc0 := s.keys.lc0, lc1 := s.keys.lc1, patch := s.keys.patch }
    keeper := s.keeper
    pins := { level := s.pins.level }
    usb := { vbus := s.usb.vbus }
    pd := s.pd
    power := { wakeSrc := s.power.wakeSrc, timerAt := s.power.timerAt, asked := s.power.asked, asleep := s.power.asleep, early := s.power.early }
    boot := { s.boot with hostBy := none }
    stored := { copy0 := s.stored.copy0, copy1 := s.stored.copy1 }
    log := { bank0 := s.log.bank0, bank1 := s.log.bank1, ring := s.log.ring, held := s.log.held, kept := s.log.kept, minuteAt := s.log.minuteAt } }

/-- R532 step 3: the hub stops driving event-pin outputs, each of which goes to its inactive level. -/
def State.releasePins (s : State) : State :=
  s.each (List.range 16) (fun n s =>
    if s.rd (EVP_CFG_FUNC n) = 2 || s.rd (EVP_CFG_FUNC n) = 3 || s.rd (EVP_CFG_FUNC n) = 4 || s.rd (EVP_CFG_FUNC n) = 7 || bitOf s.pins.driven n
    then s.emit (.pin n (s.rdB (EVP_CFG_POL n))) else s)

/-- R531: the core die is held by an assertion. -/
def State.held (s : State) : Bool := !s.coreOn && s.power.asleep = 0

/-- R532, R533, R540: a source asserts the full reset; while the core die is held, a source of the asserting ambient cycle is recorded
beside the first. (Assumption log 53, DEDUCED.) -/
def State.assertReset (code : Nat) (s : State) : State :=
  if !s.boot.dieOn then s
  else if s.held then
    if s.sameCycle s.boot.at_ && !s.boot.seen.contains code then { s with boot := { s.boot with seen := s.boot.seen ++ [code] } } else s
  else
    let short := s.shortNow
    let s1 := if s.coreOn && code ≠ 1 && code ≠ 9 then s.handOffTime else if code = 1 || code = 9 then { s with keeper := {} } else s
    let s2 := (if s.coreOn then s1.releasePins else s1).clearCore
    { s2 with
      power := { s2.power with asleep := 0, asked := 0, early := [] }
      boot := { s2.boot with started := false, rails := s.boot.rails || s.power.asleep ≠ 0, seen := [code], at_ := s.now, short := short } }

/-! ## The stored configuration (R541–R544, R546) -/

/-- "KN-CFG" in ASCII. -/
def labelCfg : List Nat := [0x4B, 0x4E, 0x2D, 0x43, 0x46, 0x47]

/-- A header word. -/
def CfgCopy.w (c : CfgCopy) (i : Nat) : Nat := nth c.hdr i

/-- R542: LEN and FORMAT. -/
def CfgCopy.len (c : CfgCopy) : Nat := bitsOf (c.w 1) 0 14
def CfgCopy.format (c : CfgCopy) : Nat := bitsOf (c.w 1) 24 8

/-- Words as bytes, big-endian. -/
def wordsBytes (ws : List Nat) : List Nat := ws.flatMap (natBytesBE 4)

/-- A 256-bit value as eight words, most significant first. -/
def words256 (v : BitVec 256) : List Nat := (List.range 8).map (fun i => bitsOf v.toNat (32 * (7 - i)) 32)

/-- R542: SHA-256 of the record words. -/
def CfgCopy.digest (c : CfgCopy) (len : Nat) : List Nat :=
  words256 (Config.sha256 (wordsBytes ((List.range len).map (fun i => c.body.get i))))

/-- R542: the TAG words over header words 0–11. -/
def cfgTag (hdr : List Nat) : List Nat :=
  let t := (Config.hmac (kdf Config.deviceSecret labelCfg []) (wordsBytes (hdr.take 12))).extractLsb' 192 64
  [bitsOf t.toNat 32 32, bitsOf t.toNat 0 32]

/-- R544: a copy is valid but for its FORMAT. -/
def CfgCopy.sound (c : CfgCopy) : Bool :=
  c.w 0 = 0x4B4E4346 && c.w 2 ≠ 0 && c.w 15 = c.w 2 && 1 ≤ c.len && c.len ≤ 16368 &&
  (c.hdr.drop 4).take 8 = c.digest c.len && (c.hdr.drop 12).take 2 = cfgTag c.hdr

/-- R544: a copy is valid. -/
def CfgCopy.ok (c : CfgCopy) : Bool := c.format = 3 && c.sound

/-- A copy. -/
def Stored.copy (x : Stored) (b : Bool) : CfgCopy := if b then x.copy1 else x.copy0
def Stored.setCopy (x : Stored) (b : Bool) (c : CfgCopy) : Stored := if b then { x with copy1 := c } else { x with copy0 := c }

/-- Change the stored configuration. -/
def State.onStored (f : Stored → Stored) (s : State) : State := { s with stored := f s.stored }

/-- R548: VALID. -/
def State.noteValid (s : State) : State := s.wr CFG_STAT_VALID (2 * b2n s.stored.copy1.ok + b2n s.stored.copy0.ok)

/-- R546, R548: a write sequence ends without success. -/
def State.abortCfg (status : Nat) (s : State) : State :=
  (((s.onStored (fun x => { x with target := none, committing := none })).wr CFG_STAT_BUSY 0).wr CFG_STAT_STATUS status).ev cfgPage [EV_CFG_ABORTED]

/-- R546 step 4: COMMIT = GEN is written and verified. -/
def State.cfgNano (s : State) : State :=
  match s.stored.committing, s.stored.target with
  | some d, some b =>
    if s.now < d then s
    else
      let c := s.stored.copy b
      let s1 := s.onStored (fun x => { x.setCopy b { c with hdr := c.hdr.set 15 (c.w 2) } with target := none, committing := none })
      ((((s1.wr CFG_STAT_BUSY 0).wr CFG_STAT_STATUS 0).noteValid).ev cfgPage [EV_CFG_COMMITTED])
  | _, _ => s

/-! ## Restoration (R537, R538) -/

/-- R223: a leaf is served: the root has trained its carrying apex, numbered it and installed its control tunnel. (Assumption log 46, DEDUCED.) -/
def State.served (s : State) : Bool :=
  s.isRoot || (s.ids.carry ≠ none && s.hubNo ≠ 0x1F && (s.tun (ctrlTun s.hubNo)).e.state = .opened)

/-- R538, R223: every TUNNEL record has reached OPEN, on a leaf by the root's installing: the time to step 6, and RESTORED. -/
def State.bootNano (s : State) : State :=
  if s.rdB RST_STAT_RESTORING && s.boot.started && s.served && s.stored.tunnels = [] &&
      s.stored.opening.all (fun t => match (s.tun t).e.state with | .opened => true | _ => false) then
    (((s.wr RST_STAT_RESTORING 0).wr RST_TIMING_RESTORE (min 65535 ((s.now - s.boot.released.getD 0) / 10000))).onStored
      (fun x => { x with opening := [] })).ev rstPage [EV_RST_RESTORED]
  else s

end Sys2Proof.Machine
end

