-- ==== Sys2Proof/Machine/UsbOps.lean ====
section
/-!
DEFINITION. Operations of the peripheral adapter: virtual hubs, ports, messages, endpoints (R386–R405).
-/
namespace Sys2Proof.Machine

/-- Pages of the peripheral adapter and of the upstream port. -/
def perPage : Nat := 0x100
def usbPage : Nat := 0x101

/-- Change the peripheral adapter. -/
def State.onUsb (f : Usb → Usb) (s : State) : State := { s with usb := f s.usb }
/-- A virtual hub: 0 root, 1–16 leaf, 32 + dock. -/
def State.vhub (s : State) (h : Nat) : VHub := s.usb.hubs.get h
def State.onVhub (h : Nat) (f : VHub → VHub) (s : State) : State := s.onUsb (fun u => { u with hubs := u.hubs.upd h f })
/-- A port of a virtual hub; of a dock's hub the state stands in PER_PORT. -/
def vKey (h port : Nat) : Nat := h * 16 + port
def State.vport (s : State) (h port : Nat) : VPort := s.usb.ports.get (vKey h port)
def State.onVport (h port : Nat) (f : VPort → VPort) (s : State) : State := s.onUsb (fun u => { u with ports := u.ports.upd (vKey h port) f })

/-- The upstream port is connected (R387, R386, R595). -/
def State.usbOn (s : State) : Bool := s.coreOn && s.isRoot && s.usb.vbus && s.rdB PER_USB_CTL_CONNECT && bitOf (s.rd CHIP_STRAP_STRAPS) 2

/-- Tunnels of a dock (R389). -/
def asyncTun (d : Nat) : Nat := 0xE00 + d
def periodicTun (d : Nat) : Nat := 0xE40 + d

/-! ## The tree of virtual hubs (R387, R389) -/

/-- Hub and port number above a virtual hub. -/
def State.vparent (s : State) (h : Nat) : Option (Nat × Nat) :=
  if 32 ≤ h then (s.ids.docks.find? (fun d => d.2.2 = h - 32 && d.2.1 < 16)).map (fun d => (d.1, d.2.1))
  else if h = 0 then none
  else (s.ids.hubOf.find? (fun x => x.2 = h && x.1 < 16)).map (fun x => (0, x.1))

/-- The virtual hubs below the root. -/
def State.vchildren (s : State) : List Nat :=
  ((s.ids.hubOf.filter (fun x => x.1 < 16)).map (·.2)).eraseDups ++ (s.ids.docks.filter (fun d => d.2.1 < 16)).map (fun d => 32 + d.2.2)

/-- R389: a virtual hub is to be shown as connected on its parent's port. (Assumption log 58, DEDUCED.) -/
def State.vpresent (s : State) (h : Nat) : Bool :=
  if 32 ≤ h then (s.tun (asyncTun (h - 32))).e.state = .opened && (s.tun (periodicTun (h - 32))).e.state = .opened && (s.vhub h).seen
  else match s.vparent h with
    | some (_, p) => s.active p
    | none => h = 0

/-- R394: a dock's virtual hub stays while its tunnels are HELD or REKEY. -/
def State.vkept (s : State) (h : Nat) : Bool :=
  let up (t : Nat) : Bool := match (s.tun t).e.state with | .opened => true | .held => true | .rekey => true | _ => false
  if 32 ≤ h then up (asyncTun (h - 32)) && up (periodicTun (h - 32)) && (s.vhub h).seen && (s.vparent h).isSome
  else match s.vparent h with
    | some (_, p) => s.active p || s.ls p = LS_RETRAIN || s.ls p = LS_DOWN
    | none => h = 0

/-- R391, R401: every port above a virtual hub is ENABLED. -/
def State.vreached (s : State) (h : Nat) : Bool :=
  let up (g : Nat) : Option (Nat × Bool) := (s.vparent g).map (fun u => (u.1, decide ((s.vport u.1 u.2).st = 4)))
  h = 0 || (match up h with
    | some (g, ok) => ok && (g = 0 || (match up g with | some (_, ok') => ok' | none => false))
    | none => false)

/-- The number of downstream ports. -/
def State.vports (s : State) (h : Nat) : Nat := if 32 ≤ h then (s.vhub h).nports else 16

/-- R401: the state of a port. -/
def State.vstate (s : State) (h port : Nat) : Nat := if 32 ≤ h then s.rd (PER_PORT_STATE ((h - 32) * 4 + port)) else (s.vport h port).st

/-- Change bits of a port are set, with PORT_CHANGE (R415). -/
def State.vchange (h port bit : Nat) (s : State) : State :=
  (s.onVport h port (fun x => { x with change := x.change ||| 2 ^ bit })).ev perPage [EV_PER_PORT_CHANGE]

/-- R415: ADDR_USED and DOCKS. -/
def State.noteUsb (s : State) : State :=
  (s.wr PER_STAT_ADDR_USED s.usb.binds.length).wr PER_STAT_DOCKS
    ((s.vchildren.filter (fun h => 32 ≤ h && (match s.vparent h with | some (u, p) => 2 ≤ s.vstate u p | none => false))).length)

/-- The target of a dock port's device. -/
def devTarget (d port : Nat) : Nat := 1024 + d * 4 + port

/-- The targets at and below a port. -/
def State.vbelow (s : State) (h port : Nat) : List Nat :=
  if 32 ≤ h then [devTarget (h - 32) port]
  else
    let kids := s.vchildren.filter (fun c => s.vparent c = some (h, port))
    let more := kids.flatMap (fun c => s.vchildren.filter (fun g => (s.vparent g).map (·.1) = some c))
    let all := kids ++ (if h = 0 then more else [])
    all ++ all.flatMap (fun c => if 32 ≤ c then (List.range 4).map (devTarget (c - 32)) else [])

/-- R391: the addresses of targets are released, and their transfers forgotten. -/
def State.vrelease (ts : List Nat) (s : State) : State :=
  let gone (t : Nat) : Bool := ts.contains t
  let s1 := s.onUsb (fun u => { u with
    binds := u.binds.filter (fun b => !gone b.2), dflt := u.dflt.bind (fun t => if gone t then none else some t),
    eps := u.eps.keep (fun k => !gone (k / 32)), xfers := u.xfers.filter (fun x => !gone (devTarget x.dock x.port)),
    isos := u.isos.filter (fun i => !gone (devTarget i.dock i.port)) })
  (s1.each (ts.filter (· < 1024)) (fun h s => s.onVhub h (fun v => { seen := v.seen, nports := v.nports }))).noteUsb

/-! ## Messages (R390) -/

/-- EPOCH of a dock port. -/
def State.epoch (s : State) (d port : Nat) : Nat := s.rd (PER_PORT_EPOCH (d * 4 + port))

/-- A message to a dock. -/
def State.perSend (t d op port low : Nat) (tag : Nat) (rest : List Word) (s : State) : State :=
  s.sendMsg 22 t (pack [(36, 4, op), (34, 2, port), (30, 4, s.epoch d port), (22, 8, tag), (0, 22, low)] :: rest)

/-- A PORT_CMD. -/
def State.portCmd (d port cmd : Nat) (rest : List Word) (s : State) : State := s.perSend (asyncTun d) d 3 port (cmd * 2 ^ 18) 0 rest

/-- R403, R404: the docks with USB: those whose async tunnel stands. -/
def State.usbDocks (s : State) : List Nat :=
  (List.range 64).filter (fun d => match (s.tun (asyncTun d)).e.state with | .opened => true | .held => true | .rekey => true | _ => false)

/-- The docks whose virtual hub is connected. -/
def State.vdocks (s : State) : List Nat := (s.vchildren.filter (fun h => 32 ≤ h && s.vpresent h)).map (· - 32)

/-- R403: the EPOCH of a dock port advances. (Assumption log 58, DEDUCED.) -/
def State.newEpoch (d port : Nat) (s : State) : State := s.wr (PER_PORT_EPOCH (d * 4 + port)) (s.epoch d port + 1)

/-- R396: ISO_STOP for a periodic endpoint. -/
def State.isoStop (i : UsbIso) (s : State) : State :=
  (s.onUsb (fun u => { u with isos := u.isos.filter (fun x => x ≠ i) })).portCmd i.dock i.port 0xB
    [pack [(33, 7, i.addr), (29, 4, i.ep), (25, 4, i.period), (24, 1, b2n i.inter)]]

/-- R396: every periodic endpoint of a device stops. -/
def State.isoStopDev (d port addr : Nat) (s : State) : State :=
  s.each (s.usb.isos.filter (fun i => i.dock = d && i.port = port && i.addr = addr)) State.isoStop

/-- R396: every periodic endpoint of a dock port stops. -/
def State.isoStopAll (d port : Nat) (s : State) : State :=
  s.each (s.usb.isos.filter (fun i => i.dock = d && i.port = port)) State.isoStop

/-- R401, R403: a dock port takes a state. -/
def State.setDockPort (d port st : Nat) (s : State) : State :=
  let old := s.vstate (32 + d) port
  let s1 := s.when (old = 4 && st ≠ 4) (State.isoStopAll d port)
  let s2 := s1.wr (PER_PORT_STATE (d * 4 + port)) st
  let s3 := s2.when (st ≠ old && (st = 0 || st = 1 || st = 3)) (fun s => (s.newEpoch d port).vrelease [devTarget d port])
  s3.when (old = 3 && st = 4) (State.onUsb (fun u => { u with dflt := some (devTarget d port) }))

/-! ## Emulated ports (R401) -/

/-- R401: a port that leads to another virtual hub takes a state. -/
def State.setVport (h port st : Nat) (s : State) : State :=
  let old := (s.vport h port).st
  let s1 := s.onVport h port (fun x => { x with st := st, wait := none })
  let s2 := s1.when (4 ≤ old && (st = 0 || st = 1 || st = 3)) (State.vrelease (s.vbelow h port))
  let child := s.vchildren.find? (fun c => s.vparent c = some (h, port))
  s2.when (old = 3 && st = 4) (State.onUsb (fun u => { u with dflt := child }))

/-- The dock virtual hubs at and below an emulated port. -/
def State.vdocksBelow (s : State) (h port : Nat) : List Nat := ((s.vbelow h port).filter (fun t => 32 ≤ t && t < 1024)).map (· - 32)

/-- R401: power goes off at and below a port. -/
def State.vpowerOff (h port : Nat) (s : State) : State :=
  if 32 ≤ h then (s.portCmd (h - 32) port 2 []).setDockPort (h - 32) port 0
  else
    let ds := s.vdocksBelow h port
    let s1 := s.each ds (fun d s => s.each (List.range (s.vhub (32 + d)).nports) (fun q s => (s.portCmd d q 2 []).setDockPort d q 0))
    s1.setVport h port 0

/-- R389, R401: a dock whose tunnels no longer stand has reported nothing, and its ports are POWERED_OFF when its tunnels open anew. -/
def State.usbForget (s : State) : State :=
  s.each (s.usb.hubs.keys.filter (fun h => 32 ≤ h && (s.vhub h).seen && !s.usbDocks.contains (h - 32))) (fun h s =>
    (s.each (List.range 4) (fun q s => (s.vrelease [devTarget (h - 32) q]).setDockPort (h - 32) q 0)).onVhub h (fun v => { v with seen := false }))

/-- R389, R401: the ports that lead to virtual hubs follow the presence of those hubs. -/
def State.usbSync (s0 : State) : State :=
  let s := s0.usbForget
  if !s.usbOn then s
  else s.each s.vchildren (fun c s => match s.vparent c with
    | none => s
    | some (h, port) =>
      let st := (s.vport h port).st
      if st = 1 && s.vpresent c then ((s.setVport h port 2).vchange h port 0).noteUsb
      else if 2 ≤ st && !s.vkept c then ((s.setVport h port 1).vchange h port 0).noteUsb
      else s)

/-! ## Endpoints and transfers (R391–R395) -/

/-- An endpoint. -/
def State.uep (s : State) (k : Nat) : UsbEp := s.usb.eps.get k
def State.onUep (k : Nat) (f : UsbEp → UsbEp) (s : State) : State := s.onUsb (fun u => { u with eps := u.eps.upd k f })

/-- The key of an endpoint: a control endpoint has both directions. -/
def epKey (target ep kind : Nat) (inn : Bool) : Nat := target * 32 + ep * 2 + (if kind = 0 then 0 else b2n inn)

/-- A TAG that no XFER to the dock uses. -/
def State.freeXfer (s : State) (d : Nat) : Option Nat :=
  (List.range 256).find? (fun t => !s.usb.xfers.any (fun x => x.dock = d && x.tag = t))

/-- R394: PER_TIMING.XFER_TO. -/
def State.xferTo (s : State) : Nat := ms (min 100 (max 2 (s.rd PER_TIMING_XFER_TO)))

/-- R390, R392, R394: an XFER for an endpoint, while the dock's tunnel is OPEN. (Assumption log 58, DEDUCED.) -/
def State.sendXfer (k d port : Nat) (k0 : UsbTok) (inn setup : Bool) (bytes : List Nat) (s : State) : State :=
  match s.freeXfer d with
  | none => s
  | some tag =>
    if (s.tun (asyncTun d)).e.state ≠ .opened then s
    else
      let low := packNat [(15, 7, k0.addr), (11, 4, k0.ep), (10, 1, b2n inn), (8, 2, k0.kind), (7, 1, b2n setup), (6, 1, b2n k0.split.isSome)]
      let len := if inn then 1024 else bytes.length
      let s1 := s.perSend (asyncTun d) d 1 port low tag (pack [(0, 11, len)] :: packBytes bytes)
      (s1.onUsb (fun u => { u with xfers := u.xfers ++ [{ dock := d, port := port, tag := tag, ep := k, due := s.now + s.xferTo }] })).onUep k
        (fun e => { e with tag := some tag, isSetup := setup, isIn := inn, result := none })

/-- USB handshakes and data PIDs. -/
def PID_ACK : Nat := 0x2
def PID_NAK : Nat := 0xA
def PID_STALL : Nat := 0xE
def PID_NYET : Nat := 0x6
def pidData (toggle : Bool) : Nat := if toggle then 0xB else 0x3

/-- The answer to a token. -/
def State.usbAnswer (k : UsbTok) (pid : Nat) (bytes : List Nat) (s : State) : State := s.emit (.usb k.addr k.ep pid bytes)

/-- R391: the status stage of a SET_ADDRESS has completed. -/
def State.bindAddr (target addr : Nat) (s : State) : State :=
  (s.onUsb (fun u => { u with
    binds := (u.binds.filter (fun b => b.2 ≠ target)) ++ (if addr = 0 then [] else [(addr, target)]),
    dflt := if u.dflt = some target then none else u.dflt })).noteUsb

/-- R391, R393: what a completed control transfer of a device changes in the adapter. (Assumption log 23, PRESUMED.) -/
def State.controlDone (target : Nat) (setup : List Nat) (s : State) : State :=
  let b (i : Nat) : Nat := setup.getD i 0
  if b 0 = 0 && b 1 = 5 then s.bindAddr target (b 2 % 128)
  else if b 0 = 2 && b 1 = 1 then
    s.onUep (target * 32 + b 4 % 16 * 2 + b 4 / 128) (fun e => { e with result := none, toggle := false, stallNext := false, data := none })
  else s

/-! ## Virtual hubs' own requests (R387, R401) -/

/-- Little-endian bytes. -/
def le16 (n : Nat) : List Nat := [n % 256, n / 256 % 256]

/-- The device descriptor of a virtual hub: USB 2.0, class hub, idVendor and idProduct of CHIP_USB_ID (R564); standard form. (Assumption log 23, PRESUMED.) -/
def deviceDesc (dock : Bool) : List Nat :=
  [18, 1] ++ le16 0x0200 ++ [9, 0, if dock then 2 else 1, 64] ++ le16 0x1D6E ++ le16 0x6418 ++ le16 0x0100 ++ [0, 0, 0, 1]

/-- The configuration of a virtual hub: self-powered, remote wakeup, one interrupt endpoint. (Assumption log 23, PRESUMED.) -/
def configDesc : List Nat :=
  [9, 2] ++ le16 25 ++ [1, 1, 0, 0xE0, 0] ++ [9, 4, 0, 0, 1, 9, 0, 0, 0] ++ [7, 5, 0x81, 3] ++ le16 3 ++ [12]

/-- The hub descriptor (R387): ports, individual power switching and overcurrent, bPwrOn2PwrGood. (Assumption log 23, PRESUMED.) -/
def hubDesc (n : Nat) (dock : Bool) : List Nat :=
  let m := (n + 8) / 8
  [7 + 2 * m, 0x29, n] ++ le16 0x0009 ++ [if dock then 50 else 1, 0] ++ List.replicate m 0 ++ List.replicate m 0xFF

/-- wPortStatus and wPortChange of a port; a virtual hub below another runs at the speed of the upstream port. (Assumption log 58, DEDUCED.) -/
def State.portStatus (s : State) (h port : Nat) : List Nat :=
  let st := s.vstate h port
  let x := s.vport h port
  let speed := if 32 ≤ h then s.rd (PER_PORT_SPEED ((h - 32) * 4 + port)) else s.rd PER_USB_STAT_SPEED
  le16 (packNat [(0, 1, b2n (2 ≤ st)), (1, 1, b2n (4 ≤ st)), (2, 1, b2n (st = 5)), (3, 1, b2n x.overCur), (4, 1, b2n (st = 3)),
    (8, 1, b2n (st ≠ 0)), (9, 1, b2n (2 ≤ st && speed = 1)), (10, 1, b2n (2 ≤ st && speed = 3))]) ++ le16 x.change

/-- SetPortFeature (R401): 8 PORT_POWER, 4 PORT_RESET, 2 PORT_SUSPEND. (Assumption log 58, DEDUCED.) -/
def State.setFeature (h port feature : Nat) (s : State) : State :=
  let st := s.vstate h port
  let d := h - 32
  if 32 ≤ h then
    match feature with
    | 8 => if st = 0 then s.portCmd d port 1 [] else s
    | 4 => if st = 2 || 4 ≤ st then let s1 := s.setDockPort d port 3; s1.portCmd d port 3 [] else s
    | 2 => if st = 4 then (s.portCmd d port 5 []).onVport h port (fun x => { x with alone := true }) else s
    | _ => s
  else
    match feature with
    | 8 => if st = 0 then s.onVport h port (fun x => { x with wait := some (s.now + ms 2), next := 1 }) else s
    | 4 => if st = 2 || 4 ≤ st then
        (s.setVport h port 3).onVport h port (fun x => { x with wait := some (s.now + ms 10), next := 4 }) else s
    | 2 => if st = 4 then
        ((s.setVport h port 5).onVport h port (fun x => { x with alone := true })).each (s.vdocksBelow h port) (fun d s => s.portCmd d 0 7 []) else s
    | _ => s

/-- ClearPortFeature (R401): 8 PORT_POWER, 1 PORT_ENABLE, 2 PORT_SUSPEND, 16–20 the change bits. -/
def State.clearFeature (h port feature : Nat) (s : State) : State :=
  let st := s.vstate h port
  let d := h - 32
  if 16 ≤ feature then s.onVport h port (fun x => { x with change := x.change - (if bitOf x.change (feature - 16) then 2 ^ (feature - 16) else 0) })
  else match feature with
    | 8 => s.vpowerOff h port
    | 1 => if 32 ≤ h then s.portCmd d port 4 [] else if 4 ≤ st then s.setVport h port 2 else s
    | 2 =>
      if st ≠ 5 then s
      else if 32 ≤ h then s.portCmd d port 6 []
      else ((s.setVport h port 6).onVport h port (fun x => { x with wait := some (s.now + ms 20), next := 4 })).each
        (s.vdocksBelow h port) (fun d s => s.portCmd d 0 8 [])
    | _ => s

/-- The answer of a virtual hub to a SETUP: its effect, and its reply (none: STALL). (Assumption log 23, PRESUMED.) -/
def State.hubRequest (h : Nat) (b : List Nat) (s : State) : State × Option (List Nat) :=
  let at_ (i : Nat) : Nat := b.getD i 0
  let value := at_ 2 + 256 * at_ 3
  let port := at_ 4 - 1
  let len := at_ 6 + 256 * at_ 7
  let okPort : Bool := 1 ≤ at_ 4 && at_ 4 ≤ s.vports h
  let give (l : List Nat) : State × Option (List Nat) := (s, some (l.take len))
  match at_ 0, at_ 1 with
  | 0x80, 6 =>
    if at_ 3 = 1 then give (deviceDesc (32 ≤ h)) else if at_ 3 = 2 then give configDesc else (s, none)
  | 0xA0, 6 => give (hubDesc (s.vports h) (32 ≤ h))
  | 0x80, 8 => give [(s.vhub h).config]
  | 0x80, 0 => give [1 + 2 * b2n (s.vhub h).wake, 0]
  | 0x81, 0 => give [0, 0]
  | 0x82, 0 => give [0, 0]
  | 0xA0, 0 => give [0, 0, 0, 0]
  | 0xA3, 0 => if okPort then give (s.portStatus h port) else (s, none)
  | 0, 5 => (s, some [])
  | 0, 9 => ((s.onVhub h (fun v => { v with config := value })).when (h = 0) (State.wrB PER_USB_STAT_CONFIGURED (value ≠ 0)), some [])
  | 0, 3 => if value = 1 then (s.onVhub h (fun v => { v with wake := true }), some []) else (s, none)
  | 0, 1 => if value = 1 then (s.onVhub h (fun v => { v with wake := false }), some []) else (s, none)
  | 0x23, 3 => if okPort then (s.setFeature h port value, some []) else (s, none)
  | 0x23, 1 => if okPort then (s.clearFeature h port value, some []) else (s, none)
  | _, _ => (s, none)

/-- The status-change bitmap of a virtual hub. -/
def State.hubChanges (s : State) (h : Nat) : List Nat :=
  let m := packNat ((List.range (s.vports h)).map (fun p => (p + 1, 1, b2n ((s.vport h p).change ≠ 0))))
  if m = 0 then [] else (List.range ((s.vports h + 8) / 8)).map (fun i => m / 256 ^ i % 256)

/-- R405: remote wakeup is enabled along the whole path above a dock's hub. (Assumption log 58, DEDUCED.) -/
def State.wakePath (s : State) (d : Nat) : Bool :=
  (s.vhub (32 + d)).wake && (s.vhub 0).wake &&
  (match s.vparent (32 + d) with | some (0, _) => true | some (h, _) => (s.vhub h).wake | none => false)

/-- R405: K is driven upstream for 2 ms once 5 ms of suspension have passed. -/
def State.usbNano (s : State) : State :=
  if s.due s.usb.wakeAt then
    (s.onUsb (fun u => { u with wakeAt := none, kUntil := s.now + ms 2 })).emit (.usbLine 1)
  else s

end Sys2Proof.Machine
end

