-- ==== Sys2Proof/Machine/PowerOps.lean ====
section
/-!
DEFINITION. Operations of the sleep states and of the performance levels (R507–R522).
-/
namespace Sys2Proof.Machine

/-- Change the power state. -/
def State.onPower (f : Power → Power) (s : State) : State := { s with power := f s.power }

/-! ## Refusals (R508, R511, R512) -/

/-- R508: the guaranteed tunnels. -/
def State.guaranteed (s : State) : List Nat :=
  s.tunIds.filter (fun t => !protectedTun t && (s.tun t).e.vc ≤ 2 &&
    (match (s.tun t).e.state with | .opening => true | .opened => true | .rekey => true | .held => true | _ => false))

/-- R511: the conditions of a unit of its own. (Assumption log 51, DEDUCED.) -/
def State.unitRefuses (s : State) (u : Nat) : Bool :=
  match u with
  | 0 => s.rdB TUN_CMD_BUSY || s.tunIds.any (fun t => match (s.tun t).e.state with | .opening => true | .closing => true | _ => false)
  | 2 => s.rdB LAT_GOP_BUSY || s.rdB LAT_STAT_PENDING
  | 6 => s.win.reqs.any (fun r => !r.write) || s.rd WIN_STAT_RW_LEVEL ≠ 0
  | 7 => s.ids.docks.any (fun d => (s.vhub (32 + d.2.2)).seen) && !s.rdB PER_USB_STAT_SUSPENDED
  | 8 => s.rd DSP_STAT_STATE_A = 4 || s.rd DSP_STAT_STATE_B = 4
  | 9 => s.keys.busy
  | 12 => s.log.writing.isSome
  | 13 => s.rdB WIN_PCIE_STAT_LINK_UP && !((List.range 3).all (fun f => (s.pf f).power = 3) && s.rdB WIN_PCIE_STAT_L1)
  | 14 => s.usb.vbus && s.rdB PER_USB_CTL_CONNECT && !s.rdB PER_USB_STAT_SUSPENDED
  | 15 => s.rdB RST_STAT_RESTORING && s.boot.started || s.diag.test ≠ 0
  | _ => 16 ≤ u && (s.ls (u - 16) = LS_TRAIN || s.ls (u - 16) = LS_CONFIG || s.ls (u - 16) = LS_RETRAIN)

/-- R508, R511: the units that refuse, in ascending order: those that a guaranteed tunnel crosses or ends at, the Hull and Chord's queues
among them, and those of R511. (Assumption log 51, DEDUCED.) -/
def State.refusers (s : State) : List Nat :=
  let g := s.guaranteed
  let crossed := g.flatMap (fun t => ((s.tun t).e.path).map unitOf)
  (List.range 34).filter (fun u => s.unitRefuses u || crossed.contains u || (u ≤ 1 && g ≠ []))

/-- R512: refusals are counted and recorded, and REFUSED is raised. -/
def State.refuseSleep (us : List Nat) (aborted : Bool) (req : Nat) (s : State) : State :=
  let s1 := s.each us (fun u s => s.bump (if u % 2 = 1 then PWR_REFUSE_ODD (u / 2) else PWR_REFUSE_EVEN (u / 2)))
  ((((s1.wr PWR_LAST_REFUSER_UNIT (us.headD 0)).wr PWR_LAST_REFUSER_STATE req).wrB PWR_LAST_REFUSER_ABORTED aborted)).ev pwrPage [EV_PWR_REFUSED]

/-! ## Clock and level (R519, R521, R522) -/

/-- The level in force: PWR_STAT and HULL_STAT. -/
def State.setLevel (l : Nat) (s : State) : State := ((s.wr PWR_STAT_LEVEL l).wr HULL_STAT_PLEVEL l).emit (.coreVoltage l)

/-- R519, R529: the clock falls back to the internal oscillator at P3. -/
def State.toOsc (s : State) : State :=
  ((s.onPower (fun x => { x with change := none, wanted := none, pllHeld := false })).wr PWR_STAT_CLK_SRC 0).setLevel 3

/-- R522: a change starts: a faster level waits 40 µs for the voltage; a slower one switches at once. -/
def State.startChange (level : Nat) (pll : Bool) (s : State) : State :=
  if level = s.rd PWR_STAT_LEVEL && pll = s.rdB PWR_STAT_CLK_SRC then s
  else
    let faster : Bool := level < s.rd PWR_STAT_LEVEL
    let s1 := s.onPower (fun x => { x with change := some (level, pll, if faster then s.now + us 40 else s.now) })
    if faster then s1.emit (.coreVoltage level) else s1

/-- R522: a request for a level and a source: held until the PLL locks, kept behind a change in progress, or started. -/
def State.wantLevel (level : Nat) (pll : Bool) (s : State) : State :=
  if pll && !s.rdB PWR_STAT_PLL_LOCK then s.onPower (fun x => { x with pllHeld := true, wanted := some (level, pll) })
  else if s.power.change.isSome then s.onPower (fun x => { x with pllHeld := false, wanted := some (level, pll) })
  else (s.onPower (fun x => { x with pllHeld := false, wanted := none })).startChange level pll

/-- R522: the clock switches once the voltage has settled; the latest request follows at once. -/
def State.switchLevel (s : State) : State :=
  match s.power.change with
  | some (l, pll, d) =>
    if s.now < d then s
    else
      let s1 := (((s.onPower (fun x => { x with change := none })).wrB PWR_STAT_CLK_SRC pll).setLevel l).ev pwrPage [EV_PWR_LEVEL_CHANGE]
      match s1.power.wanted with
      | some (l', p') => if s1.power.pllHeld then s1 else (s1.onPower (fun x => { x with wanted := none })).startChange l' p'
      | none => s1
  | none => s

/-! ## Entering sleep (R509–R515) -/

/-- R507, R510: a port holds neither an unacknowledged nor a queued flit; its ingress buffer, which S1 keeps, must be empty for S2 and S3. -/
def State.portDrained (s : State) (p : Nat) : Bool :=
  (s.power.asked ≤ 1 || !s.hull.ingress.any (fun f => f.inPort = p)) &&
  (s.chord p).replay = [] && (s.chord p).xReplay = [] && (s.chord p).points = [] &&
  (List.range 16).all (fun q => s.compass.queues.get (qKey p q) = [])

/-- The ports that carry a link awake. -/
def State.awake (s : State) (p : Nat) : Bool := s.active p || s.ls p = LS_DOZE || s.ls p = LS_NAP

/-- R510, R512: an entry ends without sleep: VC3–VC5 resume, and ports that had gone DORMANT are woken. -/
def State.abortEntry (units : List Nat) (s : State) : State :=
  let asked := s.power.asked
  let s1 := (s.onPower (fun x => { x with asked := 0, drainBy := none, stopped := false, early := [] })).wr PWR_STAT_ENTRY 0
  let s2 := s1.each (List.range 18) (fun p s => (s.onChord p (fun c => { c with quiet := false })).when
    (2 ≤ asked && s.ls p = LS_DORMANT && (s.chord p).linked) (State.linkWake p))
  s2.refuseSleep units true asked

/-- R514: the wake timer runs from entry. -/
def State.startTimer (s : State) : State :=
  let n := s.rd PWR_TIMER_MS
  s.onPower (fun x => { x with timerAt := if n = 0 then none else some (s.now + ms n) })

/-- R510 steps 4–6: every port is drained and the hub rests. (Assumption log 52, DEDUCED.) -/
def State.enterSleep (s : State) : State :=
  let a := s.power.asked
  let s0 := ((s.wr PWR_STAT_ENTRY 0).wrapInc PWR_COUNT_ENTRIES).startTimer
  if a = 1 then
    ((((s0.onPower (fun x => { x with asked := 0, drainBy := none, asleep := 1, change := none, wanted := none, pllHeld := false })).wr
      PWR_STAT_STATE 1).wr PWR_STAT_PLL_LOCK 0).wr PWR_STAT_CLK_SRC 0)
  else
    let keep := some (s.rd PWR_PERF_LEVEL, s.rdB PWR_PERF_SRC, s.rdB PWR_PERF_AUTO)
    let s1 := if a = 3 then s0.each ((List.range 18).filter (fun p => (s0.chord p).linked)) (fun p s => s.flushPort p 0x0C false) else s0
    let s2 := s1.handOffTime
    let s3 := s2.each ((List.range 18).filter s2.awake) (fun p s => s.wr (LANE_STAT_STATE p) LS_DORMANT)
    let s4 := s3.onPower (fun x => { x with asked := 0, drainBy := none, asleep := a, perf := keep, change := none, wanted := none, pllHeld := false })
    let s5 := if a = 3 then s4.clearCore else
      { ((s4.wr PWR_STAT_PLL_LOCK 0).wr PWR_STAT_CLK_SRC 0) with
        coreOn := false
        compass := { s4.compass with queues := Map.empty }
        hull := { s4.hull with ingress := [], adapters := [] }
        win := { s4.win with prefetch := [] } }
    ({ s5 with boot := { s5.boot with rails := false, started := a = 2 && s5.boot.started } }.emit (.coreRails false)).when
      (a = 3) (State.emit (.retention false))

/-! ## Waking (R514–R520) -/

/-- R520: the bytes of WAKE_SRC. -/
def State.wakeRecord (s : State) (srcs : List (Nat × Nat)) (during : Bool) : List Nat :=
  let t : Nat := if s.coreOn then s.datum.whole else (s.keeperTime.getD 0) / 2 ^ 48
  let lead := (List.range 10).flatMap (fun c => (List.range 18).filterMap (fun d => if srcs.contains (c, d) then some (c, d) else none))
  let prim := lead.headD (0, 0)
  let codes := (List.range 10).filter (fun c => srcs.any (fun x => x.1 = c))
  [prim.1, prim.2, s.power.asleep, b2n (1 < lead.length) + 2 * b2n during] ++ natBytesBE 6 (t / 1000000000) ++
    natBytesBE 4 (t % 1000000000) ++ natBytesBE 2 ((codes.map (fun c => 2 ^ (c - 1))).sum)

/-- R72, R74, R77, R78: the core die takes from the power die the cable classes that it has read, with CABLE_UNKNOWN for an unknown one read
while the core die was off, and the wake bursts that it held. (Assumption log 52, DEDUCED.) -/
def State.takeDie (s : State) : State :=
  let s1 := s.each (List.range 18) (fun p s => s.wr (LANE_STAT_CABLE p) (s.rd (TAN_PORT_STAT_CABLE p)))
  let s2 := s1.each s.pd.classes (fun p s => s.when (s.rd (TAN_PORT_STAT_CABLE p) = 7) (State.ev (lanePage p) [EV_LANE_CABLE_UNKNOWN]))
  let s3 := s2.each s.pd.bursts State.noteBurst
  { s3 with pd := { s3.pd with bursts := [], classes := [], gone := [] } }

/-- R516–R519: the hub wakes for the sources of one ambient cycle. (Assumption log 52, DEDUCED.) -/
def State.wake (srcs : List (Nat × Nat)) (during : Bool) (s : State) : State :=
  let a := s.power.asleep
  let rec_ := s.wakeRecord srcs during
  let s1 := s.onPower (fun x => { x with wakeSrc := rec_, timerAt := none, early := [] })
  if a = 1 then
    let s2 := ((s1.onPower (fun x => { x with asleep := 0, stopped := false })).wr PWR_STAT_STATE 0).toOsc
    let s3 := s2.each (List.range 18) (fun p s => if s.ls p = LS_DOZE then s.linkWake p else s)
    (s3.bump PWR_COUNT_WAKES).ev pwrPage [EV_PWR_WAKE]
  else if a = 2 then
    let s2 := { s1.emit (.coreRails true) with coreOn := true, boot := { s1.boot with rails := true } }
    let s3 := ((((s2.onPower (fun x => { x with asleep := 0, stopped := false })).toOsc).restoreTime).loadCache).powerEvents.takeKept.takeDie
    let s4 := s3.each (List.range 18) (fun p s0 =>
      if s0.ls p = LS_DORMANT then (if s.pd.gone.contains p then s0.enterDown p else s0.linkWake p) else s0)
    (s4.bump PWR_COUNT_WAKES).ev pwrPage [EV_PWR_WAKE]
  else if a = 3 then
    let s2 := (s1.emit (.coreRails true)).emit (.retention true)
    { s2 with
      power := { s2.power with asleep := 0 }
      boot := { s2.boot with rails := true, started := false, seen := [0xA], at_ := s.now, short := s.shortNow } }
  else s

/-- R510: while an entry is under way: drained, it completes, and a wake that came meanwhile follows (R515); a unit that has gained a
guaranteed tunnel aborts it. (Assumption log 52, DEDUCED.) -/
def State.sleepNano (s : State) : State :=
  if s.power.asked = 0 then s
  else
    let g := (List.range 34).filter (fun u => s.guaranteed.any (fun t => u ≤ 1 || ((s.tun t).e.path).any (fun p => unitOf p = u)))
    if g ≠ [] then s.abortEntry g
    else if (List.range 18).all s.portDrained then
      let early := s.power.early
      let s1 := s.enterSleep
      if early = [] then s1 else s1.wake early true
    else s

end Sys2Proof.Machine
end

