-- ==== Sys2Proof/Machine/Power.lean ====
section
/-!
DEFINITION. The commands of the sleep states, the performance levels and the energy governor (R507–R530).
-/
namespace Sys2Proof.Machine

/-! ## Sleep -/

/-- SLEEP_REQUEST (R509–R513, R530): a request in the ambient cycle of a wake source is ignored; every unit grants or refuses; then VC3–VC5 stop, and for S2 and S3 WAKE_REQ DORMANT goes to every ACTIVE
port. -/
def State.sleepRequest (req : Nat) (s : State) : State :=
  if !s.coreOn || req = 0 then s
  else if s.rdB PWR_STAT_ENTRY || s.power.asleep ≠ 0 || s.power.srcAt.any s.sameCycle then s.bump PWR_COUNT_IGNORED
  else
    let us := s.refusers
    if us ≠ [] then s.refuseSleep us false req
    else
      let s1 := (s.onPower (fun x => { x with asked := req, drainBy := some (s.now + 120000), stopped := true, early := [] })).wr PWR_STAT_ENTRY 1
      if req = 1 then s1
      else s1.each ((List.range 18).filter s1.active) (fun p s =>
        (s.requestPoint { type := 3, oh := false, origin := s.hubNo, arg := 2 * 2 ^ 17 } p).onChord p (fun c => { c with quiet := true }))

def execSleepRequest (req : BitVec 2) (s : State) : Outcome := coreDone s (s.sleepRequest req.toNat)

/-- SLEEP_DRAIN_TIMEOUT (R510, R512): a port that still holds flits at 120 µs aborts the entry. -/
def sleepDrainTimeout (s : State) : State :=
  let ps := (List.range 18).filter (fun p => !s.portDrained p)
  if s.coreOn && s.power.asked ≠ 0 && s.expired s.power.drainBy && ps ≠ [] then s.abortEntry (ps.map (· + 16)) else s

def execSleepDrainTimeout (s : State) : Outcome := coreDone s (sleepDrainTimeout s)

/-- R514, R595: a source is enabled: code 9 always, PCI Express and USB only with HOST_EN. -/
def State.sourceOn (s : State) (x : Nat × Nat) : Bool :=
  1 ≤ x.1 && x.1 ≤ 9 && (x.1 = 9 || bitOf (s.rd PWR_WAKE_EN_EN) (x.1 - 1)) &&
  !((x.1 = 5 || x.1 = 6) && !bitOf (s.rd CHIP_STRAP_STRAPS) 2)

/-- R514–R518: the sources that arrive in one ambient cycle: during entry they wait for its end; in sleep they wake the hub. (Assumption log 52, DEDUCED.) -/
def State.wakeSources (srcs : List (Nat × Nat)) (s : State) : State :=
  let l := srcs.filter s.sourceOn
  if l = [] then s
  else
    let s1 := s.onPower (fun x => { x with srcAt := some s.now })
    if s.power.asked ≠ 0 then s1.onPower (fun x => { x with early := x.early ++ l })
    else if s.power.asleep ≠ 0 then s1.wake l false
    else s1

/-- WAKE_SOURCE (R514–R518). (Assumption log 52, DEDUCED.) -/
def execWakeSource (srcs : List (Fin 10 × Fin 18)) (s : State) : Outcome :=
  dieDone s (s.wakeSources (srcs.map (fun x => (x.1.val, x.2.val))))

/-- WAKE_TIMER (R514): PWR_TIMER has expired since entry. -/
def wakeTimer (s : State) : State :=
  if s.power.asleep ≠ 0 && s.due s.power.timerAt then (s.onPower (fun x => { x with timerAt := none })).wakeSources [(7, 0)] else s

def execWakeTimer (s : State) : Outcome := dieDone s (wakeTimer s)

/-! ## Levels -/

/-- R522: the level that the latest request, the change in progress or the clock has set. -/
def State.levelSet (s : State) : Nat :=
  match s.power.wanted, s.power.change with
  | some (l, _), _ => l
  | none, some (l, _, _) => l
  | none, none => s.rd PWR_STAT_LEVEL

/-- R522, R525, R527: the level that PWR_PERF and the governor allow now; a thermal step under way is not taken back. (Assumption log 51, DEDUCED.) -/
def State.targetLevel (s : State) : Nat :=
  let top := s.rd PWR_PERF_LEVEL
  if s.power.crit then 3 else if s.rdB PWR_PERF_AUTO && s.rdB PWR_GOV_GOV_EN then max top s.levelSet else top

/-- R519, R522: LEVEL and SRC as they stand in PWR_PERF are asked for. (Assumption log 51, DEDUCED.) -/
def State.applyPerf (s : State) : State :=
  if s.rdB PWR_PERF_SRC then s.wantLevel s.targetLevel true
  else if s.power.change.isSome then s.onPower (fun x => { x with pllHeld := false, wanted := some (3, false) })
  else if s.rdB PWR_STAT_CLK_SRC then
    let was := s.rd PWR_STAT_LEVEL
    (s.toOsc).when (was ≠ 3) (State.ev pwrPage [EV_PWR_LEVEL_CHANGE])
  else s.onPower (fun x => { x with pllHeld := false, wanted := none })

/-- PERF_WRITE (R522, R525, R530). (Assumption log 51, DEDUCED.) -/
def State.perfWrite (v : Nat) (s : State) : State :=
  if !s.coreOn || s.power.asleep ≠ 0 then s
  else
    let s1 := ((s.wr PWR_PERF_LEVEL (bitsOf v 4 2)).wrB PWR_PERF_SRC (bitOf v 1))
    (if s.locked pwrPage then s1 else s1.wrB PWR_PERF_AUTO (bitOf v 0)).applyPerf

def execPerfWrite (v : Reg) (s : State) : Outcome := coreDone s (s.perfWrite v.toNat)

/-- PERF_LEVEL_SWITCH (R522). -/
def execPerfLevelSwitch (s : State) : Outcome := coreDone s (s.switchLevel)

/-- PLL_LOCK (R519, R522): a held selection switches; after a wake from S2 the value of PWR_PERF at the entry is written back. -/
def pllLock (s : State) : State :=
  if s.coreOn && s.power.asleep = 0 then
    let s1 := s.wr PWR_STAT_PLL_LOCK 1
    match s1.power.perf with
    | some (l, src, auto) =>
      ((((s1.onPower (fun x => { x with perf := none })).wr PWR_PERF_LEVEL l).wrB PWR_PERF_SRC src).wrB PWR_PERF_AUTO auto).applyPerf
    | none =>
      match s1.power.wanted with
      | some (l, p) => if s1.power.pllHeld then s1.wantLevel l p else s1
      | none => s1
  else s

def execPllLock (s : State) : Outcome := coreDone s (pllLock s)

/-- PLL_LOSS (R529): the clock falls back to the oscillator at P3. (Assumption log 51, DEDUCED.) -/
def pllLoss (s : State) : State :=
  if s.coreOn && s.rdB PWR_STAT_PLL_LOCK then
    let s1 := s.wr PWR_STAT_PLL_LOCK 0
    (if s1.rdB PWR_STAT_CLK_SRC then s1.toOsc else s1).ev pwrPage [EV_PWR_PLL_LOSS]
  else s

def execPllLoss (s : State) : Outcome := coreDone s (pllLoss s)

/-! ## The energy governor -/

/-- R530: limits of PWR_BUDGET and EPW. -/
def State.pwrBudget (s : State) : Nat := min 50 (max 5 (s.rd PWR_BUDGET_W))
def State.epw (s : State) : Nat := min 10000 (max 50 (s.rd PWR_GOV_EPW))

/-- R524: Pb in µW from P in 10 mW units and U. -/
def State.bestEffortless (s : State) (p u : Nat) : Int := (p * 10000 : Nat) - (u * s.epw : Nat)

/-- R524: E. -/
def State.energy (s : State) (p u : Nat) (t : Int) : Nat :=
  let warn : Int := (s.rd PWR_THERM_WARN : Nat)
  let hot : Int := (s.rd PWR_THERM_HOT : Nat)
  let e0 := ((s.pwrBudget * 1000000 : Nat) - s.bestEffortless p u) / (s.epw : Int)
  let e := if hot ≤ t then 0 else if warn < t then e0 * (hot - t) / (hot - warn) else e0
  (min 0xFFFE (max 0 e)).toNat

/-- R525: the governor's step of the level at a period end. (Assumption log 51, DEDUCED.) -/
def State.governLevel (pb : Int) (t : Int) (s : State) : State :=
  let now := s.rd PWR_STAT_LEVEL
  let top := s.rd PWR_PERF_LEVEL
  let hot : Int := (s.rd PWR_THERM_HOT : Nat)
  let crit : Int := (s.rd PWR_THERM_CRIT : Nat)
  let b : Int := (s.pwrBudget * 1000000 : Nat)
  if !s.rdB PWR_STAT_CLK_SRC then s
  else if crit ≤ t then (s.onPower (fun x => { x with crit := true, cool := 0 })).wantLevel 3 true
  else if s.rdB PWR_PERF_AUTO && s.rdB PWR_GOV_GOV_EN then
    let s0 := s.onPower (fun x => { x with crit := false })
    if hot ≤ t || b < pb then (s0.onPower (fun x => { x with cool := 0 })).wantLevel (max top (min 3 (now + 1))) true
    else if t ≤ hot - 5 && pb ≤ b - 2000000 && top < now then
      if 15 ≤ s.power.cool then (s0.onPower (fun x => { x with cool := 0 })).wantLevel (now - 1) true
      else s0.onPower (fun x => { x with cool := x.cool + 1 })
    else s0.onPower (fun x => { x with cool := 0 })
  else if s.power.crit then (if t ≤ crit - 5 then (s.onPower (fun x => { x with crit := false })).wantLevel top true else s)
  else if now ≠ top then s.wantLevel top true
  else s

/-- GOVERNOR_PERIOD (R523–R527): P in 10 mW units and T in °C are read, U is taken from the tokens spent; the level is set and E is
published. (Assumption log 51, DEDUCED.) -/
def governorPeriod (p : Nat) (t : Int) (s : State) : State :=
  let len := ms (max 1 (s.rd PWR_GOV_PERIOD))
  if s.coreOn && s.power.asleep = 0 && s.power.periodAt + len ≤ s.now then
    let u := min 65535 (s.power.spent * 1000 / (4 * (s.now - s.power.periodAt)))
    let pb := s.bestEffortless p u
    let at3 : Bool := s.rd PWR_STAT_LEVEL = 3
    let low : Bool := at3 && ((s.pwrBudget * 1000000 : Nat) : Int) < pb
    let e := if !s.rdB PWR_GOV_GOV_EN then 0xFFFF else if low then 0 else s.energy p u t
    let s1 := (s.onPower (fun x => { x with spent := 0, periodAt := s.now })).lifeMax t
    let s2 := (((s1.wr PWR_MEAS_P p).wr PWR_MEAS_U u).wr PWR_STAT_TEMP (unsignedOf 8 t)).governLevel pb t
    let bits := (if (s.rd PWR_THERM_WARN : Int) < t then [EV_PWR_THERM_WARN] else []) ++
      (if (s.rd PWR_THERM_HOT : Int) ≤ t then [EV_PWR_THERM_HOT] else []) ++
      (if (s.rd PWR_THERM_CRIT : Int) ≤ t then [EV_PWR_THERM_CRIT] else []) ++
      (if low && s.rdB PWR_GOV_GOV_EN then [EV_PWR_BUDGET_LOW] else [])
    let s3 := if bits = [] then s2 else s2.ev pwrPage bits
    (s3.wr CMP_STAT_ETOK_RATE e).when (e = 0) (State.ev 0x0A0 [EV_CMP_ETOK_ZERO])
  else s

def execGovernorPeriod (p : BitVec 16) (t : BitVec 8) (s : State) : Outcome := coreDone s (governorPeriod p.toNat t.toInt s)

/-- THERM_CRIT (R527): at CRIT the level goes to P3 at once, with AUTO 0 or 1. -/
def thermCrit (t : Int) (s : State) : State :=
  if s.coreOn && (s.rd PWR_THERM_CRIT : Int) ≤ t then
    let s1 := (s.onPower (fun x => { x with crit := true, cool := 0 })).lifeMax t
    (if s1.rdB PWR_STAT_CLK_SRC then s1.wantLevel 3 true else s1).ev pwrPage [EV_PWR_THERM_CRIT]
  else s

def execThermCrit (t : BitVec 8) (s : State) : Outcome := coreDone s (thermCrit t.toInt s)

/-- THERMAL_SHUTDOWN (R527, R531): the power die removes the core-die rails. -/
def thermalShutdown (s : State) : State :=
  if s.boot.rails then
    let s1 := ((s.assertReset 7).emit (.coreRails false)).emit (.retention false)
    { s1 with boot := { s1.boot with rails := false, hot := true } }
  else s

def execThermalShutdown (s : State) : Outcome := dieDone s (thermalShutdown s)

/-- PWR_THERM_WRITE (R527): WARN < HOT < CRIT ≤ 110 °C, or THERM_REJECT. -/
def State.thermWrite (v : Nat) (s : State) : State :=
  let w := bitsOf v 16 8
  let h := bitsOf v 8 8
  let c := bitsOf v 0 8
  if !s.coreOn || s.locked pwrPage then s
  else if w < h && h < c && c ≤ 110 then ((s.wr PWR_THERM_WARN w).wr PWR_THERM_HOT h).wr PWR_THERM_CRIT c
  else s.ev pwrPage [EV_PWR_THERM_REJECT]

def execPwrThermWrite (v : Reg) (s : State) : Outcome := coreDone s (s.thermWrite v.toNat)

end Sys2Proof.Machine
end

