-- ==== Sys2Proof/Machine/Record.lean ====
section
/-!
DEFINITION. The commands of the lifetime log and of the diagnostics (R568–R576).
-/
namespace Sys2Proof.Machine

/-! ## The lifetime log -/

/-- R568: the bin of a temperature. -/
def tempBin (t : Int) : Nat := ([0, 25, 50, 70, 85, 95, 100, 105, 110].filter (fun b => b ≤ t)).length

/-- LOG_MINUTE (R568): the counters of time, level, state and temperature; `t` is the mean of T over the minute in °C. (Assumption log 54, DEDUCED.) -/
def logMinute (t : Int) (s : State) : State :=
  if s.log.minuteAt ≤ s.now then
    let s1 := (s.onLog (fun l => { l with minuteAt := l.minuteAt + 60000000000 })).life 0x000
    let s2 := if s.coreOn then ((s1.life 0x001).life (0x002 + s.rd PWR_STAT_LEVEL)).life (0x010 + tempBin t) else s1
    if 1 ≤ s.power.asleep && s.power.asleep ≤ 3 then s2.life (0x005 + s.power.asleep) else s2
  else s

def execLogMinute (t : Int) (s : State) : Outcome := dieDone s (logMinute t s)

/-- LOG_INTERVAL_COMMIT (R570, R577). -/
def logInterval (s : State) : State :=
  if s.coreOn && s.log.nextAt ≤ s.now then
    (s.onLog (fun l => { l with nextAt := s.now + max 1 (s.rd LOG_CTL_INTERVAL) * 60000000000 })).startCommit false
  else s

def execLogIntervalCommit (s : State) : Outcome := coreDone s (logInterval s)

/-- COMMIT (R571, R577): a commit by command, or DEFERRED within 1 s of the previous COMMIT command. -/
def logCommit (s : State) : State :=
  if s.coreOn && !s.rdB LOG_CMD_BUSY then
    if s.log.cmdAt.any (fun t => s.now < t + 1000000000) then s.wr LOG_CMD_STATUS 3
    else (((s.onLog (fun l => { l with cmdAt := some s.now })).wr LOG_CMD_BUSY 1).wr LOG_CMD_STATUS 0).startCommit true
  else s

def execCommit (s : State) : Outcome := coreDone s (logCommit s)

/-- R570, R572: the commit in progress has ended: its command completes, the ring takes what waited, and a commit that is due starts. (Assumption log 47, DEDUCED.) -/
def State.endCommit (s : State) : State :=
  let l := s.log
  let s1 := (s.onLog (fun l => { l with writing := none, byCmd := false, again := false, againCmd := false })).wr LOG_STAT_COMMITTING 0
  let s2 := (if l.byCmd then s1.wr LOG_CMD_BUSY 0 else s1).ringHeld
  if l.again then s2.startCommit l.againCmd else s2

/-- LOG_COMMIT_DONE (R569, R570): the words verify and COMMIT is written, or the verification fails: one retry, then COMMIT_FAIL. (Assumption log 47, DEDUCED.) -/
def logCommitDone (ok : Bool) (s : State) : State :=
  match s.log.writing with
  | none => s
  | some counts =>
    if !s.coreOn then s
    else if ok then
      let g := ((s.log.bank s.log.last1).gen + 1) % 2 ^ 32
      let s1 := s.onLog (fun l => { l.setBank (!l.last1) { gen := g, counts := counts, commit := g } with last1 := !l.last1 })
      (((s1.wr LOG_GEN_GEN g).wrB LOG_STAT_BANK s1.log.last1).ev logPage [EV_LOG_COMMITTED]).endCommit
    else if s.log.retried then (s.ev logPage [EV_LOG_COMMIT_FAIL]).endCommit
    else s.onLog (fun l => { l with retried := true })

def execLogCommitDone (ok : Bool) (s : State) : Outcome := coreDone s (logCommitDone ok s)

/-- RING_CLEAR (R573): only from the maintenance port, in SERVICE, with KEY 0xC3. -/
def ringClear (maint : Bool) (key : Nat) (s : State) : State :=
  if s.coreOn && !s.rdB LOG_CMD_BUSY then
    if maint && s.rd KEY_STAT_LC = 3 && key = 0xC3 then
      let s1 := ((s.onLog (fun l => { l with ring := [] })).wr LOG_CMD_STATUS 0).ev logPage [EV_LOG_RING_CLEARED]
      s1.ring logPage 6 s.boot.sessions 0 0
    else s.wr LOG_CMD_STATUS 1
  else s

def execRingClear (maint : Bool) (key : BitVec 8) (s : State) : Outcome := coreDone s (ringClear maint key.toNat s)

/-! ## Self-test -/

/-- MBIST_SPILL (R576): the spill pool must be empty; meanwhile every spill quota is 0. -/
def mbistSpill (s : State) : State :=
  if s.coreOn && !s.rdB DIAG_CMD_BUSY then
    if (List.range 18).any (fun p => s.rd (CHD_SPILL_USED p) ≠ 0) then s.wr DIAG_CMD_STATUS 1
    else let s1 := (s.wr DIAG_CMD_BUSY 1).wr DIAG_CMD_STATUS 0; { s1 with diag := { s1.diag with test := 1 } }
  else s

def execMbistSpill (s : State) : Outcome := coreDone s (mbistSpill s)

/-- MRAM_SCAN (R576). -/
def mramScan (s : State) : State :=
  if s.coreOn && !s.rdB DIAG_CMD_BUSY then
    let s1 := (s.wr DIAG_CMD_BUSY 1).wr DIAG_CMD_STATUS 0; { s1 with diag := { s1.diag with test := 2 } }
  else s

def execMramScan (s : State) : Outcome := coreDone s (mramScan s)

/-- MRAM words are read with corrections or without remedy (R566, R568). -/
def State.mramRead (corr uncorr : Nat) (s : State) : State :=
  let s1 := s.when (corr ≠ 0) (State.ev 0x001 [EV_EVT_MRAM_CORR])
  (s1.when (uncorr ≠ 0) (State.ev 0x001 [EV_EVT_MRAM_UNCORR])).each (List.range uncorr) (fun _ => State.life 0x044)

/-- DIAG_TEST_DONE (R576, R578): failing blocks or corrected words, the first of them, and for MRAM_SCAN the uncorrectable words read. -/
def diagTestDone (errors addr uncorr : Nat) (s : State) : State :=
  if s.coreOn && s.diag.test ≠ 0 then
    let s1 := if s.diag.test = 2 then s.mramRead errors uncorr else s
    let s2 := ((s1.wr DIAG_RESULT_ERRORS (min errors 0xFFFF)).wr DIAG_RESULT_ADDR (if errors = 0 then 0 else addr)).wr DIAG_CMD_BUSY 0
    let s3 := (s2.wr DIAG_CMD_STATUS (if errors = 0 then 0 else 2)).ev diagPage ([EV_DIAG_DONE] ++ (if errors = 0 then [] else [EV_DIAG_FAIL]))
    { s3 with diag := { s3.diag with test := 0 } }
  else s

def execDiagTestDone (errors : BitVec 19) (addr : BitVec 16) (uncorr : BitVec 4) (s : State) : Outcome :=
  coreDone s (diagTestDone errors.toNat addr.toNat uncorr.toNat s)

/-! ## Pattern checking -/

/-- PAT_CHECK (R575, R578): CHECK of the port that DIAG_PSEL selects; a checker that starts has to synchronise. -/
def patCheck (v : Bool) (s : State) : State :=
  let p := s.rd DIAG_PSEL_PORT
  if s.coreOn && p < 18 then
    s.onPat p (fun c => if v && !c.on then { c with on := true, syncA := false, syncB := false, runA := 0, runB := 0 } else { c with on := v })
  else s

def execPatCheck (v : Bool) (s : State) : Outcome := coreDone s (patCheck v s)

/-- PAT_CLEAR (R578): the pattern counts of the selected port. -/
def patClear (s : State) : State :=
  let p := s.rd DIAG_PSEL_PORT
  if s.coreOn && p < 18 then s.onPat p (fun c => { c with errA := 0, errB := 0, groupsA := 0, groupsB := 0 }) else s

def execPatClear (s : State) : Outcome := coreDone s (patClear s)

/-- PAT_SYNC_LOSS (R575): a lane that has counted 1000 errors within 1 µs loses synchronisation and raises PAT_ERR. -/
def patSyncLoss (p : Nat) (laneB : Bool) (s : State) : State :=
  let c := s.diag.pats.get p
  if s.coreOn && c.on && (c.lane laneB).sync && 1000 ≤ c.burst laneB s.now then
    (s.onPat p (fun c => if laneB then { c with syncB := false, runB := 0, recentB := [] } else { c with syncA := false, runA := 0, recentA := [] })).ev
      diagPage [EV_DIAG_PAT_ERR]
  else s

def execPatSyncLoss (p : Fin 18) (laneB : Bool) (s : State) : Outcome := coreDone s (patSyncLoss p laneB s)

end Sys2Proof.Machine
end

