-- ==== Sys2Proof/Machine/Reset.lean ====
section
/-!
DEFINITION. The commands of the resets, of the watchdogs and of writing the stored configuration (R531–R548, R599).
-/
namespace Sys2Proof.Machine

/-! ## Sources of the full reset -/

/-- POWER_ON_RESET (R531, R534, R536): the power die starts, latches the straps and draws RCNT. (Assumption log 7, DESIGN CHOICE.) (Assumption log 53, DEDUCED.) -/
def powerOnReset (straps : Nat) (s : State) : State :=
  if s.boot.dieOn then s
  else
    let s1 := ((s.wr CHIP_STRAP_STRAPS straps).wr RST_STAT_RCNT (s.freeValue % 16)).wr RST_CAUSE_RCNT (s.freeValue % 16)
    { s1.drawn with boot := { rails := false, seen := [1], at_ := s.now, rcnt := s.freeValue % 16 } }

def execPowerOnReset (straps : BitVec 6) (s : State) : Outcome := done (powerOnReset straps.toNat s)

/-- R478: main power from the cable suffices to start the core die. (Assumption log 46, DEDUCED.) -/
def State.cableStart (s : State) : Bool :=
  bitOf (s.rd CHIP_STRAP_STRAPS) 0 && s.rdB TAN_STAT_DB_ACTIVE &&
  (let p := s.rd TAN_STAT_DB_PORT
   s.rdB (TAN_PORT_STAT_MAIN_ON p) && !s.mainSrc p && 2 * s.rd TAN_DB_MIN_W ≤ s.rd (TAN_CONTRACT_P_C p))

/-- CORE_RAIL_START (R478, R536, R594): once a feed holds PG, or with power from the cable, the core rails are started. -/
def coreRailStart (s : State) : State :=
  if s.held && !s.boot.rails && !s.testStrap && (s.feedPg || s.cableStart) then
    { (s.emit (.coreRails true)).emit (.retention true) with boot := { s.boot with rails := true, cable := !s.feedPg } }
  else s

def execCoreRailStart (s : State) : Outcome := dieDone s (coreRailStart s)

/-- RESET_N_ASSERT (R531). -/
def execResetNAssert (s : State) : Outcome := done (s.assertReset 2)

/-- PERST_ASSERT (R531, R595): ignored without HOST_EN. -/
def perstAssert (s : State) : State := if bitOf (s.rd CHIP_STRAP_STRAPS) 2 then s.assertReset 3 else s

def execPerstAssert (s : State) : Outcome := done (perstAssert s)

/-- RST_CMD (R531, R547). -/
def State.resetCommand (v : Nat) (s : State) : State :=
  if s.coreOn && bitsOf v 8 8 = 0x5A && bitOf v 0 then s.assertReset 4 else s

def execRstCmd (v : Reg) (s : State) : Outcome := done (s.resetCommand v.toNat)

/-- SEQUENCER_WATCHDOG (R531, R535). -/
def execSequencerWatchdog (s : State) : Outcome := coreDone s (s.assertReset 5)

/-- CORE_VOLTAGE_MONITOR (R531, R566, R599): a rail below 90 %, or CORE_PG low, for 2 µs asserts the reset; a rail outside ±5 % raises
VMON_CORE only. (Assumption log 53, DEDUCED.) -/
def coreVoltage (mild : Bool) (s : State) : State :=
  if !s.coreOn then s else if mild then s.ev 0x001 [EV_EVT_VMON_CORE] else s.assertReset 8

def execCoreVoltageMonitor (mild : Bool) (s : State) : Outcome := done (coreVoltage mild s)

/-- CLOCK_MONITOR (R531, R566): the reference is missing for 1 µs or off by more than 1000 ppm; edges missing for less raise CLK_GLITCH
only. (Assumption log 53, DEDUCED.) -/
def clockMonitor (glitch : Bool) (s : State) : State :=
  if glitch then (if s.coreOn then s.ev 0x001 [EV_EVT_CLK_GLITCH] else s) else s.assertReset 9

def execClockMonitor (glitch : Bool) (s : State) : Outcome := done (clockMonitor glitch s)

/-- TREE_RESET_HOLD_EXPIRY (R223). -/
def treeResetHold (s : State) : State := if s.coreOn && s.due s.gop.resetAt then s.assertReset 6 else s

def execTreeResetHoldExpiry (s : State) : Outcome := coreDone s (treeResetHold s)

/-- POWER_LOSS (R421, R531, R546, R570): every supply is gone: what MRAM holds remains, and an unfinished image or commit is not valid. (Assumption log 53, DEDUCED.) -/
def powerLoss (s : State) : State :=
  let c := s.clearCore
  { State.reset with
    now := s.now, pending := s.pending, out := s.out, free := s.free, coreOn := false
    keys := c.keys
    stored := c.stored
    log := { bank0 := s.log.bank0, bank1 := s.log.bank1, ring := s.log.ring }
    boot := { dieOn := false, rails := false } }

def execPowerLoss (s : State) : Outcome := done (powerLoss s)

/-! ## After the release -/

/-- RESTORE_LATE_TIMER (R538): a TUNNEL record has not reached OPEN at 15 ms. -/
def restoreLate (s : State) : State :=
  match s.boot.released with
  | some t =>
    if s.coreOn && s.boot.started && s.rdB RST_STAT_RESTORING && !s.boot.late && t + ms 15 < s.now then
      ({ s with boot := { s.boot with late := true } }).ev rstPage [EV_RST_RESTORE_LATE]
    else s
  | none => s

def execRestoreLateTimer (s : State) : Outcome := coreDone s (restoreLate s)

/-- HOST_WATCHDOG (R535): WDOG_HOST, and the watchdog rearms. -/
def hostWatchdog (s : State) : State :=
  if s.coreOn && s.rd RST_WDOG_HOST_PERIOD ≠ 0 && s.expired s.boot.hostBy then
    ({ s with boot := { s.boot with hostBy := some (s.now + ms (s.rd RST_WDOG_HOST_PERIOD)) } }).ev rstPage [EV_RST_WDOG_HOST]
  else s

def execHostWatchdog (s : State) : Outcome := coreDone s (hostWatchdog s)

/-- WATCHDOG_FEED (R535, R547): a write of RST_WDOG: HOST_PERIOD, and FEED restarts the watchdog, as does a new period. (Assumption log 53, DEDUCED.) -/
def State.feedWatchdog (v : Nat) (s : State) : State :=
  if !s.coreOn then s
  else
    let old := s.rd RST_WDOG_HOST_PERIOD
    let s1 := if s.locked rstPage then s else s.wr RST_WDOG_HOST_PERIOD (bitsOf v 0 16)
    let new := s1.rd RST_WDOG_HOST_PERIOD
    if new = 0 then { s1 with boot := { s1.boot with hostBy := none } }
    else if bitOf v 31 || new ≠ old then { s1 with boot := { s1.boot with hostBy := some (s.now + ms new) } }
    else s1

def execWatchdogFeed (v : Reg) (s : State) : Outcome := coreDone s (s.feedWatchdog v.toNat)

/-! ## Writing an image (R546) -/

/-- A BEGIN or COMMIT is refused with DEFERRED. -/
def State.deferCfg (s : State) : State := (s.wr CFG_STAT_STATUS 3).ev cfgPage [EV_CFG_ABORTED]

/-- CFG_BEGIN (R546, R548). (Assumption log 53, DEDUCED.) -/
def State.cfgBegin (s : State) : State :=
  if !s.coreOn then s
  else if s.rdB FEED_STAT_WARN || s.locked cfgPage || s.rdB CFG_STAT_BUSY then s.deferCfg
  else
    let c0 := s.stored.copy0
    let c1 := s.stored.copy1
    let t : Bool := if !c1.ok then true else if !c0.ok then false else c1.w 2 ≤ c0.w 2
    let c := s.stored.copy t
    let s1 := s.onStored (fun x => { x.setCopy t { c with hdr := c.hdr.set 15 0 } with target := some t, committing := none })
    (((s1.wr CFG_WADDR_ADDR 0).wr CFG_STAT_BUSY 1).wr CFG_STAT_STATUS 0).noteValid

def execCfgBegin (s : State) : Outcome := done s.cfgBegin

/-- CFG_WDATA (R546, R548): ignored unless BUSY is 1; beyond 16 368 words it aborts the sequence. -/
def State.cfgData (v : Nat) (s : State) : State :=
  match s.stored.target with
  | some t =>
    if !s.coreOn || !s.rdB CFG_STAT_BUSY || s.stored.committing.isSome then s
    else
      let a := s.rd CFG_WADDR_ADDR
      if 16368 ≤ a then s.abortCfg 2
      else
        let c := s.stored.copy t
        (s.onStored (fun x => x.setCopy t { c with body := c.body.set a v })).wr CFG_WADDR_ADDR (a + 1)
  | none => s

def execCfgWdata (v : Reg) (s : State) : Outcome := coreDone s (s.cfgData v.toNat)

/-- R542, R546: the header of an image, COMMIT still 0. (Assumption log 53, DEDUCED.) -/
def State.newHeader (s : State) (c other : CfgCopy) : List Nat :=
  let w1 := s.rd CFG_HDR1_FORMAT * 2 ^ 24 + s.rd CFG_HDR1_LEN
  let gen := if other.ok then (other.w 2 + 1) % 2 ^ 32 else 1
  let h := [0x4B4E4346, w1, gen, s.rd CFG_HDR3_TREE_TAG * 2 ^ 6] ++ c.digest (s.rd CFG_HDR1_LEN)
  h ++ cfgTag h ++ [0, 0]

/-- CFG_COMMIT (R546, R548): the header is written and read back (`ok`: it verifies); COMMIT = GEN follows within 20 ms. (Assumption log 53, DEDUCED.) -/
def State.cfgCommit (ok : Bool) (s : State) : State :=
  if !s.coreOn then s
  else if s.rdB FEED_STAT_WARN || s.locked cfgPage || s.stored.committing.isSome then s.deferCfg
  else match s.stored.target with
  | none => s.wr CFG_STAT_STATUS 1
  | some t =>
    let len := s.rd CFG_HDR1_LEN
    if s.rd CFG_HDR1_FORMAT ≠ 3 || len = 0 || 16368 < len || s.rd CFG_WADDR_ADDR < len then s.abortCfg 2
    else if !ok then s.abortCfg 4
    else
      let c := s.stored.copy t
      let h := s.newHeader c (s.stored.copy (!t))
      let d := s.freeValue % 20000001
      s.drawn.onStored (fun x => { x.setCopy t { c with hdr := h } with committing := some (s.now + d) })

def execCfgCommit (ok : Bool) (s : State) : Outcome := coreDone s (s.cfgCommit ok)

end Sys2Proof.Machine
end

