-- ==== Sys2Proof/Machine/Hull.lean ====
section
/-!
DEFINITION. The meanings of the commands of the Hull and of reassembly (R144–R153, R172–R174, R442, R615).
-/
namespace Sys2Proof.Machine

/-! ## Crossing (R149, R615) -/

/-- R163: the tunnel's state lets no flit pass, so a flit still in an ingress buffer is discarded. -/
def TunState.dead : TunState → Bool
  | .free | .reserved | .opening | .failed => true
  | _ => false

/-- R176, R178: the side of an entry that pairs with ALT_PORT. -/
def State.pairSide (s : State) (e : Entry) : Nat := if s.altOnIn e then e.inPort else e.dests.headD 25

/-- A flit may not cross yet: HELD towards an external port, REKEY, a stopped old side, or a new ingress whose old one still
holds flits of the tunnel (R163, R178). -/
def State.stalled (s : State) (f : HFlit) (egress : Nat) : Bool :=
  let x := s.tun f.tunnel
  let e := x.e
  let side := s.pairSide e
  (2 ≤ f.vc && ((e.state = .held && egress < 18) || e.state = .rekey || (x.stopAt.isSome && egress = side))) ||
  (e.mig = 2 && f.inPort = side && s.hull.ingress.any (fun g => g.tunnel = f.tunnel && g.inPort = e.altPort)) ||
  (e.mig = 1 && f.inPort = e.altPort && s.hull.ingress.any (fun g => g.tunnel = f.tunnel && g.inPort = side))

/-- R615, R149: a flit at a position of the ingress list is ready for an egress port: no earlier flit of its tunnel and ingress waits
for that port, and on an external port its credits are there. -/
def State.crossReady (s : State) (egress i : Nat) (f : HFlit) : Bool :=
  s.power.asleep = 0 &&
  f.todo.contains egress &&
  !((s.hull.ingress.take i).any (fun g => g.tunnel = f.tunnel && g.inPort = f.inPort && g.todo.contains egress)) &&
  ((s.tun f.tunnel).e.state.dead ||
    (!s.stalled f egress &&
      (18 ≤ egress || (f.vc = 1 && s.vc1Blocked egress) || bitOf (s.tun f.tunnel).pruned egress || s.creditsFor egress f)))

/-- R149: the flit that the egress port is granted: VC1 by R15, then VC2–VC5 by rotating priority.  Of several ready flits of one ingress port the
one that entered the Hull first is granted, of whatever VC (assumption log 13, DESIGN CHOICE: R149 orders the ingress ports only). -/
def State.grant (s : State) (egress : Nat) : Option (Nat × HFlit) :=
  let ready := (s.hull.ingress.zipIdx.map (fun x => (x.2, x.1))).filter (fun x => s.crossReady egress x.1 x.2)
  match leastBy (fun x => unitOf x.2.inPort) (ready.filter (fun x => x.2.vc = 1)) with
  | some x => some x
  | none => leastBy (fun x => (x.2.inPort + 24 - s.hull.rotor.get egress) % 25) ready

/-- The branch at a position of the ingress list has been served, or the whole flit is discarded. -/
def State.branchDone (i egress : Nat) (whole : Bool) (s : State) : State :=
  let l := s.hull.ingress.zipIdx.map (fun x =>
    if x.2 = i then { x.1 with todo := if whole then [] else x.1.todo.filter (· ≠ egress) } else x.1)
  ({ s with hull := { s.hull with ingress := l } }).settleIngress

/-- FLIT_HULL_CROSS (R615, R147): the granted flit crosses to an egress queue or an internal port; `ecc`: the errors found in its ingress or
replication buffer. -/
def flitHullCross (egress : Nat) (ecc : EccErrors) (s : State) : State :=
  match s.grant egress with
  | none => s
  | some (i, f) =>
    let s0 := s.noteEcc ecc f
    let s1 := if f.vc = 1 then s0 else { s0 with hull := { s0.hull with rotor := s0.hull.rotor.set egress f.inPort } }
    match s.afterEcc ecc f with
    | none => s1.branchDone i egress true
    | some g =>
      if (s.tun f.tunnel).e.state.dead then s1.branchDone i egress false
      else if f.vc = 1 && s.vc1Blocked egress then (s1.bump (CHD_DROP_VC1 egress)).branchDone i egress false
      else if bitOf (s.tun f.tunnel).pruned egress then (s1.prunedCopies 1).branchDone i egress false
      else if 18 ≤ egress then
        let s2 := s1.branchDone i egress false
        if g.stomp then s2 else { s2 with hull := { s2.hull with adapters := s2.hull.adapters ++ [(egress, g)] } }
      else (s1.branchDone i egress false).enqueue egress (s.tun f.tunnel).e.queue { g with todo := [] }

def execFlitHullCross (egress : Fin 25) (ecc : List (Fin 31 × Bool)) (s : State) : Outcome := unitDone s (flitHullCross egress ecc s)

/-! ## Reassembly (R172–R174, R442) -/

/-- R174: an aborted message; `skip`: flits up to the next last-of-message are discarded. -/
def State.abortMsg (t : Nat) (skip : Bool) (s : State) : State :=
  let s1 := s.onTun t (fun x => { x with
    e := { x.e with msgLost := satAdd 16 x.e.msgLost 1 }, rx := { discarding := skip } })
  (s1.bump TUN_REASM_ABORT).ev 0x080 [EV_TUN_REASM_ABORT]

/-- R442: MSN wraps since OPEN of a message received, counted with the first message as 1. -/
def Tun.wrapsAt (x : Tun) (msn : Nat) : Nat := x.wrapIn + (if msn < x.e.msnIn then 1 else 0)

/-- A message is complete: R442 checks its tag, R174 sets MSN_IN, and it goes to the block behind the port. -/
def State.completeMsg (port t : Nat) (s : State) : State :=
  let x := s.tun t
  let e := x.e
  let r := x.rx
  let wraps := x.wrapsAt r.msn
  let hdr := pack [(16, 24, r.msn), (0, 16, r.len)]
  let content := if e.keyed then r.words.dropLast else r.words
  match (if e.keyed then s.useRefusal e.keySlot 4 masterAdapters else none) with
  | some c => (((s.deny e.keySlot c).revokeTun t).abortMsg t false)
  | none =>
    if e.keyed && r.words.getLastD 0 ≠ s.tunTag t e.keySlot e.gen (port = e.inPort) (wraps - 1) r.msn (hdr :: content) then
      ((s.abortMsg t false).bump KEY_TUN_TAG_FAIL).ev 0x110 [EV_KEY_TUN_TAG_FAIL]
    else
      (s.onTun t (fun x => { x with e := { x.e with msnIn := r.msn }, wrapIn := wraps, rx := {} })).emit (.delivered t content)

/-- R174: payload words join the open message of a tunnel. -/
def State.extendMsg (port t : Nat) (words : List Word) (short last : Bool) (s : State) : State :=
  let s1 := s.onTun t (fun x => { x with rx := { x.rx with words := x.rx.words ++ words } })
  if !last then (if short then s1.abortMsg t true else s1)
  else if (s1.tun t).rx.words.length ≠ (s1.tun t).rx.len then s1.abortMsg t false
  else s1.completeMsg port t

/-- MESSAGE_HEADER_RX (R173): a header is new, after a gap, or a duplicate.  The reserved LEN 0, which no message has, aborts it (assumption log
33, DESIGN CHOICE: R172 reserves the value and R174 does not name it). -/
def State.openMsg (port t : Nat) (payload : List Word) (last : Bool) (s : State) : State :=
  let e := (s.tun t).e
  let h := payload.headD 0
  let msn := fld h 16 24
  let len := fld h 0 16
  let d := modSub 24 msn ((e.msnIn + 1) % 2 ^ 24)
  if 8388608 ≤ d then (s.bump TUN_REASM_DUP).onTun t (fun x => { x with rx := { duplicate := !last } })
  else
    let s1 := s.onTun t (fun x => { x with e := { x.e with msgLost := satAdd 16 x.e.msgLost d } })
    if len = 0 || (if e.maxMsg = 0 then 65535 else e.maxMsg) < len then s1.abortMsg t (!last)
    else
      let s2 := s1.onTun t (fun x => { x with rx := { isOpen := true, msn := msn, len := len, startAt := s.now } })
      s2.extendMsg port t (payload.drop 1) (payload.length < 30) last

/-- R174: a flit of a VC2–VC5 tunnel reaches the reassembling adapter at a port. -/
def State.reassemble (port : Nat) (f : HFlit) (s : State) : State :=
  let t := f.tunnel
  let r := (s.tun t).rx
  if r.discarding then (if f.last then s.onTun t (fun x => { x with rx := {} }) else s)
  else if r.duplicate then (if f.last then s.onTun t (fun x => { x with rx := {} }) else s)
  else if f.poison then s.abortMsg t (!f.last)
  else if r.isOpen then s.extendMsg port t f.payload (f.payload.length < 30) f.last
  else s.openMsg port t f.payload f.last

/-- The oldest flit delivered to an internal Hull port, and the list without it. -/
def takePort (port : Nat) : List (Nat × HFlit) → Option (HFlit × List (Nat × HFlit))
  | [] => none
  | x :: l => if x.1 = port then some (x.2, l) else (takePort port l).map (fun r => (r.1, x :: r.2))

/-- ADAPTER_FLIT_RX (R174): the oldest flit delivered to an internal port. -/
def adapterFlitRx (port : Nat) (s : State) : State :=
  match takePort port s.hull.adapters with
  | none => s
  | some (f, rest) =>
    if 2 ≤ f.vc then ({ s with hull := { s.hull with adapters := rest } }).reassemble port f else s

def execAdapterFlitRx (port : Fin 25) (s : State) : Outcome := unitDone s (adapterFlitRx port s)

/-- REASM_TIMEOUT (R174): the open message is not complete 1 ms after its first flit. -/
def reasmTimeout (t : Nat) (s : State) : State :=
  let r := (s.tun t).rx
  if r.isOpen && r.startAt + ms 1 < s.now then s.abortMsg t true else s

def execReasmTimeout (t : BitVec 12) (s : State) : Outcome := unitDone s (reasmTimeout t.toNat s)

end Sys2Proof.Machine
end

