-- ==== Sys2Proof/Machine/Sample.lean ====
section
/-!
DEFINITION. The meanings of the commands of the sample adapter (R231–R258).
-/
namespace Sys2Proof.Machine

/-! ## Acceptance -/

/-- SAMPLE_PART_RX (R237, R238): the oldest sample flit delivered to Hull port 18. (Assumption log 42, DEDUCED.) -/
def samplePartRx (s : State) : State :=
  match takePort 18 s.hull.adapters with
  | none => s
  | some (f, rest) =>
    ({ s with hull := { s.hull with adapters := rest } }).checkPart (f.tunnel - 0x200) f.poison f.payload

def execSamplePartRx (s : State) : Outcome := unitDone s (samplePartRx s)

/-! ## Composites (R242–R248) -/

/-- The run counts of the source slots of a composite at an instant. -/
def State.noteSources (c t : Nat) (f : Feeder) (s : State) : State × Feeder :=
  (s.compSources c).foldl (fun x src =>
    x.1.noteSet src.2 src.1 (s.streamLive src.2 t && (s.sourceParts src.2 t).length = partsOf (s.streamN src.2)) x.2) (s, f)

/-- R246, R247: the output word of a channel of a composite. -/
def State.compWord (c t ch : Nat) (f : Feeder) (s : State) : State × Feeder × Word :=
  let w := s.smp 5 c ch 0
  let look (slot k : Nat) : Option Word :=
    match (s.compSources c).lookup slot with
    | some st => channelOf (s.sourceParts st t) k
    | none => none
  let p := look (bitsOf w 27 4) (bitsOf w 22 5)
  let x := if bitOf w 21 then look (bitsOf w 17 4) (bitsOf w 12 5) else none
  let f1 := (f.hold (bitsOf w 27 4) (bitsOf w 22 5) p).hold (bitsOf w 17 4) (bitsOf w 12 5) x
  let r := crossCheck (s.compTolAbs c) (s.compTolRel c) p x
  let (s2, f2) := s.noteCheck c ch r.2 f1
  match r.1 with
  | some o => (s2, f2, o)
  | none => s2.substitute (bitsOf w 27 4) (bitsOf w 22 5) (s.compHold c) f2

/-- The words of a composite set. -/
def State.compWords (c t : Nat) (f : Feeder) (s : State) : State × Feeder × List Word :=
  (List.range (s.compN c)).foldl (fun x ch =>
    let y := x.1.compWord c t ch x.2.1
    (y.1, y.2.1, x.2.2 ++ [y.2.2])) (s, f, [])

/-- A set that the hub itself makes enters R237 where a consumer of the hub takes it. -/
def State.offerSet (stream t j : Nat) (words : List Word) (s : State) : State :=
  s.each (setFlits (0x200 + stream) t j words) (fun f s => s.checkPart stream false f.payload)

/-- R242: the feeder after the emission of an instant. -/
def Feeder.emitted (f : Feeder) (t nxt : Nat) : Feeder :=
  let go : Bool := match f.stop with | some b => nxt < b | none => true
  { f with last := some t, next := if go then some nxt else none }

/-- The parts of a composite's own output are held for the outgoing streams that take it. -/
def State.holdOutput (stream t : Nat) (words : List Word) (s : State) : State :=
  if (List.range 256).any (fun r => s.svoStream r = stream && ((s.samples.svouts.get r).next).isSome) then
    let ps := (pieces 28 (words.length + 1) words).zipIdx.map (fun x =>
      { stream := stream, inst := t, part := x.2, words := x.1 : SetPart })
    let keep := s.samples.parts.filter (fun p => s.datum.whole < p.inst + ms 200)
    { s with samples := { s.samples with parts := keep ++ ps } }
  else s

/-- COMPOSITE_EMIT (R243): the set of the next instant t, at t + D. -/
def compositeEmit (c : Nat) (s : State) : State :=
  let f := s.samples.comps.get c
  match f.next with
  | none => s
  | some t =>
    if s.datum.whole < t + us (s.compDelay c) then s
    else
      let k := s.compK c
      let (s1, f1) := s.noteSources c t f
      let (s2, f2, ws) := s1.compWords c t f1
      let f3 := f2.emitted t (s.nextInst k t)
      let s3 := { s2 with samples := { s2.samples with comps := s2.samples.comps.set c f3 } }
      let s4 := (s3.incSmp 6 c 0).setRec smpPage 6 c 0 1 t
      (s4.holdOutput (s.compOut c - 0x200) t ws).sendSet (s.compOut c) t ((s.gridIndex k t).getD 0) ws

def execCompositeEmit (c : Fin 64) (s : State) : Outcome := unitDone s (compositeEmit c s)

/-! ## Outgoing sampled-value streams (R252, R253) -/

/-- R253: smpCnt of an instant. -/
def State.smpCnt (s : State) (k t : Nat) : Nat := t % 1000000000 / s.periodAt t * k + (s.gridIndex k t).getD 0

/-- R253: smpSynch. -/
def State.smpSynch (s : State) : Nat :=
  if s.rd DAT_STAT_STATE = 2 then (if s.classNow = 6 || s.classNow = 7 then 2 else 1) else 0

/-- The instants of a frame from its first. -/
def State.frameInsts (s : State) (k : Nat) : Nat → Nat → List Nat
  | 0, _ => []
  | n + 1, t => t :: s.frameInsts k n (s.nextInst k t)

/-- The first instant from `t` on whose smpCnt is a multiple of the ASDUs of a frame. -/
def State.frameStart (s : State) (k n : Nat) : Nat → Nat → Nat
  | 0, t => t
  | fuel + 1, t => if s.smpCnt k t % n = 0 then t else s.frameStart k n fuel (s.nextInst k t)

/-- A channel of an outgoing stream at an instant, as a pair. -/
def State.svoPair (i stream t ch unit : Nat) (f : Feeder) (s : State) : State × Feeder × (Int × Nat) :=
  match channelOf (s.sourceParts stream t) ch with
  | some w => let y := s.pairOut unit w; (y.1, f.hold 0 ch (some w), y.2)
  | none =>
    let y := s.substitute 0 ch (s.svoHold i) f
    let z := y.1.pairOut unit y.2.2
    (z.1, y.2.1, z.2)

/-- An ASDU of an outgoing stream. -/
def State.svoAsdu (i stream t : Nat) (f : Feeder) (s : State) : State × Feeder × SvAsdu :=
  let (n, k, unit) := s.shapeOf stream
  let (s1, f1) := s.noteSet stream 0 ((s.sourceParts stream t).length = partsOf n) f
  let r := (List.range (s.svoN i)).foldl (fun x o =>
    let ch := s.svoFirst i + o
    let y := x.1.svoPair i stream t ch (unit ch) x.2.1
    (y.1, y.2.1, x.2.2 ++ [y.2.2])) (s1, f1, [])
  (r.1, r.2.1, {
    svId := s.svId i (bitsOf (s.smp 8 i 0 1) 0 7), smpCnt := s.smpCnt k t, confRev := s.smp 8 i 0 0,
    smpSynch := s.smpSynch, pairs := r.2.2 })

/-- The frame of an outgoing stream around its content. -/
def State.svoFrame (s : State) (i : Nat) (asdus : List SvAsdu) : Frame :=
  let w2 := s.smp 7 i 0 2
  let w3 := s.smp 7 i 0 3
  { da := BitVec.ofNat 48 (bitsOf w2 0 16 * 2 ^ 32 + s.smp 7 i 0 1), sa := Config.hubMac,
    tag := some (bitsOf w3 17 3, bitsOf w3 20 12), etherType := 0x88BA,
    body := .sv { appid := bitsOf w2 16 16, sim := false, asdus := asdus } }

/-- SV_FRAME_SEND (R253): the next frame of an outgoing stream, DELAY after the instant of its last ASDU. -/
def svFrameSend (i : Nat) (s : State) : State :=
  let f := s.samples.svouts.get i
  let stream := s.svoStream i
  let k := (s.shapeOf stream).2.1
  let n := s.svoAsdus i
  match f.next with
  | none => s
  | some t0 =>
    let ts := s.frameInsts k n t0
    let tl := ts.getLastD t0
    if s.datum.whole < tl + us (s.svoDelay i) then s
    else
      let r := ts.foldl (fun x t =>
        let y := x.1.svoAsdu i stream t x.2.1
        (y.1, y.2.1, x.2.2 ++ [y.2.2])) (s, f, [])
      let f1 := r.2.1.emitted tl (s.frameStart k n 8 (s.nextInst k tl))
      let s1 := { r.1 with samples := { r.1.samples with svouts := r.1.samples.svouts.set i f1 } }
      let auth := s.recW 0x0E0 6 i 0 0
      let (s2, o) := s1.signFrame (bitOf auth 31) (bitsOf auth 0 8) (s.svoFrame i r.2.2)
      match o with
      | none => s2
      | some g => (s2.incSmp 11 i 0).toLan (s.svoPorts i) (bitsOf (s.smp 7 i 0 3) 17 3) g

def execSvFrameSend (i : Fin 256) (s : State) : Outcome := unitDone s (svFrameSend i s)

/-! ## Incoming sampled-value streams (R254, R255) -/

/-- R255: a dropped frame is counted. -/
def State.sviDrop (i : Nat) (confRev : Bool) (s : State) : State :=
  ((s.bumpSmp 11 (256 + i) 1 16).when confRev (State.bumpSmp 11 (256 + i) 1 0)).ev smpPage [EV_SMP_SV_IN_DROP]

/-- R255: the instant of an ASDU with smpCnt `n` in a frame stamped `r`, for a period. -/
def asduAt (p k n r : Nat) : Nat :=
  let off := n / k * p + subTick p k (n % k)
  let top := r + 1000
  top - (top + 1000000000 - off % 1000000000) % 1000000000

/-- R249, R255: the period that an ASDU follows: the one in force, or the one before it where that alone dates the ASDU before the
boundary of the change. (Assumption log 42, DEDUCED.) -/
def State.asduPeriod (s : State) (k n r : Nat) : Nat :=
  let b := s.lattice.changedAt * 1000000000
  if asduAt s.period k n r < b && asduAt s.lattice.oldPeriod k n r < b then s.lattice.oldPeriod else s.period

/-- R255: the instant of an ASDU with smpCnt `n` in a frame stamped `r`. -/
def State.asduInst (s : State) (k n r : Nat) : Nat := asduAt (s.asduPeriod k n r) k n r

/-- An ASDU as a set of its stream: converted, sent from Hull port 18, and offered to the hub's own consumers. -/
def State.takeAsdu (i stamp : Nat) (a : SvAsdu) (s : State) : State :=
  let st := s.sviStream i
  let k := s.streamK st
  let weak := a.smpSynch = 0 || (a.smpSynch = 1 && !bitOf (s.smp 9 i 0 0) 9)
  let r := a.pairs.zipIdx.foldl (fun x pr =>
    let y := x.1.pairIn (s.streamUnit st pr.2) weak pr.1
    (y.1, x.2 ++ [y.2])) (s, [])
  let t := s.asduInst k a.smpCnt stamp
  let j := a.smpCnt % k
  let s1 := r.1.sendSet (0x200 + st) t j r.2
  if (List.range 64).any (fun c => (s.compValid c || (s.samples.comps.get c).next.isSome) && (s.compSources c).any (·.2 = st)) ||
      (List.range 256).any (fun v => (s.svoValid v || (s.samples.svouts.get v).next.isSome) && s.svoStream v = st) then s1.offerSet st t j r.2
  else s1

/-- SV_FRAME_RX (R255): the oldest sampled-value frame that the bridge presents is matched by APPID, port and svID, checked,
converted and sent. -/
def svFrameRx (s : State) : State :=
  match s.bridge.forSv with
  | [] => s
  | a :: rest =>
    let s0 := { s with bridge := { s.bridge with forSv := rest } }
    match a.f.body with
    | .sv f =>
      let inst (i : Nat) : Nat := s.asduInst (s.streamK (s.sviStream i)) ((f.asdus.head?.map (·.smpCnt)).getD 0) a.stamp
      let fits (i : Nat) : Bool := (s.sviValid i || beforeStop (s.samples.sviStop.get i) (inst i)) && bitOf (s.sviPorts i) (b2n a.portB) && bitsOf (s.smp 9 i 0 1) 16 16 = f.appid &&
        f.asdus.head?.map (·.svId) = some (s.svId (256 + i) (bitsOf (s.smp 9 i 0 1) 0 7))
      match (List.range 256).find? fits with
      | none => s0
      | some i =>
        let st := s.sviStream i
        let auth := s.recW 0x0E0 6 (256 + i) 0 0
        let (s1, good) := s0.checkFrame (bitOf auth 31) (bitsOf auth 0 8) a.f
        if f.sim || !a.ok || !good || !s.streamLive st (inst i) then s1.sviDrop i false
        else if f.asdus.any (fun x => x.confRev ≠ s.smp 9 i 0 2) then s1.sviDrop i true
        else if f.asdus.any (fun x => x.pairs.length ≠ s.streamN st ||
            s.streamK st * 1000000000 ≤ x.smpCnt * s.asduPeriod (s.streamK st) x.smpCnt a.stamp) then s1.sviDrop i false
        else (s1.incSmp 11 (256 + i) 0).each f.asdus (fun x s => s.takeAsdu i a.stamp x)
    | _ => s0

def execSvFrameRx (s : State) : Outcome := unitDone s (svFrameRx s)

/-! ## Record access (R241, R252, R257, R258) -/

/-- R257: the selected kind, index and entry with the kind's description, where they are in range. (Assumption log 18, DESIGN CHOICE.) -/
def State.smpSel (s : State) : Option (Nat × Nat × Nat × Bool × List Nat) :=
  let kind := s.rd SMP_SEL_KIND
  let index := s.rd SMP_SEL_INDEX
  let entry := s.rd SMP_SEL_ENTRY
  match smpKind kind with
  | none => none
  | some (ni, ne, ro, masks) =>
    if ni ≤ index || (1 < ne && ne ≤ entry) then none else some (kind, index, if ne = 1 then 0 else entry, ro, masks)

/-- SMP_READ (R257). -/
def smpRead (s : State) : State :=
  if !s.coreOn || s.rdB SMP_CMD_BUSY then s
  else match s.smpSel with
    | none => s.wr SMP_CMD_STATUS 3
    | some (kind, index, entry, _, _) =>
      (s.each [0, 1, 2, 3] (fun w s' => s'.wr (SMP_DATA_WORD w) (s.smp kind index entry w))).wr SMP_CMD_STATUS 0

def execSmpRead (s : State) : Outcome := unitDone s (smpRead s)

/-- A consumer starts at the next lattice tick (R241). -/
def freshFeeder (first : Nat) : Feeder := { next := some first, first := first }

/-- R241, R240: a COMP_HDR write: STATUS and the state. -/
def State.writeComp (c : Nat) (w : Nat → Nat) (store : State → State) (s : State) : State × Nat :=
  if !bitOf (w 0) 31 then
    let s1 := store s
    ({ s1 with samples := { s1.samples with comps := s1.samples.comps.set c {} } }, 0)
  else if s.compValid c then
    if bitsOf (w 0) 12 19 ≠ bitsOf (s.smp 3 c 0 0) 12 19 || bitsOf (w 1) 16 12 ≠ s.compOut c then (s, 1) else (store s, 0)
  else if s.compOk c (w 0) (w 1) then
    let s1 := store s
    ({ s1 with samples := { s1.samples with comps := s1.samples.comps.set c (freshFeeder (s.nextTick s.datum.whole)) } }, 0)
  else (s, 2)

/-- R252: an SVOUT_A write. -/
def State.writeSvo (i : Nat) (w : Nat → Nat) (store : State → State) (s : State) : State × Nat :=
  if !bitOf (w 0) 31 then
    let s1 := store s
    ({ s1 with samples := { s1.samples with svouts := s1.samples.svouts.set i {} } }, 0)
  else if !s.svoOk (w 0) (w 3) then (s, 2)
  else
    let k := (s.shapeOf (bitsOf (w 0) 21 10)).2.1
    let start := s.frameStart k (bitsOf (w 0) 8 3 + 1) 8 (s.nextTick s.datum.whole)
    let same := s.svoValid i && bitsOf (w 0) 21 10 = s.svoStream i && bitsOf (w 0) 8 3 + 1 = s.svoAsdus i
    let s1 := store s
    (if same then s1
     else { s1 with samples := { s1.samples with svouts := s1.samples.svouts.set i (freshFeeder start) } }, 0)

/-- R258: a STREAM write. -/
def State.writeStream (i : Nat) (w : Nat → Nat) (store : State → State) (s : State) : State × Nat :=
  let n := bitsOf (w 0) 26 5 + 1
  let bad := !rateOk s.period (bitsOf (w 0) 22 4 + 1) ||
    (List.range n).any (fun c => bitsOf (w (if c < 16 then 1 else 2)) (2 * (c % 16)) 2 = 3)
  if s.streamNamed i then (s, 1)
  else if bitOf (w 0) 31 && !s.streamValid i && bad then (s, 2)
  else (store { s with samples := { s.samples with streamStop := s.samples.streamStop.set i none } }, 0)

/-- SMP_WRITE (R257, R614): STATUS and the state. -/
def State.smpStore (s : State) : State × Nat :=
  match s.smpSel with
  | none => (s, 3)
  | some (kind, index, entry, ro, masks) =>
    let w (n : Nat) : Nat := s.rd (SMP_DATA_WORD n) &&& masks.getD n 0
    let store (s : State) : State := s.setRecs smpPage kind index entry masks ((List.range masks.length).map w)
    if ro then (s, 3)
    else if s.locked smpPage then (s, 1)
    else match kind with
      | 1 => s.writeStream index w store
      | 3 => s.writeComp index w store
      | 4 | 5 => if s.compValid index then (s, 1) else (store s, 0)
      | 7 => s.writeSvo index w store
      | 9 => (store { s with samples := { s.samples with sviStop := s.samples.sviStop.set index none } }, 0)
      | _ => (store s, 0)

/-- SMP_WRITE (R257, R256). (Assumption log 26, DEDUCED.) -/
def smpWrite (s : State) : State :=
  if !s.coreOn || s.rdB SMP_CMD_BUSY then s
  else
    let r := s.smpStore
    (r.1.wr SMP_CMD_STATUS r.2).when (r.2 ≠ 0) (State.ev smpPage [EV_SMP_CFG_REJECT])

def execSmpWrite (s : State) : Outcome := unitDone s (smpWrite s)

end Sys2Proof.Machine
end

