-- ==== Sys2Proof/Machine/BridgeOps.lean ====
section
/-!
DEFINITION. Operations of the frame bridge: records, filters, learning, forwarding, redundancy (R330–R338, R344).
-/
namespace Sys2Proof.Machine

/-- The page of the frame bridge. -/
def frmPage : Nat := 0x0E0

/-- A word of a bridge record: KIND, INDEX, ENTRY, word. -/
def State.frm (s : State) (kind index entry word : Nat) : Nat := s.recW frmPage kind index entry word

/-! ## Records (R344) -/

/-- A bridge port in use (R344): station ports always, a tunnel port with VALID. -/
def State.bportValid (s : State) (b : Nat) : Bool := b < 2 || bitOf (s.frm 8 b 0 0) 31
/-- The tunnel of a tunnel port. -/
def State.bportTun (s : State) (b : Nat) : Nat := bitsOf (s.frm 8 b 0 0) 16 12
/-- R330, R332: the tunnel of a tunnel port is a frame tunnel with an end at the bridge, and is OPEN. -/
def State.bportOpen (s : State) (b : Nat) : Bool :=
  let e := (s.tun (s.bportTun b)).e
  e.kind = 5 && e.path.contains 20 && e.state = .opened
def State.bportPcp (s : State) (b : Nat) : Nat := bitsOf (s.frm 8 b 0 0) 12 3
def State.bportVid (s : State) (b : Nat) : Nat := bitsOf (s.frm 8 b 0 0) 0 12

/-- A bridge port is a member of a VLAN; it sends the VLAN untagged. (Assumption log 38, PRESUMED.) -/
def State.member (s : State) (vid b : Nat) : Bool := bitOf (s.frm 1 vid (b / 32) 0) (b % 32)
def State.untagged (s : State) (vid b : Nat) : Bool := bitOf (s.frm 1 vid (b / 32) 1) (b % 32)

/-- The MAC of a MAC_STATIC or FILTER record. -/
def State.recMac (s : State) (kind i : Nat) : Mac := BitVec.ofNat 48 (bitsOf (s.frm kind i 0 1) 0 16 * 2 ^ 32 + s.frm kind i 0 0)

/-- A MAC_STATIC or FILTER record in use for a VLAN and MAC. -/
def State.recFits (s : State) (kind i vid : Nat) (mac : Mac) : Bool :=
  bitOf (s.frm kind i 0 1) 31 && bitsOf (s.frm kind i 0 1) 16 12 = vid && s.recMac kind i = mac

/-- R333: the static entry for a VLAN and MAC: its PORT. -/
def State.staticPort (s : State) (vid : Nat) (mac : Mac) : Option Nat :=
  ((List.range 512).find? (fun i => s.recFits 2 i vid mac)).map (fun i => bitsOf (s.frm 2 i 0 2) 0 8)

/-- A group address. -/
def groupMac (m : Mac) : Bool := bitOf m.toNat 40

/-- IEEE 802.1Q: addresses that a bridge does not forward. (Assumption log 38, PRESUMED.) -/
def reservedMac (m : Mac) : Bool := m.toNat / 16 = 0x0180C200000

/-! ## Frame octets (R331) -/

/-- The octets of a frame from the destination MAC through the last payload octet. -/
def frameBytes (f : Frame) : List Nat :=
  natBytesBE 6 f.da.toNat ++ natBytesBE 6 f.sa.toNat ++
  (match f.tag with | some (pcp, vid) => [0x81, 0x00] ++ natBytesBE 2 (pcp * 8192 + vid) | none => []) ++
  natBytesBE 2 f.etherType ++ bodyBytes f.body

/-- R331: the content words of a frame message. -/
def frameWords (f : Frame) : List Word :=
  let b := frameBytes f
  pack [(26, 14, b.length)] :: (pieces 5 (b.length + 1) b).map (fun l => pack ((l.zipIdx).map (fun x => (32 - 8 * x.2, 8, x.1))))

/-- R343: MAX_FRAME in force, including the FCS. -/
def State.maxFrame (s : State) : Nat := min 9216 (max 64 (s.rd FRM_MAX_MAX_FRAME))

/-! ## Stream filters (R334) -/

/-- The filter of a VLAN and destination. -/
def State.filterOf (s : State) (vid : Nat) (mac : Mac) : Option Nat := (List.range 256).find? (fun i => s.recFits 3 i vid mac)

/-- R334: a single-rate meter judges a frame: CIR in Mbit/s, CBS in units of 64 octets; tokens in octets × 10^-3. (Assumption log 39, DEDUCED.) -/
def State.meterPass (i n : Nat) (s : State) : State × Bool :=
  let cir := bitsOf (s.frm 3 i 0 2) 16 16
  let cap := bitsOf (s.frm 3 i 0 2) 0 16 * 64000
  let held := match s.bridge.meters.get i with
    | some m => min cap (m.tokens + cir * (s.now - m.at_) / 8)
    | none => cap
  let ok : Bool := n * 1000 ≤ held
  let m : Meter := { tokens := if ok then held - n * 1000 else held, at_ := s.now }
  ({ s with bridge := { s.bridge with meters := s.bridge.meters.set i (some m) } }, ok)

/-- R334: a frame passes its stream filter's maximum SDU and meter. (Assumption log 39, DEDUCED.) -/
def State.filterPass (vid : Nat) (f : Frame) (s : State) : State × Bool :=
  match s.filterOf vid f.da with
  | none => (s, true)
  | some i => if bitsOf (s.frm 3 i 0 3) 0 14 < bodyLen f.body then (s, false) else s.meterPass i (frameLen f + 4)

/-! ## Learning (R333) -/

/-- Replace the dynamic entries and show their number. -/
def State.setMacs (l : List MacEntry) (s : State) : State := ({ s with bridge := { s.bridge with macs := l } }).wr FRM_STAT_MAC_USED l.length

/-- R333: a source is learned, or its bucket is full. (Assumption log 15, DESIGN CHOICE.) -/
def State.learn (b vid : Nat) (mac : Mac) (s : State) : State :=
  if !s.rdB FRM_CTL_LEARN_EN || groupMac mac || (s.staticPort vid mac).isSome then s
  else
    let e : MacEntry := { vid := vid, mac := mac, port := b, seen := s.now }
    let l := s.bridge.macs
    if l.any (fun x => x.vid = vid && x.mac = mac) then s.setMacs (l.map (fun x => if x.vid = vid && x.mac = mac then e else x))
    else if 4 ≤ (l.filter (fun x => Config.macBucket x.vid x.mac = Config.macBucket vid mac)).length then
      (s.bump FRM_LEARN_FAIL).ev frmPage [EV_FRM_LEARN_FAIL]
    else s.setMacs (l ++ [e])

/-- R338: a source MAC learned on a tunnel port becomes a proxied node, the first 128 of them. -/
def State.proxy (mac : Mac) (s : State) : State :=
  if s.bridge.proxies.contains mac || 128 ≤ s.bridge.proxies.length || groupMac mac then s
  else ({ s with bridge := { s.bridge with proxies := s.bridge.proxies ++ [mac] } }).wr FRM_STAT_PROXY (s.bridge.proxies.length + 1)

/-! ## Forwarding -/

/-- R332: a frame for a tunnel port is held, or discarded where the tunnel is not OPEN or its space is full. -/
def State.tunnelPut (b : Nat) (f : Frame) (s : State) : State :=
  let held := ((s.bridge.tunWait.get b).map frameLen).sum
  if !s.bportOpen b || 65536 < held + frameLen f then (s.bump FRM_DROP_TUN).ev frmPage [EV_FRM_TUN_DROP]
  else { s with bridge := { s.bridge with tunWait := s.bridge.tunWait.upd b (fun l => l ++ [f]) } }

/-- The destination ports of a frame within its VLAN: a static entry, a dynamic one, or every member but the port of entry. -/
def State.destsOf (s : State) (b vid : Nat) (da : Mac) : List Nat :=
  let members := (List.range 130).filter (fun c => c ≠ b && s.member vid c && s.bportValid c)
  if reservedMac da then []
  else match s.staticPort vid da with
    | some 0xFF => []
    | some c => members.filter (· = c)
    | none =>
      if groupMac da then members
      else match s.bridge.macs.find? (fun x => x.vid = vid && x.mac = da) with
        | some e => members.filter (· = e.port)
        | none => members

/-- A frame as a port sends it: tagged, or untagged in its VLAN; the redundancy tag stays behind. -/
def State.egressForm (s : State) (vid pcp b : Nat) (f : Frame) : Frame :=
  { f with tag := if s.untagged vid b then none else some (pcp, vid), red := none }

/-- The frame goes to its destinations; with PRP or HSR the station ports are one, and nothing passes between them here. -/
def State.forward (b vid pcp : Nat) (f : Frame) (s : State) : State :=
  let ds := s.destsOf b vid f.da
  let s1 := s.each (ds.filter (2 ≤ ·)) (fun c s => s.tunnelPut c (s.egressForm vid pcp c f))
  let st := ds.filter (· < 2)
  if s.redundant then
    if b < 2 then s1
    else match st with
      | c :: _ => s1.toLan 3 pcp (s.egressForm vid pcp c f)
      | [] => s1
  else s1.each st (fun c s => s.stationPut c pcp (s.egressForm vid pcp c f))

/-- The VLAN and priority of a frame on a bridge port: its tag, or the port's PVID and default. -/
def State.vlanOf (s : State) (b : Nat) (f : Frame) : Nat × Nat :=
  match f.tag with
  | some (pcp, vid) => (if vid = 0 then s.bportVid b else vid, pcp)
  | none => (s.bportVid b, s.bportPcp b)

/-- A frame enters the bridge at a port (R333, R334): size, ingress filtering, stream filter, learning, forwarding; the answer says
whether it has passed the checks. (Assumption log 38, PRESUMED.) -/
def State.bridgeIn (b : Nat) (f : Frame) (s : State) : State × Bool :=
  let v := s.vlanOf b f
  let count (s : State) : State := if b < 2 then s.bump (FRM_SP_ERR_OVERSIZE b) else s.bump FRM_DROP_FILTER
  if s.maxFrame < frameLen f + 4 then (count s, false)
  else if v.1 = 0 || v.1 = 4095 || !s.member v.1 b then (s, false)
  else
    let r := s.filterPass v.1 f
    if !r.2 then ((count r.1).ev frmPage [EV_FRM_FILTER_DROP], false)
    else
      let s1 := (r.1.learn b v.1 f.sa).when (2 ≤ b && s.redundant) (State.proxy f.sa)
      (s1.forward b v.1 v.2 f, true)

/-! ## Redundancy (R338) -/

/-- R338: the copy of a frame seen before; a full table evicts its oldest entry. (Assumption log 39, DEDUCED.) -/
def State.dedupe (f : Frame) (s : State) : State × Bool :=
  match f.red with
  | none => (s, false)
  | some r =>
    let live := s.bridge.dups.filter (fun d => s.now ≤ d.since + ms 400)
    if live.any (fun d => d.mac = f.sa && d.seq = r.seq) then (s, true)
    else
      let full : Bool := 2048 ≤ live.length
      let l := (if full then live.drop 1 else live) ++ [{ mac := f.sa, seq := r.seq, since := s.now }]
      let s1 := { s with bridge := { s.bridge with dups := l } }
      (if full then (s1.bump FRM_RED_CNT_EVICT).ev frmPage [EV_FRM_DUP_WINDOW] else s1, false)

/-- HSR: the frame is addressed solely to the tree: to the hub, a proxied node, or an address whose entry names a tunnel port. -/
def State.solelyTree (s : State) (x : Nat) (f : Frame) : Bool :=
  let vid := (s.vlanOf x f).1
  !groupMac f.da && (f.da = Config.hubMac || s.bridge.proxies.contains f.da ||
    (match s.staticPort vid f.da with
    | some c => 2 ≤ c && c ≠ 0xFF
    | none => s.bridge.macs.any (fun e => e.vid = vid && e.mac = f.da && 2 ≤ e.port)))

/-- R338: of two copies in one cycle the one from A counts: what still waits of the other is A's. -/
def State.preferA (f : Frame) (s : State) : State :=
  let swap (a : Arrival) : Arrival :=
    if a.at_ = s.now && a.f.sa = f.sa && a.f.red.map (·.seq) = f.red.map (·.seq) then { a with portB := false, f := f } else a
  { s with bridge := { s.bridge with forSv := s.bridge.forSv.map swap, forGoose := s.bridge.forGoose.map swap } }

/-- HSR: the hub or a proxied node is the source. -/
def State.ownSource (s : State) (f : Frame) : Bool := f.sa = Config.hubMac || s.bridge.proxies.contains f.sa

/-- Publications wait for the records (R255, R339). -/
def State.offerRecords (x : Nat) (ok : Bool) (f : Frame) (s : State) : State :=
  let a : Arrival := { portB := x = 1, stamp := s.datum.whole, at_ := s.now, ok := ok, f := f }
  match f.body with
  | .sv _ => { s with bridge := { s.bridge with forSv := s.bridge.forSv ++ [a] } }
  | .goose _ => { s with bridge := { s.bridge with forGoose := s.bridge.forGoose ++ [a] } }
  | .octets _ => s

/-! ## GOOSE input (R339) -/

/-- R339: an input record presents a new event to the express adapter; with OP_LOSS 0x00 the heartbeat stops. -/
def State.gooseEvent (r op : Nat) (test : Bool) (s : State) : State :=
  let g := bitsOf (s.gooseW r 0) 20 8
  let s1 := s.onGoose r (fun x => { x with op := op, test := test })
  if op = 0 then s1.onGroup g (fun y => { y with src := { y.src with quiet := true, repeats := [], deferred := none } })
  else s1.sourceEvent g (16 + r) false

/-- R339: the input is lost. (Assumption log 40, DEDUCED.) -/
def State.gooseLoss (r : Nat) (s : State) : State :=
  if (s.goose r).lost then s
  else
    let w := s.frm 7 r 0 2
    let s1 := s.setRec frmPage 7 r 0 2 (bitsOf w 16 16 * 2 ^ 16 + satAdd 16 (bitsOf w 0 16) 1)
    let s2 := s1.onGoose r (fun x => { x with lost := true, lastSt := none, liveUntil := none })
    (s2.gooseEvent r (bitsOf (s.gooseW r 3) 8 8) false).ev frmPage [EV_FRM_GOOSE_LOSS]

/-- R339: a frame dropped by an input record. -/
def State.gooseDrop (r : Nat) (s : State) : State :=
  let w := s.frm 7 r 0 2
  (s.setRec frmPage 7 r 0 2 (satAdd 16 (bitsOf w 16 16) 1 * 2 ^ 16 + bitsOf w 0 16)).ev frmPage [EV_FRM_GOOSE_IN_DROP]

/-- R339: an input record matches a publication. -/
def State.gooseFits (s : State) (r : Nat) (a : Arrival) (g : GooseFrame) : Bool :=
  let w0 := s.gooseW r 0
  bitOf w0 31 && !bitOf w0 30 && bitOf w0 (28 + b2n a.portB) && bitsOf (s.gooseW r 1) 16 16 = g.appid &&
  a.f.da.toNat = bitsOf (s.gooseW r 1) 0 16 * 2 ^ 32 + s.gooseW r 2 && s.nameOf (bitsOf (s.gooseW r 5) 20 10) = g.gocbRef

/-- R339: an input record takes a publication that it matches. (Assumption log 40, DEDUCED.) -/
def State.gooseTake (r : Nat) (a : Arrival) (g : GooseFrame) (s : State) : State :=
  let w0 := s.gooseW r 0
  let (s1, good) := s.checkFrame (bitOf w0 13) (bitsOf w0 0 8) a.f
  let st := g.data[bitsOf (s.gooseW r 6) 8 6]?
  let qm := bitsOf (s.gooseW r 6) 0 7
  let q := match g.data[qm]? with | some (.quality v) => if qm = 127 then 0 else v | _ => 0
  match st with
  | some (.bool v) =>
    if g.confRev ≠ s.gooseW r 4 || !good then s1.gooseDrop r
    else if g.ndsCom || q % 4 = 1 then s1.gooseLoss r
    else
      let fresh : Bool := (s.goose r).lastSt ≠ some g.stNum
      let s2 := s1.onGoose r (fun x => { x with lastSt := some g.stNum, liveUntil := some (a.at_ + ms g.ttl), lost := false })
      let s3 := (s2.setRec frmPage 7 r 0 0 g.stNum).setRec frmPage 7 r 0 1 g.sqNum
      if fresh then s3.gooseEvent r (bitsOf (s.gooseW r 3) (if v then 24 else 16) 8) (bitOf q 11) else s3
  | _ => s1.gooseDrop r

end Sys2Proof.Machine
end

