-- ==== Sys2Proof/Machine/Station.lean ====
section
/-!
DEFINITION. The meanings of the commands of the frame bridge and the station ports (R330–R345).
-/
namespace Sys2Proof.Machine

/-- FRAME_TUNNEL_RX (R330, R331): a frame message of a tunnel that ends at the bridge. The bridge passes no PTP message on (R203): one from
a dock acts by PTP_MESSAGE_RX. -/
def frameTunnelRx (t : Nat) (f : Frame) (s : State) : State :=
  let b := 2 + (s.tun t).e.adapter % 128
  if s.bportOpen b && b < 130 && s.bportValid b && s.bportTun b = t && f.etherType ≠ 0x88F7 then (s.bridgeIn b f).1 else s

def execFrameTunnelRx (t : BitVec 12) (f : Frame) (s : State) : Outcome := unitDone s (frameTunnelRx t.toNat f s)

/-- STATION_FRAME_RX (R334, R336, R338): a frame on station port A (0) or B (1); `fcsBad`: its FCS fails; `corr`, `uncorr`: corrected and
uncorrected RS-FEC codewords. A PTP message counts as a frame here and acts by PTP_MESSAGE_RX (R337). (Assumption log 39, DEDUCED.) -/
def stationFrameRx (x : Nat) (f : Frame) (fcsBad : Bool) (corr : Nat) (uncorr : Bool) (s : State) : State :=
  if !s.stationOn x then s
  else
    let s0 := s.when (s.rd (FRM_SP_CTL_MODE x) = 3) (fun s => s.bumpBy (FRM_SP_FEC_CORR x) corr)
    if uncorr && s.rd (FRM_SP_CTL_MODE x) = 3 then (s0.bump (FRM_SP_FEC_UNCORR x)).ev (stationPage x) [EV_FRMSP_FEC_UNCORR]
    else if fcsBad then s0.bump (FRM_SP_ERR_FCS x)
    else
      let s1 := (s0.wrapInc (FRM_SP_RX_FRAMES x))
      let s2 := { s1 with bridge := { s1.bridge with lanAt := s1.bridge.lanAt.set x s.now, lanFailed := s1.bridge.lanFailed.set x false } }
      if s.maxFrame < frameLen f + 4 then s2.bump (FRM_SP_ERR_OVERSIZE x)
      else if f.etherType = 0x88F7 then s2
      else if !s.redundant then
        let r := s2.bridgeIn x f
        r.1.offerRecords x r.2 f
      else
        let wrong : Bool := match f.red with | some t => t.lanB ≠ (x = 1 : Bool) | none => false
        let s3 := if wrong then (s2.bump FRM_RED_CNT_WRONG_LAN).ev frmPage [EV_FRM_WRONG_LAN] else s2
        let hsr : Bool := s.rd FRM_CTL_RED_MODE = 2
        if hsr && s.ownSource f then s3
        else
          let s4 := if hsr && !s.solelyTree x f then s3.stationPut (1 - x) (match f.tag with | some (p, _) => p | none => 0) f else s3
          let (s5, seen) := s4.dedupe f
          if seen then (if x = 0 then s5.preferA f else s5)
          else
            let r := s5.bridgeIn x f
            r.1.offerRecords x r.2 f

def execStationFrameRx (x : Fin 2) (f : Frame) (fcsBad : Bool) (corr : Nat) (uncorr : Bool) (s : State) : Outcome :=
  unitDone s (stationFrameRx x f fcsBad corr uncorr s)

/-- TUNNEL_FRAME_SEND (R332): the oldest frame that waits at tunnel port `i` is sent, once its predecessor has left the Hull's ingress
buffer; it is dropped where the tunnel is not OPEN. -/
def tunnelFrameSend (i : Nat) (s : State) : State :=
  let b := i + 2
  match s.bridge.tunWait.get b with
  | [] => s
  | f :: rest =>
    let t := s.bportTun b
    let s1 := { s with bridge := { s.bridge with tunWait := s.bridge.tunWait.set b rest } }
    if !s.bportOpen b then (s1.bump FRM_DROP_TUN).ev frmPage [EV_FRM_TUN_DROP]
    else if s.hull.ingress.any (fun g => g.tunnel = t && g.inPort = 20) then s
    else s1.sendMsg 20 t (frameWords f)

def execTunnelFrameSend (i : Fin 128) (s : State) : Outcome := unitDone s (tunnelFrameSend i s)

/-- R335, R336: ns that a frame takes at the line rate, with preamble, FCS and padding. -/
def lineTime (mode n : Nat) : Nat :=
  let octets := max 60 n + 12
  if mode = 1 then (octets * 8 + 9) / 10 else (octets * 8 + 24) / 25

/-- STATION_FRAME_TX (R335): the highest PCP with a frame whose gate is open until its last word has left. -/
def stationFrameTx (x : Nat) (s : State) : State :=
  let busy : Bool := match s.compass.sending.get (18 + x) with | some k => s.now < k.until_ | none => false
  if !s.stationOn x || !bitOf (s.rd (FRM_SP_STAT_LINE x)) 1 || busy then s
  else
    let ready (q : Nat) : Bool := match s.bridge.queues.get (x * 8 + q) with
      | f :: _ => s.gateHolds (18 + x) q s.datum.whole (s.datum.whole + lineTime (s.rd (FRM_SP_CTL_MODE x)) (frameLen f))
      | [] => false
    match (List.range 8).reverse.find? ready with
    | none => s
    | some q => match s.bridge.queues.get (x * 8 + q) with
      | [] => s
      | f :: rest =>
        let s1 := { s with bridge := { s.bridge with queues := s.bridge.queues.set (x * 8 + q) rest } }
        let k : Sending := { queue := q, until_ := s.now + lineTime (s.rd (FRM_SP_CTL_MODE x)) (frameLen f) }
        let s2 := { s1 with compass := { s1.compass with sending := s1.compass.sending.set (18 + x) (some k) } }
        (s2.wrapInc (FRM_SP_TX_FRAMES x)).emit (.frame x f)

def execStationFrameTx (x : Fin 2) (s : State) : Outcome := unitDone s (stationFrameTx x s)

/-! ## Expiries -/

/-- MAC_AGE_EXPIRY (R333): dynamic entries at their ageing time go. -/
def macAgeExpiry (s : State) : State :=
  let age := min 1000000 (max 10 (s.rd FRM_AGE_SEC)) * 1000000000
  s.setMacs (s.bridge.macs.filter (fun e => s.now ≤ e.seen + age))

def execMacAgeExpiry (s : State) : Outcome := unitDone s (macAgeExpiry s)

/-- DUP_ENTRY_EXPIRY (R338): entries at 400 ms go. -/
def dupEntryExpiry (s : State) : State :=
  { s with bridge := { s.bridge with dups := s.bridge.dups.filter (fun d => s.now ≤ d.since + ms 400) } }

def execDupEntryExpiry (s : State) : Outcome := unitDone s (dupEntryExpiry s)

/-- R343: LIFECHECK in force, in ns. -/
def State.lifecheck (s : State) : Nat := ms (min 10000 (max 100 (s.rd FRM_SUPERV_LIFECHECK)))

/-- LAN_FAIL (R338): no frame for 2 × LIFECHECK on a port. -/
def lanFail (x : Nat) (s : State) : State :=
  if s.redundant && !s.bridge.lanFailed.get x && s.bridge.lanAt.get x + 2 * s.lifecheck < s.now then
    ({ s with bridge := { s.bridge with lanFailed := s.bridge.lanFailed.set x true } }).ev frmPage [EV_FRM_LAN_FAIL]
  else s

def execLanFail (x : Fin 2) (s : State) : Outcome := unitDone s (lanFail x s)

/-- R338: a supervision frame for a node. -/
def State.superFrame (s : State) (mac : Mac) : Frame :=
  { da := 0x01154E000100#48, sa := mac, etherType := 0x88FB, body := .octets (Config.supervision mac (s.rd FRM_CTL_RED_MODE = 2)) }

/-- SUPERVISION_FRAME_SEND (R338): for the hub and each proxied node. -/
def supervisionFrameSend (s : State) : State :=
  if s.redundant && s.bridge.superAt ≤ s.now then
    ({ s with bridge := { s.bridge with superAt := s.now + s.lifecheck } }).each (Config.hubMac :: s.bridge.proxies)
      (fun m s => s.toLan 3 0 (s.superFrame m))
  else s

def execSupervisionFrameSend (s : State) : Outcome := unitDone s (supervisionFrameSend s)

/-! ## Station port lines (R336, R337) -/

/-- Set bits of FRM_SP_STAT.LINE; lock and alignment are shown from LINK_UP on, when a command first tells of them. (Assumption log 39, DEDUCED.) -/
def State.setLine (x lo n v : Nat) (s : State) : State := s.wr (FRM_SP_STAT_LINE x) (putBits (s.rd (FRM_SP_STAT_LINE x)) lo n v)

/-- STATION_LINK_UP (R336): block lock, and FEC alignment where used, have held for 10 ms. -/
def stationLinkUp (x : Nat) (s : State) : State :=
  if !s.stationOn x || bitOf (s.rd (FRM_SP_STAT_LINE x)) 1 then s
  else (s.setLine x 1 3 (if s.rd (FRM_SP_CTL_MODE x) = 3 then 7 else 5)).ev (stationPage x) [EV_FRMSP_LINK_UP]

def execStationLinkUp (x : Fin 2) (s : State) : Outcome := unitDone s (stationLinkUp x s)

/-- STATION_LINK_DOWN (R336): block lock (`fec` false) or FEC alignment is lost. -/
def stationLinkDown (x : Nat) (fec : Bool) (s : State) : State :=
  let s1 := (s.setLine x 2 1 0).when (!fec) (State.setLine x 3 1 0)
  if bitOf (s.rd (FRM_SP_STAT_LINE x)) 1 then (s1.setLine x 1 1 0).ev (stationPage x) [EV_FRMSP_LINK_DOWN] else s1

def execStationLinkDown (x : Fin 2) (fec : Bool) (s : State) : Outcome := unitDone s (stationLinkDown x fec s)

/-- R337: TX_DISABLE as it must stand, driven where it changes; RS0 and RS1 are the levels of FRM_SP_CTL.RS themselves. -/
def State.driveTxDisable (x : Nat) (s : State) : State :=
  let v : Bool := s.rd (FRM_SP_CTL_MODE x) = 0 || bitOf (s.rd (FRM_SP_STAT_LINE x)) 6
  if s.bridge.txDisable.get x = v then s
  else ({ s with bridge := { s.bridge with txDisable := s.bridge.txDisable.set x v } }).emit (.txDisable x v)

/-- SFP_SIDEBAND_CHANGE (R337): MOD_ABS, TX_FAULT, RX_LOS as the 1 µs sampling sees them, in bits 2, 1, 0. -/
def sfpSidebandChange (x : Nat) (v : BitVec 3) (s : State) : State :=
  let old := s.rd (FRM_SP_STAT_LINE x)
  let s1 := (s.setLine x 4 3 v.toNat).driveTxDisable x
  let s2 := s1.when (bitOf old 6 ≠ v.getLsbD 2) (State.ev (stationPage x) [EV_FRMSP_MODULE])
  s2.when (!bitOf old 5 && v.getLsbD 1) (State.ev (stationPage x) [EV_FRMSP_TX_FAULT])

def execSfpSidebandChange (x : Fin 2) (v : BitVec 3) (s : State) : Outcome := unitDone s (sfpSidebandChange x v s)

/-- SFP_I2C_CMD (R337): a write of FRM_SP_I2C starts a transaction of one byte. -/
def sfpI2cCmd (x : Nat) (v : Reg) (s : State) : State :=
  if !s.coreOn || s.rdB (FRM_SP_I2C_BUSY x) then s
  else
    let s1 := ((s.wr (FRM_SP_I2C_RD x) (fld v 24 1)).wr (FRM_SP_I2C_DEV x) (fld v 16 8)).wr (FRM_SP_I2C_ADDR x) (fld v 8 8)
    ((s1.wr (FRM_SP_I2C_DATA x) (fld v 0 8)).wr (FRM_SP_I2C_BUSY x) 1).emit (.i2c x (fld v 24 1 = 1) (fld v 16 8) (fld v 8 8) (fld v 0 8))

def execSfpI2cCmd (x : Fin 2) (v : Reg) (s : State) : Outcome := unitDone s (sfpI2cCmd x v s)

/-- SFP_I2C_DONE (R337): the transaction completes. -/
def sfpI2cDone (x : Nat) (nack : Bool) (data : BitVec 8) (s : State) : State :=
  if !s.rdB (FRM_SP_I2C_BUSY x) then s
  else ((s.wr (FRM_SP_I2C_BUSY x) 0).wrB (FRM_SP_I2C_NACK x) nack).when (s.rdB (FRM_SP_I2C_RD x) && !nack)
    (State.wr (FRM_SP_I2C_DATA x) data.toNat)

def execSfpI2cDone (x : Fin 2) (nack : Bool) (data : BitVec 8) (s : State) : Outcome := unitDone s (sfpI2cDone x nack data s)

/-! ## GOOSE (R339, R340) -/

/-- R339: the input records take a publication; one with simulation TRUE is dropped. (Assumption log 40, DEDUCED.) -/
def State.gooseAll (a : Arrival) (s : State) : State :=
  match a.f.body with
  | .goose g => if g.sim || !a.ok then s else s.each ((List.range 256).filter (fun r => s.gooseFits r a g)) (fun r s => s.gooseTake r a g)
  | _ => s

/-- GOOSE_FRAME_RX (R339): the oldest publication that waits for the input records. (Assumption log 40, DEDUCED.) -/
def gooseFrameRx (s : State) : State :=
  match s.bridge.forGoose with
  | [] => s
  | a :: rest =>
    ({ s with bridge := { s.bridge with forGoose := rest } }).gooseAll a

def execGooseFrameRx (s : State) : Outcome := unitDone s (gooseFrameRx s)

/-- R13, R339: a publication that a record matches waits, come by an instant. -/
def State.gooseWaits (s : State) (r t : Nat) : Bool :=
  s.bridge.forGoose.any (fun a => a.at_ ≤ t && a.ok && (match a.f.body with | .goose g => !g.sim && s.gooseFits r a g | _ => false))

/-- GOOSE_TAL_EXPIRY (R339): timeAllowedtoLive has passed; a frame at the very instant is still taken. -/
def gooseTalExpiry (r : Nat) (s : State) : State :=
  match (s.goose r).liveUntil with
  | some t => if t < s.now && bitOf (s.gooseW r 0) 31 && !bitOf (s.gooseW r 0) 30 && !s.gooseWaits r t then s.gooseLoss r else s
  | none => s

def execGooseTalExpiry (r : Fin 256) (s : State) : Outcome := unitDone s (gooseTalExpiry r s)

/-- GOOSE_RETRANSMIT (R340). -/
def gooseRetransmit (r : Nat) (s : State) : State :=
  if s.due (s.goose r).nextAt && bitOf (s.gooseW r 0) 31 then s.gooseSend r false else s

def execGooseRetransmit (r : Fin 256) (s : State) : Outcome := unitDone s (gooseRetransmit r s)

/-! ## Records (R343, R344) -/

/-- R343: KIND, INDEX and ENTRY name a record. -/
def frmIndexOk (k i e : Nat) : Bool := match k with
  | 1 => 1 ≤ i && i ≤ 4094 && e ≤ 4
  | 2 => i < 512 && e = 0
  | 3 => i < 256 && e = 0
  | 4 => i < 256 && e ≤ 1
  | 5 => i < 1024 && e ≤ 3
  | 6 => i < 512 && e = 0
  | 7 => i < 256 && e = 0
  | 8 => i < 130 && e = 0
  | _ => false

/-- R344: the bits of a record's words that are held. -/
def frmMasks (k e : Nat) : List Nat := match k with
  | 1 => [0xFFFFFFFF, 0xFFFFFFFF, 0, 0]
  | 2 => [0xFFFFFFFF, 0x8FFFFFFF, 0xFF, 0]
  | 3 => [0xFFFFFFFF, 0x8FFFFFFF, 0xFFFFFFFF, 0x3FFF]
  | 4 => if e = 0 then [0xFFFFE0FF, 0xFFFFFFFF, 0xFFFFFFFF, 0xFFFFFF00] else [0xFFFFFFFF, 0x3FFFFFFF, 0xFFFEFF7F, 0xFFFF]
  | 5 => [0xFFFFFFFF, 0xFFFFFFFF, 0xFFFFFFFF, 0xFFFFFFFF]
  | 6 => [0x800000FF, 0, 0, 0]
  | 8 => [0x8FFF7FFF, 0, 0, 0]
  | _ => [0, 0, 0, 0]

/-- FRM_READ (R343). -/
def frmRead (s : State) : State :=
  let k := s.rd FRM_SEL_KIND
  let i := s.rd FRM_SEL_INDEX
  let e := s.rd FRM_SEL_ENTRY
  if !s.coreOn || s.rdB FRM_CMD_BUSY then s
  else if !frmIndexOk k i e then s.wr FRM_CMD_STATUS 3
  else (s.wr FRM_CMD_STATUS 0).each (List.range 4) (fun w s => s.wr (FRM_DATA_WORD w) (s.frm k i e w))

def execFrmRead (s : State) : Outcome := unitDone s (frmRead s)

/-- R344: a GOOSE record may take VALID with this word 0. -/
def State.gooseOk (s : State) (i w0 w3 : Nat) : Bool :=
  let e := (s.tun (0x100 + bitsOf w0 20 8)).e
  let out := bitOf w0 30
  let t1 := s.gooseT1 i
  let t0 := s.gooseT0 i
  e.kind = 3 && (if out then e.dests.contains 20 && t1 ≠ 0 && t0 ≠ 0 && t1 ≤ t0
                 else e.inPort = 20 && !(bitsOf w3 8 8 = 0 && e.hb = 15))

/-- R426: a GOOSE or SV_AUTH record with AUTH = 1 names its slot under the world check of the writing master. -/
def State.authWorld (s : State) (k e w0 : Nat) (secure : Bool) : Bool :=
  !((k = 4 && e = 0 && bitOf w0 13) || (k = 6 && bitOf w0 31)) || s.worldOk (bitsOf w0 0 8) secure

/-- STATUS of a record write. -/
def State.frmStatus (secure : Bool) (s : State) : Nat :=
  let k := s.rd FRM_SEL_KIND
  let i := s.rd FRM_SEL_INDEX
  let e := s.rd FRM_SEL_ENTRY
  if !frmIndexOk k i e || k = 7 then 3
  else if s.locked frmPage then 1
  else if k = 4 && e = 0 && bitOf (s.rd (FRM_DATA_WORD 0)) 31 && !s.gooseOk i (s.rd (FRM_DATA_WORD 0)) (s.rd (FRM_DATA_WORD 3)) then 2
  else if !s.authWorld k e (s.rd (FRM_DATA_WORD 0)) secure then 2
  else 0

/-- R340: the publications that came before a write of a GOOSE record or of what it names meet the old one. -/
def State.gooseDrain (s : State) : State :=
  ({ s with bridge := { s.bridge with forGoose := [] } }).each s.bridge.forGoose State.gooseAll

/-- FRM_WRITE (R343, R344): a GOOSE record that changes VALID or DIR starts afresh; a static MAC replaces the dynamic entry (R333).
(Assumption log 26, DEDUCED.) -/
def State.frmWrite (secure : Bool) (s : State) : State :=
  let k := s.rd FRM_SEL_KIND
  let i := s.rd FRM_SEL_INDEX
  let e := s.rd FRM_SEL_ENTRY
  if !s.coreOn || s.rdB FRM_CMD_BUSY then s
  else
    let st := s.frmStatus secure
    let s1 := s.wr FRM_CMD_STATUS st
    if st ≠ 0 then s1.ev frmPage [EV_FRM_CFG_REJECT]
    else
      let was := bitsOf (s.frm k i e 0) 30 2
      let s2 := (s1.when (4 ≤ k && k ≤ 6) State.gooseDrain).setRecs frmPage k i e (frmMasks k e) ((List.range 4).map (fun w => s.rd (FRM_DATA_WORD w)))
      if k = 4 && e = 0 then
        if was = bitsOf (s2.frm 4 i 0 0) 30 2 then s2
        else ({ s2 with bridge := { s2.bridge with goose := s2.bridge.goose.set i GooseRun.init } }).onSink (16 + i) (fun _ => XSink.init)
      else if k = 2 && bitOf (s2.frm 2 i 0 1) 31 then
        s2.setMacs (s2.bridge.macs.filter (fun m => !(m.vid = bitsOf (s2.frm 2 i 0 1) 16 12 && m.mac = s2.recMac 2 i)))
      else s2

def execFrmWrite (s : State) : Outcome := unitDone s (s.frmWrite false)

end Sys2Proof.Machine
end

