-- ==== Sys2Proof/Machine/Tangent.lean ====
section
/-!
DEFINITION. The meanings of the commands of the tangent line and of the power over the spoke cable (R447–R487).
-/
namespace Sys2Proof.Machine

/-! ## Attach and detach (R452–R456) -/

/-- TANGENT_BAND_ENTRY (R452, R453): a contact (`t2`: T2) enters the attach band. -/
def tangentBandEntry (p : Nat) (t2 : Bool) (s : State) : State :=
  if s.ps p = PS_UNATTACHED then
    (s.wr (TAN_PORT_STAT_PSTATE p) PS_ATTACH_WAIT).onTan p (fun x => { x with
      ip := s.presentsIp p, contact := t2, bandAt := s.now, toggleAt := none })
  else s

def execTangentBandEntry (p : Fin 18) (t2 : Bool) (s : State) : Outcome := dieDone s (tangentBandEntry p t2 s)

/-- TANGENT_BAND_EXIT (R453): the band is left during ATTACH_WAIT; a ROLE of 0b11 takes effect in UNATTACHED. -/
def tangentBandExit (p : Nat) (s : State) : State :=
  if s.ps p = PS_ATTACH_WAIT then s.wr (TAN_PORT_STAT_PSTATE p) (if s.rd (TAN_PORT_CTL_ROLE p) = 3 then PS_DISABLED else PS_UNATTACHED) else s

def execTangentBandExit (p : Fin 18) (s : State) : Outcome := dieDone s (tangentBandExit p s)

/-- DRP_TOGGLE (R452): an unattached dual-role port changes its presentation. -/
def drpToggle (p : Nat) (s : State) : State :=
  let x := s.tan p
  if s.ps p = PS_UNATTACHED && s.rd (TAN_PORT_CTL_ROLE p) = 2 && s.feedPg && x.toggleAt.all (fun t => t ≤ s.now) then
    (s.onTan p (fun x => { x with ip := !x.ip })).drawToggle p
  else s

def execDrpToggle (p : Fin 18) (s : State) : Outcome := dieDone s (drpToggle p s)

/-- R74: the cable class of an identification resistor in ohms. (Assumption log 56, DEDUCED.) -/
def cableClass (ohms : Nat) : Nat :=
  let near (r : Nat) : Bool := r * 9 ≤ ohms * 10 && ohms * 10 ≤ r * 11
  if near 4990 then 1 else if near 10000 then 2 else if near 20000 then 3 else if near 40200 then 4 else if near 80600 then 5 else 7

/-- ATTACH_DEBOUNCE (R453, R454): the band has held for 10 ms; orientation and class are recorded; a source turns the auxiliary rail
on, and its first HELLO is due 25 ms after the attach (R465); without a power-good feed the port that attaches as sink is the powering port
(R478). -/
def attachDebounce (p ohms : Nat) (s : State) : State :=
  let x := s.tan p
  if s.ps p ≠ PS_ATTACH_WAIT || s.now < x.bandAt + ms 10 then s
  else
    let src := x.ip
    let c := cableClass ohms
    let s1 := (((s.wr (TAN_PORT_STAT_PSTATE p) (if src then PS_SRC else PS_SNK)).wr (TAN_PORT_STAT_CSTATE p) CS_HELLO).wrB
      (TAN_PORT_STAT_ORIENT p) x.contact).wr (TAN_PORT_STAT_CABLE p) c
    let s2 := ((s1.wr (TAN_PORT_STAT_AUX_ON p) 1).wrB (TAN_PORT_STAT_MAIN_SRC p) src).wr (TAN_PARTNER_VALID p) 0
    let s3 := s2.onTan p (fun x => {
      ip := x.ip, contact := x.contact, faults := x.faults, attSrc := src,
      phase := 1, auxBy := s.now + ms 5, helloAt := if src then some (s.now + ms 25) else none })
    let s3 := s3.when src (State.railOn p false)
    let s4 := if s.coreOn then (s3.wr (LANE_STAT_CABLE p) c).when (c = 7) (State.ev (lanePage p) [EV_LANE_CABLE_UNKNOWN])
      else { s3 with pd := { s3.pd with classes := s3.pd.classes.filter (· ≠ p) ++ [p] } }
    let s5 := if !src && !s.feedPg && !s.rdB TAN_STAT_DB_ACTIVE then (s4.wr TAN_STAT_DB_ACTIVE 1).wr TAN_STAT_DB_PORT p else s4
    (s5.ev (tanPage p) [EV_TAN_ATTACH]).life (portLife p 0)

def execAttachDebounce (p : Fin 18) (ohms : Nat) (s : State) : Outcome := dieDone s (attachDebounce p ohms s)

/-- DETACH (R456, R479): outside a rail transition the port enters GUARD; after a HARD_RESET of the partner it is the fault that the
partner signals. (Assumption log 56, DEDUCED.) -/
def tanDetach (p : Nat) (s : State) : State :=
  if !s.joined p then s
  else if s.cs p = CS_HARD_RESET && (s.tan p).resetRcvd then s.tanFault p true
  else s.leavePort p PS_GUARD (some (s.now + ms 100))

def execDetach (p : Fin 18) (s : State) : Outcome := dieDone s (tanDetach p s)

/-- GUARD_EXPIRY (R453). -/
def guardExpiry (p : Nat) (s : State) : State :=
  if s.ps p = PS_GUARD && s.due (s.tan p).waitBy then s.enterUnattached p else s

def execGuardExpiry (p : Fin 18) (s : State) : Outcome := dieDone s (guardExpiry p s)

/-! ## Sending (R460, R461) -/

/-- What the sending of a message does: OFFER opens the negotiation, READY puts the contract into force (R464, R470). -/
def State.tanSent (p : Nat) (m : TanMsg) (s : State) : State :=
  let x := s.tan p
  if m.type = 3 then
    (s.wr (TAN_PORT_STAT_CSTATE p) CS_NEGOTIATE).onTan p (fun x => { x with offerI := s.offerImax p, offerP := s.offerPmax p, swapBy := none })
  else if m.type = 7 then
    if m.arg = 1 then
      let s1 := ((s.wr (TAN_PORT_STAT_MAIN_ON p) 1).wr (TAN_CONTRACT_I_C p) x.reqI).wr (TAN_CONTRACT_P_C p) x.reqP
      if s.cs p = CS_CONTRACT then (s1.noteSrc.onTan p (fun x => { x with granted := false })).reoffer else (s1.enterContract p).reoffer
    else if x.swapping then ((s.voidContract p).wr (TAN_PORT_STAT_MAIN_SRC p) 0).noteSrc.onTan p (fun x => { x with phase := 0 })
    else ((s.voidContract p).enterContract p).reoffer
  else s

/-- TAN_MSG_SEND (R460, R461): the first waiting message is sent, unless the line collides. -/
def tanMsgSend (p : Nat) (collide : Bool) (s : State) : State :=
  let x := s.tan p
  match x.queue with
  | [] => s
  | m0 :: rest =>
    if !s.joined p || x.out.isSome || (x.phase ≠ 0 && x.phase ≠ 1 && m0.type ≠ 7) then s
    else if collide then s.bump (TAN_MSG_COLLISION p)
    else
      let m : TanMsg := if m0.type = 3 then { m0 with data := [s.offerWord p] } else m0
      let s1 := s.emit (.tangent p (withCrc (s.tanHeader p m x.msgId :: m.data)))
      let s2 := s1.onTan p (fun x => { x with queue := rest, out := some { m := m, id := x.msgId, sends := 1, sentAt := s.now } })
      s2.tanSent p m

def execTanMsgSend (p : Fin 18) (collide : Bool) (s : State) : Outcome := dieDone s (tanMsgSend p collide s)

/-- R464, R470, R474: what the hub does as source when its ACCEPT has been acknowledged. (Assumption log 55, DEDUCED.) -/
def State.acceptTaken (p : Nat) (s : State) : State :=
  let x := s.tan p
  let on := s.rdB (TAN_PORT_STAT_MAIN_ON p)
  if x.swapping && s.cs p = CS_CONTRACT then
    let s1 := (s.wr (TAN_PORT_STAT_CSTATE p) CS_SWAP).emit (.rail p true false)
    if s.mainSrc p then s1.onTan p (fun x => { x with phase := PH_SWAP_OFF })
    else s1.onTan p (fun x => { x with swapBy := some (s.now + ms 60) })
  else if x.reqI ≠ 0 && !on then
    ((s.wr (TAN_PORT_STAT_CSTATE p) CS_TRANSITION).railOn p true).onTan p (fun x => { x with phase := PH_RAMP })
  else if x.reqI = 0 && on then
    ((s.wr (TAN_PORT_STAT_CSTATE p) CS_TRANSITION).emit (.rail p true false)).onTan p (fun x => { x with phase := PH_OFF })
  else if on then ((s.enterContract p).onTan p (fun y => { y with granted := x.granted })).tanPut p { type := 7, arg := 1 }
  else (s.enterContract p).reoffer

/-- TAN_ACK_RX (R460): an ACK with the MSG_ID of the outstanding message. -/
def tanAckRx (p : Nat) (id : Nat) (s : State) : State :=
  match (s.tan p).out with
  | none => s
  | some o =>
    if o.id ≠ id || o.ackAt.isSome then s
    else
      let s1 := s.onTan p (fun x => { x with msgId := (x.msgId + 1) % 8 })
      if (o.m.type = 2 && (s.tan p).attSrc) || o.m.type = 3 || o.m.type = 4 then
        s1.onTan p (fun x => { x with out := some { o with ackAt := some s.now } })
      else
        let s2 := s1.onTan p (fun x => { x with out := none })
        if o.m.type = 5 then s2.acceptTaken p
        else if o.m.type = 7 && o.m.arg = 0 && (s.tan p).swapping then s2.onTan p (fun x => { x with swapBy := some (s.now + ms 10) })
        else s2

def execTanAckRx (p : Fin 18) (id : Fin 8) (s : State) : Outcome := dieDone s (tanAckRx p id s)

/-- TAN_RESEND_TIMEOUT (R460): resent at most twice, then MSG_FAIL and HARD_RESET. -/
def tanResendTimeout (p : Nat) (s : State) : State :=
  match (s.tan p).out with
  | none => s
  | some o =>
    if o.ackAt.isSome || !s.cycleOver (some (o.sentAt + tanNs o.m.data.length + us 600)) then s
    else if o.sends < 3 then
      ((s.emit (.tangent p (withCrc (s.tanHeader p o.m o.id :: o.m.data)))).bump (TAN_MSG_RETRY p)).onTan p (fun x => { x with
        out := some { o with sends := o.sends + 1, sentAt := s.now } })
    else ((s.bump (TAN_MSG_FAIL p)).ev (tanPage p) [EV_TAN_MSG_FAIL]).sendHardReset p

def execTanResendTimeout (p : Fin 18) (s : State) : Outcome := dieDone s (tanResendTimeout p s)

/-- TAN_REPLY_TIMEOUT (R463): no reply 10 ms after the ACK; a HELLO waits as R465 states. -/
def tanReplyTimeout (p : Nat) (s : State) : State :=
  match (s.tan p).out with
  | none => s
  | some o => if o.m.type ≠ 2 && s.cycleOver (o.ackAt.map (· + ms 10)) then s.sendHardReset p else s

def execTanReplyTimeout (p : Fin 18) (s : State) : Outcome := dieDone s (tanReplyTimeout p s)

/-! ## HELLO (R465) -/

/-- HELLO_SEND (R465): the main source sends HELLO, up to three times 100 ms apart; without a reply to the third the port enters
AUX_ONLY with no version. (Assumption log 55, DEDUCED.) -/
def helloSend (p : Nat) (s : State) : State :=
  let x := s.tan p
  if s.joined p && s.cs p = CS_HELLO && s.mainSrc p && s.due x.helloAt then
    if x.hellos < 3 then
      (s.onTan p (fun x => { x with
        out := none, phase := 0, hellos := x.hellos + 1, helloAt := some (s.now + ms 100), mySwap := s.rdB (TAN_PORT_CTL_SWAP_EN p) })).tanPut p
        { type := 2, arg := s.helloArg p }
    else if !s.cycleOver x.helloAt then s
    else (s.wr (TAN_PORT_STAT_VER_MINOR p) 15).enterAuxOnly p
  else s

def execHelloSend (p : Fin 18) (s : State) : Outcome := dieDone s (helloSend p s)

/-- R462, R465: a HELLO: the common version is settled, the source offers, the sink answers. -/
def State.onHello (p arg : Nat) (s : State) : State :=
  let src := s.mainSrc p
  if s.cs p ≠ CS_HELLO || (src && (s.tan p).hellos = 0) then s.sendHardReset p
  else
    let s1 := (((s.wr (TAN_PARTNER_VALID p) 1).wr (TAN_PARTNER_ARG p) arg).answered p).onTan p (fun x => { x with helloAt := none, phase := 0 })
    let s2 := match commonMinor arg with
      | none => (s1.wr (TAN_PORT_STAT_VER_MINOR p) 15).enterAuxOnly p
      | some v => (s1.wr (TAN_PORT_STAT_VER_MINOR p) v).when src (State.putOffer p)
    if src then s2
    else (s2.onTan p (fun x => { x with mySwap := s.rdB (TAN_PORT_CTL_SWAP_EN p) })).tanPut p { type := 2, arg := s.helloArg p }

/-- HELLO_RX (R465). -/
def execHelloRx (p : Fin 18) (msg : List Word) (bad : Bool) (s : State) : Outcome :=
  dieDone s (s.tanReceive p 2 msg bad (fun arg _ => State.onHello p arg))

/-! ## Negotiation (R466–R469) -/

/-- R466, R478: as main sink the hub requests TAN_SINK capped at the offer, with SINK_EN; while no feed is power-good, all that the
powering port is offered with strap DBS, and nothing elsewhere. -/
def State.wantedPower (s : State) (p imax pmax : Nat) : Nat × Nat :=
  if !s.feedPg then
    if s.rdB TAN_STAT_DB_ACTIVE && s.rd TAN_STAT_DB_PORT = p && bitOf (s.rd CHIP_STRAP_STRAPS) 0 then (imax, pmax) else (0, 0)
  else if s.rdB (TAN_PORT_CTL_SINK_EN p) then (min imax (s.rd (TAN_SINK_I_REQ p)), min pmax (s.rd (TAN_SINK_P_REQ p))) else (0, 0)

/-- OFFER_RX (R466). -/
def State.onOffer (p : Nat) (w : Word) (s : State) : State :=
  let c := s.cs p
  if s.mainSrc p || !(c = CS_HELLO || c = CS_NEGOTIATE || c = CS_CONTRACT || c = CS_SWAP) || !s.rdB (TAN_PARTNER_VALID p) then s.sendHardReset p
  else
    let r := s.wantedPower p (fld w 12 8) (fld w 4 8)
    let s1 := ((s.answered p).wr (TAN_PORT_STAT_CSTATE p) CS_NEGOTIATE).onTan p (fun x => { x with
      offerI := fld w 12 8, offerP := fld w 4 8, reqI := r.1, reqP := r.2, swapBy := none })
    s1.tanPut p { type := 4, data := [pack [(32, 8, r.1), (24, 8, r.2)]] }

def execOfferRx (p : Fin 18) (msg : List Word) (bad : Bool) (s : State) : Outcome :=
  dieDone s (s.tanReceive p 3 msg bad (fun _ w => State.onOffer p w))

/-- R468: the cause of a REJECT of a REQUEST for i and w; 0 where it is accepted. -/
def State.requestRefusal (s : State) (p i w : Nat) : Nat :=
  let x := s.tan p
  if i ≤ s.rd (TAN_CONTRACT_I_C p) && w ≤ s.rd (TAN_CONTRACT_P_C p) then 0
  else if x.offerI < i || x.offerP < w then 3
  else if s.budget < s.srcPower p + w then 1
  else if s.rdB FEED_STAT_WARN then 2
  else 0

/-- REQUEST_RX (R468): ACCEPT, or REJECT; after BUDGET or FEED a new OFFER follows (R464). -/
def State.onRequest (p : Nat) (w : Word) (s : State) : State :=
  let i := fld w 32 8
  let pw := fld w 24 8
  if s.cs p ≠ CS_NEGOTIATE || !s.mainSrc p then s.sendHardReset p
  else
    let s1 := s.answered p
    match s1.requestRefusal p i pw with
    | 0 => (s1.onTan p (fun x => { x with reqI := i, reqP := pw, granted := true, grantAt := s.now })).tanPut p { type := 5 }
    | 1 => ((s1.tanPut p { type := 6, arg := 1 }).putOffer p).ev tangPage [EV_TANG_BUDGET_REJECT]
    | 2 => ((s1.tanPut p { type := 6, arg := 2 }).putOffer p).ev tangPage [EV_TANG_FEED_REJECT]
    | c => s1.tanPut p { type := 6, arg := c }

def execRequestRx (p : Fin 18) (msg : List Word) (bad : Bool) (s : State) : Outcome :=
  dieDone s (s.tanReceive p 4 msg bad (fun _ w => State.onRequest p w))

/-- ACCEPT_RX (R469, R470): the hub as main sink: the main rail comes, goes or changes its limits; READY is overdue 40 ms after the
ACCEPT's ACK while the rail ramps. -/
def State.onAccept (p : Nat) (s : State) : State :=
  let x := s.tan p
  let on := s.rdB (TAN_PORT_STAT_MAIN_ON p)
  if s.cs p ≠ CS_NEGOTIATE || s.mainSrc p || !s.awaiting p 4 then s.sendHardReset p
  else
    let s1 := s.answered p
    if x.reqI ≠ 0 && !on then
      (s1.wr (TAN_PORT_STAT_CSTATE p) CS_TRANSITION).onTan p (fun x => { x with
        phase := PH_RAMP, readyBy := some (s.now + us 100 + tanNs 0 + ms 40) })
    else if x.reqI = 0 && on then (s1.wr (TAN_PORT_STAT_CSTATE p) CS_TRANSITION).onTan p (fun x => { x with phase := PH_OFF })
    else if on then (s1.enterContract p).onTan p (fun x => { x with granted := true })
    else s1.enterContract p

def execAcceptRx (p : Fin 18) (msg : List Word) (bad : Bool) (s : State) : Outcome :=
  dieDone s (s.tanReceive p 5 msg bad (fun _ _ => State.onAccept p))

/-- TAN_REJECT_RX (R464): after BUDGET or FEED the hub waits for the new OFFER; otherwise the negotiation ends. (Assumption log 55, DEDUCED.) -/
def State.onReject (p cause : Nat) (s : State) : State :=
  if (s.tan p).out.isNone then s.sendHardReset p
  else
    let s1 := s.answered p
    if s.cs p = CS_NEGOTIATE && cause ≠ 1 && cause ≠ 2 && s.rdB (TAN_PORT_STAT_MAIN_ON p) then s1.wr (TAN_PORT_STAT_CSTATE p) CS_CONTRACT
    else s1

def execTanRejectRx (p : Fin 18) (msg : List Word) (bad : Bool) (s : State) : Outcome :=
  dieDone s (s.tanReceive p 6 msg bad (fun arg _ => State.onReject p (arg % 16)))

/-- READY_RX (R469, R470, R474): the contract comes into force, ends, or the swap goes on. (Assumption log 55, DEDUCED.) -/
def State.onReady (p : Nat) (on : Bool) (s : State) : State :=
  let x := s.tan p
  if s.mainSrc p then s.sendHardReset p
  else if s.cs p = CS_TRANSITION && x.phase = PH_RAMP && on then
    let s1 := (((s.emit (.rail p true true)).wr (TAN_PORT_STAT_MAIN_ON p) 1).wr (TAN_CONTRACT_I_C p) x.reqI).wr (TAN_CONTRACT_P_C p) x.reqP
    let s2 := { s1 with pd := { s1.pd with warn := { s1.pd.warn with armed := true } } }
    s2.enterContract p
  else if s.cs p = CS_TRANSITION && x.phase = PH_OFF && !on then (s.voidContract p).enterContract p
  else if s.cs p = CS_CONTRACT && x.granted && on then
    ((s.wr (TAN_CONTRACT_I_C p) x.reqI).wr (TAN_CONTRACT_P_C p) x.reqP).onTan p (fun x => { x with granted := false })
  else if s.cs p = CS_SWAP && x.swapping && !on then
    (((s.voidContract p).wr (TAN_PORT_STAT_MAIN_SRC p) 1).onTan p (fun x => { x with swapBy := none })).putOffer p
  else s.sendHardReset p

def execReadyRx (p : Fin 18) (msg : List Word) (bad : Bool) (s : State) : Outcome :=
  dieDone s (s.tanReceive p 7 msg bad (fun arg _ => State.onReady p (bitOf arg 0)))

/-- PR_SWAP_RX (R32, R462, R473): without protocol 1.1 and SWAP in both HELLOs it is unsupported, in whatever state. (Assumption log 55, DEDUCED.) -/
def State.onSwap (p : Nat) (s : State) : State :=
  if !s.swapCommon p then s.tanUnsupported p
  else if s.cs p ≠ CS_CONTRACT then s.sendHardReset p
  else if s.rdB (TAN_PORT_CTL_SWAP_EN p) && (if s.mainSrc p then s.rdB (TAN_PORT_CTL_SINK_EN p) else s.offerImax p ≠ 0) then
    (s.onTan p (fun x => { x with swapping := true })).tanPut p { type := 5 }
  else s.tanPut p { type := 6, arg := 6 }

def execPrSwapRx (p : Fin 18) (msg : List Word) (bad : Bool) (s : State) : Outcome :=
  dieDone s (s.tanReceive p 8 msg bad (fun _ _ => State.onSwap p))

/-- GET_OFFER_RX (R467). -/
def State.onGetOffer (p : Nat) (s : State) : State :=
  if s.cs p = CS_CONTRACT && s.mainSrc p then (s.wr (TAN_PORT_STAT_CSTATE p) CS_NEGOTIATE).putOffer p else s.sendHardReset p

def execGetOfferRx (p : Fin 18) (msg : List Word) (bad : Bool) (s : State) : Outcome :=
  dieDone s (s.tanReceive p 9 msg bad (fun _ _ => State.onGetOffer p))

/-- HARD_RESET_RX (R475). -/
def execHardResetRx (p : Fin 18) (s : State) : Outcome := dieDone s (s.hardReset p true false)

/-! ## Transitions and bounds (R470, R472, R474) -/

/-- MAIN_RAMP_DONE (R470): the main rail (`v`, 0.1 V) has settled; READY MAIN_ON = 1 follows. -/
def mainRampDone (p v : Nat) (s : State) : State :=
  if s.joined p && s.mainSrc p && (s.tan p).phase = PH_RAMP then
    ((s.wr (TAN_MEAS_V p) v).onTan p (fun x => { x with phase := PH_SETTLE })).tanPut p { type := 7, arg := 1 }
  else s

def execMainRampDone (p : Fin 18) (v : BitVec 10) (s : State) : Outcome := dieDone s (mainRampDone p v.toNat s)

/-- MAIN_OFF_DONE (R470, R474): the main rail (`v`, 0.1 V) has discharged below 5 V; READY MAIN_ON = 0 follows but under a hard reset. -/
def mainOffDone (p v : Nat) (s : State) : State :=
  let ph := (s.tan p).phase
  let s1 := s.wr (TAN_MEAS_V p) v
  if 50 ≤ v then s1
  else if s.joined p && s.mainSrc p && (ph = PH_OFF || ph = PH_SWAP_OFF) then s1.tanPut p { type := 7, arg := 0 }
  else if ph = PH_RESET_OFF then s1.onTan p (fun x => { x with phase := 0 })
  else s1

def execMainOffDone (p : Fin 18) (v : BitVec 10) (s : State) : Outcome := dieDone s (mainOffDone p v.toNat s)

/-- READY_TIMEOUT (R470). -/
def readyTimeout (p : Nat) (s : State) : State := if s.cycleOver (s.tan p).readyBy then s.sendHardReset p else s

def execReadyTimeout (p : Fin 18) (s : State) : Outcome := dieDone s (readyTimeout p s)

/-- SWAP_TIMEOUT (R474, R476). -/
def swapTimeout (p : Nat) (s : State) : State := if s.cycleOver (s.tan p).swapBy then s.sendHardReset p else s

def execSwapTimeout (p : Fin 18) (s : State) : Outcome := dieDone s (swapTimeout p s)

/-- HARD_RESET_EXPIRY (R464): 100 ms after the hard reset the contract machine returns to HELLO. -/
def hardResetExpiry (p : Nat) (s : State) : State :=
  if s.cs p = CS_HARD_RESET && s.due (s.tan p).waitBy then
    (s.wr (TAN_PORT_STAT_CSTATE p) CS_HELLO).onTan p (fun x => { x with
      waitBy := none, phase := 0, resetRcvd := false, helloAt := if x.attSrc then some s.now else none })
  else s

def execHardResetExpiry (p : Fin 18) (s : State) : Outcome := dieDone s (hardResetExpiry p s)

/-- TRANSITION_LOSS (R472); the phase AUX_ON ends 5 ms after the attach (R470). -/
def transitionLoss (p : Nat) (s : State) : State :=
  let ph := (s.tan p).phase
  if s.joined p && ph ≠ 0 && (ph ≠ 1 || s.now ≤ (s.tan p).auxBy) then
    (((s.wr (TAN_PORT_STAT_LAST_PHASE p) ph).bump (TAN_FAULTS_TRANSITION_LOSS p)).life (portLife p 3)).ev (tanPage p) [EV_TAN_TRANSITION_LOSS]
      |>.leavePort p PS_GUARD (some (s.now + ms 100))
  else s

def execTransitionLoss (p : Fin 18) (s : State) : Outcome := dieDone s (transitionLoss p s)

/-! ## Faults (R471, R479, R480) -/

/-- R471: a limit of a rail that is on has been held past its fault time; a fault in the ambient cycle of a detach prevails (R479). -/
def State.railTrips (s : State) (p : Nat) (main : Bool) : Bool :=
  (s.ps p = PS_GUARD && (s.tan p).leftAt / 40 = s.now / 40) ||
  (if main then s.joined p && s.mainSrc p && (s.rdB (TAN_PORT_STAT_MAIN_ON p) || (s.tan p).phase = PH_RAMP || (s.tan p).phase = PH_SETTLE)
   else s.ps p = PS_SRC && s.rdB (TAN_PORT_STAT_AUX_ON p))

/-- RAIL_FAULT (R471): a breaker or reverse-current limit of a sourced rail. -/
def railFault (p : Nat) (main : Bool) (s : State) : State := if s.railTrips p main then s.tanFault p main else s

def execRailFault (p : Fin 18) (main : Bool) (s : State) : Outcome := dieDone s (railFault p main s)

/-- PORT_FAST_TRIP (R471): the current of a sourced rail, in mA, lies above its fast-trip level: 1.0 A, or 2 × I_C, during the
ramp that of the REQUEST. -/
def portFastTrip (p : Nat) (main : Bool) (i : Nat) (s : State) : State :=
  let level := if main then 20 * (if s.rdB (TAN_PORT_STAT_MAIN_ON p) then s.rd (TAN_CONTRACT_I_C p) else (s.tan p).reqI) else 1000
  let s1 := if main then s.wr (TAN_MEAS_I p) (min i 4095) else s
  if s.railTrips p main && level < i then s1.tanFault p main else s1

def execPortFastTrip (p : Fin 18) (main : Bool) (i : Nat) (s : State) : Outcome := dieDone s (portFastTrip p main i s)

/-- CONTACT_SHORT (R451, R479): a contact under Ip has been shorted for 1 ms. (Assumption log 56, DEDUCED.) -/
def contactShort (p : Nat) (s : State) : State :=
  let ps := s.ps p
  if (ps = PS_UNATTACHED && s.presentsIp p) || (ps = PS_ATTACH_WAIT && (s.tan p).ip) || ps = PS_SRC then s.tanFault p false else s

def execContactShort (p : Fin 18) (s : State) : Outcome := dieDone s (contactShort p s)

/-- FAULT_RETRY_EXPIRY (R479). -/
def faultRetryExpiry (p : Nat) (s : State) : State :=
  if s.ps p = PS_FAULT_WAIT && s.due (s.tan p).waitBy then s.enterUnattached p else s

def execFaultRetryExpiry (p : Fin 18) (s : State) : Outcome := dieDone s (faultRetryExpiry p s)

/-! ## Commands of TAN_PORT_CTL (R484) -/

/-- TAN_HARD_RESET_CMD (R475, R484): with AUX_ONLY in force it leads back to HELLO (R464). -/
def execTanHardResetCmd (p : Fin 18) (s : State) : Outcome :=
  dieDone s (if s.coreOn then s.hardReset p false (s.cs p = CS_AUX_ONLY) else s)

/-- CLEAR_FAULT (R480, R484). -/
def clearFault (p : Nat) (s : State) : State :=
  if s.coreOn && s.ps p = PS_LATCHED then (s.onTan p (fun x => { x with faults := 0 })).enterUnattached p else s

def execClearFault (p : Fin 18) (s : State) : Outcome := dieDone s (clearFault p s)

/-- REOFFER (R467, R484): ignored unless the hub is main source in CONTRACT. -/
def reofferCmd (p : Nat) (s : State) : State :=
  if s.coreOn && s.joined p && s.cs p = CS_CONTRACT && s.mainSrc p then s.putOffer p else s

def execReoffer (p : Fin 18) (s : State) : Outcome := dieDone s (reofferCmd p s)

/-- TAN_PORT_ENABLE (R453, R484): a write of ENABLE and ROLE under the page's LOCK; ROLE takes effect in UNATTACHED. (Assumption log 56, DEDUCED.) -/
def tanPortEnable (p : Nat) (en : Bool) (role : Nat) (s : State) : State :=
  if !s.coreOn || s.locked (tanPage p) then s
  else
    let s1 := (s.wrB (TAN_PORT_CTL_ENABLE p) en).wr (TAN_PORT_CTL_ROLE p) role
    if (!en && s.ps p ≤ PS_SNK) || (role = 3 && s.ps p = PS_UNATTACHED) then s1.leavePort p PS_DISABLED none
    else if s.ps p = PS_DISABLED then s1.enterUnattached p
    else s1

def execTanPortEnable (p : Fin 18) (en : Bool) (role : BitVec 2) (s : State) : Outcome := dieDone s (tanPortEnable p en role.toNat s)

end Sys2Proof.Machine
end

