-- ==== Sys2Proof/Machine/TxOps.lean ====
section
/-!
DEFINITION. The lane transmitters (R37, R39–R49, R54, R56, R61, R68, R70): one code group on each lane of a sending port every 2 ns.
-/
namespace Sys2Proof.Machine

/-- Change the transmitter of a port. -/
def State.onTx (p : Nat) (f : LaneTx → LaneTx) (s : State) : State := s.onLane p (fun l => { l with tx := f l.tx })

/-- R44, R45: what the hub has handed to a port waits for its slots: stream words and the words of flits in order, parallel words, express
words.  TRAIN and ALIGN words are not kept: the port forms them in their slots. (Assumption log 29, DEDUCED.) -/
def State.takeEmit (e : Emit) (s : State) : State :=
  match e with
  | .word p lane w =>
    if fld w 34 6 = 0x02 || fld w 34 6 = 0x08 then s
    else if lane = 0 then s.onTx p (fun x => { x with half := some w })
    else if lane = 1 then s.onTx p (fun x => { x with par := x.par ++ [(x.half.getD w, w)], half := none })
    else if lane = 2 then s.onTx p (fun x => { x with par := x.par ++ [(w, w)] })
    else if s.active p then s.onTx p (fun x => { x with stream := x.stream ++ [(false, w)] })
    else s
  | .flit p ws => if s.active p then s.onTx p (fun x => { x with stream := x.stream ++ ws.map (fun w => (true, w)) }) else s
  | .express p ws => if s.active p then s.onTx p (fun x => { x with express := x.express ++ ws }) else s
  | _ => s

/-- The transmitters take what has been handed to them since the last nanosecond. -/
def State.takeOut (s : State) : State :=
  let n := s.out.length
  { s.each (s.out.drop s.taken) State.takeEmit with taken := n }

/-- R39, R41: send a code group on a lane, scrambled or not; the generator advances only over scrambled code groups. -/
def State.sendGroup (p : Nat) (laneB scrambled : Bool) (hdr : Nat) (w : Word) (s : State) : State :=
  let g := codeGroup hdr w
  if scrambled then
    let x := (s.lane p).tx
    let r := scramble (if laneB then x.lfsrB else x.lfsrA) (fld g 0 44)
    (s.onTx p (fun x => if laneB then { x with lfsrB := r.2 } else { x with lfsrA := r.2 })).emit
      (.group p laneB (BitVec.ofNat 46 (hdr * 2 ^ 44 + r.1)))
  else s.emit (.group p laneB g)

/-- Send a code group on each lane. -/
def State.sendSlot (p : Nat) (scrambled : Bool) (a b : Nat × Word) (s : State) : State :=
  (s.sendGroup p false scrambled a.1 a.2).sendGroup p true scrambled b.1 b.2

/-- R49, R54, R56: a slot of a training block: in the first of 16 a TRAIN word, from the ALIGN phase on by turns ALIGN and TRAIN, then LAST;
in the others 44 bits of the pattern generator.  After LAST the generators hold their seeds. -/
def State.trainGroup (p : Nat) (s0 : State) : State :=
  let l := s0.lane p
  let aligning := l.phase = .align || l.phase = .rtAlign || l.lastAt.isSome
  let s := if l.lastAt.isSome then s0 else s0.onTx p (fun x => { x with express := [], par := [], half := none, stream := [] })
  if (s.now - l.since) / 2 % 16 ≠ 0 then
    let r := scramble l.pattern 0
    let g := BitVec.ofNat 46 (2 * 2 ^ 44 + r.1)
    ((s.onLane p (fun l => { l with pattern := r.2 })).emit (.group p false g)).emit (.group p true g)
  else if l.lastAt = some s.now then
    (s.sendSlot p false (1, alignWord l false true l.seedA) (1, alignWord l true true l.seedB)).onTx p (fun x => { x with
      lfsrA := BitVec.ofNat 31 l.seedA, lfsrB := BitVec.ofNat 31 l.seedB })
  else if aligning && l.alignAt ≤ s.now && (s.now - l.alignAt) % 64 = 0 then
    s.sendSlot p false (1, alignWord l false false l.seedA) (1, alignWord l true false l.seedB)
  else s.sendSlot p false (1, trainWord l false l.reqPreset l.reqPre l.reqPost) (1, trainWord l true l.reqPreset l.reqPre l.reqPost)

/-- R44, R45, R68, R70: a slot outside training: an express word before a parallel word before stream words, A then B, with IDLE where none
waits; a resting port sends what is left of its parallel words, and IDLE after its WAKE words, which are not scrambled. -/
def State.wordGroup (p : Nat) (s : State) : State :=
  let l := s.lane p
  let x := l.tx
  let opens := s.active p || l.phase = .config || l.lastSent && (l.phase = .align || l.phase = .rtAlign) || (s.ls p = LS_DOZE && l.waking)
  let ends := s.ls p = LS_DOZE || s.ls p = LS_NAP || s.ls p = LS_DORMANT
  if !opens && !ends then s
  else match x.express, x.par with
  | w :: rest, _ => (s.onTx p (fun x => { x with express := rest })).sendSlot p true (3, w) (3, w)
  | [], (a, b) :: rest => (s.onTx p (fun x => { x with par := rest })).sendSlot p (fld a 34 6 ≠ 0x0A) (1, a) (1, b)
  | [], [] =>
    if opens then
      let at_ (i : Nat) : Nat × Word := match x.stream[i]? with | some (d, w) => (if d then 2 else 1, w) | none => (1, 0)
      (s.onTx p (fun x => { x with stream := x.stream.drop 2 })).sendSlot p true (at_ 0) (at_ 1)
    else s

/-- R61: in CONFIG the hub sends its set again as soon as the last one has gone; a set with SEEN = 1 completes a CONFIG whose END with
SEEN = 1 has come (R64). -/
def State.capsAgain (p : Nat) (s : State) : State :=
  let l := s.lane p
  if l.phase = .config && l.tx.par = [] && l.lastAt.all (· < s.now) then
    let s1 := s.sendCaps p (l.caps ≠ [] && s.maySee p)
    if l.caps ≠ [] && l.seenRcvd && (s1.lane p).seenSent then s1.configComplete p else s1
  else s

/-- R37: a port's code-group slot, every 2 ns from the start of its last attempt. -/
def State.txGroup (p : Nat) (s : State) : State :=
  let l := s.lane p
  let trains := !l.lastSent && (l.phase = .lock || l.phase = .equalise || l.phase = .align || l.phase = .rtLock || l.phase = .rtEqualise ||
    l.phase = .rtAlign) || l.lastAt.any (fun t => s.now ≤ t)
  if (s.now - l.since) % 2 ≠ 0 then s
  else if trains then s.trainGroup p
  else s.wordGroup p

/-- The lane transmitters in one nanosecond. -/
def State.laneNano (s : State) : State :=
  let s1 := (s.each (List.range 18) State.capsAgain).takeOut
  s1.each (List.range 18) State.txGroup

end Sys2Proof.Machine
end

