-- ==== Sys2Proof/Machine/TickOps.lean ====
section
/-!
DEFINITION. What a lattice tick drives (R208, R221, R279, R311, R314, R321), the pin outputs (R217, R218), and what happens as time
passes.
-/
namespace Sys2Proof.Machine

/-! ## Snapshots (R221, R222) -/

/-- Every page of the hub. (Assumption log 24, DESIGN CHOICE.) -/
def allPages : List Nat := (pageMap.flatMap (fun r => (List.range r.2.2.1).map (· + r.2.1)))

/-- R221: the words of the node's own record: full time with its fraction, θ and state, event counts, MSN_OUT and MSN_IN of every OPEN tunnel (its form is
the model's: assumption log 24, DESIGN CHOICE). -/
def State.snapWords (s : State) : List Word :=
  [pack [(0, 40, s.datum.sec / 256)], pack [(32, 8, s.datum.sec), (0, 30, s.datum.ns)], pack [(0, 16, s.datum.frac)],
   pack [(8, 32, unsignedOf 32 s.datum.theta), (0, 2, s.datState)]] ++
  allPages.map (fun g => pack [(0, 32, (s.pages.get g).count.toNat)]) ++
  (s.tunIds.filter (fun t => (s.tun t).e.state = .opened)).flatMap (fun t =>
    [pack [(24, 12, t), (0, 24, (s.tun t).e.msnOut)], pack [(0, 24, (s.tun t).e.msnIn)]])

/-- Nodes of a snapshot: hub h, or 128 + dock. (Assumption log 22, DEDUCED.) -/
def dockNode (d : Nat) : Nat := 128 + d

/-- R221: the nodes whose records come to this hub: docks of its own ports, and on the root each leaf with the docks of its ports. -/
def State.snapNodes (s : State) : List Nat :=
  let here := (s.ids.docks.filter (fun d => s.isRoot || d.1 = s.hubNo)).map (fun d => dockNode d.2.2)
  if s.isRoot then (s.ids.hubOf.map (·.2)).eraseDups ++ here else here

/-- R221: a snapshot message of a hub to a node below it, on the hub control tunnel of a leaf or on the management tunnel of a dock; a dock of
this hub is reached on its port (its first content word: assumption log 24, DESIGN CHOICE). -/
def State.snapSend (kind : Fin 3) (node : Nat) (s : State) : State :=
  let msg := [Config.snapHead kind node false]
  if node < 128 then s.sendMsg 24 (ctrlTun node) msg
  else
    let t := mgmtTun (node - 128)
    match s.ids.docks.find? (fun d => dockNode d.2.2 = node && d.1 = s.hubNo) with
    | some d => if (s.tun t).e.state.sends then s.sendMsgTo 24 t [d.2.1] msg else s
    | none => s.sendMsg 24 t msg

/-- R221: a leaf sends a record that it holds up on its hub control tunnel. -/
def State.snapUp (r : SnapRec) (s : State) : State :=
  s.sendMsg 24 (ctrlTun s.hubNo) (Config.snapHead 0 r.node r.late :: r.words)

/-- R222: every record is in: a leaf sends its merged records up; the root completes, releases the nodes and clears BUSY. -/
def State.snapComplete (s : State) : State :=
  if s.isRoot then
    let s1 := s.each s.snapNodes (fun n s => if n < 128 || s.ids.docks.any (fun d => dockNode d.2.2 = n && d.1 = s.hubNo) then s.snapSend 2 n else s)
    ((s1.wr LAT_GOP_BUSY 0).wr LAT_SNAP_TIME_US (min 1048575 ((s.now - s.gop.tickAt) / 1000))).ev latPage [EV_LAT_SNAP_DONE]
  else s.each s.gop.records State.snapUp

/-- R221: a record is held; the last one completes the node's part. (Assumption log 24, DESIGN CHOICE.) -/
def State.snapAdd (r : SnapRec) (s : State) : State :=
  let g := s.gop
  let rest : List SnapRec := g.records.filter (fun (x : SnapRec) => x.node ≠ r.node)
  let g1 : Gop := { g with records := rest ++ [r], missing := g.missing.filter (· ≠ r.node) }
  let s1 := ({ s with gop := { g1 with askAt := if g1.missing = [] then none else g1.askAt } }).when r.late (State.ev latPage [EV_LAT_SNAP_LATE])
  if g1.missing = [] then s1.snapComplete else s1

/-- SNAPSHOT_CAPTURE (R221). -/
def State.snapCapture (s : State) : State :=
  let g := s.gop
  let g1 : Gop := { g with
    target := none, tickAt := s.now, records := [], missing := s.snapNodes, asked := false,
    askAt := if s.isRoot && s.snapNodes ≠ [] then some (s.now + ms 2) else none }
  let s1 := { s with gop := g1 }
  s1.snapAdd { node := s.hubNo, words := s.snapWords, late := g.late }

/-- R221: a node takes I as the next index with the low 19 bits given; after its tick it captures at the next one, late. -/
def State.snapAccept (low : Nat) (s : State) : State :=
  let n := s.datum.whole / s.period
  let d := modSub 19 low n
  let set (t : Nat) (late : Bool) (s : State) : State := { s with gop := { s.gop with target := some t, late := late } }
  if d = 0 then
    if s.datum.whole % s.period ≠ 0 then set (n + 1) true s
    else if s.lattice.last = some n then (set n false s).snapCapture
    else set n false s
  else if d ≤ 2 ^ 18 then set (n + d) false s
  else set (n + 1) true s

/-! ## The tick -/

/-- R283: at the tick that restoration waits for, spare C writes its bank and A and B load it. -/
def State.restoreTick (idx : Nat) (s : State) : State :=
  if s.express.awaiting then
    let s1 := s.writeBank idx
    { s1 with express := { s1.express with awaiting := false, rerun := some idx } }
  else s

/-- LATTICE_TICK (R208, R209): the tick of the cycle that Datum is in; `m`: a disagreement of A and B, of a word of
the checkpoint at point 7 (R276). -/
def State.emitTick (m : Option Mismatch) (s0 : State) : State :=
  let s := s0.applyPeriod
  let p := s.period
  let n := s.datum.whole / p
  let idx := n % 2 ^ 32
  let forced : Bool := s.lattice.changedAt ≠ 0 && s.lattice.changedAt * 1000000000 = n * p
  let s1 := ({ s with lattice := { s.lattice with last := some n, pulseAt := some s.now } }).wr LAT_INDEX_INDEX idx
  let s3 := ((s1.disagree m).checkpoint idx).restoreTick idx
  let s4 := s3.each (List.range 20) (fun x s => s.gclTick x idx (n * p) forced)
  let s5 := s4.each (List.range 18) (fun q s => if idx % 2 ^ min 10 (s.rd (CMP_QSAMPLE_CTL_SI q)) = 0 then s.snapQueues q idx else s)
  match s5.gop.target with
  | some t => if t ≤ n then s5.snapCapture else s5
  | none => s5

/-- A step of Datum (R212), with the tick that it emits. -/
def State.stepWithTick (t : Nat) (s : State) : State :=
  let r := s.stepTo t
  if r.2 then r.1.emitTick none else r.1

/-- An accepted measurement (R201), with the tick that a step emits. -/
def State.applyMeasure (theta : Int) (s : State) : State :=
  let r := s.measure theta
  if r.2 then r.1.emitTick none else r.1

/-! ## Outputs (R217, R218) -/

/-- R217: an output's level at this nanosecond of Datum; none: the pin is no output of the time unit. -/
def State.outLevel (s : State) (n : Nat) : Option Bool :=
  let stop : Bool := s.datState = 0 && s.rdB EVP_CTL_QUIET
  match s.rd (EVP_CFG_FUNC n) with
  | 2 => some (s.rdB (EVP_CFG_LEVEL n))
  | 3 => some (!stop && s.datum.ns < s.rd EVP_PPS_WIDTH * 1000)
  | 4 => some (!stop && s.datum.whole % 100 < 50)
  | 7 => some (!stop && (match s.lattice.pulseAt with | some t => s.now < t + 100 | none => false))
  | _ => none

/-- The Gregorian year of a day counted from 1970-01-01. (Assumption log 37, PRESUMED.) -/
def yearOf (day : Nat) : Nat :=
  let z := day + 719468
  let doe := z % 146097
  let yoe := (doe - doe / 1460 + doe / 36524 - doe / 146096) / 365
  let doy := doe - (365 * yoe + yoe / 4 - yoe / 100)
  yoe + z / 146097 * 400 + (if 306 ≤ doy then 1 else 0)

/-- R217, R218: an IRIG-B frame at a second boundary: code, the second in UTC or local time, control bits (year, leap, offset, quality); the frame
for a leap second reads second 60, or is omitted. (Assumption log 37, PRESUMED.) -/
def State.irigFrame (n : Nat) (s : State) : State :=
  let utc : Int := (s.datum.sec : Nat) - s.utcOffset
  let loc : Int := if s.rdB EVP_IRIG_LOCAL then utc + 60 * signed 16 (s.rd EVP_IRIG_LOCAL_OFS) else utc
  let lastOfDay : Bool := utc % 86400 = 86399
  let body (leap : Nat) : List Nat := [s.rd EVP_IRIG_CODE, unsignedOf 64 loc, leap] ++
    (if s.rdB EVP_IRIG_CF_1344 then [yearOf (utc.toNat / 86400) % 100, b2n s.datum.leap61 + 2 * b2n s.datum.leap59, unsignedOf 16 s.utcOffset, s.datState] else [])
  if s.datum.leap59 && lastOfDay then s.ev evpPage [EV_EVP_IRIG_LEAP]
  else if s.datum.leap61 && lastOfDay then (s.emit (.irig n (s.rdB (EVP_CFG_POL n)) (body 1))).ev evpPage [EV_EVP_IRIG_LEAP]
  else s.emit (.irig n (s.rdB (EVP_CFG_POL n)) (body 0))

/-- The pin outputs follow Datum; `second`: Datum has come to a second boundary. (Assumption log 37, PRESUMED.) -/
def State.pinOutputs (second : Bool) (s : State) : State :=
  let stop : Bool := s.datState = 0 && s.rdB EVP_CTL_QUIET
  s.each (List.range 16) (fun n s =>
    match s.outLevel n with
    | some b => s.driveFunc n b
    | none => if s.rd (EVP_CFG_FUNC n) = 5 && second && !stop then s.irigFrame n else s)

/-! ## Periodic PTP messages (R203, R206; assumption log 20, DESIGN CHOICE) -/

/-- R203: a PTP message as a frame of the Layer 2 mapping; peer delay has an address of its own. (Assumption log 20, PRESUMED.) -/
def State.ptpFrame (s : State) (m : PtpMsg) : Frame :=
  let peer : Bool := match m with | .pdelayReq _ | .pdelayResp .. | .pdelayFollowUp .. => true | _ => false
  { da := if peer then 0x0180C200000E else 0x011B19000000, sa := Config.hubMac, etherType := 0x88F7,
    body := .octets (Config.ptpBytes m (s.rd DAT_PTP_DOMAIN) (s.rdB DAT_CTL_PROFILE)) }

/-- R206: the frame tunnel of the dock on a port: the first that is OPEN. (Assumption log 20, DESIGN CHOICE.) -/
def State.dockFrames (s : State) (p : Nat) : Option Nat := (s.crossing p (fun e => e.state = .opened && e.kind = 5)).head?

/-- R203, R206: a PTP message leaves on a station port, or as a message on the frame tunnel of the dock on a port. -/
def State.ptpSend (port : Nat) (m : PtpMsg) (s : State) : State :=
  if port < 18 then
    match s.dockFrames port with
    | some t => s.sendMsgTo 20 t [port] (frameWords (s.ptpFrame m))
    | none => s
  else s.emit (.ptp port m)

/-- The messages that a master port sends: Announce, Sync and Follow_Up. (Assumption log 20, DESIGN CHOICE.) -/
def State.ptpMaster (port : Nat) (s : State) : State :=
  match s.gmNow with
  | none => s
  | some d =>
    let q := s.datum.sec % 65536
    ((s.ptpSend port (.announce d)).ptpSend port (.sync q true 0 0)).ptpSend port (.followUp q s.datum.whole 0)

/-- R206: the ports of this hub with a dock whose frame tunnel is OPEN. (Assumption log 20, DESIGN CHOICE.) -/
def State.ptpDocks (s : State) : List Nat :=
  (List.range 18).filter (fun p => s.active p && s.rd (LANE_STAT_PARTNER_KIND p) = 0 && (s.dockFrames p).isSome)

/-- Once a second: Pdelay_Req on each enabled station port, the master's messages on each master port. (Assumption log 20, DESIGN CHOICE.) -/
def State.ptpSecond (s : State) : State :=
  let s1 := s.each [0, 1] (fun x s =>
    if !s.stationOn x then s
    else
      let q := ((s.ptp x).reqSeq + 1) % 65536
      let s1 := (s.onPtp x (fun y => { y with reqSeq := q, req := some (q, s.datum.whole), resp := none })).emit (.ptp (18 + x) (.pdelayReq q))
      s1.when (s1.ptpState x = 6) (State.ptpMaster (18 + x)))
  s1.each s1.ptpDocks State.ptpMaster

/-! ## Time passes -/

/-- R189: the Datum counter's advance in a nanosecond. -/
def State.advance (s : State) : State :=
  { s with datum := { s.datum with t := ((s.datum.t : Int) + 2 ^ 48 + signed 32 (s.rd DAT_RATE_RATE) + s.datum.slew).toNat } }

/-- R136, R440: a port whose link key has been renewed starts the epoch change as soon as it can carry it. -/
def State.epochNano (s : State) : State :=
  s.each ((List.range 18).filter (fun p => (s.chord p).revoked && (s.chord p).epTx = .none &&
    s.useRefusal (s.linkSlot p) 3 masterChord = none)) State.epochNow

/-- What a nanosecond does while the core die is on (assumption log 2, DESIGN CHOICE). -/
def State.coreNano (s : State) : State :=
  let s0 := (s.each (List.range 18) State.quietRest).epochNano
  let s1 := s0.advance.freeRunLock
  let second : Bool := s1.datum.sec ≠ s0.datum.sec
  let s2 := (if s1.power.asleep = 0 then s1.spareProgress.winNano.usbSync.usbNano.dspNano else s1).pinOutputs second
  let s3 := s2.when second State.ptpSecond
  (s3.cfgNano.bootNano).sleepNano.laneNano

/-- One nanosecond passes: the block idles. -/
def idle (s : State) : State :=
  let s1 := { s with now := s.now + 1 }
  (if s1.coreOn then s1.coreNano else s1).settle

end Sys2Proof.Machine
end

