-- ==== Sys2Proof/Machine/PointOps.lean ====
section
/-!
DEFINITION. Operations of accepted Point messages (R123).
-/
namespace Sys2Proof.Machine

/-- R123: the ports to which a message from port p goes: a leaf passes what its apex brings to its spokes; a root passes it to its
spokes except those cabled to the originating leaf. -/
def State.passPorts (s : State) (p : Nat) (m : Point) : List Nat :=
  if s.isRoot then s.spokePorts.filter (fun q => s.active q && !(m.oh && s.hubAt q = some m.origin))
  else if 16 ≤ p then s.spokePorts.filter s.active
  else []

/-- The port's partner is a dock. -/
def State.fromDock (s : State) (p : Nat) : Bool := s.rd (LANE_STAT_PARTNER_KIND p) = 0

/-- R221–R223: the root's own operations reach a leaf on its apex. (Assumption log 36, DEDUCED.) -/
def State.fromRoot (s : State) (p : Nat) : Bool := s.rd CHIP_STAT_ROLE = 1 && 16 ≤ p && s.rd (LANE_STAT_PARTNER_KIND p) = 2

/-- R211: a leaf takes a LATTICE_MARK from its apex: staged and passed on to its spokes, or refused. (Assumption log 36, DEDUCED.) -/
def State.markAccepted (m : Point) (s : State) : State :=
  let a := bitsOf m.arg 15 4
  let b := bitsOf m.arg 11 4
  let sec := s.datum.sec + modSub 11 (bitsOf m.arg 0 11) s.datum.sec
  if !latticeOk a b then s.ev latPage [EV_LAT_MARK_REJECT]
  else
    let s1 := if s.lattice.stageS.isSome then s
      else ((({ s with lattice := { s.lattice with stageS := some sec } }).wr LAT_STAT_A_NEXT a).wr LAT_STAT_B_NEXT b).wr LAT_STAT_PENDING 1
    s1.pointTo m s1.spokePorts

/-- R223: TREE_RESET goes to every spoke and the hub's own full reset follows when the hold ends. -/
def State.startTreeReset (m : Point) (s : State) : State :=
  let s1 := s.pointTo m s.spokePorts
  { s1 with gop := { s1.gop with resetAt := some (s.now + us (bitsOf m.arg 0 8)) } }

/-- R500: another hub's FEED_WARN is recorded and passed on; a dock's is discarded as stray. (Assumption log 57, DEDUCED.) -/
def State.warnRx (p : Nat) (m : Point) (s : State) : State :=
  if s.fromDock p || !m.oh then s.bump (CHD_PROTO_STRAY p)
  else
    let s1 := ((s.wr FEED_WARN_RX_ASSERT (bitsOf m.arg 18 1)).wrB FEED_WARN_RX_OH m.oh).wr FEED_WARN_RX_ORIGIN m.origin
    ((s1.bump FEED_WARN_CNT_RX).ev feedPage [EV_FEED_WARN_RX]).pointTo m (s.passPorts p m)

/-- R513: DORMANT takes the port to rest; WAKE wakes a hub in S1 through its wake source (R514). (Assumption log 28, DEDUCED.) -/
def State.wakeReqRx (p : Nat) (m : Point) (s : State) : State :=
  if bitsOf m.arg 17 2 = 2 then (s.onChord p (fun c => { c with quiet := true })).quietRest p else s

/-- R123: an accepted Point message is acted on and passed on. (Assumption log 36, DEDUCED.) -/
def State.pointAccepted (p : Nat) (m : Point) (s : State) : State :=
  match m.type with
  | 1 => s.warnRx p m
  | 2 => if s.fromRoot p then s.markAccepted m else s
  | 3 => s.wakeReqRx p m
  | 4 => if s.fromRoot p then (s.pointTo m s.spokePorts).snapAccept m.arg else s
  | 5 => if s.fromRoot p && !s.rdB RST_STAT_RESTORING then (s.startTreeReset m).ev latPage [EV_LAT_TREE_RESET] else s
  | _ => (s.ev 0x0D8 [EV_EXP_PEER_TAKEOVER]).pointTo m (s.passPorts p m)

end Sys2Proof.Machine
end

