-- ==== Sys2Proof/Machine/Time.lean ====
section
/-!
DEFINITION. The meanings of the commands of Datum time, the lattice, the keeper, the event pins and the global operations (R187–R230).
-/
namespace Sys2Proof.Machine

/-- The spoke exchange on a port. -/
def State.probe (s : State) (p : Nat) : Probe := s.probes.get p
/-- Change the spoke exchange on a port. -/
def State.onProbe (p : Nat) (f : Probe → Probe) (s : State) : State := { s with probes := s.probes.upd p f }

/-! ## The spoke exchange (R193–R198) -/

/-- R193: a PROBE word. -/
def probeWord (kind seq turn : Nat) : Word := ctlWord 0x0B [(32, 2, kind), (28, 4, seq), (0, 28, turn)]

/-- R226: the exchange interval in ns. -/
def State.exchangeInt (s : State) : Nat := us (min 10000 (max 10 (s.rd DAT_PROBE_INT)))

/-- PROBE_EXCHANGE_START (R195, R196): the master sends REQ on lanes A and B in turn and stamps t1. -/
def probeExchangeStart (p : Nat) (s : State) : State :=
  let x := s.probe p
  if !s.coreOn || !s.active p || !s.nearRoot p || s.now < x.nextAt then s
  else
    let laneB : Bool := x.seq % 2 = 1
    (s.onProbe p (fun x => { x with
      running := true, laneB := laneB, t1 := s.datum.whole, nextAt := s.now + s.exchangeInt, rxSeq := x.seq, seq := (x.seq + 1) % 16 })).emit
      (.word p (b2n laneB) (probeWord 1 x.seq 0))

def execProbeExchangeStart (p : Fin 18) (s : State) : Outcome := coreDone s (probeExchangeStart p s)

/-- PROBE_REQ_RX (R195): the follower stamps t2 and answers on the same lane, `turn` ns later; the TIME words are due 12 µs after t4, at
which the master has the answer after half the round trip. (Assumption log 34, DEDUCED.) -/
def probeReqRx (p : Nat) (laneB : Bool) (w : Word) (turn : Nat) (s : State) : State :=
  if s.nearRoot p || !s.active p || fld w 34 6 ≠ 0x0B || fld w 32 2 ≠ 1 then s
  else
    (s.onProbe p (fun x => { x with
      t2 := s.datum.whole, rxSeq := fld w 28 4, rxLaneB := laneB, times := [], timesBy := some (s.now + turn + (s.rd (CHD_RTT_RTT p) + 1) / 2 + us 12) })).emit
      (.word p (b2n laneB) (probeWord 2 (fld w 28 4) turn))

def execProbeReqRx (p : Fin 18) (laneB : Bool) (w : Word) (turn : Fin 1001) (s : State) : Outcome :=
  coreDone s (probeReqRx p laneB w turn s)

/-- R194: the ten contents of the TIME words for stamps t1 and t4 and the delay d_ms; R613: without grandmaster data the root sends
its own. -/
def State.timeValues (s : State) (t1 t4 dms : Nat) : List Nat :=
  let utc := match s.datum.utc with
    | some v => v
    | none => packNat [(0, 16, s.rd DAT_UTC_OFFSET), (18, 1, s.rd DAT_UTC_UTC_VALID)]
  let st := match s.datState with | 2 => 0 | 1 => 1 | 3 => 2 | _ => 3
  let sec := t1 / 1000000000
  let acc := match s.isRoot, s.gmNow with
    | true, some d => d.accuracy
    | _, _ => s.datum.accuracy
  [bitsOf t1 0 26, bitsOf (t1 % 2 ^ 40) 26 14, bitsOf t4 0 26, bitsOf (t4 % 2 ^ 40) 26 14, bitsOf sec 0 26, bitsOf sec 26 22, dms, utc,
   packNat [(22, 4, s.rd LAT_STAT_A), (18, 4, s.rd LAT_STAT_B)],
   packNat [(18, 8, s.classNow), (10, 8, acc), (8, 2, st)]]

/-- R197, R198: rtt_f of a lane. (Assumption log 30, DEDUCED.) -/
def Probe.rtt (x : Probe) : Option Nat := if x.laneB then x.rttB else x.rttA

/-- R198: the running mean after a value, 16 times the mean. (Assumption log 30, DEDUCED.) -/
def meanOf (old : Option Nat) (rtt : Nat) : Nat := match old with | none => 16 * rtt | some f => f + rtt - f / 16

/-- PROBE_RESP_RX (R197, R198): the master stamps t4, computes rtt and d_ms, and sends the TIME words or discards an outlier. -/
def probeRespRx (p : Nat) (laneB : Bool) (w : Word) (s : State) : State :=
  let x := s.probe p
  if !s.nearRoot p || !s.active p || fld w 34 6 ≠ 0x0B || fld w 32 2 ≠ 2 || !x.running || fld w 28 4 ≠ x.rxSeq || laneB ≠ x.laneB then s
  else
    let t4 := s.datum.whole
    let rtt := modSub 40 (modSub 40 t4 x.t1) (fld w 0 28)
    let far : Bool := match x.rtt with | some f => 256 < ((16 * rtt : Nat) - (f : Nat) : Int).natAbs | none => false
    let s1 := s.onProbe p (fun x => { x with running := false })
    if far then s1.bump (DAT_PORT_CNT_OUTLIER p)
    else
      let f := meanOf x.rtt rtt
      let dms := (((16 * rtt : Nat) : Int) + signed 16 (s.rd (DAT_PORT_ASYM_ASYM p))) / 2
      let d := unsignedOf 26 dms
      let s2 := s1.onProbe p (fun x => if x.laneB then { x with rttB := some f } else { x with rttA := some f })
      let s3 := ((s2.wr (DAT_PORT_DELAY_D_MS p) d).wrapInc (DAT_PORT_CNT_EXCH p)).setRtt p ((f + 15) / 16)
      s3.each (s.timeValues x.t1 t4 d).zipIdx (fun v s =>
        s.sendStream p (ctlWord 0x0C [(30, 4, v.2), (26, 4, x.rxSeq), (0, 26, v.1)]))

def execProbeRespRx (p : Fin 18) (laneB : Bool) (w : Word) (s : State) : Outcome := coreDone s (probeRespRx p laneB w s)

/-- R194: a leaf learns the period in force. (Assumption log 34, DEDUCED.) -/
def State.learnPeriod (a b : Nat) (s : State) : State :=
  if !latticeOk a b || s.lattice.stageS.isSome || (a = s.rd LAT_STAT_A && b = s.rd LAT_STAT_B) then s
  else
    let p := latticeP a b
    let s1 := ((s.wr LAT_STAT_A a).wr LAT_STAT_B b).wr LAT_PERIOD_NS p
    { s1 with lattice := { s1.lattice with last := some (s.datum.whole / p) } }.recheckRates s.datum.whole

/-- R194, R197, R201: all ten TIME words of an exchange are there. -/
def State.takeTimes (p : Nat) (s : State) : State :=
  let x := s.probe p
  let v (sel : Nat) : Nat := (x.times.lookup sel).getD 0
  let sec := v 4 + v 5 * 2 ^ 26
  let short := v 0 + v 1 * 2 ^ 26
  let t1 := sec * 1000000000 + modSub 40 short (sec * 1000000000 % 2 ^ 40)
  let th : Int := 16 * ((x.t2 : Int) - (t1 : Int)) - (v 6 : Nat)
  let a := if x.rxLaneB then x.thetaA else some th
  let b := if x.rxLaneB then some th else x.thetaB
  let theta : Int := match a, b with | some a, some b => (a + b) / 2 | some a, none => a | none, some b => b | none, none => th
  let s1 := s.onProbe p (fun x => { x with thetaA := a, thetaB := b, times := [], timesBy := none })
  let s2 := (((s1.wr (DAT_PORT_OFFSET_THETA p) (unsignedOf 32 theta)).wr (DAT_PORT_DELAY_D_MS p) (v 6)).wrapInc (DAT_PORT_CNT_EXCH p)).setRtt p ((2 * v 6 + 15) / 16)
  if s.source ≠ 3 || p ≠ s.carrying then s2
  else
    let s3 := (s2.setUtc (v 7 % 2 ^ 19)).wr DAT_STAT_CLASS (bitsOf (v 9) 18 8)
    let s4 := ({ s3 with datum := { s3.datum with accuracy := bitsOf (v 9) 10 8 } }).learnPeriod (bitsOf (v 8) 22 4) (bitsOf (v 8) 18 4)
    let t := s4.datum.t
    let s5 := s4.applyMeasure theta
    if s5.datum.t = t then s5 else s5.onProbe p (fun x => { x with thetaA := none, thetaB := none })

/-- TIME_WORD_RX (R194, R198). -/
def timeWordRx (p : Nat) (w : Word) (s : State) : State :=
  let x := s.probe p
  if s.nearRoot p || fld w 34 6 ≠ 0x0C || fld w 26 4 ≠ x.rxSeq || 9 < fld w 30 4 || !(match x.timesBy with | some t => s.now ≤ t | none => false) then s
  else
    let sel := fld w 30 4
    let l := x.times.filter (fun y => y.1 ≠ sel) ++ [(sel, fld w 0 26)]
    let s1 := s.onProbe p (fun x => { x with times := l })
    if l.length = 10 then s1.takeTimes p else s1

def execTimeWordRx (p : Fin 18) (w : Word) (s : State) : Outcome := coreDone s (timeWordRx p w s)

/-- TIME_WORDS_TIMEOUT (R198). -/
def timeWordsTimeout (p : Nat) (s : State) : State :=
  if s.expired (s.probe p).timesBy then s.onProbe p (fun x => { x with times := [], timesBy := none }) else s

def execTimeWordsTimeout (p : Fin 18) (s : State) : Outcome := coreDone s (timeWordsTimeout p s)

/-! ## The Datum state machine -/

/-- MEASUREMENT_LOSS (R192). -/
def measurementLoss (s : State) : State :=
  if s.datState = 2 && s.source ≠ 0 && s.datum.measuredAt + 8 * s.interval < s.now then s.setDatum 3 else s

def execMeasurementLoss (s : State) : Outcome := coreDone s (measurementLoss s)

/-- SOURCE_LOSS (R192, R205): the source in use is lost; with PTP the other station port is followed if it is in SLAVE. -/
def sourceLoss (s : State) : State :=
  if s.source = 0 then s
  else if s.source = 1 then
    let s1 := (s.onPtp (s.rd DAT_STAT_PTP_PORT) (fun y => { y with announce := none, sync := none })).followPtp
    if s1.ptpState (s1.rd DAT_STAT_PTP_PORT) = 9 then s1 else s1.holdover
  else s.holdover

def execSourceLoss (s : State) : Outcome := coreDone s (sourceLoss s)

/-- SOURCE_CHANGE (R192, R616): the source that DAT_CTL.SOURCE selects now is taken into use. -/
def execSourceChange (s : State) : Outcome := done s.changeSource

/-- STEP_NOW (R616, R224, R212): acts with source free run or 1PPS. -/
def stepNow (s : State) : State :=
  if s.coreOn && (s.source = 0 || s.source = 2) then
    s.stepWithTick (((s.rd DAT_SET_SEC_LO_SEC + s.rd DAT_SET_SEC_HI_SEC * 2 ^ 32) * 1000000000 + s.rd DAT_SET_NS_NS) * 2 ^ 48)
  else s

def execStepNow (s : State) : Outcome := coreDone s (stepNow s)

/-! ## PTP (R203–R206) -/

/-- R203, R205: a Sync of the followed port gives a measurement. -/
def State.ptpMeasure (x rx : Nat) (origin : Nat) (corr : Int) (s : State) : State :=
  if s.source = 1 && s.rd DAT_STAT_PTP_PORT = x && s.ptpState x = 9 then
    s.applyMeasure (16 * ((rx : Int) - (origin : Int)) - corr - (s.ptp x).peer)
  else s

/-- R203: the answer to a Pdelay_Req, stamped at its reception and its sending. -/
def State.answerPdelay (port seq : Nat) (s : State) : State :=
  (s.ptpSend port (.pdelayResp seq true s.datum.whole 0)).ptpSend port (.pdelayFollowUp seq s.datum.whole 0)

/-- A PTP message on a station port. -/
def State.ptpStation (x : Nat) (m : PtpMsg) (s : State) : State :=
  let y := s.ptp x
  let now := s.datum.whole
  match m with
  | .other => s.bump (FRM_SP_DROP_PTP x)
  | .pdelayReq q => s.answerPdelay (18 + x) q
  | .announce d0 =>
    let d := s.profiled d0
    let s1 := (s.onPtp x (fun y => { y with announce := some d })).followPtp
    if s1.source = 1 && s1.rd DAT_STAT_PTP_PORT = x && s1.ptpState x = 9 then
      let s2 := (s1.setUtc (gmUtcWord d)).wr DAT_STAT_CLASS d.clockClass
      { s2 with datum := { s2.datum with accuracy := d.accuracy } }
    else s1
  | .sync q two origin corr =>
    if two then s.onPtp x (fun y => { y with sync := some (q, now, corr) }) else s.ptpMeasure x now origin corr
  | .followUp q origin corr =>
    match y.sync with
    | some (q', rx, c) => if q = q' then (s.onPtp x (fun y => { y with sync := none })).ptpMeasure x rx origin (c + corr) else s
    | none => s
  | .pdelayResp q two t2 corr =>
    match y.req with
    | some (q', t1) =>
      if q ≠ q' then s
      else if two then s.onPtp x (fun y => { y with resp := some (t2, now, corr) })
      else s.onPtp x (fun y => { y with req := none, peer := (16 * ((now : Int) - (t1 : Int)) - corr) / 2 })
    | none => s
  | .pdelayFollowUp q t3 corr =>
    match y.req, y.resp with
    | some (q', t1), some (t2, t4, c) =>
      if q ≠ q' then s
      else s.onPtp x (fun y => { y with req := none, resp := none
                                        peer := (16 * (((t4 : Int) - (t1 : Int)) - ((t3 : Int) - (t2 : Int))) - c - corr) / 2 })
    | _, _ => s

/-- PTP_MESSAGE_RX (R203–R206): a message of a domain on station port A (18) or B (19), or from the dock on a port below 18. (Assumption log 34, DEDUCED.) -/
def ptpMessageRx (port domain : Nat) (m : PtpMsg) (s : State) : State :=
  if port < 18 then
    match m with
    | .pdelayReq q => if s.ptpDocks.contains port then s.answerPdelay port q else s
    | _ => s
  else if !s.stationOn (port - 18) then s
  else s.ptpStation (port - 18) (if domain = s.rd DAT_PTP_DOMAIN then m else .other)

def execPtpMessageRx (port : Fin 20) (domain : BitVec 8) (m : PtpMsg) (s : State) : Outcome :=
  coreDone s (ptpMessageRx port domain.toNat m s)

/-! ## 1PPS input (R191, R229) -/

/-- R230: an edge that EDGE accepts, judged after POL; express source pins accept both (R285). -/
def State.edgeWanted (s : State) (n : Nat) (high : Bool) : Bool :=
  let rise : Bool := high ≠ s.rdB (EVP_CFG_POL n)
  s.rd (EVP_CFG_FUNC n) = 8 || (match s.rd (EVP_CFG_EDGE n) with | 1 => rise | 2 => !rise | 3 => true | _ => false)

/-- R216: FILTER of a pin in ns. -/
def State.filterNs (s : State) (n : Nat) : Nat := 4 * min 250 (s.rd (EVP_CFG_FILTER n))

/-- PPS_INPUT_EDGE (R191, R216, R230): an edge to a level that EDGE accepts marks a second, FILTER before its acceptance; before the first
measurement the second is the one that DAT_SET holds. (Assumption log 34, DEDUCED.) -/
def ppsInputEdge (n : Nat) (high : Bool) (s : State) : State :=
  if s.rd (EVP_CFG_FUNC n) ≠ 6 || !s.edgeWanted n high then s
  else
    let s1 := { s with datum := { s.datum with ppsAt := s.now, ppsLost := false } }
    if s.source ≠ 2 then s1
    else
      let at_ := s.datum.whole - s.filterNs n
      let sec := if s.datState = 0 then s.rd DAT_SET_SEC_LO_SEC + s.rd DAT_SET_SEC_HI_SEC * 2 ^ 32 else (at_ + 500000000) / 1000000000
      s1.applyMeasure (16 * ((at_ : Int) - ((sec * 1000000000 : Nat) : Int)))

def execPpsInputEdge (e : PinEdge) (s : State) : Outcome := coreDone s (ppsInputEdge e.pin e.high s)

/-- PPS_INPUT_LOSS (R229): no edge for 1.5 s. (Assumption log 34, DEDUCED.) -/
def ppsInputLoss (s : State) : State :=
  if (List.range 16).any (fun n => s.rd (EVP_CFG_FUNC n) = 6) && !s.datum.ppsLost && s.datum.ppsAt + 1500000000 < s.now then
    let s1 := ({ s with datum := { s.datum with ppsLost := true } }).ev evpPage [EV_EVP_PPSIN_LOST]
    if s.source = 2 then s1.holdover else s1
  else s

def execPpsInputLoss (s : State) : Outcome := coreDone s (ppsInputLoss s)

/-! ## TIME_DS and TIME_STATUS (R207) -/

/-- TIME_DS_SEND (R207): the root sends TIME_DS to a leaf when it is owed: after the time tunnel's opening, on a change, every second. -/
def timeDsSend (h : Nat) (s : State) : State :=
  match s.gmNow with
  | none => s
  | some d =>
    let owed : Bool := match s.datum.dsSent.get h with
      | none => true
      | some (e, t) => e ≠ d || t + 1000000000 ≤ s.now
    if s.isRoot && (s.tun (timeTun h)).e.state = .opened && owed then
      ({ s with datum := { s.datum with dsSent := s.datum.dsSent.set h (some (d, s.now)) } }).sendMsg 24 (timeTun h) (gmWords d)
    else s

def execTimeDsSend (h : Fin 17) (s : State) : Outcome := coreDone s (timeDsSend h s)

/-- TIME_DS_RX (R207): a leaf keeps it; another TYPE or length is discarded and counted. -/
def timeDsRx (ws : List Word) (s : State) : State :=
  if s.isRoot then s
  else if ws.length = 10 && fld (ws.getD 0 0) 36 4 = 1 then { s with datum := { s.datum with ds := some (gmOfWords ws) } }
  else s.bump TUN_REASM_ABORT

def execTimeDsRx (msg : List Word) (s : State) : Outcome := coreDone s (timeDsRx msg s)

/-- TIME_STATUS_SEND (R207): the leaf sends TIME_STATUS on a change of its state or source, and every second. -/
def timeStatusSend (s : State) : State :=
  let ws := s.statusWords
  let key (l : List Word) : Nat := fld (l.getD 0 0) 34 2 * 8 + fld (l.getD 0 0) 30 3
  let owed : Bool := match s.datum.stSent with | none => true | some (l, t) => key l ≠ key ws || t + 1000000000 ≤ s.now
  if !s.isRoot && (s.tun (timeTun s.hubNo)).e.state = .opened && owed then
    ({ s with datum := { s.datum with stSent := some (ws, s.now) } }).sendMsg 24 (timeTun s.hubNo) ws
  else s

def execTimeStatusSend (s : State) : Outcome := coreDone s (timeStatusSend s)

/-- TIME_STATUS_RX (R207): the root shows the leaf's status. -/
def timeStatusRx (h : Nat) (ws : List Word) (s : State) : State :=
  let w := ws.getD 0 0
  if !s.isRoot then s
  else if ws.length = 2 && fld w 36 4 = 2 then
    let s1 := ({ s with datum := { s.datum with leafAt := s.datum.leafAt.set h s.now } })
    let s2 := ((s1.wr (DAT_LEAF_STAT_VALID h) 1).wr (DAT_LEAF_STAT_STALE h) 0).wr (DAT_LEAF_STAT_STATE h) (fld w 34 2)
    ((s2.wr (DAT_LEAF_STAT_KEEPER h) (fld w 33 1)).wr (DAT_LEAF_STAT_SOURCE_ACT h) (fld w 30 3)).wr
      (DAT_LEAF_THETA_THETA h) (fld (ws.getD 1 0) 8 32)
  else s.bump TUN_REASM_ABORT

def execTimeStatusRx (h : Fin 17) (msg : List Word) (s : State) : Outcome := coreDone s (timeStatusRx h msg s)

/-- TIME_STATUS_STALE (R207): 3 s without a TIME_STATUS since the last one, or since the time tunnel entered OPEN. -/
def timeStatusStale (h : Nat) (s : State) : State :=
  if s.isRoot && (s.tun (timeTun h)).e.state ≠ .free && s.datum.leafAt.get h + 3000000000 < s.now then s.wr (DAT_LEAF_STAT_STALE h) 1 else s

def execTimeStatusStale (h : Fin 17) (s : State) : Outcome := coreDone s (timeStatusStale h s)

/-! ## The lattice (R208–R212) -/

/-- LATTICE_TICK (R208): Datum has come to the tick that the lattice emits next. -/
def latticeTick (m : Option Mismatch) (s : State) : State :=
  if s.coreOn && s.lattice.next * s.period ≤ s.datum.whole then s.emitTick m else s

def execLatticeTick (m : Option Mismatch) (s : State) : Outcome := coreDone s (latticeTick m s)

/-- R211: the LATTICE_MARK of the staged change to every ACTIVE spoke. -/
def State.sendMark (s : State) : State :=
  let arg := packNat [(15, 4, s.rd LAT_STAT_A_NEXT), (11, 4, s.rd LAT_STAT_B_NEXT), (0, 11, s.lattice.stageS.getD 0)]
  let s1 := s.pointTo { type := 2, oh := true, origin := s.hubNo, arg := arg } (s.spokePorts.filter s.active)
  { s1 with lattice := { s1.lattice with markAt := some (s.now + 1000000000) } }

/-- R211: a change to A and B at second S is staged. -/
def State.stage (a b sec : Nat) (s : State) : State :=
  ((({ s with lattice := { s.lattice with stageS := some sec } }).wr LAT_STAT_A_NEXT a).wr LAT_STAT_B_NEXT b).wr LAT_STAT_PENDING 1

/-- R227: the hub is the root, or has its role still to take and is to be the root. (Assumption log 45, DEDUCED.) -/
def State.rootToBe (s : State) : Bool := s.isRoot || (s.rd CHIP_STAT_ROLE = 2 && s.roleWanted = 0)

/-- LAT_COMMIT (R211, R227: the stored configuration may do it before the role is taken). -/
def latCommit (s : State) : State :=
  let a := s.rd LAT_NEXT_A
  let b := s.rd LAT_NEXT_B
  if !s.coreOn || !s.rootToBe then s
  else if !latticeOk a b || s.rdB LAT_STAT_PENDING then s.ev latPage [EV_LAT_MARK_REJECT]
  else (s.stage a b ((s.datum.whole + 2999999999) / 1000000000)).sendMark

def execLatCommit (s : State) : Outcome := coreDone s (latCommit s)

/-- LATTICE_MARK_REPEAT (R211): each second until the boundary. -/
def latticeMarkRepeat (s : State) : State :=
  match s.lattice.stageS with
  | some b => if s.rootToBe && s.due s.lattice.markAt && s.datum.whole < b * 1000000000 then s.sendMark else s
  | none => s

def execLatticeMarkRepeat (s : State) : Outcome := coreDone s (latticeMarkRepeat s)

/-- LATTICE_PERIOD_CHANGE (R211, R249, R316). -/
def execLatticePeriodChange (s : State) : Outcome := done s.applyPeriod

/-! ## The keeper (R213, R214) -/

/-- KEEPER_HANDOFF (R213 step 1). (Assumption log 44, DEDUCED.) -/
def execKeeperHandoff (s : State) : Outcome := coreDone s (s.handOffTime)

/-- KEEPER_RESTORE (R213 step 4). (Assumption log 44, DEDUCED.) -/
def execKeeperRestore (s : State) : Outcome := coreDone s (s.restoreTime)

/-! ## Event pins (R216, R230) -/

/-- R214, R216: the stamp of an edge at an instant: of Datum, or of the keeper while it holds time and in the ambient cycle of a handoff. -/
def State.edgeStamp (s : State) (n : Nat) (high : Bool) (at_ : Nat) : Option Stamp :=
  if !s.coreOn then (s.keeperAt at_).map (fun t => stampOf n high true (t / 2 ^ 48))
  else match s.keeper.cycle with
    | some (e, t) => if edgeBefore at_ = e then some (stampOf n high true (t / 2 ^ 48)) else some (stampOf n high false (s.datum.whole - (s.now - at_)))
    | none => some (stampOf n high false (s.datum.whole - (s.now - at_)))

/-- R216: an edge that is accepted sooner after another of its pin than FILTER ends a pulse shorter than FILTER. -/
def State.pulseShort (s : State) (n : Nat) : Bool :=
  match s.pins.edgeAt.get n with | some t => s.now < t + s.filterNs n | none => false

/-- EVENT_PIN_EDGE (R216, R214, R285): an edge is accepted at an input pin, FILTER after its instant; a pulse shorter than FILTER is rejected. -/
def eventPinEdge (n : Nat) (high : Bool) (s : State) : State :=
  let f := s.rd (EVP_CFG_FUNC n)
  let was := bitOf s.pins.level n
  if was = high || s.pulseShort n then s
  else
    let s1 := { s with pins := { s.pins with level := putBits s.pins.level n 1 (b2n high), edgeAt := s.pins.edgeAt.set n (some s.now) } }
    if !(f = 1 || f = 6 || f = 8) then s1 else
    let st := s.edgeStamp n high (s.now - s.filterNs n)
    let s2 := match st with
      | some x => if s.edgeWanted n high then s1.pushStamp x else s1
      | none => s1
    if f = 8 && s.coreOn && s.pinValid n then s2.sourceEvent (s.pinGroup n) n true else s2

def execEventPinEdge (n : Fin 16) (high : Bool) (s : State) : Outcome := done (eventPinEdge n high s)

/-- EVP_TS_POP (R230): the oldest stamp is read and its seconds latched. -/
def evpTsPop (s : State) : State :=
  if !s.coreOn then s
  else match s.pins.fifo with
    | [] => { s with pins := { s.pins with latched := none } }.emit (.read evpPage 0x084 0)
    | x :: rest => { s with pins := { s.pins with fifo := rest, latched := some x } }.emit (.read evpPage 0x084 (BitVec.ofNat 32 x.ns))

def execEvpTsPop (s : State) : Outcome := coreDone s (evpTsPop s)

/-! ## Global operations (R221–R223) -/

/-- SNAPSHOT (R221): LAT_GOP with OP SNAPSHOT. -/
def snapshot (s : State) : State :=
  if !s.coreOn || !s.isRoot || s.rdB LAT_GOP_BUSY then s
  else
    let i := s.rd LAT_SNAP_IDX_TARGET % 2 ^ 19
    ((s.wr LAT_GOP_BUSY 1).pointTo { type := 4, oh := true, origin := s.hubNo, arg := i } s.spokePorts).snapAccept i

def execSnapshot (s : State) : Outcome := coreDone s (snapshot s)

/-- SNAPSHOT_RECORD_RX (R221): the record of a node that is awaited; on a leaf, the request of the root that names the leaf itself, which
has it send the records that it holds again (assumption log 24, DESIGN CHOICE). -/
def snapshotRecordRx (node : Nat) (ws : List Word) (late : Bool) (s : State) : State :=
  if !s.isRoot && node = s.hubNo then s.each s.gop.records State.snapUp
  else if s.gop.missing.contains node then s.snapAdd { node := node, words := ws, late := late } else s

def execSnapshotRecordRx (node : Fin 192) (msg : List Word) (late : Bool) (s : State) : Outcome :=
  coreDone s (snapshotRecordRx node msg late s)

/-- SNAPSHOT_RECORD_TIMEOUT (R221): the root asks once again for what is missing; after that the operation ends without it. -/
def snapshotRecordTimeout (s : State) : State :=
  if !s.isRoot || !s.expired s.gop.askAt then s
  else if s.gop.asked then ({ s with gop := { s.gop with missing := [], askAt := none } }).snapComplete
  else ({ s with gop := { s.gop with asked := true, askAt := some (s.now + ms 2) } }).each s.gop.missing (State.snapSend 1)

def execSnapshotRecordTimeout (s : State) : Outcome := coreDone s (snapshotRecordTimeout s)

/-- SNAPSHOT_RELEASE_RX (R221): a node frees its record and passes RELEASE down. -/
def snapshotReleaseRx (s : State) : State :=
  if s.isRoot then s
  else ({ s with gop := { s.gop with records := [], missing := [], askAt := none } }).each s.snapNodes (State.snapSend 2)

def execSnapshotReleaseRx (s : State) : Outcome := coreDone s (snapshotReleaseRx s)

/-- TREE_RESET (R223): LAT_GOP with OP TREE_RESET and its KEY. -/
def treeReset (key : Nat) (s : State) : State :=
  if !s.coreOn || !s.isRoot || s.rdB LAT_GOP_BUSY || key ≠ 0xA5 then s
  else ((s.wr LAT_GOP_BUSY 1).startTreeReset { type := 5, oh := true, origin := s.hubNo, arg := 2 }).ev latPage [EV_LAT_TREE_RESET]

def execTreeReset (key : BitVec 8) (s : State) : Outcome := coreDone s (treeReset key.toNat s)

end Sys2Proof.Machine
end

