-- ==== Sys2Proof/Machine/Tunnel.lean ====
section
/-!
DEFINITION. The meanings of the commands of the tunnel table, its opening and closing, the identities of the tree and the dual-apex
moves (R154–R178, R185).
-/
namespace Sys2Proof.Machine

/-! ## Checks (R162, R234, R266, R426, R443, R595) -/

/-- R162, R426: the field checks of a write or an OPEN. -/
def State.fieldsOk (s : State) (t : Nat) (e : Entry) (secure : Bool) : Bool :=
  e.kind ≠ 0 && e.kind = (kindOf t).1 && (kindOf t).2.contains e.vc && queueInClass e.vc e.queue &&
  e.destMask ≠ 0 && e.inPort ≤ 24 && !e.dests.contains e.inPort &&
  !(1 < e.dests.length && (e.vc = 2 || e.vc = 4 || e.vc = 5)) && e.resv = 0 &&
  (e.path.filter (· < 18)).all (fun p => s.rdB (LANE_CTL_ENABLE p)) &&
  (!e.keyed || s.worldOk e.keySlot secure)

/-- R443: the key checks of an OPEN or REOPEN. -/
def State.keyOk (s : State) (t : Nat) : Bool :=
  let x := s.tun t
  let c := (s.keys.slots.get x.e.keySlot).inUse
  !x.e.keyed || (2 ≤ x.e.vc && c.purpose = 4 && bitOf c.masters masterAdapters && s.worldOk x.e.keySlot x.secure)

/-- R234: the stream format of a valid STREAM record. -/
def State.streamFormat (s : State) (index : Nat) : Option Nat :=
  let w := s.recW 0x0D0 1 index 0 0
  if bitOf w 31 then some (bitsOf w 22 4 * 256 + bitsOf w 26 5 * 8) else none

/-- R234: the stream format where this hub consumes a sample tunnel agrees with the entry. -/
def State.formatOk (s : State) (t : Nat) (e : Entry) : Bool :=
  e.kind ≠ 4 || !e.crosses 18 || (match s.streamFormat (t - 0x200) with | some f => (f = e.adapter : Bool) | none => true)

/-- R266: the destinations of an express tunnel across the tree: docks but the source, each hub whose pins sink it, each hub whose frame
bridge receives it. -/
def State.expressDests (s : State) (t : Nat) (e : Entry) : Nat :=
  ((s.docksOf t e).filter (fun d => e.srcHub || d ≠ e.srcDock)).length + b2n (s.sinkPins (groupOf t) ≠ []) + b2n (e.dests.contains 20) +
  ((s.leavesOf e).map (fun h => (Config.leafSinks t h).val)).sum

/-- R266: the checks of an express tunnel. -/
def State.expressOk (s : State) (t : Nat) (e : Entry) : Bool :=
  let hb := e.adapter / 256 % 16
  (hb ≤ 0xA || hb = 0xF) && e.adapter % 256 = t - 0x100 && 1 ≤ e.rate && e.rate ≤ 10 && s.expressDests t e ≤ 64

/-- The checks with which an OPEN completes with BAD_FIELD. -/
def State.openOk (s : State) (t : Nat) : Bool :=
  let x := s.tun t
  let e := x.e
  s.fieldsOk t e x.secure && s.keyOk t &&
  (e.kind ≠ 3 || s.expressOk t e) &&
  s.formatOk t e &&
  !((e.kind = 7 || e.kind = 8) && !bitOf (s.rd CHIP_STRAP_STRAPS) 2)

/-- R519: the core die runs from the internal oscillator. -/
def State.onOsc (s : State) : Bool := !s.rdB PWR_STAT_CLK_SRC

/-- ADMISSION_CHECK (R170, R519): the status of admission. -/
def State.openStatus (s : State) (t : Nat) : Nat :=
  let e := (s.tun t).e
  if e.vc ≤ 2 && s.onOsc then 2 else s.admission t e

/-- R171: admission refused: CAUSE, TUN_LAST_FAIL and ADMIT_REFUSED. -/
def State.refuseAdmission (t status : Nat) (s : State) : State :=
  let cause := if status = 2 then 5 else 6
  ((s.onEntry t (fun e => { e with cause := cause })).lastFail t cause).ev 0x080 [EV_TUN_ADMIT_REFUSED]

/-! ## TUN_CMD (R167, R185): a command of the command unit answers the state and its STATUS -/

/-- The STATUS of a command given through TUN_CMD is shown there. -/
def State.tunStatus (st : Nat) (s : State) : State := s.wr TUN_CMD_STATUS st

/-- R167: a command not valid in the current state. (Assumption log 18, DESIGN CHOICE.) -/
def State.tunBadState (s : State) : State × Nat := (s.ev 0x080 [EV_TUN_CMD_REJECT], 1)

/-- R162: a command refused with BAD_FIELD. -/
def State.tunBadField (t : Nat) (s : State) : State × Nat := (s.lastFail t 0x0B, 4)

/-- The hub is a leaf (R565). -/
def State.isLeaf (s : State) : Bool := s.rd CHIP_STAT_ROLE = 1

/-- R167, R159, R614: a command on the selected entry: ignored and counted while BUSY, PROTECTED for the tunnels of R159.  A leaf assigns no
tunnel ID and takes every command as ENTRY_WRITE (R20, R163), so that one through its TUN_CMD is valid in no state. (Assumption log 18, DESIGN
CHOICE.) -/
def State.tunCommand (f : Nat → State → State × Nat) (s : State) : State :=
  if s.rdB TUN_CMD_BUSY then s.bump TUN_REASM_REJECT
  else
    let t := s.rd TUN_SEL_TUNNEL
    if protectedTun t then s.tunStatus 6
    else
      let r := if s.isLeaf then s.tunBadState else f t s
      r.1.tunStatus r.2

/-- TUN_READ (R185): the eight words of the selected entry go to TUN_DATA0–7, which are one buffer for the READ snapshot and for the words of a
WRITE: a word that the host writes is read back until the next READ (assumption log 18, DESIGN CHOICE). -/
def tunRead (s : State) : State :=
  if s.rdB TUN_CMD_BUSY then s.bump TUN_REASM_REJECT
  else
    let ws := (s.tun (s.rd TUN_SEL_TUNNEL)).e.words
    (s.each (List.range 8) (fun i s => s.wr (TUN_DATA_WORD i) (nth ws i))).tunStatus 0

def execTunRead (s : State) : Outcome := unitDone s (tunRead s)

/-- R185: an entry written by a master takes every field but those that the hub maintains. -/
def State.writeEntry (t : Nat) (ws : List Nat) (secure : Bool) (s : State) : State × Nat :=
  let old := (s.tun t).e
  let e := { Entry.ofWords ws with
    state := old.state, mig := old.mig, msnOut := old.msnOut, msnIn := old.msnIn, gen := old.gen, cause := old.cause, msgLost := old.msgLost }
  if old.state ≠ .free && old.state ≠ .reserved then s.tunBadState
  else if !s.fieldsOk t e secure then s.tunBadField t
  else (s.onTun t (fun x => { x with e := e, secure := secure }), 0)

/-- TUN_WRITE (R162, R185). -/
def State.tunWrite (secure : Bool) (s : State) : State :=
  s.tunCommand (fun t s => s.writeEntry t ((List.range 8).map (fun i => s.rd (TUN_DATA_WORD i))) secure)

def execTunWrite (s : State) : Outcome := unitDone s (s.tunWrite false)

/-- R163: FREE to RESERVED. -/
def State.reserveTun (t : Nat) (s : State) : State × Nat :=
  if (s.tun t).e.state = .free then (s.onEntry t (fun e => { e with state := .reserved, gen := (e.gen + 1) % 256 }), 0) else s.tunBadState

/-- TUN_RESERVE (R163). -/
def tunReserve (s : State) : State := s.tunCommand State.reserveTun

def execTunReserve (s : State) : Outcome := unitDone s (tunReserve s)

/-- R168, R170, R171: reachability and admission, then OPENING. -/
def State.tryOpening (t : Nat) (s : State) : State × Nat :=
  let e := (s.tun t).e
  if !s.leavesUp e then (((s.onEntry t (fun e => { e with cause := 9 })).lastFail t 9).ev 0x080 [EV_TUN_CMD_REJECT], 5)
  else
    let st := s.openStatus t
    if st ≠ 0 then (s.refuseAdmission t st, st) else (s.beginOpening t, 0)

/-- R163, R170: OPEN of a RESERVED entry. -/
def State.openEntry (t : Nat) (s : State) : State × Nat :=
  if (s.tun t).e.state ≠ .reserved then s.tunBadState
  else if !s.openOk t then s.tunBadField t
  else s.tryOpening t

/-- TUN_OPEN (R170). -/
def tunOpen (s : State) : State := s.tunCommand State.openEntry

def execTunOpen (s : State) : Outcome := unitDone s (tunOpen s)

/-- R171: a charge released on the path of an entry lets refused reopenings there be tried again. -/
def State.releaseCharge (e : Entry) (s : State) : State :=
  s.each (s.tunIds.filter (fun t => (s.tun t).refused && (s.tun t).e.chargedAt.any e.chargedAt.contains)) (fun t s =>
    s.onTun t (fun x => { x with refused := false }))

/-- R163: every acknowledgement of a CLOSING entry is in. -/
def State.checkClosing (t : Nat) (s : State) : State :=
  let x := s.tun t
  if x.e.state = .closing && x.leaves = [] && x.docks = [] then s.freeTun t else s

/-- R163, R168: CLOSING: TUN_CLOSE to the docks, ENTRY_WRITE FREE to the leaves, owed to one that is unreachable. -/
def State.closeTun (t cause : Nat) (s : State) : State :=
  let e := (s.tun t).e
  let hs := s.leavesOf e
  let ds := s.docksOf t e
  let far := hs.filter (fun h => (s.tun (ctrlTun h)).e.state ≠ .opened)
  let s1 := (s.onTun t (fun x => { x with
    e := { x.e with state := .closing, cause := cause }, since := s.now, writeAt := s.now, resent := false,
    leaves := hs, docks := ds, heldMsgs := [], stopAt := none, retryAt := none })).groupClosed t |>.winGone t
  let s2 := s1.each ds (fun d s => s.sendTunMsg 0x11 t d)
  let s3 := s2.each (hs.filter (fun h => !far.contains h)) (fun h s => s.sendEntryWrite t h { e with state := .free })
  let s4 := { s3 with ids := { s3.ids with owedFree := s3.ids.owedFree ++ far.map (fun h => (h, t)) } }
  (s4.releaseCharge e).checkClosing t

/-- R163: CLOSE. -/
def State.closeEntry (t : Nat) (s : State) : State × Nat :=
  match (s.tun t).e.state with
  | .opening | .opened | .rekey | .held | .failed => (s.closeTun t 0x01, 0)
  | _ => s.tunBadState

/-- TUN_CLOSE (R163). -/
def tunClose (s : State) : State := s.tunCommand State.closeEntry

def execTunClose (s : State) : Outcome := unitDone s (tunClose s)

/-- R163: RELEASE of a RESERVED entry. -/
def State.releaseEntry (t : Nat) (s : State) : State × Nat :=
  if (s.tun t).e.state = .reserved then (s.onEntry t (fun e => { e with state := .free }), 0) else s.tunBadState

/-- TUN_RELEASE (R163). -/
def tunRelease (s : State) : State := s.tunCommand State.releaseEntry

def execTunRelease (s : State) : Outcome := unitDone s (tunRelease s)

/-- R163, R443: REOPEN of a FAILED entry. -/
def State.reopenEntry (t : Nat) (s : State) : State × Nat :=
  if (s.tun t).e.state ≠ .failed then s.tunBadState
  else if !s.keyOk t then s.tunBadField t
  else s.tryOpening t

/-- TUN_REOPEN (R170). -/
def tunReopen (s : State) : State := s.tunCommand State.reopenEntry

def execTunReopen (s : State) : Outcome := unitDone s (tunReopen s)

/-! ## Acknowledgements (R163, R166, R168) -/

/-- Fields of a hub control word (R157). -/
def cType (m : List Word) : Nat := fld (m.headD 0) 36 4
def cPort (m : List Word) : Nat := fld (m.headD 0) 31 5
def cDock (m : List Word) : Nat := fld (m.headD 0) 25 6
def cTun (m : List Word) : Nat := fld (m.headD 0) 13 12
def cArg (m : List Word) : Nat := fld (m.headD 0) 0 13

/-- ENTRY_ACK_RX (R163): with the last leaf in, TUN_OPEN goes to the docks; a status other than OK fails the opening. (Assumption log 33, DEDUCED.) -/
def entryAckRx (hub : Nat) (msg : List Word) (s : State) : State :=
  let t := cTun msg
  let x := s.tun t
  if cType msg = 6 && s.isRoot && x.leaves.contains hub then
    let s1 := s.onTun t (fun x => { x with leaves := x.leaves.filter (· ≠ hub) })
    if x.e.state = .opening then
      if cArg msg % 8 ≠ 0 then s1.failTun t 0x04
      else if (s1.tun t).leaves = [] then ((s1.each x.docks (fun d s => s.sendTunMsg 0x10 t d)).checkOpening t) else s1
    else s1.checkClosing t
  else s

def execEntryAckRx (hub : Fin 17) (msg : List Word) (s : State) : Outcome := unitDone s (entryAckRx hub msg s)

/-- TUN_OPEN_ACK_RX (R166). -/
def tunOpenAckRx (dock : Nat) (msg : List Word) (s : State) : State :=
  let t := fld (msg.headD 0) 20 12
  let x := s.tun t
  if fld (msg.headD 0) 32 8 = 0x12 && x.e.state = .opening && x.docks.contains dock then
    (s.onTun t (fun x => { x with docks := x.docks.filter (· ≠ dock) })).checkOpening t
  else s

def execTunOpenAckRx (dock : Fin 64) (msg : List Word) (s : State) : Outcome := unitDone s (tunOpenAckRx dock msg s)

/-- TUN_OPEN_NAK_RX (R163, R166): an OPENING entry goes to FAILED with CAUSE 0x04. -/
def tunOpenNakRx (dock : Nat) (msg : List Word) (s : State) : State :=
  let t := fld (msg.headD 0) 20 12
  let x := s.tun t
  if fld (msg.headD 0) 32 8 = 0x13 && x.e.state = .opening && x.docks.contains dock then s.failTun t 0x04 else s

def execTunOpenNakRx (dock : Fin 64) (msg : List Word) (s : State) : Outcome := unitDone s (tunOpenNakRx dock msg s)

/-- TUN_CLOSE_ACK_RX (R166). -/
def tunCloseAckRx (dock : Nat) (msg : List Word) (s : State) : State :=
  let t := fld (msg.headD 0) 20 12
  let x := s.tun t
  if fld (msg.headD 0) 32 8 = 0x14 && x.e.state = .closing && x.docks.contains dock then
    (s.onTun t (fun x => { x with docks := x.docks.filter (· ≠ dock) })).checkClosing t
  else s

def execTunCloseAckRx (dock : Fin 64) (msg : List Word) (s : State) : Outcome := unitDone s (tunCloseAckRx dock msg s)

/-- PENDING_TUN_MSG_SEND (R166): the dock's management tunnel is OPEN, so the messages held for it go. -/
def pendingTunMsg (dock : Nat) (s : State) : State :=
  if (s.tun (mgmtTun dock)).e.state = .opened then
    s.each (s.tunIds.filter (fun t => (s.tun t).heldMsgs.contains dock)) (fun t s =>
      let s1 := s.onTun t (fun x => { x with heldMsgs := x.heldMsgs.filter (· ≠ dock) })
      s1.sendTunMsg (if (s.tun t).e.state = .opening then 0x10 else 0x11) t dock)
  else s

def execPendingTunMsgSend (dock : Fin 64) (s : State) : Outcome := unitDone s (pendingTunMsg dock s)

/-- OPENING_TIMEOUT (R163): 10 ms after entry. -/
def openingTimeout (t : Nat) (s : State) : State :=
  let x := s.tun t
  if x.e.state = .opening && x.since + ms 10 < s.now then (s.ev 0x080 [EV_TUN_OPEN_TIMEOUT]).failTun t 0x03 else s

def execOpeningTimeout (t : BitVec 12) (s : State) : Outcome := unitDone s (openingTimeout t.toNat s)

/-- The flits of a tunnel leave every queue and ingress buffer. -/
def State.discardTun (t : Nat) (s : State) : State :=
  let s1 := s.each (List.range 18) (fun p s => (s.dropQueued p [(s.tun t).e.queue] (fun f => f.tunnel = t)).1)
  let l := s1.hull.ingress.map (fun f => if f.tunnel = t then { f with todo := [] } else f)
  ({ s1 with hull := { s1.hull with ingress := l, adapters := s1.hull.adapters.filter (fun x => x.2.tunnel ≠ t) } }).settleIngress

/-- CLOSING_DISCARD (R163): 1 ms after entry. -/
def closingDiscard (t : Nat) (s : State) : State :=
  let x := s.tun t
  if x.e.state = .closing && x.since + ms 1 ≤ s.now then s.discardTun t else s

def execClosingDiscard (t : BitVec 12) (s : State) : Outcome := unitDone s (closingDiscard t.toNat s)

/-- CLOSING_TIMEOUT (R163): 10 ms after entry. -/
def closingTimeout (t : Nat) (s : State) : State :=
  let x := s.tun t
  if x.e.state = .closing && x.since + ms 10 < s.now then s.freeTun t else s

def execClosingTimeout (t : BitVec 12) (s : State) : Outcome := unitDone s (closingTimeout t.toNat s)

/-- ENTRY_WRITE_RESEND (R168): no ENTRY_ACK 1 ms after the ENTRY_WRITE, which is sent once more. -/
def entryWriteResend (t : Nat) (s : State) : State :=
  let x := s.tun t
  if (x.e.state = .opening || x.e.state = .closing) && x.leaves ≠ [] && !x.resent && x.writeAt + ms 1 < s.now then
    let e := { x.e with state := if x.e.state = .opening then .opened else .free }
    (s.each x.leaves (fun h s => s.sendEntryWrite t h e)).onTun t (fun x => { x with resent := true })
  else s

def execEntryWriteResend (t : BitVec 12) (s : State) : Outcome := unitDone s (entryWriteResend t.toNat s)

/-- ENTRY_ACK_TIMEOUT (R168): an ENTRY_ACK is missing 2 ms after the first ENTRY_WRITE, or a leaf on the path has become unreachable. -/
def entryAckTimeout (t : Nat) (s : State) : State :=
  let x := s.tun t
  if s.isRoot && x.e.state = .opening && (!s.leavesUp x.e || (x.leaves ≠ [] && x.writeAt + ms 2 < s.now)) then s.failTun t 0x09 else s

def execEntryAckTimeout (t : BitVec 12) (s : State) : Outcome := unitDone s (entryAckTimeout t.toNat s)

/-- R165: every external port on the path is ACTIVE. -/
def State.pathActive (s : State) (e : Entry) : Bool := (e.path.filter (· < 18)).all s.active

/-- AUTO_REOPEN (R165, R168, R171, R519). -/
def autoReopen (t : Nat) (s : State) : State :=
  let x := s.tun t
  if x.e.state = .failed && x.e.auto && s.rdB TUN_CTL_AUTO_REOPEN && s.isRoot && !protectedTun t && !x.refused &&
      s.pathActive x.e && s.leavesUp x.e && !(x.e.vc ≤ 2 && s.onOsc) then
    let st := s.openStatus t
    if st = 0 then s.beginOpening t
    else (s.refuseAdmission t st).onTun t (fun x => { x with refused := true })
  else s

def execAutoReopen (t : BitVec 12) (s : State) : Outcome := unitDone s (autoReopen t.toNat s)

/-! ## Hub control messages (R154–R157) -/

/-- R157, R163: what an entry written as sent does beside its fields, by the state that it enters. -/
def State.entered (t : Nat) (old : Entry) (s : State) : State :=
  let e := (s.tun t).e
  if e.state = old.state then
    if e.state = .opened then s.onEntry t (fun e => { e with msnOut := old.msnOut, msnIn := old.msnIn, msgLost := old.msgLost }) else s
  else match e.state with
    | .opened => s.openTun t
    | .held => s.holdTun t
    | .rekey => s.rekeyTun t
    | .failed => s.failTun t e.cause
    | _ => s

/-- ENTRY_WRITE_RX (R157, R163): a leaf judges and writes the entry as sent, and answers with ENTRY_ACK.  A refusal is recorded as the root records
its own (R162, R171, R185); an ENTRY_WRITE sent again to an entry that is OPEN keeps what its adapter counts (R173). (Assumption log 33, DEDUCED.) -/
def entryWriteRx (msg : List Word) (s : State) : State :=
  let t := cTun msg
  let ws := wordsEntry (msg.drop 1)
  let e := Entry.ofWords ws
  let old := (s.tun t).e
  if cType msg = 5 && !s.isRoot && msg.length = 8 then
    let ack (st : Nat) (s : State) : State := s.sendCtrl s.hubNo 6 0 0 t st
    if protectedTun t then ack 6 s
    else if 8 ≤ bitsOf (nth ws 0) 28 4 || e.mig = 3 then ack 4 (s.lastFail t 0x0B)
    else if e.state = .free then
      ack 0 ((((s.groupClosed t).winGone t).onTun t (fun x => { x with
        e := e, rx := {}, pruned := 0, stopAt := none, retryAt := none, doneRcvd := false })).releaseCharge old)
    else if !s.fieldsOk t e true || !s.formatOk t e then ack 4 (s.lastFail t 0x0B)
    else
      let st := if e.vc ≤ 2 && s.onOsc then 2 else s.admission t e
      if st ≠ 0 then ack st (s.refuseAdmission t st)
      else ack 0 ((s.onTun t (fun x => { x with e := e, secure := true })).entered t old)
  else s

def execEntryWriteRx (hub : Fin 17) (msg : List Word) (s : State) : Outcome :=
  unitDone s (if s.hubNo = hub.val then entryWriteRx msg s else s)

/-- HUB_ASSIGN_RX (R155): a leaf that holds another number takes the carrying apex cold. -/
def hubAssignRx (msg : List Word) (s : State) : State :=
  if cType msg = 1 && !s.isRoot && cArg msg % 32 ≠ s.hubNo then s.forceCold (s.ids.carry.getD 16) else s

def execHubAssignRx (hub : Fin 17) (msg : List Word) (s : State) : Outcome :=
  unitDone s (if s.hubNo = hub.val then hubAssignRx msg s else s)

/-- DOCK_REQ_RX (R20, R156, R157): the root grants an ID, whose management tunnel then exists, or denies. (Assumption log 33, DEDUCED.) -/
def dockReqRx (hub : Nat) (msg : List Word) (s : State) : State :=
  let p := cPort msg
  if cType msg = 2 && s.isRoot then
    match s.chooseDock hub p with
    | some d =>
      let s1 := if s.ids.docks.contains (hub, p, d) then s else { s with ids := { s.ids with docks := s.ids.docks ++ [(hub, p, d)] } }
      let port := (s.tun (ctrlTun hub)).e.dests.headD 0
      let alt := (s.tun (ctrlTun hub)).e.altPort
      ((s1.sendCtrl hub 3 p d 0 0).installMgmt (mgmtTun d) port).onEntry (mgmtTun d) (fun e => { e with altPort := alt })
    | none => (s.sendCtrl hub 4 p 0 0 0).ev 0x080 [EV_TUN_DOCK_ID_EXHAUSTED]
  else s

def execDockReqRx (hub : Fin 17) (msg : List Word) (s : State) : Outcome := unitDone s (dockReqRx hub msg s)

/-- DOCK_GRANT_RX (R157): the leaf sends the ID in its IDENTITY, and CONFIG may complete.  An answer after the 150 µs comes too late for its
attempt, which fails under R64; the next one asks again. -/
def dockGrantRx (msg : List Word) (s : State) : State :=
  let p := cPort msg
  let late := s.ids.asked.lookup p = some 0 && (s.lane p).phase = .config
  if cType msg = 3 && !s.isRoot && p < 16 && !late then
    let ids := { s.ids with
      asked := s.ids.asked.filter (·.1 ≠ p)
      docks := s.ids.docks.filter (fun d => !(d.1 = s.hubNo && d.2.1 = p)) ++ [(s.hubNo, p, cDock msg)]
      granted := s.ids.granted.filter (·.1 ≠ p) ++ [(p, cDock msg)] }
    let s1 := { s with ids := ids }
    let l := s1.lane p
    if l.phase = .config && l.caps ≠ [] then
      let s2 := s1.sendCaps p (s1.maySee p)
      if l.seenRcvd && (s2.lane p).seenSent then s2.configComplete p else s2
    else if s1.active p then s1.bringTunnels p
    else s1
  else s

def execDockGrantRx (hub : Fin 17) (msg : List Word) (s : State) : Outcome :=
  unitDone s (if s.hubNo = hub.val then dockGrantRx msg s else s)

/-- DOCK_DENY_RX (R20, R157): the port goes to DISABLED, and the leaf raises DOCK_ID_EXHAUSTED. -/
def dockDenyRx (msg : List Word) (s : State) : State :=
  let p := cPort msg
  if cType msg = 4 && !s.isRoot && p < 16 then
    ((({ s with ids := { s.ids with asked := s.ids.asked.filter (·.1 ≠ p) } }).ev 0x080 [EV_TUN_DOCK_ID_EXHAUSTED]).disablePort p)
  else s

def execDockDenyRx (hub : Fin 17) (msg : List Word) (s : State) : Outcome :=
  unitDone s (if s.hubNo = hub.val then dockDenyRx msg s else s)

/-- DOCK_REQ_TIMEOUT (R157): no answer 150 µs after CONFIG entry: the wait ends, and the attempt will fail under R64. -/
def dockReqTimeout (p : Nat) (s : State) : State :=
  match s.ids.asked.lookup p with
  | some t =>
    if t < s.now then { s with ids := { s.ids with asked := s.ids.asked.map (fun x => if x.1 = p then (p, 0) else x) } } else s
  | none => s

def execDockReqTimeout (p : Fin 18) (s : State) : Outcome := unitDone s (dockReqTimeout p s)

/-- DOCK_RELEASE_RX (R156): the root releases the ID unless it is pinned, and the step 5b on the dock's spoke fails its management tunnel
(R163, R164). (Assumption log 33, DEDUCED.) -/
def dockReleaseRx (hub : Nat) (msg : List Word) (s : State) : State :=
  let d := (hub, cPort msg, cDock msg)
  if cType msg = 9 && s.isRoot && s.ids.docks.contains d then
    let s1 := if s.ids.dockPins.contains d then s else { s with ids := { s.ids with docks := s.ids.docks.filter (· ≠ d) } }
    match (s1.tun (mgmtTun (cDock msg))).e.state with
    | .opening | .opened | .rekey | .held => s1.failTun (mgmtTun (cDock msg)) 0x02
    | _ => s1
  else s

def execDockReleaseRx (hub : Fin 17) (msg : List Word) (s : State) : Outcome := unitDone s (dockReleaseRx hub msg s)

/-! ## Dual-apex moves (R176, R178) -/

/-- MIGRATE_RX (R176): the root swaps its spokes, if its own DOWN entry has not done so. -/
def migrateRx (port : Nat) (msg : List Word) (s : State) : State :=
  let e := (s.tun (cTun msg)).e
  if cType msg = 7 && s.isRoot && e.altPort = port && e.state ≠ .free then s.changeover (s.pairSide e) port else s

def execMigrateRx (hub : Fin 17) (port : Fin 18) (msg : List Word) (s : State) : Outcome :=
  unitDone s (if s.hubAt port = some hub.val then migrateRx port msg s else s)

/-- R178: MIGRATE_DONE of a tunnel goes on the new side; it names the tunnel in [24:13] and the leaf's port, as MIGRATE does (assumption log 33,
DESIGN CHOICE: the table of R157 gives TUNNEL for ENTRY_WRITE, ENTRY_ACK and MIGRATE only). -/
def State.sendMigrateDone (t port : Nat) (s : State) : State :=
  let h := if s.isRoot then (s.hubAt port).getD 0 else s.hubNo
  s.sendMsgTo 24 (ctrlTun h) [port] [ctrlWord 8 port 0 t 0]

/-- R178: a VC2–VC5 tunnel stops new flits on the old side. -/
def State.stopOld (t : Nat) (s : State) : State :=
  s.onTun t (fun x => { x with stopAt := some s.now, retryAt := none })

/-- MOVE_BACK_START (R178): apex 0 has been ACTIVE for 1 ms while apex 1 carries.  VC0 and VC1 move at once, and MIGRATE_DONE tells the root to move
them too (assumption log 33, DESIGN CHOICE: R178 names the message for VC2–VC5 only). -/
def moveBackStart (s : State) : State :=
  if !s.isRoot && s.ids.carry = some 17 && s.active 16 && s.active 17 && (s.lane 16).activeAt + ms 1 ≤ s.now then
    let ts := s.pairTuns 17 16
    let s1 := s.each ts (fun t s =>
      if (s.tun t).e.vc ≤ 1 then (s.onEntry t s.swapAlt).sendMigrateDone t 16 else s.stopOld t)
    { s1 with ids := { s1.ids with carry := some 16 } }
  else s

def execMoveBackStart (s : State) : Outcome := unitDone s (moveBackStart s)

/-- R178: the old-side transmitter holds unacknowledged or queued flits of the tunnel. -/
def State.holdsOld (s : State) (t : Nat) : Bool :=
  let p := s.pairSide (s.tun t).e
  (s.chord p).replay.any (fun r => r.tunnel = t) ||
  (s.compass.queues.get (qKey p (s.tun t).e.queue)).any (fun q => q.f.tunnel = t)

/-- MOVE_BACK_DRAINED (R178): MIG is set, the ports are swapped, and MIGRATE_DONE goes on the new side. -/
def moveBackDrained (t : Nat) (s : State) : State :=
  let x := s.tun t
  if x.stopAt.isSome && !s.holdsOld t && s.active x.e.altPort then
    let s1 := (s.onEntry t (fun e => { s.swapAlt e with mig := 2 })).onTun t (fun x => { x with stopAt := none })
    s1.sendMigrateDone t x.e.altPort
  else s

def execMoveBackDrained (t : BitVec 12) (s : State) : Outcome := unitDone s (moveBackDrained t.toNat s)

/-- MIGRATE_DONE_RX (R178): flits are accepted on the new side, and this hub stops its own old side if it has not moved. -/
def migrateDoneRx (port : Nat) (msg : List Word) (s : State) : State :=
  let t := cTun msg
  let x := s.tun t
  if cType msg = 8 && x.e.state ≠ .free then
    if x.e.vc ≤ 1 then (if x.e.altPort = port then s.onEntry t s.swapAlt else s)
    else
      let s1 := s.onTun t (fun x => { x with doneRcvd := true })
      if x.e.altPort = port && x.e.mig = 0 && x.stopAt = none then (s1.onEntry t (fun e => { e with mig := 1 })).stopOld t else s1
  else s

def execMigrateDoneRx (hub : Fin 17) (port : Fin 18) (msg : List Word) (s : State) : Outcome :=
  unitDone s (if s.hubAt port = some hub.val || s.hubNo = hub.val then migrateDoneRx port msg s else s)

/-- MIGRATE_INGRESS_SWITCH (R178): the old ingress buffer holds no flit of the tunnel, and MIG is cleared. -/
def migrateIngressSwitch (t : Nat) (s : State) : State :=
  let x := s.tun t
  if x.e.mig = 2 && x.doneRcvd && !(s.hull.ingress.any (fun f => f.tunnel = t && f.inPort = x.e.altPort)) then
    (s.onEntry t (fun e => { e with mig := 0 })).onTun t (fun x => { x with doneRcvd := false })
  else s

def execMigrateIngressSwitch (t : BitVec 12) (s : State) : Outcome := unitDone s (migrateIngressSwitch t.toNat s)

/-- MOVE_BACK_ABANDON (R178): the old side still holds flits 100 µs after the stop. -/
def moveBackAbandon (t : Nat) (s : State) : State :=
  match (s.tun t).stopAt with
  | some a =>
    if a + us 100 < s.now && s.holdsOld t then s.onTun t (fun x => { x with stopAt := none, retryAt := some (s.now + ms 1) }) else s
  | none => s

def execMoveBackAbandon (t : BitVec 12) (s : State) : Outcome := unitDone s (moveBackAbandon t.toNat s)

/-- MOVE_BACK_RETRY (R178): 1 ms after an abandoned move. -/
def moveBackRetry (t : Nat) (s : State) : State :=
  if s.due (s.tun t).retryAt && s.active (s.tun t).e.altPort then s.stopOld t else s

def execMoveBackRetry (t : BitVec 12) (s : State) : Outcome := unitDone s (moveBackRetry t.toNat s)

end Sys2Proof.Machine
end

