-- ==== Sys2Proof/Machine/Usb.lean ====
section
/-!
DEFINITION. The meanings of the commands of the peripheral tunnel (R386–R405, R415, R416, R605).
-/
namespace Sys2Proof.Machine

/-! ## Tokens (R391–R398) -/

/-- A token to a virtual hub: the adapter answers it itself. -/
def State.hubToken (h : Nat) (k : UsbTok) (s : State) : State :=
  let v := s.vhub h
  match k.pid with
  | .setup =>
    let r := s.hubRequest h k.bytes
    (r.1.onVhub h (fun v => { v with setup := k.bytes, reply := r.2 })).usbAnswer k PID_ACK []
  | .inn =>
    if k.ep = 1 then
      let l := s.hubChanges h
      if v.config = 0 || l = [] then s.usbAnswer k PID_NAK [] else s.usbAnswer k (pidData false) l
    else match v.reply with
      | none => s.usbAnswer k PID_STALL []
      | some l => s.usbAnswer k (pidData true) l
  | .out => s.usbAnswer k (if v.reply.isSome then PID_ACK else PID_STALL) []
  | .ping => s.usbAnswer k (if v.reply.isSome then PID_ACK else PID_STALL) []
  | .ack =>
    let b (i : Nat) : Nat := v.setup.getD i 0
    if b 0 = 0 && b 1 = 5 then (s.onVhub h (fun v => { v with addr := b 2 % 128, setup := [] })).bindAddr h (b 2 % 128)
    else s

/-- R397: the answer to an IN of an isochronous endpoint in microframe n; packets of earlier microframes go. -/
def State.isoIn (i : UsbIso) (n : Nat) (k : UsbTok) (s : State) : State :=
  let want := (n + 2 ^ 14 - (s.usb.delay + 1) % 2 ^ 14) % 2 ^ 14
  let mine := i.held.filter (fun x => x.1 = want)
  let put (l : List (Nat × Nat × List Nat)) (s : State) : State :=
    s.onUsb (fun u => { u with isos := u.isos.map (fun x =>
      if x = i then { i with held := l.filter (fun y => modSub 14 y.1 want < 2 ^ 13), last := s.now } else x) })
  match mine with
  | [] => ((((put i.held s).usbAnswer k (pidData false) []).bump PER_CNT2_UNDERRUN)).ev perPage [EV_PER_ISO_UNDERRUN]
  | x :: more =>
    let pid := if more.length = 0 then 0x3 else if more.length = 1 then 0xB else 0x7
    (put (i.held.erase x) s).usbAnswer k pid x.2.2

/-- The periodic endpoint that a token reaches. -/
def State.isoAt (s : State) (d port : Nat) (k : UsbTok) : Option UsbIso :=
  s.usb.isos.find? (fun i => i.dock = d && i.port = port && i.addr = k.addr && i.ep = k.ep)

/-- R396: the periodic endpoint of a token, started at its first use. -/
def State.isoFor (d port : Nat) (k : UsbTok) (s : State) : State × UsbIso :=
  match s.isoAt d port k with
  | some i =>
    let j := { i with last := s.now }
    (s.onUsb (fun u => { u with isos := u.isos.map (fun x => if x = i then j else x) }), j)
  | none =>
    let i : UsbIso := { dock := d, port := port, addr := k.addr, ep := k.ep, inter := k.kind = 3, period := k.period, last := s.now }
    ((s.onUsb (fun u => { u with isos := u.isos ++ [i] })).portCmd d port 0xA
      [pack [(33, 7, k.addr), (29, 4, k.ep), (25, 4, k.period), (24, 1, b2n (k.kind = 3)), (0, 11, k.maxLen)]], i)

/-- R398: ISO_OUT of host microframe n. -/
def State.isoOut (d port n : Nat) (k : UsbTok) (s : State) : State :=
  s.perSend (periodicTun d) d 9 port (packNat [(15, 7, k.addr), (11, 4, k.ep)]) 0
    (pack [(11, 14, n), (0, 11, k.bytes.length)] :: packBytes k.bytes)

/-- R393: the answer to a token from the result held, or to one that finds none. -/
def State.epAnswer (key d port : Nat) (k : UsbTok) (s : State) : State :=
  let e := s.uep key
  let nak (s : State) : State := s.usbAnswer k PID_NAK []
  let inn : Bool := k.pid = .inn
  if e.stallNext then (s.onUep key (fun e => { e with stallNext := false })).usbAnswer k PID_STALL []
  else if e.tag.isSome then nak s
  else match e.result with
    | some (2, _) => s.usbAnswer k PID_STALL []
    | some (3, _) => s.onUep key (fun e => { e with result := none, data := none })
    | some (1, _) =>
      if inn then nak (s.sendXfer key d port k true false [])
      else nak (s.sendXfer key d port k false false (e.data.getD []))
    | some (_, bytes) =>
      if inn && e.isIn then (s.onUep key (fun e => { e with sent := true })).usbAnswer k (pidData e.toggle) bytes
      else if !inn && !e.isIn && (k.pid = .ping || e.data = some k.bytes) then
        let s1 := (s.onUep key (fun e => { e with result := none, data := none })).usbAnswer k PID_ACK []
        if e.setup ≠ [] && k.pid = .out && e.setup.getD 0 0 / 128 = 1 && k.bytes = [] then
          (s1.onUep key (fun e => { e with setup := [] })).controlDone (key / 32) e.setup
        else s1
      else if inn then nak ((s.onUep key (fun e => { e with result := none, data := none })).sendXfer key d port k true false [])
      else if k.pid = .ping then nak s
      else nak ((s.onUep key (fun e => { e with result := none, data := some k.bytes })).sendXfer key d port k false false k.bytes)
    | none =>
      if inn then nak (s.sendXfer key d port k true false [])
      else if k.pid = .ping then nak s
      else nak ((s.onUep key (fun e => { e with data := some k.bytes })).sendXfer key d port k false false k.bytes)

/-- R396: SET_CONFIGURATION or SET_INTERFACE. -/
def isoEnds (b : List Nat) : Bool := (b.getD 0 0 = 0 && b.getD 1 0 = 9) || (b.getD 0 0 = 1 && b.getD 1 0 = 11)

/-- R393: a SETUP: acknowledged at once, the transfer in progress aborted, an XFER sent; R396: one that sets a configuration or interface
ends the device's periodic endpoints. -/
def State.epSetup (key d port : Nat) (k : UsbTok) (s : State) : State :=
  let s1 := (s.onUsb (fun u => { u with xfers := u.xfers.filter (fun x => x.ep ≠ key) })).when (isoEnds k.bytes) (State.isoStopDev d port k.addr)
  ((s1.onUep key (fun e => { setup := k.bytes, toggle := true, split := e.split })).sendXfer key d port k false true k.bytes).usbAnswer k PID_ACK []

/-- R393: the host's ACK of IN data: the toggle advances; a status stage completes the control transfer. -/
def State.epAck (key : Nat) (s : State) : State :=
  let e := s.uep key
  if !e.sent then s
  else
    let last : Bool := e.setup ≠ [] && e.setup.getD 0 0 / 128 = 0
    let s1 := s.onUep key (fun e => { e with sent := false, result := none, toggle := !e.toggle })
    if last then (s1.onUep key (fun e => { e with setup := [] })).controlDone (key / 32) e.setup else s1

/-- R395: the split buffers in use at a dock port. -/
def State.splitUsed (s : State) (d port : Nat) : Nat :=
  (s.usb.eps.entries.filter (fun x => x.1 / 32 = devTarget d port && x.2.split)).length

/-- R395–R398: a split transaction. -/
def State.splitToken (key d port : Nat) (start : Bool) (k : UsbTok) (s : State) : State :=
  let n := s.rd PER_USB_STAT_FRAME * 8 + s.usb.micro
  let e := s.uep key
  if k.kind = 1 then
    if k.pid = .inn then
      let r := s.isoFor d port k
      if start then r.1 else r.1.isoIn r.2 n k
    else if start then s.isoOut d port n k else s
  else if k.kind = 3 then
    if k.pid = .inn then
      let r := if start || (s.isoAt d port k).isSome then s.isoFor d port k else (s, { dock := d, port := port, addr := k.addr, ep := k.ep, inter := true, period := 0, last := 0 })
      let i := r.2
      if start then r.1
      else match i.held with
        | [] => r.1.usbAnswer k PID_NAK []
        | x :: more =>
          let s1 := r.1.onUsb (fun u => { u with isos := u.isos.map (fun y => if y = i then { i with held := more, last := s.now } else y) })
          if x.2.1 = 2 then s1.usbAnswer k PID_STALL []
          else if x.2.1 = 0 then (s1.onUep key (fun e => { e with toggle := !e.toggle })).usbAnswer k (pidData e.toggle) x.2.2
          else s1.usbAnswer k PID_NAK []
    else if e.stallNext then (s.onUep key (fun e => { e with stallNext := false })).usbAnswer k PID_STALL []
    else if start then (if e.tag.isSome then s else s.sendXfer key d port k false false k.bytes)
    else s.usbAnswer k (if e.tag.isSome || e.result.isSome then PID_ACK else PID_NAK) []
  else if start then
    if !e.split && 2 ≤ s.splitUsed d port then s.usbAnswer k PID_NAK []
    else if e.tag.isSome && k.pid ≠ .setup then s.usbAnswer k PID_NAK []
    else
      let s1 := s.onUep key (fun e => { e with split := true, result := none, data := if k.pid = .out then some k.bytes else none })
      if k.pid = .setup then s1.epSetup key d port k
      else (s1.sendXfer key d port k (k.pid = .inn) false (if k.pid = .out then k.bytes else [])).usbAnswer k PID_ACK []
  else if e.stallNext then (s.onUep key (fun e => { e with stallNext := false, split := false })).usbAnswer k PID_STALL []
  else match e.result with
    | none =>
      if e.tag.isSome then s.usbAnswer k PID_NYET []
      else if e.split && k.pid = .setup then (s.onUep key (fun e => { e with split := false })).usbAnswer k PID_ACK []
      else s.usbAnswer k PID_NYET []
    | some (st, bytes) =>
      let s1 := s.onUep key (fun e => { e with split := false })
      if st = 0 && k.pid = .inn then (s1.onUep key (fun e => { e with sent := true })).usbAnswer k (pidData e.toggle) bytes
      else
        let s2 := s1.onUep key (fun e => { e with result := if st = 2 then some (2, []) else none, data := none })
        if st = 0 then
          let s3 := s2.usbAnswer k PID_ACK []
          if e.setup ≠ [] && e.setup.getD 0 0 / 128 = 1 && k.pid = .out && k.bytes = [] then s3.controlDone (key / 32) e.setup else s3
        else if st = 1 then s2.usbAnswer k PID_NAK []
        else if st = 2 then s2.usbAnswer k PID_STALL []
        else s2

/-- A token to a device behind a dock port; while a tunnel of the dock is HELD or REKEY it gets NAK (R394). -/
def State.devToken (d port : Nat) (k : UsbTok) (s : State) : State :=
  let key := epKey (devTarget d port) k.ep k.kind (k.pid = .inn || (k.pid = .ack && k.kind ≠ 0))
  let up (t : Nat) : Bool := (s.tun t).e.state = .opened
  let n := s.rd PER_USB_STAT_FRAME * 8 + s.usb.micro
  if s.vstate (32 + d) port ≠ 4 || !s.vreached (32 + d) then s
  else if k.pid = .ack then s.epAck key
  else if !(up (asyncTun d) && up (periodicTun d)) then
    if k.kind = 1 then s else s.usbAnswer k PID_NAK []
  else match k.split with
    | some start => s.splitToken key d port start k
    | none =>
      if k.kind = 1 then
        if k.pid = .inn then let r := s.isoFor d port k; r.1.isoIn r.2 n k
        else s.isoOut d port n k
      else if k.pid = .setup then s.epSetup key d port k
      else s.epAnswer key d port k

/-- USB_TOKEN_RX (R391–R398): a token is routed by its address; one for an unbound address gets no answer. (Assumption log 58, DEDUCED.) -/
def usbTokenRx (k : UsbTok) (s0 : State) : State :=
  let s := s0.usbSync
  let target : Option Nat := if k.addr = 0 then (if (s.vhub 0).addr = 0 then some 0 else s.usb.dflt) else s.usb.binds.lookup k.addr
  if !s.usbOn || s.rdB PER_USB_STAT_SUSPENDED then s
  else match target with
    | none => s
    | some t => if t < 1024 then (if s.vreached t then s.hubToken t k else s) else s.devToken ((t - 1024) / 4) ((t - 1024) % 4) k

def execUsbTokenRx (k : UsbTok) (s : State) : Outcome := unitDone s (usbTokenRx k s)

/-! ## Messages of the docks (R390, R393, R397, R402, R405) -/

/-- R390: a message with a reserved OP is discarded and counted. -/
def State.perBad (s : State) : State := (s.bump PER_CNT2_BAD).ev perPage [EV_PER_DOCK_ERR]

/-- R403: a stale reply. -/
def State.perStale (s : State) : State := (s.bump PER_CNT1_STALE).ev perPage [EV_PER_STALE_RSP]

/-- R390: OP values that are not reserved. -/
def perOps : List Nat := [1, 2, 3, 4, 5, 8, 9, 10]

/-- A message of a dock's tunnel is judged by OP before its command's own work. -/
def State.perMessage (t base op : Nat) (ws : List Word) (f : Nat → Nat → Word → State → State) (s : State) : State :=
  let w := ws.getD 0 0
  let d := t - base
  if !s.isRoot || t < base || base + 64 ≤ t then s
  else if !perOps.contains (fld w 36 4) then s.perBad
  else if fld w 36 4 ≠ op then s
  else f d (fld w 34 2) w s

/-- RESULT_RX (R393, R403). -/
def State.onResult (ws : List Word) (d port : Nat) (w : Word) (s : State) : State :=
  let tag := fld w 22 8
  match s.usb.xfers.find? (fun x => x.dock = d && x.port = port && x.tag = tag) with
  | none => s.perStale
  | some x =>
    if fld w 30 4 ≠ s.epoch d port then s.perStale
    else
      let st := min 3 (fld w 19 3)
      let bytes := unpackBytes (ws.drop 2) (fld (ws.getD 1 0) 0 11)
      let e := s.uep x.ep
      let s1 := s.onUsb (fun u => { u with xfers := u.xfers.erase x })
      s1.onUep x.ep (fun e0 => { e0 with
        tag := none, result := if e.isSetup && st = 0 then none else some (st, bytes),
        stallNext := e0.stallNext || (st = 2 && x.ep % 2 = 0 && e.data.isNone && !e.isSetup && !e.isIn && e.setup = []) })

def execResultRx (t : BitVec 12) (msg : List Word) (s : State) : Outcome :=
  unitDone s (s.perMessage t.toNat 0xE00 2 msg (State.onResult msg))

/-- XFER_TIMEOUT (R394). -/
def xferTimeout (d tag : Nat) (s : State) : State :=
  match s.usb.xfers.find? (fun x => x.dock = d && x.tag = tag) with
  | none => s
  | some x =>
    if s.now ≤ x.due then s
    else
      let s1 := (s.onUsb (fun u => { u with xfers := u.xfers.erase x })).onUep x.ep (fun e => { e with tag := none, stallNext := true, data := none })
      (s1.bump PER_CNT1_XFER_TO).ev perPage [EV_PER_XFER_TIMEOUT]

def execXferTimeout (dock : Fin 64) (tag : BitVec 8) (s : State) : Outcome := unitDone s (xferTimeout dock tag.toNat s)

/-- PORT_STAT_RX (R401, R402): state, speed and overcurrent of a dock port with their change bits; a disconnect prevails, and a reset
sets no C_PORT_SUSPEND. -/
def State.onPortStat (d port : Nat) (w : Word) (s0 : State) : State :=
  let h := 32 + d
  let s := s0.onVhub h (fun v => { v with seen := true, nports := fld w 13 2 + 1 })
  let st := min 6 (fld w 19 3)
  let old := s.vstate h port
  let oc : Bool := fld w 16 1 = 1
  let all : Bool := s.now < s.usb.resumeBy
  let s1 := (s.setDockPort d port st).wr (PER_PORT_SPEED (d * 4 + port)) (fld w 17 2)
  let s2 := s1.when (decide (old = 1 ∧ st = 2) || decide (2 ≤ old ∧ st = 1)) (State.vchange h port 0)
  let s3 := s2.when (old = 4 && st = 2) (State.vchange h port 1)
  let s4 := s3.when (old = 3 && st = 4) (State.vchange h port 4)
  let s5 := s4.when (old = 6 && st = 4 && (!all || (s.vport h port).alone)) (State.vchange h port 2)
  let s6 := s5.when (oc && !(s.vport h port).overCur) (fun s => (s.vchange h port 3).ev perPage [EV_PER_OVERCURRENT])
  (s6.onVport h port (fun x => { x with overCur := oc, alone := x.alone && (st = 5 || st = 6) })).usbSync.noteUsb

def execPortStatRx (t : BitVec 12) (msg : List Word) (s : State) : Outcome :=
  unitDone s (s.perMessage t.toNat 0xE00 4 msg State.onPortStat)

/-- USB_WAKE_RX (R405). -/
def State.onWake (d port : Nat) (_w : Word) (s0 : State) : State :=
  let s := s0.bump PER_WAKE_WAKES
  let h := 32 + d
  if s.now < s.usb.resumeBy then (s.bump PER_WAKE_COINCIDENT).ev perPage [EV_PER_WAKE_COINCIDENT]
  else
    let s1 := s.when (s.vstate h port = 5 && (s.vport h port).alone && (s.vhub h).wake) (fun s => (s.portCmd d port 6 []).setDockPort d port 6)
    s1.when (s.rdB PER_USB_STAT_SUSPENDED && s.wakePath d)
      (fun s => (s.onUsb (fun u => { u with wakeAt := some (u.wakeAt.getD (max s.now (u.suspAt + ms 5))) })).usbNano)

def execUsbWakeRx (t : BitVec 12) (msg : List Word) (s : State) : Outcome :=
  unitDone s (s.perMessage t.toNat 0xE00 5 msg State.onWake)

/-- PERIODIC_IN_RX (R397, R403). -/
def State.onPeriodic (ws : List Word) (d port : Nat) (w : Word) (s : State) : State :=
  let w1 := ws.getD 1 0
  if fld w 30 4 ≠ s.epoch d port then s.perStale
  else match s.usb.isos.find? (fun i => i.dock = d && i.port = port && i.addr = fld w 15 7 && i.ep = fld w 11 4) with
    | none => s.perStale
    | some i => s.onUsb (fun u => { u with isos := u.isos.map (fun x => if x = i then
        { i with held := i.held ++ [(fld w1 11 14, fld w 8 3, unpackBytes (ws.drop 2) (fld w1 0 11))] } else x) })

def execPeriodicInRx (t : BitVec 12) (msg : List Word) (s : State) : Outcome :=
  unitDone s (s.perMessage t.toNat 0xE40 10 msg (State.onPeriodic msg))

/-- ISO_IDLE_TIMEOUT (R396): no IN or split for 8 periods. -/
def isoIdle (d port ep : Nat) (s : State) : State :=
  match s.usb.isos.find? (fun i => i.dock = d && i.port = port && i.ep = ep && i.last + 8 * 2 ^ i.period * 125000 < s.now) with
  | none => s
  | some i => s.isoStop i

def execIsoIdleTimeout (dock : Fin 64) (port : Fin 4) (ep : Fin 16) (s : State) : Outcome := unitDone s (isoIdle dock port ep s)

/-! ## The upstream port (R387, R399, R403, R404, R416, R605) -/

/-- USB_SOF_RX (R399, R416): the SOF is stamped and sent to every connected dock. -/
def usbSofRx (frame micro : Nat) (s : State) : State :=
  if !s.usbOn then s
  else
    let t := s.short
    let s1 := (((s.wr PER_USB_STAT_FRAME frame).wr PER_USB_SOF_LO_STAMP t).wr PER_USB_SOF_HI_STAMP (t / 2 ^ 32)).onUsb (fun u => { u with
      micro := micro, sofAt := s.now })
    s1.each s1.vdocks (fun d s => s.perSend (periodicTun d) d 8 0 (packNat [(11, 11, frame), (8, 3, micro)]) 0 [BitVec.ofNat 40 t])

def execUsbSofRx (frame : BitVec 11) (micro : Fin 8) (s : State) : Outcome := unitDone s (usbSofRx frame.toNat micro s)

/-- R416: three intervals between SOFs, in ns: microframes, or frames at full speed. (Assumption log 58, DEDUCED.) -/
def State.sofSpan (s : State) : Nat := if s.rd PER_USB_STAT_SPEED = 2 then 3000000 else 375000

/-- SOF_LOST (R13, R416): no SOF for 3 microframes while not suspended. -/
def sofLost (s : State) : State :=
  if s.usbOn && !s.rdB PER_USB_STAT_SUSPENDED && s.usb.sofAt + s.sofSpan < s.now then
    ((s.onUsb (fun u => { u with sofAt := s.now })).bump PER_USB_CNT_SOF_LOST).ev usbPage [EV_USB_SOF_LOST]
  else s

def execSofLost (s : State) : Outcome := unitDone s (sofLost s)

/-- R403: every virtual hub returns to its default state and every dock port to POWERED_OFF, under a new EPOCH; ABORT_ALL to every dock. -/
def State.usbDefault (s : State) : State :=
  let s1 := s.each (List.range 64) (fun d s => s.each (List.range 4) (fun p s =>
    let e := s.epoch d p
    (s.setDockPort d p 0).wr (PER_PORT_EPOCH (d * 4 + p)) (e + 1)))
  let s2 := s1.each s.usbDocks (fun d s => s.portCmd d 0 9 [])
  (s2.onUsb (fun u => { u with
    hubs := u.hubs.mapVals (fun _ v => { seen := v.seen, nports := v.nports }), ports := Map.empty, binds := [], dflt := none,
    eps := Map.empty, xfers := [], isos := [] })).noteUsb.wr PER_USB_STAT_CONFIGURED 0

/-- USB_BUS_RESET (R403, R387, R415). -/
def usbBusReset (s : State) : State :=
  if !s.usbOn then s
  else
    let s1 := (((s.usbDefault.bump PER_USB_CNT_BUS_RESET).wr PER_USB_STAT_SUSPENDED 0).wr PER_USB_STAT_SPEED
      (if s.rdB PER_USB_CTL_HS_DISABLE then 2 else 3)).ev usbPage [EV_USB_BUS_RESET]
    s1.onUsb (fun u => { u with delay := max 1 (s.rd PER_CTL_SOF_DELAY), sofAt := s.now, wakeAt := none })

def execUsbBusReset (s : State) : Outcome := unitDone s (usbBusReset s)

/-- USB_SUSPEND (R404): SUSPEND_ALL to every dock. -/
def usbSuspend (s : State) : State :=
  if !s.usbOn || s.rdB PER_USB_STAT_SUSPENDED then s
  else
    let s1 := ((s.wr PER_USB_STAT_SUSPENDED 1).ev usbPage [EV_USB_SUSPEND]).onUsb (fun u => { u with suspAt := s.now })
    s1.each s1.usbDocks (fun d s => s.portCmd d 0 7 [])

def execUsbSuspend (s : State) : Outcome := unitDone s (usbSuspend s)

/-- USB_RESUME (R404, R405): RESUME_ALL to every dock; a WAKE that waits or drives K is treated as the host's resume. -/
def usbResume (s : State) : State :=
  if !s.usbOn || !s.rdB PER_USB_STAT_SUSPENDED then s
  else
    let both : Bool := s.usb.wakeAt.isSome || s.now < s.usb.kUntil
    let s1 := ((s.wr PER_USB_STAT_SUSPENDED 0).ev usbPage [EV_USB_RESUME]).onUsb (fun u => { u with
      wakeAt := none, kUntil := 0, resumeBy := s.now + ms 20, sofAt := s.now + ms 20 })
    let s2 := s1.when both (fun s => (s.bump PER_WAKE_COINCIDENT).ev perPage [EV_PER_WAKE_COINCIDENT])
    s2.each s2.usbDocks (fun d s => s.portCmd d 0 8 [])

def execUsbResume (s : State) : Outcome := unitDone s (usbResume s)

/-- R387, R416: the connection follows CONNECT and VBUS; without it every virtual hub is in its default state. -/
def State.usbLink (was : Bool) (s : State) : State :=
  if s.usbOn && !was then (s.emit (.usbLine 2)).ev usbPage [EV_USB_CONNECTED] |>.onUsb (fun u => { u with sofAt := s.now })
  else if was && !s.usbOn then ((s.emit (.usbLine 0)).usbDefault.wr PER_USB_STAT_SUSPENDED 0).wr PER_USB_STAT_SPEED 0
  else s

/-- USB_CONNECT (R387, R416, R595): a write of CONNECT under the page's LOCK. -/
def usbConnect (v : Bool) (s : State) : State :=
  if !s.coreOn || s.locked usbPage then s else (s.wrB PER_USB_CTL_CONNECT v).usbLink s.usbOn

def execUsbConnect (v : Bool) (s : State) : Outcome := unitDone s (usbConnect v s)

/-- USB_VBUS_CHANGE (R605): the ball's voltage in 10 mV: present above 1.40 V, absent below 1.20 V. -/
def usbVbusChange (v : Nat) (s : State) : State :=
  (s.onUsb (fun u => { u with vbus := if 140 < v then true else if v < 120 then false else u.vbus })).usbLink s.usbOn

def execUsbVbusChange (v : Nat) (s : State) : Outcome := done (usbVbusChange v s)

/-- EMULATED_PORT_TIMING (R401): the emulated time of a port that leads to another virtual hub ends. (Assumption log 58, DEDUCED.) -/
def emulatedTiming (h port : Nat) (s : State) : State :=
  let x := s.vport h port
  if !s.due x.wait then s
  else
    let s1 := s.setVport h port x.next
    (s1.when (x.st = 3) (State.vchange h port 4)).when (x.st = 6) (fun s => (s.vchange h port 2).onVport h port (fun y => { y with alone := false }))
      |>.usbSync

def execEmulatedPortTiming (hub : Fin 17) (port : Fin 16) (s : State) : Outcome := unitDone s (emulatedTiming hub port s)

end Sys2Proof.Machine
end

