-- ==== Sys2Proof/Machine/Window.lean ====
section
/-!
DEFINITION. The meanings of the commands of the host link and the window bridge (R346–R385, R539).
-/
namespace Sys2Proof.Machine

/-! ## The host link (R347, R352, R539) -/

/-- The host link is up. -/
def State.hostUp (s : State) : Bool := s.rdB WIN_PCIE_STAT_LINK_UP

/-- R384: a cap of width or rate. -/
def widthCap (v : Nat) : Nat := if v = 1 || v = 2 || v = 4 then v else 8
def speedCap (v : Nat) : Nat := if 1 ≤ v && v ≤ 3 then v else 4

/-- R384, R511: the link rests in L1 while every function is in D3hot; L1 by ASPM shows in no command. (Assumption log 41, PRESUMED.) -/
def State.noteL1 (s : State) : State := s.wrB WIN_PCIE_STAT_L1 (s.hostUp && (List.range 3).all (fun f => (s.pf f).power = 3))

/-- PCIE_LINK_UP (R347, R384; R593: only with HOST_EN): the partner's highest rate code and width; the highest common ones within the caps are used.  A link that
is up has been through Recovery. -/
def pcieLinkUp (speed width : Nat) (s : State) : State :=
  if !s.coreOn || !s.isRoot || !bitOf (s.rd CHIP_STRAP_STRAPS) 2 then s
  else
    let cs := speedCap (s.rd WIN_PCIE_CTL_MAX_SPEED)
    let cw := widthCap (s.rd WIN_PCIE_CTL_MAX_WIDTH)
    let sp := min (max 1 speed) cs
    let wd := (([8, 4, 2, 1].find? (fun w => w ≤ width && w ≤ cw)).getD 1)
    let s1 := (s.wr WIN_PCIE_STAT_SPEED sp).wr WIN_PCIE_STAT_WIDTH wd
    let s2 := if s.hostUp then (s1.bump WIN_PCIE_CNT_RECOVERY).noteL1 else (s1.wr WIN_PCIE_STAT_LINK_UP 1).ev 0x0F1 [EV_PCIE_LINK_UP]
    s2.when (sp < cs || wd < cw) (State.ev 0x0F1 [EV_PCIE_DEGRADED])

def execPcieLinkUp (speed : Fin 5) (width : Fin 17) (s : State) : Outcome := unitDone s (pcieLinkUp speed width s)

/-- R352, R560: the configuration registers return to their reset values and the completions of the reads in progress are discarded. -/
def State.resetConfig (s : State) : State :=
  let s1 := { s with win := { s.win with
    funcs := Map.empty, maxPayload := 128, reqs := s.win.reqs.map (fun (r : WinReq) => if r.write || r.spec then r else { r with silent := true }) } }
  s1.wr EVT_STAT_MSIX_READY 0

/-- PCIE_LINK_DOWN (R352). -/
def State.hostLinkDown (s : State) : State :=
  if s.hostUp then
    ((((s.wr WIN_PCIE_STAT_LINK_UP 0).wr WIN_PCIE_STAT_SPEED 0).wr WIN_PCIE_STAT_WIDTH 0).bump WIN_PCIE_CNT_LINK_DOWN).resetConfig.noteL1.ev
      0x0F1 [EV_PCIE_LINK_DOWN]
  else s

def execPcieLinkDown (s : State) : Outcome := done s.hostLinkDown

/-- HOT_RESET (R352). -/
def hotReset (s : State) : State := if s.hostUp then s.resetConfig.noteL1.ev 0x0F1 [EV_PCIE_HOT_RESET] else s

def execHotReset (s : State) : Outcome := unitDone s (hotReset s)

/-- R348: device ID and class code of a function. -/
def deviceOf (f : Nat) : Nat := if f = 0 then 0x6418 else if f = 1 then 0x6419 else 0x641A
def classOfFunc (f : Nat) : Nat := if f = 0 then 0x088000 else if f = 1 then 0x058000 else 0x108000

/-- R348: writable bits and fixed low bits of a base address register. -/
def barShape (f i : Nat) : Nat × Nat := match f, i with
  | 0, 0 => (0xFFC00000, 0x4) | 0, 1 => (0xFFFFFFFF, 0)
  | 1, 0 => (0xFFFFC000, 0) | 1, 2 => (0, 0xC) | 1, 3 => (0xFFFFFFF0, 0) | 1, 4 => (0xC0000000, 0)
  | 2, 0 => (0xFFFFF000, 0)
  | _, _ => (0, 0)

/-- A base address register as held. -/
def PcieFunc.bar (x : PcieFunc) (i : Nat) : Nat :=
  match i with | 0 => x.bar0 | 1 => x.bar1 | 2 => x.bar2 | 3 => x.bar3 | 4 => x.bar4 | _ => x.bar5

/-- Write a base address register. -/
def PcieFunc.setBar (x : PcieFunc) (i v : Nat) : PcieFunc :=
  match i with
  | 0 => { x with bar0 := v } | 1 => { x with bar1 := v } | 2 => { x with bar2 := v } | 3 => { x with bar3 := v }
  | 4 => { x with bar4 := v } | _ => { x with bar5 := v }

/-- The value of a configuration register; none: the spec gives it none (a free value). (Assumption log 41, DEDUCED.) -/
def State.cfgRead (s : State) (f : Nat) : CfgReg → Option Nat
  | .id => some (deviceOf f * 65536 + s.rd CHIP_ID_VENDOR)
  | .command => some (s.pf f).command
  | .classCode => some (classOfFunc f)
  | .bar i => some (((s.pf f).bar i &&& (barShape f i).1) + (barShape f i).2)
  | .msixControl => some ((s.pf f).msix + (if f = 2 then 0 else 63))
  | .powerState => some (s.pf f).power
  | .maxPayload => some (if s.win.maxPayload = 512 then 2 else if s.win.maxPayload = 256 then 1 else 0)
  | .other _ => none

/-- The effect of a configuration write. -/
def State.cfgWrite (f : Nat) (r : CfgReg) (v : Nat) (s : State) : State :=
  let put (g : PcieFunc → PcieFunc) (s : State) : State := { s with win := { s.win with funcs := s.win.funcs.upd f g } }
  let s1 := match r with
    | .command => put (fun x => { x with command := v &&& 0x0406 }) s
    | .bar i => put (fun x => x.setBar i (v &&& (barShape f i).1)) s
    | .msixControl => put (fun x => { x with msix := v &&& 0xC000 }) s
    | .powerState => if v % 4 = 0 || v % 4 = 3 then (put (fun x => { x with power := v % 4 }) s).noteL1 else s
    | .maxPayload => { s with win := { s.win with maxPayload := if v = 1 then 256 else if v = 2 then 512 else 128 } }
    | _ => s
  (s1.wrB EVT_STAT_MSIX_READY (bitOf (s1.pf 0).msix 15 && s1.busMaster 0)).when (r = .command || r = .msixControl || r = .powerState)
    (State.each (List.range 64) (State.pendingVector f))

/-- CONFIG_REQUEST (R348, R349, R539): a read or write of a configuration register of F0–F2, with retry status until the configuration
space is loaded. -/
def configRequest (f : Nat) (r : CfgReg) (wr : Bool) (v : Reg) (tag : Nat) (s : State) : State :=
  if !s.coreOn || !s.hostUp then s
  else if s.now < s.win.cfgReadyAt then s.emit (.completion tag 3 [])
  else if wr then (s.cfgWrite f r v.toNat).emit (.completion tag 0 [])
  else match s.cfgRead f r with
    | some x => s.emit (.completion tag 0 [x])
    | none => s.drawn.emit (.completion tag 0 [s.freeValue % 2 ^ 32])

def execConfigRequest (f : Fin 3) (r : CfgReg) (wr : Bool) (v : Reg) (tag : BitVec 10) (s : State) : Outcome :=
  unitDone s (configRequest f r wr v tag.toNat s)

/-! ## Host reads and writes (R355, R360–R370) -/

/-- HOST_READ (R355, R351): a read of `len` 4-byte units at offset `o` of an aperture; while 256 are held the request waits in the
host. -/
def hostRead (apt : Bool) (o len : Nat) (fbe lbe : Nat) (tag : Nat) (s : State) : State :=
  if !s.coreOn || !s.hostUp then s
  else if 256 ≤ s.rd WIN_STAT_NP_OUT then s
  else s.hostRequest apt o (fun w t a => { hostTag := tag, window := w, tunnel := t, addr := a / 4 * 4, len := max 1 len, fbe := fbe, lbe := lbe })

def execHostRead (apt : Bool) (o : BitVec 36) (len : Fin 1025) (fbe lbe : BitVec 4) (tag : BitVec 10) (s : State) : Outcome :=
  unitDone s (hostRead apt o.toNat len fbe.toNat lbe.toNat tag.toNat s)

/-- HOST_WRITE (R361). -/
def hostWrite (apt : Bool) (o : Nat) (data : List Reg) (fbe lbe : Nat) (s : State) : State :=
  if !s.coreOn || !s.hostUp || data = [] then s
  else s.hostRequest apt o (fun w t a =>
    { write := true, window := w, tunnel := t, addr := a / 4 * 4, len := data.length, fbe := fbe, lbe := lbe, data := data.flatMap (fun d => natBytes 4 d.toNat) })

def execHostWrite (apt : Bool) (o : BitVec 36) (data : List Reg) (fbe lbe : BitVec 4) (s : State) : Outcome :=
  unitDone s (hostWrite apt o.toNat data fbe.toNat lbe.toNat s)

/-- HELD_REQUEST_RESUME (R369): the requests held for a tunnel are sent once it is OPEN again. -/
def execHeldRequestResume (t : BitVec 12) (s : State) : Outcome := unitDone s (s.pumpTun t.toNat)

/-- R367: a side-effect fault of a window. (Assumption log 41, DEDUCED.) -/
def State.seFault (w addr : Nat) (s : State) : State :=
  let x := s.winW w 3
  let s1 := ((s.wr WIN_SE_WIN_WINDOW w).wr WIN_SE_CAPT_LO_ADDR addr).wr WIN_SE_CAPT_HI_ADDR (addr / 2 ^ 32)
  let s2 := s1.setRec winPage 1 w 0 3 (bitsOf x 16 16 * 2 ^ 16 + satAdd 16 (bitsOf x 0 16) 1)
  let s3 := s2.setRec winPage 1 w 0 0 (putBits (s.winW w 0) 10 1 1)
  ({ s3 with win := { s3.win with faultAt := s3.win.faultAt.set w (some s.now) } }.bump WIN_PF_SE_DROPS).ev winPage [EV_WIN_SE_FAULT]

/-- R364, R367: the response to a speculative READ. -/
def State.specRsp (r : WinReq) (status : Nat) (rs : Bool) (bytes : List Nat) (s : State) : State :=
  let mine (e : PfEntry) : Bool := e.tag = r.tag && e.tunnel = r.tunnel && e.filledAt.isNone
  if rs || status = 3 then (((s.seFault r.window r.addr).dropPf (fun e => mine e || e.window = r.window)).pumpTun r.tunnel)
  else if status ≠ 0 then (s.dropPf mine).pumpTun r.tunnel
  else
    let s1 := s.setPf (s.win.prefetch.map (fun e => if mine e then { e with data := bytes, filledAt := some s.now } else e))
    match s1.win.prefetch.find? (fun e => e.tag = r.tag && e.filledAt = some s.now) with
    | none => s1
    | some e =>
      let waiting := s1.win.reqs.filter (fun x => x.waits = some r.tag && !x.sent)
      (s1.setReqs (s1.win.reqs.filter (fun x => !(x.waits = some r.tag && !x.sent)))).each waiting (fun x s => s.serveHit x e)

/-- READ_RSP_RX (R360, R363, R366, R369, R370); `poisoned`: the message is aborted for POISON and only its first flit is there. (Assumption log 41, DEDUCED.) -/
def readRspRx (t : Nat) (ws : List Word) (poisoned : Bool) (s : State) : State :=
  let w := ws.getD 0 0
  let op := fld w 36 4
  if op ≠ 8 then (if op = 9 || op = 10 || op = 11 then s else s.dockErr)
  else
    let tag := fld w 28 8
    match s.win.reqs.find? (fun r => !r.write && r.sent && r.tag = tag && r.tunnel = t) with
    | none => (s.bump WIN_ERR3_LATE).ev winPage [EV_WIN_LATE]
    | some r =>
      let status := if poisoned then 2 else fld w 24 4
      let bytes := unpackBytes (ws.drop 1) (r.len * 4)
      let s1 := s.setReqs (s.win.reqs.filter (· ≠ r))
      if r.spec then s1.specRsp r status (fld w 23 1 = 1) bytes
      else if status = 0 then s1.complete r 0 (dwords bytes)
      else s1.failReq .dock (status = 2 && s.rdB WIN_CTL_EP_EN) r

def execReadRspRx (t : BitVec 12) (msg : List Word) (poisoned : Bool) (s : State) : Outcome :=
  unitDone s (readRspRx t.toNat msg poisoned s)

/-- WRITE_ERR_RX (R361). -/
def writeErrRx (t : Nat) (ws : List Word) (s : State) : State :=
  if fld (ws.getD 0 0) 36 4 ≠ 9 then s
  else
    let a := (ws.getD 1 0).toNat
    let s1 := match (List.range 256).find? (fun w => s.winValid w && s.winTun w = t && s.winBase w ≤ a && a < s.winBase w + 2 ^ s.winSize w) with
      | some w => s.winError w
      | none => s
    (s1.captureRaw winPage (BitVec.ofNat 40 a)).dockErr

def execWriteErrRx (t : BitVec 12) (msg : List Word) (s : State) : Outcome := unitDone s (writeErrRx t.toNat msg s)

/-- HOST_READ_TIMEOUT (R13, R368): reads whose timer has run RD_TIMEOUT; a speculative READ is given up with its entry. -/
def hostReadTimeout (s : State) : State :=
  let late (r : WinReq) : Bool := !r.write && s.rdTimeout < r.ran
  let specs := (s.win.reqs.filter (fun r => r.spec && late r)).map (·.tag)
  (s.dropPf (fun e => e.filledAt.isNone && specs.contains e.tag)).failReqs .timeout late

def execHostReadTimeout (s : State) : Outcome := unitDone s (hostReadTimeout s)

/-- HOST_READ_HOLD_LIMIT (R368, R369): requests that have been held for the grace limit of their path; a speculative READ is given up
with its entry. -/
def hostReadHoldLimit (s : State) : State :=
  let late (r : WinReq) : Bool := s.pathGrace r.tunnel < r.held
  let specs := (s.win.reqs.filter (fun r => r.spec && late r)).map (·.tag)
  (s.dropPf (fun e => e.filledAt.isNone && specs.contains e.tag)).failReqs .link late

def execHostReadHoldLimit (s : State) : Outcome := unitDone s (hostReadHoldLimit s)

/-- PREFETCH_AGE_EXPIRY (R365). -/
def prefetchAgeExpiry (s : State) : State :=
  let age := us (min 1000 (max 1 (s.rd WIN_TIMING_PF_AGE)))
  s.setPf (s.win.prefetch.filter (fun e => match e.filledAt with | some t => s.now ≤ t + age | none => true))

def execPrefetchAgeExpiry (s : State) : Outcome := unitDone s (prefetchAgeExpiry s)

/-! ## Interrupt words (R371–R374) -/

/-- R371: PERIOD of a poll in ns. -/
def State.intPeriod (s : State) (d : Nat) : Nat := us (bitsOf (s.recW winPage 3 d 0 0) 0 14)

/-- INT_POLL (R346, R372): a poll is due; it is skipped while the previous one is in progress. (Assumption log 41, DEDUCED.) -/
def intPoll (d : Nat) (s : State) : State :=
  let x := s.win.polls.get d
  if !s.coreOn || !s.isRoot || !s.intValid d || s.now < x.nextAt then s
  else
    let next := { x with nextAt := s.now + s.intPeriod d }
    let set (y : Poll) (s : State) : State := { s with win := { s.win with polls := s.win.polls.set d y } }
    if x.out.isSome then ((set next s).bump WIN_INT_CNT_SKIP).ev 0x0F2 [EV_WINT_POLL_SKIP]
    else if (s.tun (s.intTun d)).e.state ≠ .opened then set next s
    else
      let addr := s.recW winPage 3 d 0 1 + bitsOf (s.recW winPage 3 d 0 2) 0 8 * 2 ^ 32
      let w0 := pack [(36, 4, 3), (28, 8, x.count), (27, 1, b2n x.ack.isSome), (19, 8, x.ack.getD 0)]
      (set { next with count := (x.count + 1) % 256, out := some (x.count, s.now) } s).winSend (s.intTun d) [w0, pack [(0, 40, addr)]]

def execIntPoll (d : Fin 64) (s : State) : Outcome := unitDone s (intPoll d s)

/-- INT_POLL_TIMEOUT (R372): the next poll carries no acknowledgement. -/
def intPollTimeout (d : Nat) (s : State) : State :=
  match (s.win.polls.get d).out with
  | some (_, t) =>
    if t + s.rdTimeout < s.now then
      (({ s with win := { s.win with polls := s.win.polls.upd d (fun x => { x with out := none, ack := none }) } }).bump WIN_INT_CNT_TIMEOUT).ev
        0x0F2 [EV_WINT_POLL_TIMEOUT]
    else s
  | none => s

def execIntPollTimeout (d : Fin 64) (s : State) : Outcome := unitDone s (intPollTimeout d s)

/-- R374: bits of a dock gathered in this instant; those that were set before and sent no vector. -/
def State.notePend (d bits old : Nat) (s : State) : State :=
  let m : Map ((0, 0) : Nat × Nat) := if s.win.pendAt = s.now then s.win.pendNow else Map.empty
  { s with win := { s.win with pendAt := s.now, pendNow := m.upd d (fun x => (x.1 ||| bits, x.2 ||| old)) } }

/-- INT_RSP_RX (R370, R374): the bits are gathered, and a new one sends F1's vector of the dock; a response whose TAG is not in use is late.
(Assumption log 41, DEDUCED.) -/
def intRspRx (t : Nat) (ws : List Word) (s : State) : State :=
  if fld (ws.getD 0 0) 36 4 ≠ 10 then s
  else
    let tag := fld (ws.getD 0 0) 28 8
    match (List.range 64).find? (fun d => s.intValid d && s.intTun d = t && (match (s.win.polls.get d).out with | some o => o.1 = tag | none => false)) with
    | none => (s.bump WIN_ERR3_LATE).ev winPage [EV_WIN_LATE]
    | some d =>
      let old := s.rd (WIN_INT_PEND_PEND d)
      let bits := fld (ws.getD 1 0) 0 32
      let s1 := { s with win := { s.win with polls := s.win.polls.upd d (fun x => { x with out := none, ack := some tag }) } }
      let s2 := (s1.wr (WIN_INT_PEND_PEND d) (old ||| bits)).notePend d bits (if old ||| bits = old then bits else 0)
      if old ||| bits = old then s2 else s2.dockVector d

/-- R374: the host clears bits of a dock that a response of the same instant has brought: they stay, and the vector is sent. -/
def State.pendCleared (d v : Nat) (s : State) : State :=
  let x := s.win.pendNow.get d
  if s.win.pendAt = s.now && v &&& x.2 ≠ 0 then
    ({ s with win := { s.win with pendNow := s.win.pendNow.set d (x.1, 0) } }).dockVector d
  else s

def execIntRspRx (t : BitVec 12) (msg : List Word) (s : State) : Outcome := unitDone s (intRspRx t.toNat msg s)

/-! ## Reverse windows (R375–R380) -/

/-- A word of an RWINDOW record. -/
def State.rwinW (s : State) (i w : Nat) : Nat := s.recW winPage 2 i 0 w

/-- R379: the HINT of a back-off, or none where the test is passed. -/
def State.backOff (s : State) (d n : Nat) : Option Nat :=
  if 65536 < s.upBytes + n then some 15
  else if min 256 (s.rd WIN_RW_CTL_THR) * 256 ≤ s.upBytes && s.readsTo d then some (s.rd WIN_RW_CTL_HINT)
  else none

/-- R377: a refused write. -/
def State.refuseRw (t d rseq idx cause : Nat) (s : State) : State :=
  let x := s.rwinW idx 3
  let s1 := s.setRec winPage 2 idx 0 3 (bitsOf x 16 16 * 2 ^ 16 + satAdd 16 (bitsOf x 0 16) 1)
  let s2 := { s1 with win := { s1.win with reverse := s1.win.reverse.upd d (fun r => { r with expected := (r.expected + 1) % 256 }) } }
  ((s2.winSend t [pack [(36, 4, 6), (28, 8, rseq), (24, 4, cause)]]).bump WIN_RW2_REFUSE).ev winPage [EV_WIN_RW_REFUSE]

/-- R377, R378: an accepted write. -/
def State.acceptRw (t d idx off : Nat) (bytes : List Nat) (fbe lbe : Nat) (s : State) : State :=
  let x := s.rwinW idx 3
  let host := bitsOf (s.rwinW idx 1) 12 20 * 4096 + s.rwinW idx 2 * 2 ^ 32
  let s1 := s.setRec winPage 2 idx 0 3 ((bitsOf x 16 16 + 1) % 2 ^ 16 * 2 ^ 16 + bitsOf x 0 16)
  let r := s1.win.reverse.get d
  let r' := { r with expected := (r.expected + 1) % 256, owed := r.owed + 1, dueAt := some (r.dueAt.getD (s.now + us 10)), tunnel := t }
  let s2 := ({ s1 with win := { s1.win with
    reverse := s1.win.reverse.set d r', upstream := s1.win.upstream ++ [Upstream.write d (host + off) bytes fbe lbe] } }).noteUp
  if 16 ≤ r'.owed then s2.sendRwAck d else s2

/-- RWRITE_RX (R376, R377, R379). -/
def rwriteRx (t : Nat) (ws : List Word) (s : State) : State :=
  let w := ws.getD 0 0
  if fld w 36 4 ≠ 11 then s
  else
    let d := (s.tun t).e.srcDock
    let rseq := fld w 28 8
    let n := fld w 16 11
    let idx := fld w 0 6
    let off := (ws.getD 1 0).toNat
    let k := modSub 8 rseq (s.win.reverse.get d).expected
    if 128 ≤ k then ({ s with win := { s.win with reverse := s.win.reverse.upd d (fun r => { r with tunnel := t }) } }).sendRwAck d
    else if k ≠ 0 then s.bump WIN_RW_DISCARD
    else if !bitOf (s.rwinW idx 0) 31 || bitsOf (s.rwinW idx 0) 24 6 ≠ d then s.refuseRw t d rseq idx 1
    else if 2 ^ bitsOf (s.rwinW idx 0) 16 6 < off + n * 4 then s.refuseRw t d rseq idx 2
    else if !s.hostUp || !s.busMaster 1 then s.refuseRw t d rseq idx 3
    else match s.backOff d (n * 4) with
      | some h => ((s.winSend t [pack [(36, 4, 5), (28, 8, rseq), (24, 4, h)]]).bump WIN_RW_BACKOFF).ev winPage [EV_WIN_BACKOFF]
      | none => s.acceptRw t d idx off (unpackBytes (ws.drop 2) (n * 4)) (fld w 8 4) (fld w 12 4)

def execRwriteRx (t : BitVec 12) (msg : List Word) (s : State) : Outcome := unitDone s (rwriteRx t.toNat msg s)

/-- REVERSE_WRITE_UPSTREAM (R378, R362): the next posted write of the oldest accepted data: at most Max_Payload_Size, within 4 KiB. -/
def reverseWriteUpstream (s0 : State) : State :=
  let s := s0.flushVectors s0.win.upstream.length
  if !s.hostUp || !s.busMaster 1 then s
  else match s.win.upstream with
    | .write d a b fbe lbe :: rest =>
      let n := min s.win.maxPayload (4096 - a % 4096)
      let last : Bool := b.length ≤ n
      let e := Emit.posted a (b.take n) fbe (if last then lbe else 15)
      let rest' := if last then rest else .write d (a + n) (b.drop n) 15 lbe :: rest
      let s1 := (({ s with win := { s.win with upstream := rest' } }).noteUp).emit e
      s1.flushVectors s1.win.upstream.length
    | _ => s

def execReverseWriteUpstream (s : State) : Outcome := unitDone s (reverseWriteUpstream s)

/-- RW_ACK_SEND (R378): an RW_ACK that is owed. -/
def rwAckSend (d : Nat) (s : State) : State := if (s.win.reverse.get d).owed ≠ 0 then s.sendRwAck d else s

def execRwAckSend (d : Fin 64) (s : State) : Outcome := unitDone s (rwAckSend d s)

/-! ## Records (R354, R356, R371, R375, R383) -/

/-- R383: KIND and INDEX name a record. -/
def winIndexOk (k i : Nat) : Bool := (k = 1 && i < 256) || ((k = 2 || k = 3) && i < 64)

/-- WIN_READ (R383). -/
def winRead (s : State) : State :=
  let k := s.rd WIN_SEL_KIND
  let i := s.rd WIN_SEL_INDEX
  if !s.coreOn || s.rdB WIN_CMD_BUSY then s
  else if !winIndexOk k i then s.wr WIN_CMD_STATUS 3
  else (s.wr WIN_CMD_STATUS 0).each (List.range 4) (fun w s => s.wr (WIN_DATA_WORD w) (s.recW winPage k i 0 w))

def execWinRead (s : State) : Outcome := unitDone s (winRead s)

/-- R356: a WINDOW record may be written. -/
def State.windowOk (s : State) (i w0 w1 w2 : Nat) : Bool :=
  let apt := bitOf w0 30
  let size := bitsOf w0 24 6
  let off := bitsOf w1 0 24 * 4096
  let top := if apt then 2 ^ 36 else 2 ^ 30
  12 ≤ size && size ≤ (if apt then 36 else 30) && off % 2 ^ size = 0 && off + 2 ^ size ≤ top &&
  !((List.range 256).any (fun v => v ≠ i && s.winValid v && s.winApt v = apt && s.winOff v < off + 2 ^ size && off < s.winOff v + 2 ^ s.winSize v)) &&
  bitsOf w2 0 28 * 4096 + 2 ^ size ≤ 2 ^ 40 && s.winTunOk (bitsOf w0 12 12) && (apt || !bitOf w0 11) && bitsOf w0 4 5 ≤ 16 &&
  (w0 &&& 0x20F) = 0 && bitsOf w1 24 8 = 0 && bitsOf w2 28 4 = 0

/-- R375: an RWINDOW record may be written. -/
def rwindowOk (w0 w1 w2 : Nat) : Bool :=
  let size := bitsOf w0 16 6
  12 ≤ size && size ≤ 40 && (bitsOf w1 12 20 * 4096 + w2 * 2 ^ 32) % 2 ^ size = 0 && (w0 &&& 0x40C0FFFF) = 0 && bitsOf w1 0 12 = 0

/-- R371: an INT record may be written. -/
def State.intOk (s : State) (w0 w1 : Nat) : Bool :=
  let p := bitsOf w0 0 14
  2 ≤ p && p ≤ 10000 && w1 % 4 = 0 && s.winTunOk (bitsOf w0 19 12)

/-- STATUS of a record write (R356, R371, R375, R383, R614). -/
def State.winStatus (s : State) : Nat :=
  let k := s.rd WIN_SEL_KIND
  let i := s.rd WIN_SEL_INDEX
  let w (n : Nat) : Nat := s.rd (WIN_DATA_WORD n)
  if !winIndexOk k i then 3
  else if s.locked winPage then 1
  else if k ≠ 3 && bitOf (s.recW winPage k i 0 0) 31 && bitOf (w 0) 31 then 1
  else if k = 1 then (if s.windowOk i (w 0) (w 1) (w 2) then 0 else 2)
  else if k = 2 then (if rwindowOk (w 0) (w 1) (w 2) then 0 else 2)
  else if s.intOk (w 0) (w 1) then 0 else 2

/-- WIN_WRITE (R356, R365, R371, R372, R375): word 3 and SE_FAULT are the bridge's own. (Assumption log 26, DEDUCED.) -/
def winWrite (s : State) : State :=
  let k := s.rd WIN_SEL_KIND
  let i := s.rd WIN_SEL_INDEX
  let w (n : Nat) : Nat := s.rd (WIN_DATA_WORD n)
  if !s.coreOn || s.rdB WIN_CMD_BUSY then s
  else
    let st := s.winStatus
    let s1 := s.wr WIN_CMD_STATUS st
    if st ≠ 0 then s1.ev winPage [EV_WIN_CFG_REJECT]
    else if k = 1 then
      let w0 := putBits (w 0 &&& 0xFFFFFDF0) 10 1 (b2n (s.winFault i))
      (s1.setRecs winPage 1 i 0 [0xFFFFFFFF, 0x00FFFFFF, 0x0FFFFFFF] [w0, w 1, w 2]).dropPf (fun e => e.window = i)
    else if k = 2 then s1.setRecs winPage 2 i 0 [0xBF3F0000, 0xFFFFF000, 0xFFFFFFFF] [w 0, w 1, w 2]
    else
      let s2 := s1.setRecs winPage 3 i 0 [0xFFF83FFF, 0xFFFFFFFF, 0xFF] [w 0, w 1, w 2]
      { s2 with win := { s2.win with polls := s2.win.polls.set i { nextAt := s.now + us (bitsOf (w 0) 0 14) } } }

def execWinWrite (s : State) : Outcome := unitDone s (winWrite s)

/-- PF_RESTORE (R367, R383); a fault of the same instant stands. -/
def pfRestore (s : State) : State :=
  let i := s.rd WIN_SEL_INDEX
  if !s.coreOn || s.rdB WIN_CMD_BUSY then s
  else if s.rd WIN_SEL_KIND ≠ 1 || 256 ≤ i then s.wr WIN_CMD_STATUS 3
  else if s.win.faultAt.get i = some s.now then s.wr WIN_CMD_STATUS 0
  else (s.setRec winPage 1 i 0 0 (putBits (s.winW i 0) 10 1 0)).wr WIN_CMD_STATUS 0

def execPfRestore (s : State) : Outcome := unitDone s (pfRestore s)

end Sys2Proof.Machine
end

