-- ==== Sys2Proof/Machine/RegOps.lean ====
section
/-!
DEFINITION. Reads and writes of the register space (R8–R11, R549–R553, R560, R563, R614): the fields of a register, the registers that
show state, and what a write starts.
-/
namespace Sys2Proof.Machine

/-! ## The fields of a register -/

/-- The selector that a register of a page shows, and how many values of it have one. -/
def State.bankOf (s : State) (b : Block) (p off : Nat) : Nat × Nat :=
  match b with
  | .cmpp => if 0x064 ≤ off && off ≤ 0x080 then (s.rd (CMP_QSEL_QUEUE p), 32) else (0, 1)
  | .dat =>
    if 0x074 ≤ off && off ≤ 0x080 then (s.rd DAT_PORT_SEL_PORT, 18)
    else if off = 0x090 || off = 0x094 then (s.rd DAT_LEAF_SEL_HUB, 17) else (0, 1)
  | .exp => if off = 0x06C then (s.rd EXP_QSEL_PORT, 25) else (0, 1)
  | .per => if off = 0x048 then (s.rd PER_SEL_DOCK * 4 + s.rd PER_SEL_PORT, 256) else (0, 1)
  | .diag => if 0x04C ≤ off && off ≤ 0x060 then (s.rd DIAG_PSEL_PORT, 18) else (0, 1)
  | .tun => if off = 0x06C then (s.rd TUN_ADMIT_SEL_PORT, 25) else (0, 1)
  | _ => (0, 1)

/-- The fields of the register at an offset of a page; a selector that names nothing shows none. -/
def State.fieldsAt (s : State) (b : Block) (p off : Nat) : List Field :=
  let k := s.bankOf b p off
  if k.1 < k.2 then (b.fields p k.1).filter (fun f => f.off = off) else []

/-- The value of a register from its fields. (Assumption log 22, DEDUCED.) -/
def State.plainAt (s : State) (b : Block) (p off : Nat) : Nat :=
  ((s.fieldsAt b p off).map (fun f => if f.acc = .wo then 0 else s.rd f * 2 ^ f.lsb)).sum

/-- R563: the block code of a page. -/
def blockCode (page : Nat) : Nat :=
  ((pageMap.find? (fun r => r.2.1 ≤ page && page < r.2.1 + r.2.2.1)).map (fun r => r.2.2.2)).getD 0

/-- R563: the instance of a page; the pages of the tunnel table count from 0x080. -/
def instanceOf (b : Block) (p : Nat) : Nat := if b = .tunData then p + 1 else p

/-- R549: the header registers. -/
def State.headerAt (s : State) (b : Block) (p page off : Nat) : Option Nat :=
  let h := s.pages.get page
  match off with
  | 0x000 => some (blockCode page * 2 ^ 16 + instanceOf b p * 2 ^ 8 + 1)
  | 0x004 => some b.cap.toNat
  | 0x010 => some h.stat.toNat
  | 0x014 => some h.en.toNat
  | 0x018 => some 0
  | 0x01C => some h.count.toNat
  | 0x020 => some (fld h.capt 0 32)
  | 0x024 => some (b2n h.full * 2 ^ 31 + fld h.capt 32 8)
  | 0x028 => some (fld h.seq 0 32)
  | 0x02C => some (fld h.seq 32 8)
  | _ => none

/-! ## Registers that show state -/

/-- Levels of 32 sources (R566). -/
def State.levels (s : State) (base : Nat) : Nat := ((List.range 32).map (fun n => b2n (s.level (base + n)) * 2 ^ n)).sum

/-- R566: EVT_LOG_*: the entry that the last read copied. -/
def State.logOutAt (s : State) (off : Nat) : Nat :=
  match s.evt.out with
  | none => 0
  | some e => match off with
    | 0x060 => fld e.seq 0 32
    | 0x064 => fld e.seq 32 8
    | 0x068 => fld e.time 0 32
    | 0x06C => fld e.time 32 8
    | 0x070 => e.bits.toNat
    | _ => packNat [(31, 1, 1), (30, 1, b2n e.forced), (29, 1, b2n e.power), (28, 1, b2n e.fresh), (0, 10, e.page)]

/-- R229: the selected word of a snapshot record. (Assumption log 22, DEDUCED.) (Assumption log 24, DESIGN CHOICE.) -/
def State.snapWord (s : State) : Nat :=
  let node := s.rd LAT_SNAP_SEL_NODE + (if s.rdB LAT_SNAP_SEL_DOCK then 128 else 0)
  match s.gop.records.find? (fun r => r.node = node) with
  | some r => (r.words.getD (s.rd LAT_SNAP_SEL_WORD) 0).toNat
  | none => 0

/-- R575, R578: the pattern registers of the selected port. -/
def State.patAt (s : State) (off : Nat) : Nat :=
  let c := s.diag.pats.get (s.rd DIAG_PSEL_PORT)
  let g := max c.groupsA c.groupsB
  match off with
  | 0x04C => b2n c.on
  | 0x050 => 2 * b2n c.syncB + b2n c.syncA
  | 0x054 => c.errA
  | 0x058 => c.errB
  | 0x05C => bitsOf g 0 32
  | _ => bitsOf g 32 8

/-- R230: the stamp that the last read of EVP_TS_NS took. -/
def State.stampAt (s : State) (off : Nat) : Nat :=
  match s.pins.latched with
  | none => 0
  | some x => match off with
    | 0x084 => x.ns
    | 0x088 => bitsOf x.sec 0 32
    | _ => packNat [(31, 1, 1), (25, 1, b2n x.keeper), (24, 1, b2n x.rise), (20, 4, x.pin), (0, 16, x.sec / 2 ^ 32)]

/-- R186: the states of eight tunnels. -/
def State.stateMap (s : State) (k : Nat) : Nat := ((List.range 8).map (fun j => (s.tun (8 * k + j)).e.state.code * 2 ^ (4 * j))).sum

/-- R446: the states of sixteen slots. -/
def State.slotMap (s : State) (k : Nat) : Nat := ((List.range 16).map (fun j => (s.slot (16 * k + j)).st.code * 2 ^ (2 * j))).sum

/-- Tunnels, and slots, that pass a test. -/
def State.countTun (s : State) (f : TunState → Bool) : Nat := (s.tunIds.filter (fun t => f (s.tun t).e.state)).length
def State.countSlot (s : State) (x : SlotState) : Nat := ((List.range 256).filter (fun k => (s.slot k).st = x)).length

/-- R321, R328: the snapshot of the selected queue. -/
def State.qsnapAt (s : State) (p off : Nat) : Nat :=
  let q := s.rd (CMP_QSEL_QUEUE p)
  match s.compass.snaps.get p with
  | none => 0
  | some x => if off = 0x07C then x.index % 2 ^ 16 * 2 ^ 16 + min 65535 (x.depths.getD q 0) else min (2 ^ 24 - 1) (x.delays.getD q 0)

/-- A register that shows state beyond its fields. -/
def State.viewAt (s : State) (b : Block) (p off : Nat) : Option Nat :=
  match b with
  | .chip => if 0x048 ≤ off && off ≤ 0x054 then some (Config.serial (Fin.ofNat 4 ((off - 0x048) / 4))).toNat else none
  | .evt =>
    if off = 0x00C then some (s.evt.log.length * 2 ^ 16 + s.rd EVT_STAT_MSIX_READY)
    else if off = 0x040 then some (s.levels 0)
    else if off = 0x044 then some (s.levels 32)
    else if off = 0x048 then some (fld s.evt.arm 0 32)
    else if off = 0x04C then some (fld s.evt.arm 32 32)
    else if off = 0x050 then some (fld s.evt.next 0 32)
    else if off = 0x054 then some (fld s.evt.next 32 8)
    else if 0x060 ≤ off && off ≤ 0x074 then some (s.logOutAt off)
    else none
  | .log =>
    if off = 0x044 then some (s.log.work.get (s.rd LOG_SEL_INDEX))
    else if 0x054 ≤ off && off ≤ 0x070 then some ((s.log.ring.getD (s.rd LOG_RING_SEL_ENTRY) []).getD ((off - 0x054) / 4) 0)
    else if off = 0x074 then some (s.log.ring.length * 2 ^ 16 + s.rd LOG_RING_STAT_WRAPS)
    else none
  | .diag => if 0x04C ≤ off && off ≤ 0x060 && s.rd DIAG_PSEL_PORT < 18 then some (s.patAt off) else none
  | .tun =>
    if off = 0x00C then some (s.countTun (fun x => match x with | .opened => true | _ => false) * 2 ^ 16 +
      s.countTun (fun x => match x with | .free => false | _ => true))
    else if off = 0x06C && s.rd TUN_ADMIT_SEL_PORT < 25 then
      let q := s.rd TUN_ADMIT_SEL_PORT
      some (min 65535 (s.chargedUnits q true 4096) * 2 ^ 16 + min 65535 (s.chargedUnits q false 4096))
    else none
  | .tunData => if p = 0 && 0x040 ≤ off && off ≤ 0x83C then some (s.stateMap ((off - 0x040) / 4)) else none
  | .cmpp =>
    if off = 0x00C then some ((s.noteGates p).plainAt .cmpp p 0x00C)
    else if off = 0x058 then some (((s.gcl p).oper.getD (s.rd (CMP_GCL_RDSEL_ENTRY p)) 0).toNat)
    else if off = 0x07C || off = 0x080 then some (s.qsnapAt p off)
    else none
  | .gateList =>
    if 0x040 ≤ off && off < 0x440 then some (shownEntry (2 * p) ((s.gcl (2 * p)).admin.get ((off - 0x040) / 4)))
    else if 0x440 ≤ off && off < 0x840 then some (shownEntry (2 * p + 1) ((s.gcl (2 * p + 1)).admin.get ((off - 0x440) / 4)))
    else none
  | .frmsp =>
    if off = 0x068 then some (shownEntry (18 + p) ((s.gcl (18 + p)).oper.getD (s.rd (FRM_SP_GCL_RDSEL_ENTRY p)) 0))
    else if 0x400 ≤ off && off < 0x800 then some (shownEntry (18 + p) ((s.gcl (18 + p)).admin.get ((off - 0x400) / 4)))
    else none
  | .dat =>
    if off = 0x00C then some (putBits (s.plainAt .dat p 0x00C) 24 8 s.classNow)
    else if off = 0x040 then some s.datum.ns
    else if off = 0x04C then some (bitsOf s.short 0 32)
    else if off = 0x050 then some (bitsOf s.short 32 8)
    else none
  | .lat => if off = 0x05C then some (bitsOf s.snapWord 0 32) else if off = 0x060 then some (bitsOf s.snapWord 32 8) else none
  | .evp =>
    if off = 0x080 then some (s.rd EVP_TS_LEVEL_OVF * 2 ^ 16 + s.pins.fifo.length)
    else if off = 0x084 || off = 0x088 || off = 0x08C then some (s.stampAt off)
    else none
  | .smp =>
    if off = 0x00C then
      some (((List.range 64).filter (fun c => bitOf (s.smp 3 c 0 0) 31)).length * 2 ^ 16 +
        ((List.range 256).filter (fun i => bitOf (s.smp 7 i 0 0) 31)).length + ((List.range 256).filter (fun i => bitOf (s.smp 9 i 0 0) 31)).length)
    else none
  | .exp =>
    if off = 0x06C && s.rd EXP_QSEL_PORT < 25 then some (s.fanin (s.rd EXP_QSEL_PORT) * 2 ^ 16 + s.rd (EXP_QMAX_QMAX (s.rd EXP_QSEL_PORT)))
    else none
  | .key =>
    if off = 0x00C then some (s.rd KEY_STAT_LC * 2 ^ 28 + b2n s.keys.busy * 2 ^ 25 + s.countSlot .key * 2 ^ 16 + min 255 (s.countSlot .bad) * 2 ^ 8)
    else if 0x040 ≤ off && off ≤ 0x07C then some (s.slotMap ((off - 0x040) / 4))
    else none
  | .lane => if off = 0x044 then some (s.lane p).seedA else if off = 0x048 then some (s.lane p).seedB else none
  | .rst | .cfg | .pwr | .feed | .tang | .chd | .tan | .hull | .cmp | .frm | .win | .pcie | .wint | .per | .usb | .dsp => none

/-! ## MSI-X tables and the mailbox -/

/-- R560: a word of an MSI-X table: of vector `v` of function `f`. (Assumption log 22, DEDUCED.) -/
def State.msixAt (s : State) (f v w : Nat) : Nat :=
  let e := s.evt.msix.get (f * 64 + v)
  if w = 0 then fld e.addr 0 32 else if w = 1 then fld e.addr 32 32 else if w = 2 then e.data.toNat else b2n e.mask

/-- R556, R560: a write of a word of an MSI-X table; clearing the Mask bit sends what is pending. (Assumption log 22, DEDUCED.) -/
def State.msixWrite (f v w x : Nat) (s : State) : State :=
  let e := s.evt.msix.get (f * 64 + v)
  let e' : MsixVec :=
    if w = 0 then { e with addr := BitVec.ofNat 64 (putBits e.addr.toNat 0 32 (x - x % 4)) }
    else if w = 1 then { e with addr := BitVec.ofNat 64 (putBits e.addr.toNat 32 32 x) }
    else if w = 2 then { e with data := BitVec.ofNat 32 x }
    else { e with mask := bitOf x 0 }
  ({ s with evt := { s.evt with msix := s.evt.msix.set (f * 64 + v) e' } }).pendingVector f v

/-- R432: a mailbox register, or the MSI-X table or PBA of F2. -/
def State.mailboxAt (s : State) (off : Nat) : Nat :=
  if 0x004 ≤ off && off ≤ 0x010 then (s.keys.args.get ((off - 4) / 4)).toNat
  else if off = 0x014 then
    packNat [(31, 1, b2n s.keys.busy), (30, 1, b2n s.keys.stale), (24, 4, s.keys.status), (16, 8, s.keys.ignored), (0, 10, s.keys.outBytes.length)]
  else if off = 0x018 then s.keys.inLen
  else if 0x100 ≤ off && off < 0x300 then bytesToNat ((List.range 4).map (fun j => s.keys.inBytes.get (off - 0x100 + j)))
  else if 0x400 ≤ off && off < 0x600 then bytesToNat (((s.keys.outBytes.drop (off - 0x400)).take 4))
  else if 0x800 ≤ off && off < 0x810 then s.msixAt 2 0 ((off - 0x800) / 4)
  else if off = 0xC00 then fld s.evt.pba2 0 32
  else if off = 0xC04 then fld s.evt.pba2 32 32
  else 0

/-- R434: the command of an OP; an OP of no row gives BAD_FIELD. -/
def State.keyOp (op : Nat) (r : KeyReq) (s : State) : KeyAns :=
  let a := s.keyArgs r
  match op with
  | 0x01 => s.keyRun lcAll true a keyGetInfo
  | 0x02 => s.keyRun lcPFS false a (keyGenerate 0)
  | 0x03 => s.keyRun lcPFS false a (keyDerive 0)
  | 0x04 => s.keyRun lcPFS false a (keyImport 0)
  | 0x05 => s.keyRun lcPFS false a keyExport
  | 0x06 => s.keyRun lcPFS false a (keyRevoke 0)
  | 0x07 => s.keyRun lcPFS false a (keyErase 0)
  | 0x08 => s.keyRun lcPFS false a keyAttest
  | 0x09 => s.keyRun [0] false a (keyProvision 0)
  | 0x0A => s.keyRun [2] false a keyChallenge
  | 0x0B => s.keyRun lcPFS false a (keyAdvance 0)
  | 0x0C => s.keyRun lcPFS false a keyLinkMap
  | 0x0D => s.keyRun lcAll false a keyWakeSrc
  | _ => ⟨s, 4, []⟩

/-- R432, R435: a write of a mailbox register or of F2's MSI-X table. (Assumption log 19, DEDUCED.) -/
def State.mailboxWrite (off v : Nat) (s : State) : State :=
  if off = 0x000 then
    if s.keys.busy then s.onKeys (fun k => { k with ignored := (k.ignored + 1) % 256 }) else (s.keyOp (bitsOf v 0 8) .mailbox).finish .mailbox
  else if 0x004 ≤ off && off ≤ 0x010 then s.onKeys (fun k => { k with args := k.args.set ((off - 4) / 4) (BitVec.ofNat 32 v) })
  else if off = 0x018 then s.onKeys (fun k => { k with inLen := v % 1024 })
  else if 0x100 ≤ off && off < 0x300 then
    s.onKeys (fun k => { k with inBytes := (List.range 4).foldl (fun m j => m.set (off - 0x100 + j) (bitsOf v (8 * j) 8)) k.inBytes })
  else if 0x800 ≤ off && off < 0x810 then s.msixWrite 2 0 ((off - 0x800) / 4) v
  else s

/-! ## Reads -/

/-- The live value of a register of an implemented page. (Assumption log 22, DEDUCED.) -/
def State.liveAt (s : State) (b : Block) (p page off : Nat) : Nat :=
  match s.headerAt b p page off with
  | some v => v
  | none =>
    let v := (s.viewAt b p off).getD (s.plainAt b p off)
    if off = 0x008 then b2n (s.locked page) * 2 ^ 31 + v else v

/-- The value that a read returns: R11's latched [39:32] in a _HI register that a read of _LO has latched. (Assumption log 21, DEDUCED.) (Assumption log 22, DEDUCED.) -/
def State.valueAt (s : State) (b : Block) (p page off : Nat) : Nat :=
  let v := s.liveAt b p page off
  match s.hiLatch.get (page * 4096 + off) with
  | some h => if hiOf b (off - 4) = some off then putBits v 0 8 h else v
  | none => v

/-- R559: the oldest entry of the event log is copied out and removed; an entry of this cycle that found the log full is kept after all. -/
def State.popLog (s : State) : State :=
  let s1 := { s with evt := { s.evt with log := s.evt.log.drop 1, out := s.evt.log.head? } }
  match s.evt.lost with
  | e :: rest =>
    if s.evt.lostAt = s.now then
      { s1 with evt := { s1.evt with log := s1.evt.log ++ [e], lost := rest, lostOvf := satAdd 16 s.evt.lostOvf 1 } }.wr EVT_LOG_STAT_OVF
        (satAdd 16 s.evt.lostOvf rest.length)
    else s1
  | [] => s1

/-- R226, R230, R559: what a read takes before it returns its value. (Assumption log 21, DEDUCED.) -/
def State.beforeRead (b : Block) (off : Nat) (s : State) : State :=
  match b with
  | .evt => if off = 0x060 then s.popLog else s
  | .evp => if off = 0x084 then { s with pins := { s.pins with fifo := s.pins.fifo.drop 1, latched := s.pins.fifo.head? } } else s
  | .dat =>
    if off = 0x040 then ((s.wr DAT_SEC_LO_SEC (s.datum.sec % 2 ^ 32)).wr DAT_SEC_HI_SEC (s.datum.sec / 2 ^ 32)).wr DAT_SEC_HI_FRAC s.datum.frac
    else s
  | _ => s

/-- A read of a register of an implemented page: its value and the state after it (R9, R11). -/
def State.readPage (b : Block) (p page off : Nat) (s : State) : State × Nat :=
  let s1 := s.beforeRead b off
  let v := s1.valueAt b p page off
  let s2 := match hiOf b off with
    | some h => { s1 with hiLatch := s1.hiLatch.set (page * 4096 + h) (some (s1.liveAt b p page h % 256)) }
    | none => s1
  (s2.each ((s1.fieldsAt b p off).filter (fun f => f.acc = .rc)) (fun f s => s.wr f f.reset), v)

/-- R550, R560: a read of the register space. -/
def State.readAt (page off : Nat) (s : State) : State × Nat :=
  if page = 0x3FE then (s, if off < 0x400 then s.msixAt 0 (off / 16) (off % 16 / 4) else 0)
  else if page = 0x3FF then (s, if off = 0 then fld s.evt.pba0 0 32 else if off = 4 then fld s.evt.pba0 32 32 else 0)
  else match blockOf page with
    | some (b, p) => s.readPage b p page off
    | none => (s, 0)

/-- R8: an access that is not an aligned 32-bit one. -/
def State.badAccess (s : State) : State := (s.bump WIN_ERR3_ACCESS).ev winPage [EV_WIN_ACCESS]

/-- A read of a register: the value goes to the reader; the registers of F1 and F2 show as pages 0x400 and 0x401 in the record of what
the hub sends. -/
def State.readReg (a : RegAt) (s : State) : State :=
  match a with
  | .page pg off =>
    if off.toNat % 4 ≠ 0 then s.badAccess.emit (.read pg.toNat off.toNat 0xFFFFFFFF)
    else let r := s.readAt pg.toNat off.toNat; r.1.emit (.read pg.toNat off.toNat (BitVec.ofNat 32 r.2))
  | .f1 off =>
    let o := off.toNat
    if o % 4 ≠ 0 then s.badAccess.emit (.read 0x400 o 0xFFFFFFFF)
    else s.emit (.read 0x400 o (BitVec.ofNat 32 (if o < 0x400 then s.msixAt 1 (o / 16) (o % 16 / 4)
      else if o = 0x2000 then fld s.evt.pba1 0 32 else if o = 0x2004 then fld s.evt.pba1 32 32 else 0)))
  | .f2 off =>
    if off.toNat % 4 ≠ 0 then s.badAccess.emit (.read 0x401 off.toNat 0xFFFFFFFF)
    else s.emit (.read 0x401 off.toNat (BitVec.ofNat 32 (s.mailboxAt off.toNat)))

/-! ## Writes -/

/-- R14, R374: bits of a W1C field that keep their 1: those that a dock's response of this instant has brought. -/
def State.heldBits (s : State) (f : Field) : Nat :=
  if f.page = 0x0F2 && s.win.pendAt = s.now then (s.win.pendNow.get ((f.off - 0x040) / 4)).1 else 0

/-- R9: a write of a field that has no command of its own. -/
def State.writeField (locked : Bool) (v : Nat) (f : Field) (s : State) : State :=
  let x := bitsOf v f.lsb f.width
  match f.acc with
  | .rw => s.wr f x
  | .rwl => if locked then s else s.wr f x
  | .w1c => s.wr f (s.rd f &&& ((2 ^ f.width - 1 - x) ||| s.heldBits f))
  | .w1s => s.wr f (s.rd f ||| x)
  | .ro | .rc | .wo => s

/-- R549, R552: a write of EV_FORCE. -/
def State.forceEvent (page : Nat) (v : BitVec 32) (s : State) : State :=
  let m := v &&& pageCap page
  if m = 0#32 then s else s.pageEvent page m true false s.shortNow

/-- R549: a write of EV_EN. -/
def State.writeEn (page : Nat) (v : BitVec 32) (s : State) : State :=
  { s with pages := s.pages.upd page (fun h => { h with en := v &&& pageCap page }) }

/-- R549: a write of EV_STAT clears the bits written 1, but those that hardware sets in the same cycle (R14). -/
def State.clearStat (page : Nat) (v : BitVec 32) (s : State) : State :=
  { s with pages := s.pages.upd page (fun h =>
      { h with stat := h.stat &&& (~~~v ||| (if h.setAt = s.now then h.setBits else 0#32)) }) }

/-- R553: FULL is cleared, unless a capture arrives in this cycle, which is then taken. -/
def State.clearFull (page : Nat) (s : State) : State :=
  { s with pages := s.pages.upd page (fun h => if h.captAt = some s.now then { h with capt := h.captNow } else { h with full := false }) }

/-- R556: vectors are rearmed; a vector whose message goes in this cycle is not sent again. -/
def State.rearm (hi : Bool) (v : Nat) (s : State) : State :=
  let m := BitVec.ofNat 64 (v % 2 ^ 32) <<< (if hi then 32 else 0)
  { s with evt := { s.evt with arm := s.evt.arm ||| (m &&& ~~~(if s.evt.sentAt = s.now then s.evt.sentNow else 0#64)) } }

/-- R564: a write of CHIP_CTL.ROLE_SET. -/
def State.writeRole (v : Nat) (s : State) : State :=
  if s.locked 0x000 || (List.range 18).any (fun p => s.rdB (LANE_CTL_ENABLE p)) then s else s.wr CHIP_CTL_ROLE_SET v

/-- R549: a write of LOCK. -/
def State.lockPage (page : Nat) (s : State) : State := if (blockOf page).isSome then { s with locks := s.locks.set page 1 } else s

/-- A write of a field that starts something: only where it changes it. -/
def State.whenNew (f : Field) (v : Nat) (g : State → State) (s : State) : State :=
  if bitsOf v f.lsb f.width = s.rd f then s else g s

/-- R504: FEED_CTL. (Assumption log 19, DEDUCED.) -/
def State.writeFeedCtl (v : Nat) (s : State) : State :=
  (s.whenNew FEED_CTL_EN_A v (feedEnable 0 (bitOf v 0))).whenNew FEED_CTL_EN_B v (feedEnable 1 (bitOf v 1))

/-- R76: LANE_CTL. (Assumption log 19, DEDUCED.) -/
def State.writeLaneCtl (p v : Nat) (s : State) : State :=
  let s1 := (s.laneEnable p (bitOf v 0)).loopWrite p (bitsOf v 6 2)
  (s1.when (bitOf v 2) (State.forceCold p)).when (bitOf v 1) (forceRetrain p)

/-- R140: CHD_CTL. -/
def State.writeChordCtl (p v : Nat) (s : State) : State :=
  (s.when (bitOf v 3) (State.epochNow p)).when (bitOf v 1) (State.flushNow p)

/-- R475, R484: HARD_RESET by firmware. -/
def hardResetCmd (p : Nat) (s : State) : State := if s.coreOn then s.hardReset p false (s.cs p = CS_AUX_ONLY) else s

/-- R484: TAN_PORT_CTL. -/
def State.writeTanCtl (p v : Nat) (s : State) : State :=
  let s1 := tanPortEnable p (bitOf v 0) (bitsOf v 6 2) s
  (((s1.when (bitOf v 3) (hardResetCmd p)).when (bitOf v 2) (clearFault p)).when (bitOf v 1) (reofferCmd p)).reoffer

/-- R469, R487: new wishes of the main sink of a contract are asked for anew. (Assumption log 19, DEDUCED.) -/
def State.sinkChanged (p : Nat) (s : State) : State :=
  if s.joined p && s.cs p = CS_CONTRACT && !s.mainSrc p then s.tanPut p { type := 9 } else s

/-- R185: TUN_CMD.OP. -/
def State.writeTunCmd (m : RegMaster) (op : Nat) (s : State) : State :=
  match op with
  | 1 => tunRead s | 2 => s.tunWrite (secureMaster m) | 3 => tunReserve s | 4 => tunOpen s
  | 5 => tunClose s | 6 => tunRelease s | 7 => tunReopen s | _ => s

/-- What a register write starts beside R9: the block, its instance, the offset. (Assumption log 19, DEDUCED.) -/
def State.ownWrite (m : RegMaster) (b : Block) (p off v : Nat) (s : State) : State :=
  let w : Reg := BitVec.ofNat 32 v
  let op := bitsOf v 0 4
  match b with
  | .chip => if off = 0x008 then s.writeRole (bitsOf v 0 2) else s
  | .evt => if off = 0x048 then s.rearm false v else if off = 0x04C then s.rearm true v else s
  | .rst => if off = 0x040 then s.resetCommand v else if off = 0x050 then s.feedWatchdog v else s
  | .cfg =>
    if off = 0x008 then (s.when (bitOf v 0) State.cfgBegin).when (bitOf v 1) (State.cfgCommit true)
    else if off = 0x04C then s.cfgData v else s
  | .log =>
    if off = 0x008 then { s with log := { s.log with nextAt := min s.log.nextAt (s.now + max 1 (s.rd LOG_CTL_INTERVAL) * 60000000000) } }
    else if off = 0x04C then (if op = 1 then logCommit s else if op = 2 then ringClear (m = .maint) (bitsOf v 8 8) s else s) else s
  | .diag =>
    if off = 0x040 then (if op = 1 then mbistSpill s else if op = 2 then mramScan s else s)
    else if off = 0x04C then (s.when (bitOf v 1) patClear).when true (patCheck (bitOf v 0))
    else s
  | .pwr => if off = 0x040 then s.sleepRequest (bitsOf v 0 2) else if off = 0x044 then s.perfWrite v else if off = 0x04C then s.thermWrite v else s
  | .feed => if off = 0x008 then s.writeFeedCtl v else if off = 0x040 then feedThrWrite v s else s
  | .tang => if off = 0x008 || off = 0x040 then s.reoffer else s
  | .lane => if off = 0x008 then s.writeLaneCtl p v else if off = 0x05C && bitOf v 0 then s.sendBurst p else s
  | .chd => if off = 0x008 then s.writeChordCtl p v else s
  | .tan => if off = 0x008 then s.writeTanCtl p v else if off = 0x044 then s.sinkChanged p else s
  | .tun => if off = 0x064 then s.writeTunCmd m op else s
  | .cmp => if off = 0x05C then (if op = 1 then polRead s else if op = 2 then polWrite s else s) else s
  | .cmpp =>
    if off = 0x008 then gclEnable p (bitOf v 0) s
    else if off = 0x044 then gclAdminWrite p 256 w s
    else if off = 0x04C then gclAdminWrite p 257 w s
    else if off = 0x050 then (s.when (bitOf v 1) (gclCancel p)).when (bitOf v 0) (gclCommit p)
    else if off = 0x064 || off = 0x068 || off = 0x06C then queueShaperWrite p ((off - 0x064) / 4) w s
    else s
  | .gateList =>
    if 0x040 ≤ off && off < 0x440 then gclAdminWrite (2 * p) ((off - 0x040) / 4) w s
    else if 0x440 ≤ off && off < 0x840 then gclAdminWrite (2 * p + 1) ((off - 0x440) / 4) w s
    else s
  | .dat =>
    if off = 0x008 then (s.when (s.sourceWanted ≠ s.source) State.changeSource).when (bitOf v 4) stepNow
    else if off = 0x084 then s.followPtp else s
  | .lat =>
    if off = 0x008 then s.when (bitOf v 0) latCommit
    else if off = 0x050 then (if op = 1 then snapshot s else if op = 2 then treeReset (bitsOf v 8 8) s else s)
    else s
  | .smp => if off = 0x054 then (if op = 1 then smpRead s else if op = 2 then smpWrite s else s) else s
  | .exp =>
    if off = 0x008 then (s.when (bitOf v 4) forceMismatch).when (bitOf v 3) restore
    else if off = 0x050 then (if op = 1 then expRead s else if op = 2 then expWrite s else s)
    else s
  | .frm => if off = 0x008 then s.followPtp else if off = 0x060 then (if op = 1 then frmRead s else if op = 2 then s.frmWrite (secureMaster m) else s) else s
  | .frmsp =>
    if off = 0x008 then
      (((gclEnable (18 + p) (bitOf v 0) s).driveTxDisable p).when (!s.stationOn p && bitOf (s.rd (FRM_SP_STAT_LINE p)) 1)
        (stationLinkDown p false)).followPtp
    else if off = 0x054 then sfpI2cCmd p w s
    else if off = 0x058 then gclAdminWrite (18 + p) 256 w s
    else if off = 0x05C then gclAdminWrite (18 + p) 257 w s
    else if off = 0x060 then (s.when (bitOf v 1) (gclCancel (18 + p))).when (bitOf v 0) (gclCommit (18 + p))
    else if 0x400 ≤ off && off < 0x800 then gclAdminWrite (18 + p) ((off - 0x400) / 4) w s
    else s
  | .win => if off = 0x054 then (if op = 1 then winRead s else if op = 2 then winWrite s else if op = 3 then pfRestore s else s) else s
  | .usb => if off = 0x008 then usbConnect (bitOf v 0) s else s
  | .dsp => (s.hpdFollow 0).hpdFollow 1
  | .key =>
    if off = 0x0A4 then { s with keys := { s.keys with scrubAt := min s.keys.scrubAt (s.now + max 1 (s.rd KEY_SCRUB_INTERVAL) * 3600000000000) } }
    else s
  | .evp => if 0x040 ≤ off && off < 0x080 then s.pinFunc ((off - 0x040) / 4) else s
  | .wint => if 0x040 ≤ off && off < 0x140 then s.pendCleared ((off - 0x040) / 4) v else s
  | .hull | .pcie | .per | .tunData => s

/-- R11: the write of a _LO register commits the value held for its _HI register. (Assumption log 21, DEDUCED.) -/
def State.commitHi (page off : Nat) (s : State) : State :=
  if page = datPage && off = 0x058 then
    match s.hiHold.get (datPage * 4096 + 0x05C) with
    | some h => { s.wr DAT_SET_SEC_HI_SEC (bitsOf h 0 16) with hiHold := s.hiHold.set (datPage * 4096 + 0x05C) none }
    | none => s
  else s

/-- R9, R549: a write of a register beyond the header of an implemented page; LOCK takes effect after it. (Assumption log 19, DEDUCED.) -/
def State.writeBody (m : RegMaster) (b : Block) (p page off v : Nat) (s : State) : State :=
  if heldHi page off then { s with hiHold := s.hiHold.set (page * 4096 + off) (some v) }
  else
    let fs := (s.fieldsAt b p off).filter (fun f => !f.own)
    let pps (n : Nat) : Bool := b = .evp && off = 0x040 + 4 * n && s.rd (EVP_CFG_FUNC n) ≠ 6 && bitsOf v 28 4 = 6
    let s1 := (s.each fs (State.writeField (s.locked page) v)).commitHi page off
    let s2 := if (List.range 16).any pps then { s1 with datum := { s1.datum with ppsAt := s.now, ppsLost := false } } else s1
    let s3 := s2.ownWrite m b p off v
    if off = 0x008 && bitOf v 31 then s3.lockPage page else s3

/-- R549, R550, R560: a write of the register space. -/
def State.writeAt (m : RegMaster) (page off v : Nat) (s : State) : State :=
  if page = 0x3FE then (if off < 0x400 then s.msixWrite 0 (off / 16) (off % 16 / 4) v else s)
  else match blockOf page with
    | none => s
    | some (b, p) =>
      match off with
      | 0x010 => s.clearStat page (BitVec.ofNat 32 v)
      | 0x014 => s.writeEn page (BitVec.ofNat 32 v)
      | 0x018 => s.forceEvent page (BitVec.ofNat 32 v)
      | 0x024 => if bitOf v 31 then s.clearFull page else s
      | _ => if off < 0x040 && off ≠ 0x008 then s else s.writeBody m b p page off v

/-- A write of a register by a master. (Assumption log 19, DEDUCED.) -/
def State.writeReg (m : RegMaster) (a : RegAt) (v : Nat) (s : State) : State :=
  match a with
  | .page pg off => if off.toNat % 4 ≠ 0 then s.badAccess else s.writeAt m pg.toNat off.toNat v
  | .f1 off => if off.toNat % 4 ≠ 0 then s.badAccess else if off.toNat < 0x400 then s.msixWrite 1 (off.toNat / 16) (off.toNat % 16 / 4) v else s
  | .f2 off => if off.toNat % 4 ≠ 0 then s.badAccess else s.mailboxWrite off.toNat v

end Sys2Proof.Machine
end

