-- ==== Sys2Proof/Machine/Boot.lean ====
section
/-!
DEFINITION. The release of a full reset: loading the MRAM, the reset cause, the stored configuration and its tunnels (R533–R545, R558,
R565, R569).
-/
namespace Sys2Proof.Machine

/-! ## Loading the lifetime log (R569) -/

/-- R567: a bank is valid. (Assumption log 47, DEDUCED.) -/
def LogBank.ok (b : LogBank) : Bool := b.gen ≠ 0 && b.commit = b.gen

/-- R569: the bank to load. (Assumption log 47, DEDUCED.) -/
def LogUnit.pick (l : LogUnit) : Option Bool :=
  if l.bank1.ok && (!l.bank0.ok || l.bank0.gen < l.bank1.gen) then some true else if l.bank0.ok then some false else none

/-- R569: the working copy is loaded, or starts from zero. -/
def State.openLog (s : State) : State :=
  match s.log.pick with
  | some b =>
    let x := s.log.bank b
    ((s.onLog (fun l => { l with
      work := x.counts, last1 := b, tmaxSet := x.counts.get 0x01C ≠ 0, vminSet := x.counts.get 0x033 ≠ 0 })).wr LOG_GEN_GEN x.gen).wrB LOG_STAT_BANK b
  | none => s

/-! ## Records of the stored configuration (R543, R545) -/

/-- R545, R548: a record fails: it is counted, with the word index of the first, and RECORD_FAIL is raised. (Assumption log 45, DEDUCED.) -/
def State.cfgFail (i : Nat) (s : State) : State :=
  let s1 := if s.rd CFG_ERR_COUNT = 0 then s.wr CFG_ERR_FIRST i else s
  (s1.bump CFG_ERR_COUNT).ev cfgPage [EV_CFG_RECORD_FAIL]

/-- R545: a register write meets a locked field. -/
def State.hitsLock (s : State) (page off : Nat) : Bool :=
  s.locked page && (match blockOf page with
    | some (b, p) => (s.fieldsAt b p off).any (fun f => f.acc = .rwl)
    | none => false)

/-- REG, CMD: the register write of the management sequencer. -/
def State.recordWrite (w1 v : Nat) (s : State) : State :=
  s.writeReg .sequencer (.page (BitVec.ofNat 10 (bitsOf w1 20 12)) (BitVec.ofNat 12 w1)) v

/-- REG (R543, R545): a write to a locked field has no effect and is counted. (Assumption log 45, DEDUCED.) -/
def State.regRecord (i w1 v : Nat) (s : State) : State :=
  if 0x3FF < bitsOf w1 20 12 then s.cfgFail i
  else (s.recordWrite w1 v).when (s.hitsLock (bitsOf w1 20 12) (bitsOf w1 0 12)) (State.cfgFail i)

/-- CMD (R543): bit 31 clears within 2 ms, and [30:28] then read 0.  A commit of the lifetime log, which takes 0.8 ms (R570), counts as
ended. (Assumption log 45, DEDUCED.) -/
def State.cmdRecord (i w1 v : Nat) (s : State) : State :=
  if 0x3FF < bitsOf w1 20 12 then s.cfgFail i
  else
    let s1 := s.recordWrite w1 v
    let x := (s1.readAt (bitsOf w1 20 12) (bitsOf w1 0 12)).2
    let ran : Bool := !bitOf x 31 || bitsOf w1 20 12 = logPage
    if s.hitsLock (bitsOf w1 20 12) (bitsOf w1 0 12) || !ran || bitsOf x 28 3 ≠ 0 then s1.cfgFail i else s1

/-- KEYCMD (R543): the command as the management sequencer. -/
def State.keyRecord (i : Nat) (ws : List Nat) (s : State) : State :=
  let len := bitsOf (nth ws 0) 0 10
  if 512 < len || ws.length ≠ 5 + (len + 3) / 4 then s.cfgFail i
  else
    let input := (((ws.drop 5).flatMap (natBytes 4)).take len).map (BitVec.ofNat 8)
    let r : KeyReq := .sequencer (((ws.drop 1).take 4).map (BitVec.ofNat 32)) input
    let x := s.keyOp (bitsOf (nth ws 0) 24 8) r
    (x.finish r).when (x.status ≠ 0) (State.cfgFail i)

/-- PIN (R543, R154, R156): on a hub whose role is root. (Assumption log 45, DEDUCED.) -/
def State.pinRecord (i w : Nat) (s : State) : State :=
  let dock := bitOf w 31
  let hub := bitsOf w 26 5
  let port := bitsOf w 21 5
  let n := bitsOf w 15 6
  if s.roleWanted ≠ 0 || 17 < port then s.cfgFail i
  else if dock then
    if 16 < hub || 63 < n then s.cfgFail i else { s with ids := { s.ids with dockPins := s.ids.dockPins ++ [(hub, port, n)] } }
  else if hub ≠ 0 || n = 0 || 16 < n then s.cfgFail i
  else { s with ids := { s.ids with hubPins := s.ids.hubPins ++ [(port, n)] } }

/-- One record: its word index, TYPE, the words that follow. (Assumption log 45, DEDUCED.) -/
def State.applyRecord (i type : Nat) (ws : List Nat) (s : State) : State :=
  match type with
  | 1 => if ws.length = 2 then s.regRecord i (nth ws 0) (nth ws 1) else s.cfgFail i
  | 2 => if ws.length = 2 then s.cmdRecord i (nth ws 0) (nth ws 1) else s.cfgFail i
  | 3 =>
    if ws.length = 9 then s.onStored (fun x => { x with tunnels := x.tunnels ++ [(i, ws)], opening := x.opening ++ [bitsOf (nth ws 0) 0 12] })
    else s.cfgFail i
  | 4 => s.keyRecord i ws
  | 5 => if ws.length = 1 then s.pinRecord i (nth ws 0) else s.cfgFail i
  | _ => s.cfgFail i

/-- R543, R545: the records from word `i` on, in order, to END, to LEN or to a record that runs past LEN. (Assumption log 45, DEDUCED.) -/
def State.applyFrom (c : CfgCopy) : Nat → Nat → State → State
  | 0, _, s => s
  | n + 1, i, s =>
    if c.len ≤ i then s
    else
      let w := c.body.get i
      let len := bitsOf w 16 12
      if bitsOf w 28 4 = 0 || c.len < i + 1 + len then s
      else State.applyFrom c n (i + 1 + len) (s.applyRecord i (bitsOf w 28 4) ((List.range len).map (fun k => c.body.get (i + 1 + k))))

/-- R544: the copy to apply. -/
def Stored.pick (x : Stored) : Option Bool :=
  if x.copy0.ok && (!x.copy1.ok || x.copy1.w 2 ≤ x.copy0.w 2) then some false else if x.copy1.ok then some true else none

/-- R544: a valid copy of another format stands in the MRAM. -/
def Stored.otherFormat (x : Stored) : Bool := (x.copy0.sound && x.copy0.format ≠ 3) || (x.copy1.sound && x.copy1.format ≠ 3)

/-- R62: without an image the tree tag is drawn. (Assumption log 46, DEDUCED.) -/
def State.drawTag (s : State) : State := { s.drawn with ids := { s.ids with treeTag := s.freeValue % 2 ^ 26 } }

/-- R565: CHIP_STAT takes the role in force. -/
def State.takeRole (s : State) : State :=
  let r := s.roleWanted
  (s.wr CHIP_STAT_ROLE r).wr CHIP_STAT_HUB (if r = 0 then 0 else 0x1F)

/-- R76: without an image every spoke is enabled, and on a leaf both apexes. (Assumption log 46, DEDUCED.) -/
def State.enableAll (s : State) : State := s.each (List.range (if s.roleWanted = 0 then 16 else 18)) (fun p s => s.laneEnable p true)

/-- R537 step 4, R544: the stored configuration. (Assumption log 46, DEDUCED.) -/
def State.applyConfig (s : State) : State :=
  let s0 := s.noteValid
  let s1 := if s0.stored.otherFormat then s0.ev cfgPage [EV_CFG_FORMAT_REJECT] else s0
  match s1.stored.pick with
  | none => ((s1.ev cfgPage [EV_CFG_NO_IMAGE]).drawTag.enableAll).takeRole
  | some b =>
    let c := s1.stored.copy b
    let s2 := (((s1.wrB CFG_STAT_APPLIED b).wr CFG_GEN_GEN (c.w 2)).wr RST_STAT_IMAGE 1)
    let s3 := { s2 with ids := { s2.ids with treeTag := c.w 3 / 2 ^ 6 % 2 ^ 26 } }
    (State.applyFrom c c.len 0 s3).takeRole

/-! ## The release -/

/-- R540: the reset cause record is rewritten. -/
def State.writeCause (code : Nat) (s : State) : State :=
  let seen := (s.boot.seen.map (fun c => 2 ^ (c - 1))).sum
  let s1 := (((s.wr RST_CAUSE_PRIMARY code).wr RST_CAUSE_SEEN seen).wr RST_CAUSE_RCNT s.boot.rcnt).wr RST_STAT_RCNT s.boot.rcnt
  ((s1.wr RST_CAUSE_TIME_LO_SHORT (bitsOf s.boot.short 0 32)).wr RST_CAUSE_TIME_HI_SHORT (bitsOf s.boot.short 32 8)).bump (RST_COUNT_COUNT (code - 1))

/-- R537 step 2: the key store, the reset cause record, the lifetime log. -/
def State.bootRecords (code : Nat) (s : State) : State :=
  let s1 := (s.ev rstPage [EV_RST_CAUSE]).restoreTime
  let empty := s1.log.pick.isNone
  let s2 := s1.loadKeys.openLog
  let s3 := (s2.ring rstPage 1 (s2.regOf (rstFields 0 0) 0x044) (s2.regOf (rstFields 0 0) 0x048) (s2.regOf (rstFields 0 0) 0x04C)).life (0x20 + code - 1)
  if empty then (s3.ev logPage [EV_LOG_RESTORE_FAIL]).ring logPage 7 0 0 0 else s3

/-- R223, R478, R520, R527: what a release of a certain kind raises. (Assumption log 45, DEDUCED.) -/
def State.bootEvents (code : Nat) (s : State) : State :=
  let s1 := s.when s.boot.hot (State.ev pwrPage [EV_PWR_THERM_SHUTDOWN])
  let s2 := s1.when (code = 0xA) (fun s => (s.bump PWR_COUNT_WAKES).ev pwrPage [EV_PWR_WAKE])
  let s3 := s2.when (code = 6) (State.ev latPage [EV_LAT_TREE_RESET])
  s3.when s.boot.cable (fun s => (s.wr (TAN_PORT_STAT_DB (s.rd TAN_STAT_DB_PORT)) 1).ev tangPage [EV_TANG_DB_START])

/-- FULL_RESET_RELEASE (R533, R534, R537, R540): the rails are good and 64 ms have passed since the last release; steps 1–4 of the start
are taken at once. (Assumption log 45, DEDUCED.) -/
def fullResetRelease (s : State) : State :=
  let spaced := s.boot.released.all (fun t => t + ms 64 ≤ s.now)
  if s.boot.started || !s.boot.rails || !s.boot.dieOn || s.testStrap || !spaced then s
  else
    let code := (s.boot.seen.min?).getD 1
    let b := { s.boot with started := true, released := some s.now, rcnt := (s.boot.rcnt + 1) % 16, late := false }
    let s1 := ({ s with coreOn := true, boot := b }).writeCause code
    let s2 := ((s1.bootRecords code).onDie (fun d => { d with bursts := [] })).takeDie
    let s3 := (((s2.wr PWR_STAT_PLL_LOCK 1).wr PWR_STAT_CLK_SRC 1).wr PWR_PERF_SRC 1).powerEvents.takeKept
    let s4 := (s3.bootEvents code).when (!bitOf (s.rd CHIP_STRAP_STRAPS) 2) (State.wr CHIP_CTL_ROLE_SET 1)
    let s5 := { s4 with
      power := { s4.power with periodAt := s.now }
      win := { s4.win with cfgReadyAt := s.now + ms 60 }
      log := { s4.log with nextAt := s.now + 600000000000 }
      boot := { s4.boot with hot := false } }
    s5.applyConfig

def execFullResetRelease (s : State) : Outcome := done (fullResetRelease s)

/-! ## TUNNEL records (R537 step 6, R543) -/

/-- TUNNEL: the entry is written with AUTO = 1, RESERVED and OPENed through the sequencer's own path (R167); the first refusal ends it. (Assumption
log 46, DEDUCED.) -/
def State.tunnelRecord (i t : Nat) (ws : List Nat) (s : State) : State :=
  let w0 := putBits (nth ws 0) 10 1 1
  if protectedTun t || t = 0 then s.cfgFail i
  else
    let r1 := s.writeEntry t (w0 :: ws.drop 1) true
    if r1.2 ≠ 0 then r1.1.cfgFail i
    else
      let r2 := r1.1.reserveTun t
      if r2.2 ≠ 0 then r2.1.cfgFail i
      else
        let r3 := r2.1.openEntry t
        if r3.2 ≠ 0 then r3.1.cfgFail i else r3.1

/-- CFG_TUNNEL_OPEN (R543): the first waiting TUNNEL record, once every port that it crosses is ACTIVE.  On a leaf the root opens the tunnels
(R20, R538), so that a record waits for its entry to be OPEN and gives no command. (Assumption log 46, DEDUCED.) -/
def cfgTunnelOpen (s : State) : State :=
  match s.stored.tunnels with
  | [] => s
  | (i, ws) :: rest =>
    let e := Entry.ofWords (ws.drop 1)
    if s.coreOn && s.boot.started && (e.path.filter (· < 18)).all s.active then
      (s.onStored (fun x => { x with tunnels := rest })).when (!s.isLeaf) (State.tunnelRecord i (bitsOf (nth ws 0) 0 12) (ws.drop 1))
    else s

def execCfgTunnelOpen (s : State) : Outcome := coreDone s (cfgTunnelOpen s)

end Sys2Proof.Machine
end

