-- ==== Sys2Proof/Machine/Point.lean ====
section
/-!
DEFINITION. The meanings of the commands of Point messages (R121–R124, R211).
-/
namespace Sys2Proof.Machine

def execPointSend (p : Fin 18) (s : State) : Outcome := coreDone s (pointSend p s)

/-- POINT_REPEAT (R122): 100 ns and 200 ns after the first sending. -/
def pointRepeat (p : Nat) (s : State) : State :=
  let due := (s.chord p).pointReps.filter (fun r => r.due ≤ s.now)
  if !s.active p then s
  else
    let s1 := s.each due (fun r s => s.sendPair p r.word)
    s1.onChord p (fun c => { c with pointReps := c.pointReps.filterMap (fun r =>
      if s.now < r.due then some r else if r.left = 2 then some { r with due := r.due + 100, left := 1 } else none) })

def execPointRepeat (p : Fin 18) (s : State) : Outcome := coreDone s (pointRepeat p s)

/-- R123: a POINT word whose TYPE passes: reserved types are stray, repeats within 1 µs are discarded. -/
def State.pointWordIn (p : Nat) (only : Nat → Bool) (w : Word) (s : State) : State :=
  let t := fld w 30 4
  let n := fld w 26 4
  let seen := (s.chord p).pointSeen.filter (fun x => s.now ≤ x.2.2 + 1000)
  if fld w 34 6 ≠ 7 || !s.active p || !only t then s
  else if t = 0 || 7 ≤ t then s.bump (CHD_PROTO_STRAY p)
  else if seen.any (fun x => x.1 = t && x.2.1 = n) then s
  else
    (s.onChord p (fun c => { c with pointSeen := seen ++ [(t, n, s.now)] })).pointAccepted p
      { type := t, oh := fld w 25 1 = 1, origin := fld w 19 6, arg := fld w 0 19 }

/-- POINT_RX (R123). -/
def execPointRx (p : Fin 18) (w : Word) (s : State) : Outcome := coreDone s (s.pointWordIn p (fun _ => true) w)

/-- LATTICE_MARK_RX (R123, R211). -/
def execLatticeMarkRx (p : Fin 18) (w : Word) (s : State) : Outcome := coreDone s (s.pointWordIn p (fun t => t = 2) w)

end Sys2Proof.Machine
end

