-- ==== Sys2Proof/Machine/Register.lean ====
section
/-!
DEFINITION. The commands of the register space, of the event unit and of the maintenance port (R8–R11, R549–R560, R564, R566, R587), and
the refresh of the MRAM (R610).
-/
namespace Sys2Proof.Machine

/-! ## Register accesses -/

/-- REGISTER_WRITE (R9, R562): a master writes a register; the host and the firmware reach F1's and F2's registers through their BARs. (Assumption log 19, DEDUCED.) -/
def registerWrite (m : RegMaster) (r : RegAt) (v : Reg) (s : State) : State := if s.coreOn then s.writeReg m r v.toNat else s

def execRegisterWrite (m : RegMaster) (r : RegAt) (v : Reg) (s : State) : Outcome := coreDone s (registerWrite m r v s)

/-- MISALIGNED_ACCESS (R8): no effect on register state; a read returns all ones, and the window-errors event is raised. (Assumption log 22, DEDUCED.) -/
def misalignedAccess (isRead : Bool) (page off : Nat) (s : State) : State :=
  if s.coreOn then s.badAccess.when isRead (State.emit (.read page off 0xFFFFFFFF)) else s

def execMisalignedAccess (isRead : Bool) (page : BitVec 10) (off : BitVec 12) (s : State) : Outcome :=
  coreDone s (misalignedAccess isRead page.toNat off.toNat s)

/-- LO_READ_LATCH (R11): a read of a register; of a _LO register it latches the matching _HI value. (Assumption log 21, DEDUCED.) -/
def loReadLatch (r : RegAt) (s : State) : State := if s.coreOn then s.readReg r else s

def execLoReadLatch (r : RegAt) (s : State) : Outcome := coreDone s (loReadLatch r s)

/-- HI_WRITE_HOLD (R11): the value written to a _HI register is held until its _LO register is written; a register of no writable pair
is written under R9. (Assumption log 21, DEDUCED.) -/
def hiWriteHold (page off : Nat) (v : Reg) (s : State) : State := if s.coreOn then s.writeReg .host (.page (BitVec.ofNat 10 page) (BitVec.ofNat 12 off)) v.toNat else s

def execHiWriteHold (page : BitVec 10) (off : BitVec 12) (v : Reg) (s : State) : Outcome := coreDone s (hiWriteHold page.toNat off.toNat v s)

/-- LO_WRITE_COMMIT (R11): the write of a _LO register commits both halves. (Assumption log 21, DEDUCED.) -/
def loWriteCommit (page off : Nat) (v : Reg) (s : State) : State := if s.coreOn then s.writeReg .host (.page (BitVec.ofNat 10 page) (BitVec.ofNat 12 off)) v.toNat else s

def execLoWriteCommit (page : BitVec 10) (off : BitVec 12) (v : Reg) (s : State) : Outcome := coreDone s (loWriteCommit page.toNat off.toNat v s)

/-- PAGE_LOCK (R549). (Assumption log 26, DEDUCED.) -/
def pageLock (page : Nat) (s : State) : State := if s.coreOn then s.lockPage page else s

def execPageLock (page : BitVec 10) (s : State) : Outcome := coreDone s (pageLock page.toNat s)

/-- ROLE_SET_WRITE (R564): ignored while any ENABLE is 1, and under LOCK. -/
def execRoleSetWrite (v : BitVec 2) (s : State) : Outcome := coreDone s (s.writeRole v.toNat)

/-! ## Events -/

/-- EV_FORCE (R552). -/
def execEvForce (page : BitVec 10) (v : Reg) (s : State) : Outcome := coreDone s (s.forceEvent page.toNat v)

/-- EV_EN_WRITE (R549, R554): the levels follow in the same cycle. -/
def evEnWrite (page : Nat) (v : Reg) (s : State) : State := if s.coreOn && (blockOf page).isSome then s.writeEn page v else s

def execEvEnWrite (page : BitVec 10) (v : Reg) (s : State) : Outcome := coreDone s (evEnWrite page.toNat v s)

/-- EVT_ARM_WRITE (R556). -/
def execEvtArmWrite (hi : Bool) (v : Reg) (s : State) : Outcome := coreDone s (s.rearm hi v.toNat)

/-- MSIX_UNMASK (R556, R560): the Mask bit of a vector is cleared; F2 has one vector. (Assumption log 22, DEDUCED.) -/
def msixUnmask (f v : Nat) (s : State) : State := if s.coreOn && (f < 2 || v = 0) then s.msixWrite f v 3 0 else s

def execMsixUnmask (func : Fin 3) (vec : Fin 64) (s : State) : Outcome := coreDone s (msixUnmask func vec s)

/-- ERR_CAPT_CLEAR (R553): FULL is cleared at once. -/
def execErrCaptClear (page : BitVec 10) (s : State) : Outcome := coreDone s (s.clearFull page.toNat)

/-- EVT_LOG_POP (R559): a read of EVT_LOG_SEQ_LO. -/
def execEvtLogPop (s : State) : Outcome := coreDone s (s.readReg (.page 0x001 0x060))

/-! ## The maintenance port -/

/-- MAINT_FRAME (R514, R587): with strap MNT_EN, a frame reads or writes a register or is refused; while the core die is off a read
returns all ones and a write is discarded; the frame wakes a sleeping hub.  `opens`: the frame begins a session. (Assumption log 54, DEDUCED.) -/
def maintFrame (b : List Nat) (extra : Nat) (opens : Bool) (s : State) : State :=
  if !bitOf (s.rd CHIP_STRAP_STRAPS) 1 then s
  else
    let s0 := if opens then ({ s with boot := { s.boot with sessions := s.boot.sessions + 1 } }).ev 0x001 [EV_EVT_MAINT_OPEN] else s
    let s1 := match maintCmd b extra with
      | none => s0.ev 0x001 [EV_EVT_MAINT_DENY]
      | some (.write page off v) => if s0.coreOn then s0.writeAt .maint page off v else s0
      | some (.read page off) =>
        if s0.coreOn then let r := s0.readAt page off; r.1.emit (.spi r.2) else s0.emit (.spi 0xFFFFFFFF)
    s1.wakeSources [(9, 0)]

def execMaintFrame (bytes : List (BitVec 8)) (extra : Fin 8) (opens : Bool) (s : State) : Outcome :=
  dieDone s (maintFrame (bytes.map (·.toNat)) extra opens s)

/-! ## MRAM and rails -/

/-- MRAM_REFRESH (R610): a word is rewritten with its own value, which changes nothing; what its read finds is reported (R566). (Assumption log 54, DEDUCED.) -/
def mramRefresh (corr uncorr : Bool) (s : State) : State := if s.coreOn then s.mramRead (b2n corr) (b2n uncorr) else s

def execMramRefresh (corr uncorr : Bool) (s : State) : Outcome := coreDone s (mramRefresh corr uncorr s)

/-- VMON_IO (R566). -/
def execVmonIo (s : State) : Outcome := coreDone s (s.when s.coreOn (State.ev 0x001 [EV_EVT_VMON_IO]))

end Sys2Proof.Machine
end

