-- ==== Sys2Proof/Machine/Dispatch.lean ====
section
/-!
DEFINITION. The dispatch of the commands: one arm per constructor, in the table's order.
-/
namespace Sys2Proof.Machine

def exec (i : Instr) (s : State) : Host.Outcome State Fault Refusal :=
  match i with
  | .registerWrite m r v => Sys2Proof.Machine.execRegisterWrite m r v s
  | .misalignedAccess isRead page off => Sys2Proof.Machine.execMisalignedAccess isRead page off s
  | .loReadLatch r => Sys2Proof.Machine.execLoReadLatch r s
  | .hiWriteHold page off v => Sys2Proof.Machine.execHiWriteHold page off v s
  | .loWriteCommit page off v => Sys2Proof.Machine.execLoWriteCommit page off v s
  | .pageLock page => Sys2Proof.Machine.execPageLock page s
  | .codeGroupRx p pair cg => Sys2Proof.Machine.execCodeGroupRx p pair cg s
  | .skipSend p => Sys2Proof.Machine.execSkipSend p s
  | .signalEnergyDetect p => Sys2Proof.Machine.execSignalEnergyDetect p s
  | .wakeBurstDetect p => Sys2Proof.Machine.execWakeBurstDetect p s
  | .trainEntry p => Sys2Proof.Machine.execTrainEntry p s
  | .trainWordRx p pair hdr w slot => Sys2Proof.Machine.execTrainWordRx p pair hdr w slot s
  | .presetEvalExpiry p margin => Sys2Proof.Machine.execPresetEvalExpiry p margin s
  | .alignWordRx p pair w skew => Sys2Proof.Machine.execAlignWordRx p pair w skew s
  | .lastSend p => Sys2Proof.Machine.execLastSend p s
  | .trainDeadlineExpiry p => Sys2Proof.Machine.execTrainDeadlineExpiry p s
  | .coldRetryExpiry p => Sys2Proof.Machine.execColdRetryExpiry p s
  | .capsRx p copyA copyB => Sys2Proof.Machine.execCapsRx p copyA copyB s
  | .configTimeout p => Sys2Proof.Machine.execConfigTimeout p s
  | .blockLockLoss p pair => Sys2Proof.Machine.execBlockLockLoss p pair s
  | .badWordBurst p pair => Sys2Proof.Machine.execBadWordBurst p pair s
  | .retrainDeadlineExpiry p => Sys2Proof.Machine.execRetrainDeadlineExpiry p s
  | .forceRetrain p => Sys2Proof.Machine.execForceRetrain p s
  | .forceCold p => Sys2Proof.Machine.execForceCold p s
  | .laneEnable p v => Sys2Proof.Machine.execLaneEnable p v s
  | .loopWrite p v => Sys2Proof.Machine.execLoopWrite p v s
  | .laneErrRead p => Sys2Proof.Machine.execLaneErrRead p s
  | .sendBurst p => Sys2Proof.Machine.execSendBurst p s
  | .wakeBurstRepeat p => Sys2Proof.Machine.execWakeBurstRepeat p s
  | .enterRx p w => Sys2Proof.Machine.execEnterRx p w s
  | .enterSend p code => Sys2Proof.Machine.execEnterSend p code s
  | .idleAcceptRx p w => Sys2Proof.Machine.execIdleAcceptRx p w s
  | .enterAnswerTimeout p => Sys2Proof.Machine.execEnterAnswerTimeout p s
  | .linkWake p => Sys2Proof.Machine.execLinkWake p s
  | .wakeWordRx p w => Sys2Proof.Machine.execWakeWordRx p w s
  | .wordFrameRx p => Sys2Proof.Machine.execWordFrameRx p s
  | .flitRx p => Sys2Proof.Machine.execFlitRx p s
  | .ackSend p => Sys2Proof.Machine.execAckSend p s
  | .nakRepeat p => Sys2Proof.Machine.execNakRepeat p s
  | .ackRx p w => Sys2Proof.Machine.execAckRx p w s
  | .nakRx p w bad corr hdrBad => Sys2Proof.Machine.execNakRx p w bad corr hdrBad s
  | .replayTimerExpiry p bad corr hdrBad => Sys2Proof.Machine.execReplayTimerExpiry p bad corr hdrBad s
  | .replayEnd p => Sys2Proof.Machine.execReplayEnd p s
  | .creditSend p vc data => Sys2Proof.Machine.execCreditSend p vc data s
  | .creditRepeat p => Sys2Proof.Machine.execCreditRepeat p s
  | .creditRx p w => Sys2Proof.Machine.execCreditRx p w s
  | .expressCopyRx p pair => Sys2Proof.Machine.execExpressCopyRx p pair s
  | .expressCopyWaitExpiry p => Sys2Proof.Machine.execExpressCopyWaitExpiry p s
  | .expressEntryStale p => Sys2Proof.Machine.execExpressEntryStale p s
  | .pointSend p => Sys2Proof.Machine.execPointSend p s
  | .pointRepeat p => Sys2Proof.Machine.execPointRepeat p s
  | .pointRx p w => Sys2Proof.Machine.execPointRx p w s
  | .linkDown p => Sys2Proof.Machine.execLinkDown p s
  | .linkResume p => Sys2Proof.Machine.execLinkResume p s
  | .graceExpiry p => Sys2Proof.Machine.execGraceExpiry p s
  | .flushNow p => Sys2Proof.Machine.execFlushNow p s
  | .epochNow p => Sys2Proof.Machine.execEpochNow p s
  | .epochRx p w => Sys2Proof.Machine.execEpochRx p w s
  | .announceRepeat p => Sys2Proof.Machine.execAnnounceRepeat p s
  | .epochKeyDerived p => Sys2Proof.Machine.execEpochKeyDerived p s
  | .epochTimeout p => Sys2Proof.Machine.execEpochTimeout p s
  | .revokeGraceExpiry p => Sys2Proof.Machine.execRevokeGraceExpiry p s
  | .flitHullCross egress ecc => Sys2Proof.Machine.execFlitHullCross egress ecc s
  | .tunRead => Sys2Proof.Machine.execTunRead s
  | .tunWrite => Sys2Proof.Machine.execTunWrite s
  | .tunReserve => Sys2Proof.Machine.execTunReserve s
  | .tunOpen => Sys2Proof.Machine.execTunOpen s
  | .tunClose => Sys2Proof.Machine.execTunClose s
  | .tunRelease => Sys2Proof.Machine.execTunRelease s
  | .tunReopen => Sys2Proof.Machine.execTunReopen s
  | .entryAckRx hub msg => Sys2Proof.Machine.execEntryAckRx hub msg s
  | .tunOpenAckRx dock msg => Sys2Proof.Machine.execTunOpenAckRx dock msg s
  | .tunOpenNakRx dock msg => Sys2Proof.Machine.execTunOpenNakRx dock msg s
  | .tunCloseAckRx dock msg => Sys2Proof.Machine.execTunCloseAckRx dock msg s
  | .pendingTunMsgSend dock => Sys2Proof.Machine.execPendingTunMsgSend dock s
  | .openingTimeout t => Sys2Proof.Machine.execOpeningTimeout t s
  | .closingDiscard t => Sys2Proof.Machine.execClosingDiscard t s
  | .closingTimeout t => Sys2Proof.Machine.execClosingTimeout t s
  | .entryWriteResend t => Sys2Proof.Machine.execEntryWriteResend t s
  | .entryAckTimeout t => Sys2Proof.Machine.execEntryAckTimeout t s
  | .autoReopen t => Sys2Proof.Machine.execAutoReopen t s
  | .entryWriteRx hub msg => Sys2Proof.Machine.execEntryWriteRx hub msg s
  | .hubAssignRx hub msg => Sys2Proof.Machine.execHubAssignRx hub msg s
  | .dockReqRx hub msg => Sys2Proof.Machine.execDockReqRx hub msg s
  | .dockGrantRx hub msg => Sys2Proof.Machine.execDockGrantRx hub msg s
  | .dockDenyRx hub msg => Sys2Proof.Machine.execDockDenyRx hub msg s
  | .dockReqTimeout p => Sys2Proof.Machine.execDockReqTimeout p s
  | .dockReleaseRx hub msg => Sys2Proof.Machine.execDockReleaseRx hub msg s
  | .adapterFlitRx port => Sys2Proof.Machine.execAdapterFlitRx port s
  | .reasmTimeout t => Sys2Proof.Machine.execReasmTimeout t s
  | .migrateRx hub port msg => Sys2Proof.Machine.execMigrateRx hub port msg s
  | .moveBackStart => Sys2Proof.Machine.execMoveBackStart s
  | .moveBackDrained t => Sys2Proof.Machine.execMoveBackDrained t s
  | .migrateDoneRx hub port msg => Sys2Proof.Machine.execMigrateDoneRx hub port msg s
  | .migrateIngressSwitch t => Sys2Proof.Machine.execMigrateIngressSwitch t s
  | .moveBackAbandon t => Sys2Proof.Machine.execMoveBackAbandon t s
  | .moveBackRetry t => Sys2Proof.Machine.execMoveBackRetry t s
  | .probeExchangeStart p => Sys2Proof.Machine.execProbeExchangeStart p s
  | .probeReqRx p laneB w turn => Sys2Proof.Machine.execProbeReqRx p laneB w turn s
  | .probeRespRx p laneB w => Sys2Proof.Machine.execProbeRespRx p laneB w s
  | .timeWordRx p w => Sys2Proof.Machine.execTimeWordRx p w s
  | .timeWordsTimeout p => Sys2Proof.Machine.execTimeWordsTimeout p s
  | .measurementLoss => Sys2Proof.Machine.execMeasurementLoss s
  | .sourceLoss => Sys2Proof.Machine.execSourceLoss s
  | .sourceChange => Sys2Proof.Machine.execSourceChange s
  | .stepNow => Sys2Proof.Machine.execStepNow s
  | .ptpMessageRx port domain m => Sys2Proof.Machine.execPtpMessageRx port domain m s
  | .ppsInputEdge e => Sys2Proof.Machine.execPpsInputEdge e s
  | .ppsInputLoss => Sys2Proof.Machine.execPpsInputLoss s
  | .timeDsSend h => Sys2Proof.Machine.execTimeDsSend h s
  | .timeDsRx msg => Sys2Proof.Machine.execTimeDsRx msg s
  | .timeStatusSend => Sys2Proof.Machine.execTimeStatusSend s
  | .timeStatusRx h msg => Sys2Proof.Machine.execTimeStatusRx h msg s
  | .timeStatusStale h => Sys2Proof.Machine.execTimeStatusStale h s
  | .latticeTick m => Sys2Proof.Machine.execLatticeTick m s
  | .latCommit => Sys2Proof.Machine.execLatCommit s
  | .latticeMarkRepeat => Sys2Proof.Machine.execLatticeMarkRepeat s
  | .latticeMarkRx p w => Sys2Proof.Machine.execLatticeMarkRx p w s
  | .latticePeriodChange => Sys2Proof.Machine.execLatticePeriodChange s
  | .keeperHandoff => Sys2Proof.Machine.execKeeperHandoff s
  | .keeperRestore => Sys2Proof.Machine.execKeeperRestore s
  | .eventPinEdge n high => Sys2Proof.Machine.execEventPinEdge n high s
  | .evpTsPop => Sys2Proof.Machine.execEvpTsPop s
  | .snapshot => Sys2Proof.Machine.execSnapshot s
  | .snapshotRecordRx node msg late => Sys2Proof.Machine.execSnapshotRecordRx node msg late s
  | .snapshotRecordTimeout => Sys2Proof.Machine.execSnapshotRecordTimeout s
  | .snapshotReleaseRx => Sys2Proof.Machine.execSnapshotReleaseRx s
  | .treeReset key => Sys2Proof.Machine.execTreeReset key s
  | .treeResetHoldExpiry => Sys2Proof.Machine.execTreeResetHoldExpiry s
  | .samplePartRx => Sys2Proof.Machine.execSamplePartRx s
  | .compositeEmit c => Sys2Proof.Machine.execCompositeEmit c s
  | .svFrameSend k => Sys2Proof.Machine.execSvFrameSend k s
  | .svFrameRx => Sys2Proof.Machine.execSvFrameRx s
  | .smpRead => Sys2Proof.Machine.execSmpRead s
  | .smpWrite => Sys2Proof.Machine.execSmpWrite s
  | .expressFlitRx p m => Sys2Proof.Machine.execExpressFlitRx p m s
  | .expressQ0Start e => Sys2Proof.Machine.execExpressQ0Start e s
  | .forceMismatch => Sys2Proof.Machine.execForceMismatch s
  | .restore => Sys2Proof.Machine.execRestore s
  | .restoreSelftestDone pass => Sys2Proof.Machine.execRestoreSelftestDone pass s
  | .restoreHandback good => Sys2Proof.Machine.execRestoreHandback good s
  | .extraCheckpoint => Sys2Proof.Machine.execExtraCheckpoint s
  | .expressRepeat g => Sys2Proof.Machine.execExpressRepeat g s
  | .heartbeat g => Sys2Proof.Machine.execHeartbeat g s
  | .expressDeferredSend g => Sys2Proof.Machine.execExpressDeferredSend g s
  | .pinPulseEnd n => Sys2Proof.Machine.execPinPulseEnd n s
  | .supervisionLoss g => Sys2Proof.Machine.execSupervisionLoss g s
  | .expRead => Sys2Proof.Machine.execExpRead s
  | .expWrite => Sys2Proof.Machine.execExpWrite s
  | .expQmaxRead => Sys2Proof.Machine.execExpQmaxRead s
  | .compassSelect e => Sys2Proof.Machine.execCompassSelect e s
  | .bucketFill => Sys2Proof.Machine.execBucketFill s
  | .etokRefill => Sys2Proof.Machine.execEtokRefill s
  | .queueShaperWrite p reg v => Sys2Proof.Machine.execQueueShaperWrite p reg v s
  | .gateEntryAdvance x => Sys2Proof.Machine.execGateEntryAdvance x s
  | .gclCommit x => Sys2Proof.Machine.execGclCommit x s
  | .gclCancel x => Sys2Proof.Machine.execGclCancel x s
  | .gclAdminWrite x k v => Sys2Proof.Machine.execGclAdminWrite x k v s
  | .gclEnable x v => Sys2Proof.Machine.execGclEnable x v s
  | .cmpQdepthRead p => Sys2Proof.Machine.execCmpQdepthRead p s
  | .cmpQdelayMaxRead p => Sys2Proof.Machine.execCmpQdelayMaxRead p s
  | .polRead => Sys2Proof.Machine.execPolRead s
  | .polWrite => Sys2Proof.Machine.execPolWrite s
  | .frameTunnelRx t f => Sys2Proof.Machine.execFrameTunnelRx t f s
  | .stationFrameRx x f fcsBad corr uncorr => Sys2Proof.Machine.execStationFrameRx x f fcsBad corr uncorr s
  | .tunnelFrameSend k => Sys2Proof.Machine.execTunnelFrameSend k s
  | .stationFrameTx x => Sys2Proof.Machine.execStationFrameTx x s
  | .macAgeExpiry => Sys2Proof.Machine.execMacAgeExpiry s
  | .dupEntryExpiry => Sys2Proof.Machine.execDupEntryExpiry s
  | .lanFail x => Sys2Proof.Machine.execLanFail x s
  | .supervisionFrameSend => Sys2Proof.Machine.execSupervisionFrameSend s
  | .stationLinkUp x => Sys2Proof.Machine.execStationLinkUp x s
  | .stationLinkDown x fec => Sys2Proof.Machine.execStationLinkDown x fec s
  | .sfpI2cCmd x v => Sys2Proof.Machine.execSfpI2cCmd x v s
  | .sfpI2cDone x nack data => Sys2Proof.Machine.execSfpI2cDone x nack data s
  | .gooseFrameRx => Sys2Proof.Machine.execGooseFrameRx s
  | .gooseTalExpiry r => Sys2Proof.Machine.execGooseTalExpiry r s
  | .gooseRetransmit r => Sys2Proof.Machine.execGooseRetransmit r s
  | .frmRead => Sys2Proof.Machine.execFrmRead s
  | .frmWrite => Sys2Proof.Machine.execFrmWrite s
  | .pcieLinkUp speed width => Sys2Proof.Machine.execPcieLinkUp speed width s
  | .pcieLinkDown => Sys2Proof.Machine.execPcieLinkDown s
  | .hotReset => Sys2Proof.Machine.execHotReset s
  | .configRequest f r wr v tag => Sys2Proof.Machine.execConfigRequest f r wr v tag s
  | .hostRead apt o len fbe lbe tag => Sys2Proof.Machine.execHostRead apt o len fbe lbe tag s
  | .hostWrite apt o data fbe lbe => Sys2Proof.Machine.execHostWrite apt o data fbe lbe s
  | .heldRequestResume t => Sys2Proof.Machine.execHeldRequestResume t s
  | .readRspRx t msg poisoned => Sys2Proof.Machine.execReadRspRx t msg poisoned s
  | .writeErrRx t msg => Sys2Proof.Machine.execWriteErrRx t msg s
  | .hostReadTimeout => Sys2Proof.Machine.execHostReadTimeout s
  | .hostReadHoldLimit => Sys2Proof.Machine.execHostReadHoldLimit s
  | .prefetchAgeExpiry => Sys2Proof.Machine.execPrefetchAgeExpiry s
  | .intPoll d => Sys2Proof.Machine.execIntPoll d s
  | .intPollTimeout d => Sys2Proof.Machine.execIntPollTimeout d s
  | .intRspRx t msg => Sys2Proof.Machine.execIntRspRx t msg s
  | .rwriteRx t msg => Sys2Proof.Machine.execRwriteRx t msg s
  | .reverseWriteUpstream => Sys2Proof.Machine.execReverseWriteUpstream s
  | .rwAckSend d => Sys2Proof.Machine.execRwAckSend d s
  | .winRead => Sys2Proof.Machine.execWinRead s
  | .winWrite => Sys2Proof.Machine.execWinWrite s
  | .pfRestore => Sys2Proof.Machine.execPfRestore s
  | .usbTokenRx k => Sys2Proof.Machine.execUsbTokenRx k s
  | .resultRx t msg => Sys2Proof.Machine.execResultRx t msg s
  | .xferTimeout dock tag => Sys2Proof.Machine.execXferTimeout dock tag s
  | .portStatRx t msg => Sys2Proof.Machine.execPortStatRx t msg s
  | .usbWakeRx t msg => Sys2Proof.Machine.execUsbWakeRx t msg s
  | .periodicInRx t msg => Sys2Proof.Machine.execPeriodicInRx t msg s
  | .isoIdleTimeout dock port ep => Sys2Proof.Machine.execIsoIdleTimeout dock port ep s
  | .usbSofRx frame micro => Sys2Proof.Machine.execUsbSofRx frame micro s
  | .usbBusReset => Sys2Proof.Machine.execUsbBusReset s
  | .usbSuspend => Sys2Proof.Machine.execUsbSuspend s
  | .usbResume => Sys2Proof.Machine.execUsbResume s
  | .usbConnect v => Sys2Proof.Machine.execUsbConnect v s
  | .usbVbusChange v => Sys2Proof.Machine.execUsbVbusChange v s
  | .dpLinkTrain k rate lanes fec ok => Sys2Proof.Machine.execDpLinkTrain k rate lanes fec ok s
  | .dpMsaRx k m => Sys2Proof.Machine.execDpMsaRx k m s
  | .dpLineRx k line bytes => Sys2Proof.Machine.execDpLineRx k line bytes s
  | .dpSdpRx k line bytes => Sys2Proof.Machine.execDpSdpRx k line bytes s
  | .auxRequest k cmd addr len data => Sys2Proof.Machine.execAuxRequest k cmd addr len data s
  | .auxRspRx t msg => Sys2Proof.Machine.execAuxRspRx t msg s
  | .auxTimeout k => Sys2Proof.Machine.execAuxTimeout k s
  | .displayStatusRx t msg => Sys2Proof.Machine.execDisplayStatusRx t msg s
  | .hpdIrqPulseEnd k => Sys2Proof.Machine.execHpdIrqPulseEnd k s
  | .primaryChange k => Sys2Proof.Machine.execPrimaryChange k s
  | .hpdHoldEnd k => Sys2Proof.Machine.execHpdHoldEnd k s
  | .getInfo r => Sys2Proof.Machine.execGetInfo r s
  | .generate r fails => Sys2Proof.Machine.execGenerate r fails s
  | .derive r fails => Sys2Proof.Machine.execDerive r fails s
  | .importKey r fails => Sys2Proof.Machine.execImportKey r fails s
  | .exportKey r => Sys2Proof.Machine.execExportKey r s
  | .revoke r fails => Sys2Proof.Machine.execRevoke r fails s
  | .erase r fails => Sys2Proof.Machine.execErase r fails s
  | .attest r => Sys2Proof.Machine.execAttest r s
  | .provision r fails => Sys2Proof.Machine.execProvision r fails s
  | .lcChallenge r => Sys2Proof.Machine.execLcChallenge r s
  | .lcAdvance r fails => Sys2Proof.Machine.execLcAdvance r fails s
  | .linkMap r => Sys2Proof.Machine.execLinkMap r s
  | .wakeSrc r => Sys2Proof.Machine.execWakeSrc r s
  | .keyScrub lost lcLost cache => Sys2Proof.Machine.execKeyScrub lost lcLost cache s
  | .tangentBandEntry p t2 => Sys2Proof.Machine.execTangentBandEntry p t2 s
  | .tangentBandExit p => Sys2Proof.Machine.execTangentBandExit p s
  | .drpToggle p => Sys2Proof.Machine.execDrpToggle p s
  | .attachDebounce p ohms => Sys2Proof.Machine.execAttachDebounce p ohms s
  | .detach p => Sys2Proof.Machine.execDetach p s
  | .guardExpiry p => Sys2Proof.Machine.execGuardExpiry p s
  | .tanMsgSend p collide => Sys2Proof.Machine.execTanMsgSend p collide s
  | .tanAckRx p id => Sys2Proof.Machine.execTanAckRx p id s
  | .helloSend p => Sys2Proof.Machine.execHelloSend p s
  | .helloRx p msg bad => Sys2Proof.Machine.execHelloRx p msg bad s
  | .offerRx p msg bad => Sys2Proof.Machine.execOfferRx p msg bad s
  | .requestRx p msg bad => Sys2Proof.Machine.execRequestRx p msg bad s
  | .acceptRx p msg bad => Sys2Proof.Machine.execAcceptRx p msg bad s
  | .tanRejectRx p msg bad => Sys2Proof.Machine.execTanRejectRx p msg bad s
  | .readyRx p msg bad => Sys2Proof.Machine.execReadyRx p msg bad s
  | .prSwapRx p msg bad => Sys2Proof.Machine.execPrSwapRx p msg bad s
  | .getOfferRx p msg bad => Sys2Proof.Machine.execGetOfferRx p msg bad s
  | .hardResetRx p => Sys2Proof.Machine.execHardResetRx p s
  | .tanResendTimeout p => Sys2Proof.Machine.execTanResendTimeout p s
  | .tanReplyTimeout p => Sys2Proof.Machine.execTanReplyTimeout p s
  | .mainRampDone p v => Sys2Proof.Machine.execMainRampDone p v s
  | .mainOffDone p v => Sys2Proof.Machine.execMainOffDone p v s
  | .readyTimeout p => Sys2Proof.Machine.execReadyTimeout p s
  | .swapTimeout p => Sys2Proof.Machine.execSwapTimeout p s
  | .hardResetExpiry p => Sys2Proof.Machine.execHardResetExpiry p s
  | .transitionLoss p => Sys2Proof.Machine.execTransitionLoss p s
  | .railFault p main => Sys2Proof.Machine.execRailFault p main s
  | .portFastTrip p main k => Sys2Proof.Machine.execPortFastTrip p main k s
  | .contactShort p => Sys2Proof.Machine.execContactShort p s
  | .faultRetryExpiry p => Sys2Proof.Machine.execFaultRetryExpiry p s
  | .tanHardResetCmd p => Sys2Proof.Machine.execTanHardResetCmd p s
  | .clearFault p => Sys2Proof.Machine.execClearFault p s
  | .reoffer p => Sys2Proof.Machine.execReoffer p s
  | .tanPortEnable p en role => Sys2Proof.Machine.execTanPortEnable p en role s
  | .feedQualify x m => Sys2Proof.Machine.execFeedQualify x m s
  | .feedVinLoss x m => Sys2Proof.Machine.execFeedVinLoss x m s
  | .feedOn x m => Sys2Proof.Machine.execFeedOn x m s
  | .feedStartTimeout x m => Sys2Proof.Machine.execFeedStartTimeout x m s
  | .feedCbTrip x m => Sys2Proof.Machine.execFeedCbTrip x m s
  | .feedFastTrip x m => Sys2Proof.Machine.execFeedFastTrip x m s
  | .feedOv x m => Sys2Proof.Machine.execFeedOv x m s
  | .feedOvRecover x m => Sys2Proof.Machine.execFeedOvRecover x m s
  | .feedReverse x m => Sys2Proof.Machine.execFeedReverse x m s
  | .feedReverseClear x m => Sys2Proof.Machine.execFeedReverseClear x m s
  | .pgUp x m => Sys2Proof.Machine.execPgUp x m s
  | .pgDown x m => Sys2Proof.Machine.execPgDown x m s
  | .feedWarnAssert fbus => Sys2Proof.Machine.execFeedWarnAssert fbus s
  | .feedWarnDeassert fbus => Sys2Proof.Machine.execFeedWarnDeassert fbus s
  | .feedWarnRepeat => Sys2Proof.Machine.execFeedWarnRepeat s
  | .feedEnable x en => Sys2Proof.Machine.execFeedEnable x en s
  | .feedThrWrite v => Sys2Proof.Machine.execFeedThrWrite v s
  | .feedBusMinRead => Sys2Proof.Machine.execFeedBusMinRead s
  | .sleepRequest req => Sys2Proof.Machine.execSleepRequest req s
  | .sleepDrainTimeout => Sys2Proof.Machine.execSleepDrainTimeout s
  | .wakeSource srcs => Sys2Proof.Machine.execWakeSource srcs s
  | .wakeTimer => Sys2Proof.Machine.execWakeTimer s
  | .perfWrite v => Sys2Proof.Machine.execPerfWrite v s
  | .perfLevelSwitch => Sys2Proof.Machine.execPerfLevelSwitch s
  | .pllLock => Sys2Proof.Machine.execPllLock s
  | .pllLoss => Sys2Proof.Machine.execPllLoss s
  | .governorPeriod p t => Sys2Proof.Machine.execGovernorPeriod p t s
  | .thermCrit t => Sys2Proof.Machine.execThermCrit t s
  | .thermalShutdown => Sys2Proof.Machine.execThermalShutdown s
  | .pwrThermWrite v => Sys2Proof.Machine.execPwrThermWrite v s
  | .powerOnReset straps => Sys2Proof.Machine.execPowerOnReset straps s
  | .coreRailStart => Sys2Proof.Machine.execCoreRailStart s
  | .resetNAssert => Sys2Proof.Machine.execResetNAssert s
  | .perstAssert => Sys2Proof.Machine.execPerstAssert s
  | .rstCmd v => Sys2Proof.Machine.execRstCmd v s
  | .sequencerWatchdog => Sys2Proof.Machine.execSequencerWatchdog s
  | .coreVoltageMonitor mild => Sys2Proof.Machine.execCoreVoltageMonitor mild s
  | .clockMonitor glitch => Sys2Proof.Machine.execClockMonitor glitch s
  | .fullResetRelease => Sys2Proof.Machine.execFullResetRelease s
  | .cfgTunnelOpen => Sys2Proof.Machine.execCfgTunnelOpen s
  | .restoreLateTimer => Sys2Proof.Machine.execRestoreLateTimer s
  | .hostWatchdog => Sys2Proof.Machine.execHostWatchdog s
  | .watchdogFeed v => Sys2Proof.Machine.execWatchdogFeed v s
  | .cfgBegin => Sys2Proof.Machine.execCfgBegin s
  | .cfgWdata v => Sys2Proof.Machine.execCfgWdata v s
  | .cfgCommit ok => Sys2Proof.Machine.execCfgCommit ok s
  | .evForce page v => Sys2Proof.Machine.execEvForce page v s
  | .evEnWrite page v => Sys2Proof.Machine.execEvEnWrite page v s
  | .evtArmWrite hi v => Sys2Proof.Machine.execEvtArmWrite hi v s
  | .msixUnmask func vec => Sys2Proof.Machine.execMsixUnmask func vec s
  | .errCaptClear page => Sys2Proof.Machine.execErrCaptClear page s
  | .evtLogPop => Sys2Proof.Machine.execEvtLogPop s
  | .maintFrame bytes extra opens => Sys2Proof.Machine.execMaintFrame bytes extra opens s
  | .roleSetWrite v => Sys2Proof.Machine.execRoleSetWrite v s
  | .logMinute t => Sys2Proof.Machine.execLogMinute t s
  | .logIntervalCommit => Sys2Proof.Machine.execLogIntervalCommit s
  | .commit => Sys2Proof.Machine.execCommit s
  | .logCommitDone ok => Sys2Proof.Machine.execLogCommitDone ok s
  | .ringClear maint key => Sys2Proof.Machine.execRingClear maint key s
  | .mbistSpill => Sys2Proof.Machine.execMbistSpill s
  | .mramScan => Sys2Proof.Machine.execMramScan s
  | .diagTestDone errors addr uncorr => Sys2Proof.Machine.execDiagTestDone errors addr uncorr s
  | .patCheck v => Sys2Proof.Machine.execPatCheck v s
  | .patClear => Sys2Proof.Machine.execPatClear s
  | .patSyncLoss p laneB => Sys2Proof.Machine.execPatSyncLoss p laneB s
  | .mramRefresh corr uncorr => Sys2Proof.Machine.execMramRefresh corr uncorr s
  | .sfpSidebandChange x v => Sys2Proof.Machine.execSfpSidebandChange x v s
  | .sofLost => Sys2Proof.Machine.execSofLost s
  | .emulatedPortTiming hub port => Sys2Proof.Machine.execEmulatedPortTiming hub port s
  | .powerLoss => Sys2Proof.Machine.execPowerLoss s
  | .vmonIo => Sys2Proof.Machine.execVmonIo s
  | .feedCbLimit x m => Sys2Proof.Machine.execFeedCbLimit x m s

end Sys2Proof.Machine
end

