-- ==== Sys2Proof/Safety.lean ====
section
/-!
DEFINITION. What the statements say about a state: that the event unit is settled, that a register reads as its access type says after a
write, and that a change of the state touches nothing but registers, events and the record of what is sent.
-/
namespace Sys2Proof.Machine

/-- R556: no message is owed and no pending bit is stale: a vector of F0 whose source is up is not armed while messages may be sent, and
a vector whose source is down has no pending bit. -/
def State.settled (s : State) : Prop :=
  ∀ n, n < 64 →
    (s.level n = true → s.rdB EVT_STAT_MSIX_READY = true → s.evt.arm.getLsbD n = false) ∧ (s.level n = false → s.evt.pba0.getLsbD n = false)

/-- R9: the value of a field after a write of `x` over `old`. -/
def Access.after (a : Access) (locked : Bool) (width old x : Nat) : Nat :=
  match a with
  | .rw => x
  | .rwl => if locked then old else x
  | .w1c => old &&& (2 ^ width - 1 - x)
  | .w1s => (old ||| x) % 2 ^ width
  | .ro | .rc | .wo => old

/-- Everything but registers, page headers, the event unit and the record of what is sent is unchanged. -/
def State.onlyRegs (s t : State) : Prop := { t with regs := s.regs, pages := s.pages, evt := s.evt, out := s.out } = s

/-- Every register field but those named reads as before. -/
def State.regsBut (s t : State) (fs : List Field) : Prop := ∀ f : Field, (∀ g ∈ fs, f.key ≠ g.key) → t.rd f = s.rd f

/-- Bits of a page's EV_STAT are set by an event of the page, which is counted, once in its cycle (R551). -/
def State.raised (s t : State) (page : Nat) (bits : List Nat) : Prop :=
  (t.pages.get page).stat = (s.pages.get page).stat ||| evMask bits ∧
  (t.pages.get page).count = if s.sameEvent page (s.pages.get page) then (s.pages.get page).count else (s.pages.get page).count + 1

/-- R57, R66: a cold attempt has started on a port: the phase of block lock with its deadline 150 µs on, and TRAIN but in DOWN. -/
def State.attempt (s t : State) (p : Nat) : Prop :=
  (t.lane p).phase = .lock ∧ (t.lane p).since = s.now ∧ (t.lane p).deadline = some (s.now + 150000) ∧ (t.lane p).retryAt = none ∧
  t.ls p = (if s.ls p = LS_DOWN then LS_DOWN else LS_TRAIN) ∧ ∀ q, q ≠ p → t.lane q = s.lane q

/-- R60, R66: a port has gone from ACTIVE to RETRAIN: its transmitter holds, the event is raised, and the retrain's first deadline runs. -/
def State.retraining (s t : State) (p : Nat) : Prop :=
  t.ls p = LS_RETRAIN ∧ t.rd (CHD_STAT_TX_STATE p) = TX_HOLD ∧ (t.lane p).phase = .rtLock ∧ (t.lane p).since = s.now ∧
  (t.pages.get (lanePage p)).stat.getLsbD EV_LANE_RETRAIN = true ∧ (t.chord p).timer = none ∧ (t.chord p).replay = (s.chord p).replay

/-- R58: an attempt has failed: counted, and the next is due 1 ms on, after three in succession 100 ms on. -/
def State.attemptFailed (s t : State) (p : Nat) : Prop :=
  (t.lane p).phase = .idle ∧ (t.lane p).fails = (s.lane p).fails + 1 ∧
  (t.lane p).retryAt = some (s.now + if (s.lane p).fails + 1 < 3 then 1000000 else 100000000) ∧
  t.rd (LANE_TRAINS_COLD_FAIL p) = satAdd 16 (s.rd (LANE_TRAINS_COLD_FAIL p)) 1 ∧
  t.ls p = (if s.ls p = LS_DOWN then LS_DOWN else LS_DETECT)

/-- Chord of one port has changed, with nothing else but events and the record of what is sent. -/
def State.onlyChord (s t : State) (p : Nat) : Prop :=
  { t with chords := s.chords, evt := s.evt, out := s.out } = s ∧ ∀ q, q ≠ p → t.chord q = s.chord q

/-- R104, R105: a replay runs on a port: it starts at the oldest held entry, is counted, and sends every held entry with REPLAYED = 1. -/
def State.replays (s t : State) (p : Nat) : Prop :=
  t.rd (CHD_STAT_TX_STATE p) = TX_REPLAY ∧ t.rd (CHD_REPLAY_STARTS p) = (s.rd (CHD_REPLAY_STARTS p) + 1) % 2 ^ 8 ∧
  (∀ r ∈ (s.chord p).replay.head?, (t.chord p).restart = r.lsn) ∧
  ∀ r ∈ (s.chord p).replay, Emit.flit p (s.entryFlit p r true) ∈ t.out

/-- R105, R109, R115: a replay that a NAK or the timer starts: entries are held on the die, and the replay does not start at the entry the
last one started from. -/
def State.replayReady (s : State) (p : Nat) : Prop :=
  s.active p = true ∧ s.rdB (CHD_STAT_AUTH p) = false ∧ (s.chord p).replay ≠ [] ∧ (s.chord p).xReplay = [] ∧ (s.chord p).epForLoss = false ∧
  (∀ r ∈ (s.chord p).replay, r.spilled = false ∧ 0 < modSub 16 r.lsn (s.chord p).purge) ∧
  ∀ r ∈ (s.chord p).replay.head?, (s.chord p).lastOldest ≠ some r.lsn

/-- R126 step 5b: the link of a port has been given up: Chord is as after reset but for the Point words seen, the port is in DETECT, and the
flush is counted. -/
def State.flushed (s t : State) (p : Nat) : Prop :=
  t.ls p = LS_DETECT ∧ (t.chord p).linked = false ∧ (t.chord p).replay = [] ∧ (t.chord p).xReplay = [] ∧ (t.chord p).points = [] ∧
  (t.chord p).graceAt = none ∧ t.rd (CHD_STAT_GRACE p) = 0 ∧ t.rd (CHD_FLUSH_COUNT p) = satAdd 16 (s.rd (CHD_FLUSH_COUNT p)) 1 ∧
  (t.lane p).phase = .idle ∧ (t.lane p).fails = (s.lane p).fails ∧ (t.lane p).retryAt = (s.lane p).retryAt

/-- One tunnel has changed, with nothing else but registers, page headers, events and the record of what is sent. -/
def State.onlyTun (s t : State) (n : Nat) : Prop :=
  { t with regs := s.regs, pages := s.pages, tuns := s.tuns, evt := s.evt, out := s.out } = s ∧ ∀ m, m ≠ n → t.tun m = s.tun m

/-- R20, R167, R614: the TUN_CMD register of a hub that is no leaf takes a command for a tunnel that it may touch. -/
def State.tunReady (s : State) (n : Nat) : Prop :=
  s.running = true ∧ s.rdB TUN_CMD_BUSY = false ∧ s.rd TUN_SEL_TUNNEL = n ∧ protectedTun n = false ∧ s.isLeaf = false

/-- R163: a tunnel has entered FAILED with a cause, which TUN_LAST_FAIL records (R185). -/
def State.tunFailed (t : State) (n cause : Nat) : Prop :=
  (t.tun n).e.state = .failed ∧ (t.tun n).e.cause = cause ∧ t.rd TUN_LAST_FAIL_TUNNEL = n ∧ t.rd TUN_LAST_FAIL_CAUSE = cause

/-- R163, R166, R168: a tunnel has entered OPENING and awaits the leaves and docks of its path. -/
def State.tunOpening (s t : State) (n : Nat) : Prop :=
  (t.tun n).e.state = .opening ∧ (t.tun n).leaves = s.leavesOf (s.tun n).e ∧ (t.tun n).docks = s.docksOf n (s.tun n).e ∧
  (t.tun n).since = s.now ∧ (t.tun n).resent = false

/-- R166, R168: no other hub and no dock need acknowledge what happens to a tunnel. -/
def State.alone (s : State) (n : Nat) : Prop := s.leavesOf (s.tun n).e = [] ∧ s.docksOf n (s.tun n).e = []

/-- R163: a tunnel has entered OPEN from OPENING: sequence numbers afresh. -/
def State.tunOpened (t : State) (n : Nat) : Prop :=
  (t.tun n).e.state = .opened ∧ (t.tun n).e.msnOut = 0 ∧ (t.tun n).e.msnIn = 0xFFFFFF ∧ (t.tun n).leaves = [] ∧ (t.tun n).docks = []

/-- R531, R532: a source has asserted the full reset of a hub whose core die was running: the core die is held and cleared, the source is
the one seen, and what the power die and the MRAM hold stays. -/
def State.resetTaken (s t : State) (code : Nat) : Prop :=
  t.coreOn = false ∧ t.boot.seen = [code] ∧ t.boot.at_ = s.now ∧ t.boot.short = s.short ∧ t.pd = s.pd ∧ t.regs = keptRegs s.regs ∧
  t.pages = s.pages.keep powerPage ∧ t.lanes = State.reset.lanes ∧ t.chords = State.reset.chords ∧ t.tuns = State.reset.tuns ∧
  t.evt = State.reset.evt ∧ t.log.bank0 = s.log.bank0 ∧ t.log.bank1 = s.log.bank1 ∧ t.stored.copy0 = s.stored.copy0 ∧
  t.stored.copy1 = s.stored.copy1

/-- R169: the hub takes flits of a tunnel at a Hull port towards `ds`: the tunnel is OPEN on that VC and routes there, nothing polices,
blocks or prunes it, and the ingress buffer holds no flit that is already served. -/
def State.hullTakes (s : State) (p n vc : Nat) (ds : List Nat) : Prop :=
  (s.tun n).e.state = .opened ∧ (s.tun n).e.vc = vc ∧ s.route (s.tun n).e p = some ds ∧ ds ≠ [] ∧ (s.tun n).e.police = false ∧
  (∀ d ∈ ds, s.vc1Blocked d = false ∧ bitOf (s.tun n).pruned d = false) ∧ ∀ f ∈ s.hull.ingress, f.todo ≠ []

/-- R335: a frame has room in a queue of a station port and in the storage that its queues share. -/
def State.stationTakes (s : State) (x pcp : Nat) (f : Frame) : Prop :=
  s.stationHeld x (pcp % 8) + frameLen f ≤ 65536 ∧ ((List.range 8).map (fun i => s.stationHeld x i)).sum + frameLen f ≤ 262144

/-- R374, R378: a vector in the inbound queue, and a write of a dock. -/
def Upstream.isVector : Upstream → Bool | .vector _ => true | .write .. => false
def Upstream.writesOf (d : Nat) : Upstream → Bool | .write e _ _ _ _ => e = d | .vector _ => false

/-- R261, R271: the pair lets an accepted flit of a tunnel pass from a port to port `d`: the tunnel is OPEN on VC 0 and routes there, the
port's Q0 takes it, no sink or takeover acts, and 900 ns have passed since the group's last flit. -/
def State.pairPasses (s : State) (n port d : Nat) : Prop :=
  (s.tun n).e.state = .opened ∧ (s.tun n).e.vc = 0 ∧ s.route (s.tun n).e port = some [d] ∧ d ≠ port ∧ d < 18 ∧ s.active d = true ∧
  (s.chord d).revoked = false ∧ (s.compass.queues.get (qKey d 0)).length < 32 ∧ s.sinkPins (groupOf n) = [] ∧ s.express.force = false ∧
  s.express.takeover = none ∧ s.express.upset = none ∧ s.express.due = none ∧ ∀ u ∈ (s.group (groupOf n)).at_, u + 900 ≤ s.now

/-- R271: an express flit stands at the end of Q0 of a port. -/
def State.inQ0 (s t : State) (x : XFlit) (d : Nat) : Prop :=
  t.compass.queues.get (qKey d 0) = s.compass.queues.get (qKey d 0) ++
    [{ f := { tunnel := x.tunnel, vc := 0, payload := [x.hdr, x.payload], last := true, inPort := 19, todo := [], held := false }, at_ := s.now }]

/-- R172: an adapter's message may leave on a tunnel towards `ds`: the tunnel is OPEN without a key and routes there. -/
def State.canSend (s : State) (p n : Nat) (ds : List Nat) : Prop :=
  (s.tun n).e.state = .opened ∧ (s.tun n).e.keyed = false ∧ s.route (s.tun n).e p = some ds

/-- R171, R172: a message of content words has entered the Hull at a port, behind its header word with MSN and the number of words. -/
def State.sent (s t : State) (p n : Nat) (ds : List Nat) (content : List Word) : Prop :=
  t.hull.ingress = s.hull.ingress ++ messageFlits n (s.tun n).e.vc p ds
    (pack [(16, 24, (s.tun n).e.msnOut), (0, 16, content.length)] :: content)

/-- Nothing but the key store, registers, page headers, events and the record of what is sent has changed. -/
def State.onlyKeys (s t : State) : Prop := { t with regs := s.regs, pages := s.pages, keys := s.keys, evt := s.evt, out := s.out } = s

/-- R428, R434, R437: a command of the management sequencer that writes MRAM runs: the life cycle allows it and FBUS is not low. -/
def State.keyReady (s : State) : Prop := s.running = true ∧ s.lc ∈ [1, 2, 3] ∧ s.rdB FEED_STAT_WARN = false

/-- R434, R436: the mailbox shows a command's STATUS and output bytes, and nothing else of the key store has changed. -/
def State.keyAnswered (s t : State) (status : Nat) (bytes : List Nat) : Prop :=
  t.keys = { s.keys with status := status, stale := false, outBytes := bytes }

/-- R434, R436, R437: the same of a command of the mailbox that has used a slot. -/
def State.keyServed (s t : State) (k status : Nat) (bytes : List Nat) : Prop :=
  t.keys = { s.keys with
    status := status, stale := false, outBytes := bytes, usedAt := s.now,
    used := (k, true) :: (if s.keys.usedAt = s.now then s.keys.used else []) }

/-- R418, R423, R437: an erased slot now holds a key in copy 1, with GEN 1. -/
def State.newKey (t : State) (k : Nat) (w1 w2 : Reg) (keyId : Reg) (key : BitVec 256) : Prop :=
  t.slot k = { c1 := sealCopy k 1 1 w1 w2 0 keyId key, use1 := true, st := .key }

/-- One port's tangent and power state has changed, with nothing else but registers, page headers, events, lifetime counts, the record of
what is sent, and OFFERs that other ports are now to send (R467). -/
def State.onlyTan (s t : State) (p : Nat) : Prop :=
  { t with regs := s.regs, pages := s.pages, pd := { t.pd with tans := s.pd.tans }, log := s.log, evt := s.evt, out := s.out } = s ∧
  ∀ q, q ≠ p → { t.tan q with queue := (s.tan q).queue } = s.tan q

/-- R453, R456: the rails of a port are off, its contract is void, and it waits in a state until an instant. -/
def State.portLeft (t : State) (p st : Nat) (wait : Option Nat) : Prop :=
  t.ps p = st ∧ t.cs p = 7 ∧ t.rd (TAN_PORT_STAT_AUX_ON p) = 0 ∧ t.rd (TAN_PORT_STAT_MAIN_SRC p) = 0 ∧
  t.rd (TAN_PORT_STAT_VER_MINOR p) = 15 ∧ (t.tan p).waitBy = wait ∧ (t.tan p).queue = [] ∧ (t.tan p).out = none ∧
  (t.tan p).signalled = false ∧ (t.tan p).phase = 0

/-- R453: the registers that leaving an attached state writes. -/
def leftRegs (p : Nat) : List Field :=
  [TAN_PORT_STAT_PSTATE p, TAN_PORT_STAT_CSTATE p, TAN_PORT_STAT_AUX_ON p, TAN_PORT_STAT_MAIN_SRC p, TAN_PORT_STAT_MAIN_ON p,
   TAN_PORT_STAT_VER_MINOR p, TAN_CONTRACT_I_C p, TAN_CONTRACT_P_C p, TAN_STAT_SRC_P, EVT_LOG_STAT_OVF]

/-- R457, R459, R460, R462, R475: an attached port receives a whole message of a type, with the data words of the type, good parity and CRC and
a MSG_ID that is not the last, and no hard reset in its ambient cycle. -/
def State.tanHears (s : State) (p type : Nat) (msg : List Word) : Prop :=
  s.boot.dieOn = true ∧ s.joined p = true ∧ fld (msg.getD 0 0) 36 4 = type ∧ msg.length = fld (msg.getD 0 0) 30 3 + 2 ∧
  fld (msg.getD 0 0) 30 3 = tanWords type ∧ msg = withCrc (msg.take (msg.length - 1)) ∧ (s.tan p).lastRx ≠ some (fld (msg.getD 0 0) 33 3) ∧
  (s.tan p).resetAt.all (fun t => t / 40 != s.now / 40) = true

/-- R461: a received message is acknowledged with its MSG_ID. -/
def State.tanAcked (s t : State) (p : Nat) (msg : List Word) : Prop :=
  Emit.tangent p (withCrc [s.tanHeader p (TanMsg.mk 1 0 []) (fld (msg.getD 0 0) 33 3)]) ∈ t.out

/-- R464, R475, R476: a hard reset of a port, received or sent, has been carried out. -/
def State.hardResetDone (s t : State) (p : Nat) (rcvd firmware : Bool) : Prop :=
  (t.tan p).resets = (if firmware then 1 else (s.tan p).resets + 1) ∧
  t.cs p = (if s.cs p = CS_AUX_ONLY ∧ firmware = false then CS_AUX_ONLY else if 3 ≤ (t.tan p).resets then CS_AUX_ONLY else CS_HARD_RESET) ∧
  (t.tan p).resetRcvd = rcvd ∧ (t.tan p).resetAt = some s.now ∧ (t.tan p).queue = [] ∧ (t.tan p).out = none ∧ (t.tan p).msgId = 0 ∧ (t.tan p).lastRx = none ∧
  t.rd (TAN_PORT_STAT_MAIN_ON p) = 0 ∧ t.rd (TAN_CONTRACT_I_C p) = 0 ∧ t.rd (TAN_CONTRACT_P_C p) = 0 ∧
  t.rd (TAN_PORT_STAT_MAIN_SRC p) = b2n (s.tan p).attSrc ∧
  t.rd (TAN_FAULTS_HARD_RESETS p) = satAdd 8 (s.rd (TAN_FAULTS_HARD_RESETS p)) 1 ∧
  (t.pages.get (tanPage p)).stat.getLsbD EV_TAN_HARD_RESET = true ∧ (rcvd = false → Emit.tangentReset p ∈ t.out) ∧
  s.onlyTan t p ∧ s.regsBut t [TAN_PORT_STAT_CSTATE p, TAN_PORT_STAT_MAIN_ON p, TAN_CONTRACT_I_C p, TAN_CONTRACT_P_C p, TAN_STAT_SRC_P,
    TAN_PORT_STAT_MAIN_SRC p, TAN_FAULTS_HARD_RESETS p, EVT_LOG_STAT_OVF]

/-- R490, R498: a feed that has just gone to a state, and what its timers were before. -/
def Feed.gone (f : Feed) (st : FeedState) (now : Nat) : Feed :=
  { st := st, since := now, offAt := f.offAt, hadStart := f.startBy, hadFault := f.faultBy }

/-- R468: no REQUEST of any port was judged in the ambient cycle of the present instant. -/
def State.noFreshGrant (s : State) : Bool :=
  (List.range 18).all (fun p => !(s.tan p).granted || (s.tan p).grantAt / 40 != s.now / 40)

/-- R492, R504, R506: a feed stands as `f`, shown in FEED_STAT, and its measurements are published; nothing else has changed but event
and lifetime records. -/
def State.fed (s t : State) (x : Fin 2) (m : FeedMeas) (f : Feed) : Prop :=
  t.feed x = f ∧ t.pd = { s.pd with feeds := t.pd.feeds } ∧ (∀ y : Fin 2, y ≠ x → t.feed y = s.feed y) ∧
  t.rd (if x = 0 then FEED_STAT_FEED_A else FEED_STAT_FEED_B) =
    packNat [(6, 1, b2n f.limit), (5, 1, b2n f.blocked), (4, 1, b2n f.faultBy.isSome), (3, 1, b2n f.pg), (0, 3, f.st.code)] % 2 ^ 7 ∧
  t.rd (if x = 0 then FEED_MEAS_A_VIN else FEED_MEAS_B_VIN) = m.vin % 2 ^ 10 ∧
  t.rd (if x = 0 then FEED_MEAS_A_I else FEED_MEAS_B_I) =
    min 4095 (m.vs * 100 / max 1 (s.rd (if x = 0 then FEED_SENSE_RS_A else FEED_SENSE_RS_B))) ∧
  t.rd FEED_BUS_V = m.fbus % 2 ^ 10 ∧ t.rd FEED_BUS_MIN = min (s.rd FEED_BUS_MIN) m.fbus % 2 ^ 10 ∧
  { t with regs := s.regs, pages := s.pages, pd := s.pd, log := s.log, evt := s.evt, out := s.out } = s

/-- The registers that a measurement of a feed and its state write. -/
def fedRegs (x : Fin 2) : List Field :=
  [if x = 0 then FEED_STAT_FEED_A else FEED_STAT_FEED_B, if x = 0 then FEED_MEAS_A_VIN else FEED_MEAS_B_VIN,
   if x = 0 then FEED_MEAS_A_I else FEED_MEAS_B_I, FEED_BUS_V, FEED_BUS_MIN, EVT_LOG_STAT_OVF]

end Sys2Proof.Machine
end

