-- ==== Sys2Proof/Certificates/Slice0/Obligations.lean ====
section
/-!
DEFINITION. The statements for the provers.
-/
open Sys2Proof Sys2Proof.Machine

/-! ## The block as a machine -/

/-- A step takes the command at the front of the queue and is that command's effect on the state with the queue's rest. -/
def Obligations.StepRunsFrontCommand : Prop :=
  ∀ (s : State) (c : Instr) (rest : List Instr), step { s with pending := c :: rest } = exec c { s with pending := rest }

/-- With nothing waiting the block idles: while the core die is off, one nanosecond of the model's clock passes and nothing else changes
(the model's choice, log entry 2). -/
def Obligations.EmptyQueueIdles : Prop :=
  ∀ s : State, s.pending = [] → s.coreOn = false →
    ∃ t, step s = .next t ∧ t.now = s.now + 1 ∧ { t with now := s.now, evt := s.evt, out := s.out } = s

/-- Every step of every state answers a next state: no command ends in a fault or a refusal. -/
def Obligations.EveryStepGoesOn : Prop := ∀ s : State, ∃ t, step s = .next t

/-- R556 as an invariant: after every step no message is owed and no pending bit is stale. -/
def Obligations.EveryStepSettlesEvents : Prop := ∀ s t : State, s.settled → step s = .next t → t.settled

/-- The state right after reset: the event unit is settled, every vector armed, nothing numbered, nothing waiting, every table masked,
and the registers of the part read as R564 and R547 say. -/
def Obligations.ResetValues : Prop :=
  State.reset.settled ∧ State.reset.pending = [] ∧ State.reset.evt.next = 0 ∧ State.reset.evt.log = [] ∧
  State.reset.evt.arm = BitVec.allOnes 64 ∧ State.reset.evt.pba0 = 0 ∧
  (∀ k, (State.reset.evt.msix.get k).mask = true ∧ (State.reset.evt.msix.get k).addr = 0 ∧ (State.reset.evt.msix.get k).data = 0) ∧
  (∀ page, State.reset.locked page = false ∧ (State.reset.pages.get page).stat = 0 ∧ (State.reset.pages.get page).en = 0) ∧
  State.reset.rd CHIP_STAT_ROLE = 2 ∧ State.reset.rd CHIP_ID_DEVICE = 0x6418 ∧ State.reset.rd CHIP_ID_VENDOR = 0x1D6E ∧
  State.reset.rd CHIP_REV_STEPPING = 0xB0 ∧ State.reset.rd RST_STAT_RESTORING = 1 ∧ State.reset.rd LOG_CTL_INTERVAL = 10

/-! ## Register accesses -/

/-- R9: a write of a register whose fields start nothing sets each field by its access type, leaves every other field, and changes nothing
else; the pages are those of the Hull, the host link, the dock interrupts and the peripherals. -/
def Obligations.RegisterWriteByAccessType : Prop :=
  ∀ (s : State) (m : RegMaster) (b : Block) (page : BitVec 10) (off : BitVec 12) (v : Reg),
    (b, page) ∈ [(Block.hull, 0x070#10), (.pcie, 0x0F1#10), (.wint, 0x0F2#10), (.per, 0x100#10)] → s.coreOn = true →
    off.toNat % 4 = 0 → (off.toNat = 0x008 ∧ bitOf v.toNat 31 = false ∨ 0x040 ≤ off.toNat ∧ off.toNat ≠ 0x048) →
    ∃ t, exec (.registerWrite m (.page page off) v) s = .next t ∧
      (∀ f ∈ b.fields 0 0, f.off = off.toNat → f.own = false →
        t.rd f = f.acc.after (s.locked page.toNat) f.width (s.rd f) (bitsOf v.toNat f.lsb f.width)) ∧
      s.regsBut t ((b.fields 0 0).filter (fun f => f.off = off.toNat && !f.own)) ∧
      { t with regs := s.regs, evt := s.evt, out := s.out } = s

/-- R8, R11, R549, R564: the accesses that have rows of their own. A misaligned access is counted, raises window-errors, and a read of it
returns all ones; a read of EV_SEQ_LO returns bits [31:0] and latches [39:32]; DAT_SET_SEC_HI is held until DAT_SET_SEC_LO commits both;
LOCK stays; ROLE_SET is written while every ENABLE is 0.
The model's choices that its clauses rest on: assumption log 21 (which pairs latch and commit), 22 (what a misaligned access counts). -/
def Obligations.RegisterAccessRows : Prop :=
  (∀ (s : State) (isRead : Bool) (page : BitVec 10) (off : BitVec 12), s.coreOn = true →
    ∃ t, exec (.misalignedAccess isRead page off) s = .next t ∧ s.raised t 0x0F0 [EV_WIN_ACCESS] ∧
      t.rd WIN_ERR3_ACCESS = satAdd 16 (s.rd WIN_ERR3_ACCESS) 1 ∧ s.regsBut t [WIN_ERR3_ACCESS, EVT_LOG_STAT_OVF] ∧
      (isRead = true → Emit.read page.toNat off.toNat 0xFFFFFFFF#32 ∈ t.out) ∧ s.onlyRegs t) ∧
  (∀ (s : State) (page : BitVec 10), s.coreOn = true → (blockOf page.toNat).isSome = true →
    ∃ t, exec (.loReadLatch (.page page 0x028#12)) s = .next t ∧
      Emit.read page.toNat 0x028 ((s.pages.get page.toNat).seq.extractLsb' 0 32) ∈ t.out ∧
      t.hiLatch.get (page.toNat * 4096 + 0x02C) = some ((s.pages.get page.toNat).seq.extractLsb' 32 8).toNat) ∧
  (∀ (s : State) (v : Reg), s.coreOn = true →
    ∃ t, exec (.hiWriteHold 0x0C0#10 0x05C#12 v) s = .next t ∧ t.hiHold.get (0x0C0 * 4096 + 0x05C) = some v.toNat ∧
      { t with hiHold := s.hiHold, evt := s.evt, out := s.out } = s) ∧
  (∀ (s : State) (h : Nat) (v : Reg), s.coreOn = true → s.hiHold.get (0x0C0 * 4096 + 0x05C) = some h →
    ∃ t, exec (.loWriteCommit 0x0C0#10 0x058#12 v) s = .next t ∧ t.rd DAT_SET_SEC_LO_SEC = v.toNat ∧
      t.rd DAT_SET_SEC_HI_SEC = h % 2 ^ 16 ∧ s.regsBut t [DAT_SET_SEC_LO_SEC, DAT_SET_SEC_HI_SEC] ∧
      { t with regs := s.regs, hiHold := s.hiHold, evt := s.evt, out := s.out } = s) ∧
  (∀ (s : State) (page : BitVec 10), s.coreOn = true → (blockOf page.toNat).isSome = true →
    ∃ t, exec (.pageLock page) s = .next t ∧ t.locked page.toNat = true ∧ (∀ q, q ≠ page.toNat → t.locked q = s.locked q) ∧
      { t with locks := s.locks, evt := s.evt, out := s.out } = s) ∧
  (∀ (s : State) (v : BitVec 2), s.coreOn = true → s.locked 0x000 = false → (∀ p : Fin 18, s.rd (LANE_CTL_ENABLE p) = 0) →
    ∃ t, exec (.roleSetWrite v) s = .next t ∧ t.rd CHIP_CTL_ROLE_SET = v.toNat ∧ s.regsBut t [CHIP_CTL_ROLE_SET] ∧ s.onlyRegs t)

/-- R549, R551–R559, R566: the commands of the event unit.
The model's choices that its clauses rest on: assumption log 54 (a maintenance session, what a refresh finds). -/
def Obligations.EventUnitRows : Prop :=
  (∀ (s : State) (page : BitVec 10) (v : Reg), s.coreOn = true → v &&& pageCap page.toNat ≠ 0#32 →
    ∃ t, exec (.evForce page v) s = .next t ∧ (t.pages.get page.toNat).stat = (s.pages.get page.toNat).stat ||| (v &&& pageCap page.toNat) ∧
      (t.pages.get page.toNat).count =
        (if s.sameEvent page.toNat (s.pages.get page.toNat) then (s.pages.get page.toNat).count else (s.pages.get page.toNat).count + 1) ∧
      t.evt.next = (if s.sameEvent page.toNat (s.pages.get page.toNat) then s.evt.next else s.evt.next + 1) ∧
      (t.pages.get page.toNat).full = (s.pages.get page.toNat).full ∧ (∀ q, q ≠ page.toNat → t.pages.get q = s.pages.get q) ∧ s.onlyRegs t) ∧
  (∀ (s : State) (page : BitVec 10) (v : Reg), s.coreOn = true → (blockOf page.toNat).isSome = true →
    ∃ t, exec (.evEnWrite page v) s = .next t ∧ (t.pages.get page.toNat).en = v &&& pageCap page.toNat ∧
      (t.pages.get page.toNat).stat = (s.pages.get page.toNat).stat ∧ (∀ q, q ≠ page.toNat → t.pages.get q = s.pages.get q) ∧
      { t with pages := s.pages, evt := s.evt, out := s.out } = s) ∧
  (∀ (s : State) (hi : Bool) (v : Reg), s.coreOn = true → s.rdB EVT_STAT_MSIX_READY = false →
    ∃ t, exec (.evtArmWrite hi v) s = .next t ∧ t.evt.arm =
        s.evt.arm ||| (v.setWidth 64 <<< (if hi then 32 else 0) &&& ~~~(if s.evt.sentAt = s.now then s.evt.sentNow else 0#64)) ∧
      { t with evt := s.evt, out := s.out } = s) ∧
  (∀ (s : State) (func : Fin 3) (vec : Fin 64), s.coreOn = true → (func.val < 2 ∨ vec = 0) →
    ∃ t, exec (.msixUnmask func vec) s = .next t ∧ (t.evt.msix.get (func.val * 64 + vec.val)).mask = false ∧
      (∀ k, k ≠ func.val * 64 + vec.val → t.evt.msix.get k = s.evt.msix.get k) ∧ { t with evt := s.evt, out := s.out } = s) ∧
  (∀ (s : State) (page : BitVec 10), s.coreOn = true →
    ∃ t, exec (.errCaptClear page) s = .next t ∧
      (t.pages.get page.toNat).full =
        (if (s.pages.get page.toNat).captAt = some s.now then (s.pages.get page.toNat).full else false) ∧
      (t.pages.get page.toNat).capt = (if (s.pages.get page.toNat).captAt = some s.now then (s.pages.get page.toNat).captNow
        else (s.pages.get page.toNat).capt) ∧ { t with pages := s.pages, evt := s.evt, out := s.out } = s) ∧
  (∀ (s : State) (e : LogEntry) (l : List LogEntry), s.coreOn = true → s.evt.log = e :: l →
    ∃ t, exec .evtLogPop s = .next t ∧ t.evt.log = l ++ (if s.evt.lostAt = s.now then s.evt.lost.take 1 else []) ∧ t.evt.out = some e ∧ Emit.read 0x001 0x060 (e.seq.extractLsb' 0 32) ∈ t.out) ∧
  (∀ (s : State) (bytes : List (BitVec 8)) (extra : Fin 8) (page off : Nat), s.boot.dieOn = true → s.coreOn = true → s.power.asleep = 0 →
    s.power.asked = 0 → bitOf (s.rd CHIP_STRAP_STRAPS) 1 = true → maintCmd (bytes.map (·.toNat)) extra.val = some (.read page off) →
    ∃ t, exec (.maintFrame bytes extra false) s = .next t ∧ Emit.spi (s.readAt page off).2 ∈ t.out) ∧
  (∀ (s : State) (bytes : List (BitVec 8)) (extra : Fin 8), s.boot.dieOn = true → s.coreOn = true → s.power.asleep = 0 →
    s.power.asked = 0 → bitOf (s.rd CHIP_STRAP_STRAPS) 1 = true → maintCmd (bytes.map (·.toNat)) extra.val = none →
    ∃ t, exec (.maintFrame bytes extra false) s = .next t ∧ s.raised t 0x001 [EV_EVT_MAINT_DENY] ∧
      s.onlyRegs { t with power := s.power }) ∧
  (∀ s : State, s.coreOn = true →
    (∃ t, exec (.mramRefresh false false) s = .next t ∧ { t with evt := s.evt, out := s.out } = s) ∧
    (∃ t, exec (.mramRefresh true false) s = .next t ∧ s.raised t 0x001 [EV_EVT_MRAM_CORR] ∧ s.onlyRegs t) ∧
    (∃ t, exec .vmonIo s = .next t ∧ s.raised t 0x001 [EV_EVT_VMON_IO] ∧ s.onlyRegs t))

/-! ## Lanes -/

/-- R43, R46–R56, R61, R79: what arrives on a lane and what training sends.
The model's choices that its clauses rest on: assumption log 5 (drawn seeds), 27. -/
def Obligations.LaneReceiveRows : Prop :=
  (∀ (s : State) (p : Fin 18) (pair : Bool) (cg : BitVec 46), s.coreOn = true → s.ls p = LS_ACTIVE → ((s.lane p).pair pair).descrambling = true →
    ((s.lane p).pair pair).inverted = false → fld cg 44 2 = 0 →
    ∃ t, exec (.codeGroupRx p pair cg) s = .next t ∧
      ((t.lane p).pair pair).items = ((s.lane p).pair pair).items ++ [RxItem.bad] ∧
      t.rd (if ((s.lane p).pair pair).laneB.getD pair then LANE_ERR_BAD_B p else LANE_ERR_BAD_A p) =
        satAdd 16 (s.rd (if ((s.lane p).pair pair).laneB.getD pair then LANE_ERR_BAD_B p else LANE_ERR_BAD_A p)) 1 ∧
      (∀ q, q ≠ p.val → t.lane q = s.lane q)) ∧
  (∀ (s : State) (p : Fin 18) (pair : Bool) (cg : BitVec 46), s.coreOn = true → s.ls p = LS_ACTIVE → ((s.lane p).pair pair).descrambling = true →
    ((s.lane p).pair pair).inverted = false → fld cg 44 2 = 2 →
    (scramble ((s.lane p).pair pair).lfsr (fld cg 0 44)).1 / 2 ^ 40 =
      parity (BitVec.ofNat 40 (scramble ((s.lane p).pair pair).lfsr (fld cg 0 44)).1) →
    ∃ t, exec (.codeGroupRx p pair cg) s = .next t ∧
      ((t.lane p).pair pair).items =
        ((s.lane p).pair pair).items ++ [RxItem.data (BitVec.ofNat 40 (scramble ((s.lane p).pair pair).lfsr (fld cg 0 44)).1)] ∧
      { t with lanes := s.lanes, evt := s.evt, out := s.out } = s) ∧
  (∀ (s : State) (p : Fin 18), s.coreOn = true → s.ls p = LS_ACTIVE → (s.lane p).skipAt ≤ s.now → s.compass.queues.get (qKey p 0) = [] →
    ∃ t, exec (.skipSend p) s = .next t ∧ Emit.word p 2 (ctlWord 0x01 []) ∈ t.out ∧ (t.lane p).skipAt = (s.lane p).skipAt + 8128 * 2 ∧
      { t with lanes := s.lanes, evt := s.evt, out := s.out } = s) ∧
  (∀ (s : State) (p : Fin 18) (pair : Bool) (w : Word) (slot : Nat), s.coreOn = true → s.ls p ≠ LS_ACTIVE → (s.lane p).phase = .lock →
    ((s.lane p).pair (!pair)).locked = false → fld w 34 6 = 0x02 → fld w 0 17 = 0x1A5A5 →
    ∃ t, exec (.trainWordRx p pair 1 w slot) s = .next t ∧
      ((t.lane p).pair pair).hits = (if slot = 16 then ((s.lane p).pair pair).hits + 1 else 1) ∧
      ((t.lane p).pair pair).laneB = some (fld w 33 1 = 1 : Bool) ∧ ((t.lane p).pair pair).inverted = false ∧
      (8 ≤ ((t.lane p).pair pair).hits → t.rd (if fld w 33 1 = 1 then LANE_STAT_LOCK_B p else LANE_STAT_LOCK_A p) = 1) ∧
      s.regsBut t [LANE_STAT_LOCK_A p, LANE_STAT_LOCK_B p] ∧
      { t with regs := s.regs, lanes := s.lanes, evt := s.evt, out := s.out } = s) ∧
  (∀ (s : State) (p : Fin 18) (pair : Bool) (w : Word) (skew : Int), s.coreOn = true → (s.lane p).phase = .align → (s.lane p).lastSent = false →
    fld w 34 6 = 0x08 → -64 ≤ skew → skew ≤ 64 →
    ∃ t, exec (.alignWordRx p pair w skew) s = .next t ∧ ((t.lane p).pair pair).seed = fld w 0 31 ∧
      (t.lane p).dskRcvd = ((s.lane p).dskRcvd || fld w 31 1 = 1) ∧ t.rd (LANE_STAT_SKEW p) = unsignedOf 8 skew % 256 ∧
      { t with regs := s.regs, lanes := s.lanes, evt := s.evt, out := s.out } = s) ∧
  (∀ (s : State) (p : Fin 18), s.coreOn = true → (s.lane p).phase = .align → (s.lane p).dskRcvd = true → (s.lane p).lastSent = false →
    (s.lane p).lastRcvd = false → (s.lane p).alignAt + 7 * 64 ≤ s.now →
    ∃ t, exec (.lastSend p) s = .next t ∧ (t.lane p).lastSent = true ∧
      Emit.word p 0 (alignWord (s.lane p) false true (s.lane p).seedA) ∈ t.out ∧
      Emit.word p 1 (alignWord (s.lane p) true true (s.lane p).seedB) ∈ t.out ∧
      { t with lanes := s.lanes, evt := s.evt, out := s.out } = s) ∧
  (∀ (s : State) (p : Fin 18) (w : Word), s.coreOn = true → (s.lane p).phase = .config → (s.lane p).capsRx = [] → fld w 34 6 = 0x03 → fld w 30 4 ≠ 15 →
    ∃ t, exec (.capsRx p (some w) (some w)) s = .next t ∧ (t.lane p).capsRx = [(fld w 30 4, fld w 0 30)] ∧
      { t with lanes := s.lanes, evt := s.evt, out := s.out } = s) ∧
  (∀ (s : State) (p : Fin 18), s.coreOn = true →
    ∃ t, exec (.laneErrRead p) s = .next t ∧ t.rd (LANE_ERR_BAD_A p) = 0 ∧ t.rd (LANE_ERR_BAD_B p) = 0 ∧
      Emit.read (lanePage p) 0x04C (BitVec.ofNat 32 (s.rd (LANE_ERR_BAD_B p) * 2 ^ 16 + s.rd (LANE_ERR_BAD_A p))) ∈ t.out ∧
      s.regsBut t [LANE_ERR_BAD_A p, LANE_ERR_BAD_B p] ∧ s.onlyRegs t)

/-- R53, R57, R58, R64, R66, R72, R76: cold attempts: what starts one, how the sweep goes on and how one fails.
The model's choices that its clauses rest on: assumption log 11 (an expiry acts at its deadline), 12 (the order of the sweep), 27. -/
def Obligations.LaneAttemptRows : Prop :=
  (∀ (s : State) (p : Fin 18), s.coreOn = true → (s.ls p = LS_DETECT ∨ s.ls p = LS_DORMANT) →
    (∃ t, exec (.signalEnergyDetect p) s = .next t ∧ s.attempt t p) ∧
    (s.boot.dieOn = true → ∃ t, exec (.wakeBurstDetect p) s = .next t ∧ s.attempt t p ∧ s.raised t (lanePage p) [EV_LANE_WAKE_BURST] ∧
      t.rd (LANE_WAKE_BURSTS_RX p) = satAdd 8 (s.rd (LANE_WAKE_BURSTS_RX p)) 1)) ∧
  (∀ (s : State) (p : Fin 18), s.coreOn = true → s.ls p = LS_DOWN → (s.lane p).phase = .idle → (s.lane p).resumed = false →
    ∃ t, exec (.signalEnergyDetect p) s = .next t ∧ s.attempt t p) ∧
  (∀ (s : State) (p : Fin 18), s.coreOn = true → s.ls p = LS_DETECT → s.tangentAttached p = true →
    ∃ t, exec (.trainEntry p) s = .next t ∧ s.attempt t p) ∧
  (∀ (s : State) (p : Fin 18) (d : Nat), s.coreOn = true → (s.ls p = LS_DETECT ∨ s.ls p = LS_DOWN) → (s.lane p).phase = .idle →
    (s.lane p).resumed = false → (s.lane p).retryAt = some d → d ≤ s.now →
    ∃ t, exec (.coldRetryExpiry p) s = .next t ∧ s.attempt t p) ∧
  (∀ (s : State) (p : Fin 18), s.coreOn = true → (s.ls p = LS_DOWN ∨ s.ls p = LS_TRAIN ∨ s.ls p = LS_CONFIG) →
    ∃ t, exec (.forceCold p) s = .next t ∧ s.attempt t p) ∧
  (∀ (s : State) (p : Fin 18) (margin d : Nat), s.coreOn = true → (s.lane p).phase = .equalise → (s.lane p).evalUntil = some d → d ≤ s.now →
    (s.lane p).sweepStage < 7 →
    ∃ t, exec (.presetEvalExpiry p margin) s = .next t ∧ (t.lane p).sweepStage = (s.lane p).sweepStage + 1 ∧
      (t.lane p).sweepPreset = ((s.lane p).sweepPreset + 1) % 8 ∧ (t.lane p).evalUntil = some (s.now + 50000) ∧
      t.rd (LANE_EQ_RX_PRE p) = (presetCursors (((s.lane p).sweepPreset + 1) % 8)).1 ∧
      t.rd (LANE_EQ_RX_POST p) = (presetCursors (((s.lane p).sweepPreset + 1) % 8)).2 ∧
      { t with regs := s.regs, lanes := s.lanes, evt := s.evt, out := s.out } = s) ∧
  (∀ (s : State) (p : Fin 18) (d : Nat), s.coreOn = true → (s.lane p).deadline = some d → d < s.now →
    ((s.lane p).phase = .lock ∨ (s.lane p).phase = .equalise ∨ (s.lane p).phase = .align → (s.lane p).unanswered = false →
      ∃ t, exec (.trainDeadlineExpiry p) s = .next t ∧ s.attemptFailed t p) ∧
    ((s.lane p).phase = .config → ∃ t, exec (.configTimeout p) s = .next t ∧ s.attemptFailed t p))

/-- R50, R59, R60, R76: what sends an ACTIVE port to RETRAIN, and a retrain that misses its deadline to DOWN.
The model's choices that its clauses rest on: assumption log 11, 27. -/
def Obligations.LaneRetrainRows : Prop :=
  (∀ (s : State) (p : Fin 18), s.coreOn = true → s.ls p = LS_ACTIVE → ∃ t, exec (.forceRetrain p) s = .next t ∧ s.retraining t p) ∧
  (∀ (s : State) (p : Fin 18) (pair : Bool), s.coreOn = true → s.ls p = LS_ACTIVE → 8 ≤ (((s.lane p).pair pair).zeros.filter id).length →
    ∃ t, exec (.blockLockLoss p pair) s = .next t ∧ s.retraining t p) ∧
  (∀ (s : State) (p : Fin 18) (pair : Bool), s.coreOn = true → s.ls p = LS_ACTIVE →
    32 ≤ (((s.lane p).pair pair).badAt.filter (fun t => s.now ≤ t + 1000)).length →
    ∃ t, exec (.badWordBurst p pair) s = .next t ∧ s.retraining t p ∧ (t.pages.get (lanePage p)).stat.getLsbD EV_LANE_BAD_BURST = true) ∧
  (∀ (s : State) (p : Fin 18) (d : Nat), s.coreOn = true → s.ls p = LS_RETRAIN → (s.lane p).deadline = some d → d < s.now →
    (s.chord p).graceMs ≠ 0 →
    ∃ t, exec (.retrainDeadlineExpiry p) s = .next t ∧ t.ls p = LS_DOWN ∧
      t.rd (LANE_RETRAINS_RETRAIN_FAIL p) = satAdd 16 (s.rd (LANE_RETRAINS_RETRAIN_FAIL p)) 1 ∧
      (t.lane p).retryAt = some (s.now + 10000) ∧ (t.chord p).graceAt = some (s.now + (s.chord p).graceMs * 1000000) ∧
      t.rd (CHD_STAT_TX_STATE p) = TX_HOLD ∧ t.rd (CHD_STAT_GRACE p) = 1)

/-- R66, R68–R73, R76, R79, R574: enabling, loopback, wake bursts and the low-power handshake.
The model's choices that its clauses rest on: assumption log 27, 28. -/
def Obligations.LanePowerRows : Prop :=
  (∀ (s : State) (p : Fin 18) (v : BitVec 2), s.coreOn = true → s.locked (lanePage p) = false → s.ls p = LS_DISABLED →
    (∃ t, exec (.laneEnable p true) s = .next t ∧ t.rd (LANE_CTL_ENABLE p) = 1 ∧ t.ls p = LS_DETECT ∧
      s.regsBut t [LANE_CTL_ENABLE p, LANE_STAT_STATE p] ∧ s.onlyRegs t) ∧
    (v ≠ 0 → s.rd (LANE_CTL_ENABLE p) = 0 → ∃ t, exec (.loopWrite p v) s = .next t ∧ t.rd (LANE_CTL_LOOP p) = v.toNat ∧
      t.ls p = LS_LOOPBACK ∧ s.regsBut t [LANE_CTL_LOOP p, LANE_STAT_STATE p] ∧ s.onlyRegs t)) ∧
  (∀ (s : State) (p : Fin 18), s.coreOn = true → (s.ls p = LS_DETECT ∨ s.ls p = LS_DORMANT) →
    ∃ t, exec (.sendBurst p) s = .next t ∧ Emit.burst p ∈ t.out ∧ (t.lane p).bursts = 1 ∧ (t.lane p).burstAt = some (s.now + 1000000) ∧
      { t with lanes := s.lanes, evt := s.evt, out := s.out } = s) ∧
  (∀ (s : State) (p : Fin 18) (d : Nat), s.coreOn = true → (s.lane p).burstAt = some d → d ≤ s.now → (s.lane p).pair0.hits = 0 → (s.lane p).pair1.hits = 0 →
    s.ls p ≠ LS_ACTIVE → (s.lane p).bursts < 60 →
    ∃ t, exec (.wakeBurstRepeat p) s = .next t ∧ Emit.burst p ∈ t.out ∧ (t.lane p).bursts = (s.lane p).bursts + 1 ∧
      (t.lane p).burstAt = some (s.now + 1000000) ∧ { t with lanes := s.lanes, evt := s.evt, out := s.out } = s) ∧
  (∀ (s : State) (p : Fin 18) (w : Word), s.coreOn = true → s.ls p = LS_ACTIVE → (s.lane p).asked = none → fld w 34 6 = 0 → fld w 31 3 ≠ 0 →
    (s.mayRest p (fld w 31 3) = true → ∃ t, exec (.enterRx p w) s = .next t ∧ Emit.word p 2 (idleWord (fld w 31 3) true) ∈ t.out ∧
      t.ls p = (if fld w 31 3 = 1 then LS_DOZE else if fld w 31 3 = 2 then LS_NAP else LS_DORMANT) ∧ s.regsBut t [LANE_STAT_STATE p]) ∧
    (s.mayRest p (fld w 31 3) = false → ∃ t, exec (.enterRx p w) s = .next t ∧ Emit.word p 2 (idleWord (fld w 31 3) false) ∈ t.out ∧
      { t with lanes := s.lanes, evt := s.evt, out := s.out } = s)) ∧
  (∀ (s : State) (p : Fin 18) (code : BitVec 3), s.coreOn = true → s.mayRest p code.toNat = true → (s.lane p).asked = none →
    ∃ t, exec (.enterSend p code) s = .next t ∧ Emit.word p 2 (idleWord code.toNat false) ∈ t.out ∧ (t.lane p).asked = some code.toNat ∧
      (t.lane p).askUntil = some (s.now + 1000) ∧ { t with lanes := s.lanes, evt := s.evt, out := s.out } = s) ∧
  (∀ (s : State) (p : Fin 18) (w : Word) (n : Nat), s.coreOn = true → (s.lane p).asked = some n → fld w 34 6 = 0 → fld w 31 3 = n → fld w 30 1 = 1 →
    s.ls p = LS_ACTIVE →
    ∃ t, exec (.idleAcceptRx p w) s = .next t ∧ t.ls p = (if n = 1 then LS_DOZE else if n = 2 then LS_NAP else LS_DORMANT) ∧
      (t.lane p).asked = none ∧ s.regsBut t [LANE_STAT_STATE p]) ∧
  (∀ (s : State) (p : Fin 18) (d : Nat), s.coreOn = true → (s.lane p).askUntil = some d → d < s.now →
    ∃ t, exec (.enterAnswerTimeout p) s = .next t ∧ (t.lane p).asked = none ∧ (t.lane p).askUntil = none ∧
      { t with lanes := s.lanes, evt := s.evt, out := s.out } = s) ∧
  (∀ (s : State) (p : Fin 18) (w : Word), s.coreOn = true → s.ls p = LS_DOZE →
    (s.lane p).viaRetrain = false →
    (∃ t, exec (.linkWake p) s = .next t ∧ Emit.word p 0 (ctlWord 0x0A [(33, 1, 0)]) ∈ t.out ∧ (t.lane p).waking = true ∧
      { t with lanes := s.lanes, evt := s.evt, out := s.out } = s) ∧
    (fld w 34 6 = 0x0A → (s.lane p).coldAfter = false → (s.chord p).replay = [] →
      ∃ t, exec (.wakeWordRx p w) s = .next t ∧ t.ls p = LS_ACTIVE ∧ t.rd (CHD_STAT_TX_STATE p) = TX_SEND ∧ (t.lane p).activeAt = s.now))

/-! ## Chord -/

/-- R46, R82, R100–R109: framing, classification by LSN, acknowledgement and replay.
The model's choices that its clauses rest on: assumption log 29, 31. -/
def Obligations.ChordFlitRows : Prop :=
  (∀ (s : State) (p : Fin 18) (x y : Word) (a b : List RxItem), s.coreOn = true → s.active p = true → (s.lane p).pair0.laneB = some false →
    (s.lane p).pair0.items = .data x :: a → (s.lane p).pair1.items = .data y :: b → (s.chord p).void = false →
    flitComplete ((s.chord p).framing.words ++ [x]) = false → flitComplete ((s.chord p).framing.words ++ [x, y]) = false →
    ∃ t, exec (.wordFrameRx p) s = .next t ∧ (t.chord p).framing.words = (s.chord p).framing.words ++ [x, y] ∧
      (t.lane p).pair0.items = a ∧ (t.lane p).pair1.items = b ∧ (t.chord p).framed = (s.chord p).framed ∧
      { t with lanes := s.lanes, chords := s.chords, evt := s.evt, out := s.out } = s) ∧
  (∀ (s : State) (p : Fin 18) (ws : List Word) (rest : List (List Word × Bool)), s.coreOn = true → (s.chord p).framed = (ws, false) :: rest →
    s.rdB (CHD_STAT_AUTH p) = false → 1 ≤ fld (ws.headD 0) 37 3 → fld (ws.headD 0) 37 3 ≤ 5 → 1 ≤ fld (ws.headD 0) 20 5 →
    fld (ws.headD 0) 20 5 ≤ 30 → ws.getLastD 0 = s.trailer p false 0 0 0 ws.dropLast →
    (32768 ≤ modSub 16 (fld (ws.headD 0) 4 16) ((s.chord p).cum + 1) →
      ∃ t, exec (.flitRx p) s = .next t ∧ (t.chord p).framed = rest ∧ t.rd (CHD_MISC_DUP p) = satAdd 16 (s.rd (CHD_MISC_DUP p)) 1 ∧
        (t.chord p).ackDue = some ((s.chord p).ackDue.getD (s.now + 100)) ∧ (t.chord p).cum = (s.chord p).cum ∧
        s.regsBut t [CHD_MISC_DUP p]) ∧
    (modSub 16 (fld (ws.headD 0) 4 16) ((s.chord p).cum + 1) = 0 → ((s.chord p).cred (fld (ws.headD 0) 37 3)).myCless = false →
      ∃ t, exec (.flitRx p) s = .next t ∧ (t.chord p).framed = rest ∧ (t.chord p).cum = fld (ws.headD 0) 4 16 ∧
        (t.chord p).unacked = (s.chord p).unacked + 1 ∧ t.rd (CHD_STAT_RX_STATE p) = 0)) ∧
  (∀ (s : State) (p : Fin 18), s.coreOn = true → s.active p = true → (s.chord p).ackDue ≠ none → (s.chord p).points = [] →
    ∃ t, exec (.ackSend p) s = .next t ∧
      Emit.word p 3 (ctlWord 0x04 [(18, 16, (s.chord p).cum), (10, 8, (s.chord p).xCum), (9, 1, 0)]) ∈ t.out ∧
      (t.chord p).ackDue = none ∧ (t.chord p).unacked = 0 ∧ s.onlyChord t p) ∧
  (∀ (s : State) (p : Fin 18) (d : Nat), s.coreOn = true → s.active p = true → s.rd (CHD_STAT_RX_STATE p) = 1 → (s.chord p).nakAgain = some d → d < s.now →
    (s.chord p).points = [] →
    ∃ t, exec (.nakRepeat p) s = .next t ∧
      Emit.word p 3 (ctlWord 0x05 [(18, 16, (s.chord p).cum), (10, 8, (s.chord p).xCum), (9, 1, 0)]) ∈ t.out ∧
      t.rd (CHD_NAK_SENT p) = satAdd 16 (s.rd (CHD_NAK_SENT p)) 1 ∧
      (t.chord p).nakAgain = some (s.now + s.rd (CHD_RTT_TIMER p) * 10) ∧ s.regsBut t [CHD_NAK_SENT p] ∧
      { t with regs := s.regs, chords := s.chords, evt := s.evt, out := s.out } = s) ∧
  (∀ (s : State) (p : Fin 18) (w : Word), s.active p = true → fld w 34 6 = 0x04 →
    ((s.chord p).judgeAck (fld w 18 16) = 0 → fld w 9 1 = 0 →
      ∃ t, exec (.ackRx p w) s = .next t ∧ (t.chord p).purge = fld w 18 16 ∧
        (t.chord p).replay = (s.chord p).replay.filter (fun r => modSub 16 (fld w 18 16) (s.chord p).purge < modSub 16 r.lsn (s.chord p).purge) ∧
        (t.chord p).xReplay = (s.chord p).xReplay.filter (fun e => 128 ≤ modSub 8 (fld w 10 8) e.xsn) ∧
        s.regsBut t [CHD_SPILL_USED p, CHD_STAT_TX_STATE p] ∧
        { t with regs := s.regs, chords := s.chords, evt := s.evt, out := s.out } = s) ∧
    ((s.chord p).judgeAck (fld w 18 16) = 2 → s.coreOn = true →
      ∃ t, exec (.ackRx p w) s = .next t ∧ t.rd (CHD_PROTO_BAD_ACK p) = satAdd 16 (s.rd (CHD_PROTO_BAD_ACK p)) 1 ∧
        s.raised t (chordPage p) [EV_CHD_PROTO_ERR] ∧ s.regsBut t [CHD_PROTO_BAD_ACK p, EVT_LOG_STAT_OVF] ∧ s.onlyRegs t)) ∧
  (∀ (s : State) (p : Fin 18) (w : Word) (bad : List Nat) (corr : Nat) (h : Bool), s.coreOn = true → s.replayReady p → fld w 34 6 = 0x05 →
    fld w 9 1 = 0 → fld w 18 16 = (s.chord p).purge → s.rd (CHD_STAT_TX_STATE p) = TX_SEND →
    ∃ t, exec (.nakRx p w bad corr h) s = .next t ∧ s.replays t p ∧ t.rd (CHD_NAK_RCVD p) = satAdd 16 (s.rd (CHD_NAK_RCVD p)) 1 ∧
      s.raised t (chordPage p) [EV_CHD_NAK_RX]) ∧
  (∀ (s : State) (p : Fin 18) (bad : List Nat) (corr : Nat) (h : Bool) (d : Nat), s.coreOn = true → s.replayReady p → (s.chord p).timer = some d → d < s.now →
    ∃ t, exec (.replayTimerExpiry p bad corr h) s = .next t ∧ s.replays t p) ∧
  (∀ (s : State) (p : Fin 18), s.coreOn = true → s.rd (CHD_STAT_TX_STATE p) = TX_REPLAY → (s.chord p).epForLoss = false →
    ∃ t, exec (.replayEnd p) s = .next t ∧ t.rd (CHD_STAT_TX_STATE p) = TX_SEND ∧ s.regsBut t [CHD_STAT_TX_STATE p] ∧ s.onlyRegs t)

/-- R89–R98, R111–R114: credits and the copies of express flits.
The model's choices that its clauses rest on: assumption log 29. -/
def Obligations.ChordCreditRows : Prop :=
  (∀ (s : State) (p : Fin 18) (vc : Fin 5), s.coreOn = true → s.active p = true → ((s.chord p).cred (vc + 1)).myCless = false → (s.chord p).points = [] →
    (((s.chord p).cred (vc + 1)).freedH ≠ 0 →
      ∃ t, exec (.creditSend p vc false) s = .next t ∧
        Emit.word p 3 (ctlWord 0x06 [(31, 3, vc + 1), (30, 1, 0),
          (14, 16, (((s.chord p).cred (vc + 1)).limH + ((s.chord p).cred (vc + 1)).freedH) % 2 ^ 16)]) ∈ t.out ∧
        ((t.chord p).cred (vc + 1)).limH = (((s.chord p).cred (vc + 1)).limH + ((s.chord p).cred (vc + 1)).freedH) % 2 ^ 16 ∧
        ((t.chord p).cred (vc + 1)).freedH = 0 ∧ s.onlyChord t p) ∧
    (((s.chord p).cred (vc + 1)).freedD ≠ 0 →
      ∃ t, exec (.creditSend p vc true) s = .next t ∧
        Emit.word p 3 (ctlWord 0x06 [(31, 3, vc + 1), (30, 1, 1),
          (14, 16, (((s.chord p).cred (vc + 1)).limD + ((s.chord p).cred (vc + 1)).freedD) % 2 ^ 16)]) ∈ t.out ∧
        ((t.chord p).cred (vc + 1)).limD = (((s.chord p).cred (vc + 1)).limD + ((s.chord p).cred (vc + 1)).freedD) % 2 ^ 16 ∧
        ((t.chord p).cred (vc + 1)).freedD = 0 ∧ s.onlyChord t p)) ∧
  (∀ (s : State) (p : Fin 18) (d : Nat), s.coreOn = true → s.active p = true → (s.chord p).creditRepeat = some d → d ≤ s.now → (s.chord p).points = [] →
    ∃ t, exec (.creditRepeat p) s = .next t ∧ (t.chord p).creditRepeat = some (s.now + 10000) ∧
      (∀ vc : Fin 5, ((s.chord p).cred (vc + 1)).myCless = false →
        Emit.word p 3 (ctlWord 0x06 [(31, 3, vc + 1), (30, 1, 0),
          (14, 16, (((s.chord p).cred (vc + 1)).limH + ((s.chord p).cred (vc + 1)).freedH) % 2 ^ 16)]) ∈ t.out ∧
        Emit.word p 3 (ctlWord 0x06 [(31, 3, vc + 1), (30, 1, 1),
          (14, 16, (((s.chord p).cred (vc + 1)).limD + ((s.chord p).cred (vc + 1)).freedD) % 2 ^ 16)]) ∈ t.out) ∧
      { t with chords := s.chords, evt := s.evt, out := s.out } = s) ∧
  (∀ (s : State) (p : Fin 18) (w : Word), s.active p = true → fld w 34 6 = 0x06 → 1 ≤ fld w 31 3 → fld w 31 3 ≤ 5 →
    ((s.chord p).cred (fld w 31 3)).cless = false →
    (fld w 30 1 = 0 → modSub 16 (fld w 14 16) ((s.chord p).cred (fld w 31 3)).ccH ≤ 32767 →
      modSub 16 (fld w 14 16) ((s.chord p).cred (fld w 31 3)).clH ≤ 32767 →
      ∃ t, exec (.creditRx p w) s = .next t ∧ ((t.chord p).cred (fld w 31 3)).clH = fld w 14 16 ∧ s.onlyChord t p) ∧
    (fld w 30 1 = 1 → modSub 16 (fld w 14 16) ((s.chord p).cred (fld w 31 3)).ccD ≤ 32767 →
      modSub 16 (fld w 14 16) ((s.chord p).cred (fld w 31 3)).clD ≤ 32767 →
      ∃ t, exec (.creditRx p w) s = .next t ∧ ((t.chord p).cred (fld w 31 3)).clD = fld w 14 16 ∧ s.onlyChord t p) ∧
    (fld w 30 1 = 0 → 32767 < modSub 16 (fld w 14 16) ((s.chord p).cred (fld w 31 3)).clH → s.coreOn = true →
      ∃ t, exec (.creditRx p w) s = .next t ∧ s.raised t (chordPage p) [EV_CHD_CREDIT_ERR] ∧
        t.rd (CHD_CREDERR_BAD_LIMIT p) = satAdd 16 (s.rd (CHD_CREDERR_BAD_LIMIT p)) 1 ∧
        s.regsBut t [CHD_CREDERR_BAD_LIMIT p, EVT_LOG_STAT_OVF] ∧ s.onlyRegs t)) ∧
  (∀ (s : State) (p : Fin 18) (pair : Bool) (a b c : Word), s.coreOn = true → s.active p = true → s.rdB (CHD_STAT_AUTH p) = false →
    ((s.lane p).pair pair).runs = [] → ((s.lane p).pair pair).express = [some a, some b, some c] → c = ~~~b → fld a 37 3 = 0 →
    (s.chord p).xWait = [] → (s.chord p).xAcc = [] → modSub 8 (fld a 9 8) (s.chord p).xCum = 1 → (s.chord p).xCum < 256 →
    ∃ t, exec (.expressCopyRx p pair) s = .next t ∧ (t.chord p).xIn = (s.chord p).xIn ++ [[a, b, c]] ∧ (t.chord p).xCum = fld a 9 8 ∧
      (t.chord p).ackDue = some ((s.chord p).ackDue.getD (s.now + 100)) ∧ ((t.lane p).pair pair).express = [] ∧
      { t with lanes := s.lanes, chords := s.chords, evt := s.evt, out := s.out } = s) ∧
  (∀ (s : State) (p : Fin 18) (n : Nat), s.coreOn = true → ((s.chord p).xWait.filter (fun x => x.2.2 < s.now && !x.2.1)).length = n + 1 →
    s.rdB (CHD_STAT_XNAK p) = false →
    ∃ t, exec (.expressCopyWaitExpiry p) s = .next t ∧ t.rd (CHD_XERR_BOTH_BAD p) = satAdd 16 (s.rd (CHD_XERR_BOTH_BAD p)) (n + 1) ∧
      (t.chord p).xWait = (s.chord p).xWait.filter (fun x => s.now ≤ x.2.2) ∧ s.regsBut t [CHD_XERR_BOTH_BAD p] ∧
      { t with regs := s.regs, chords := s.chords, evt := s.evt, out := s.out } = s) ∧
  (∀ (s : State) (p : Fin 18) (n : Nat), s.coreOn = true →
    ((s.chord p).xReplay.filter (fun e => e.firstAt + 1000 * max 1 (s.rd (CHD_XCTL_MAX_AGE p)) < s.now)).length = n + 1 →
    ∃ t, exec (.expressEntryStale p) s = .next t ∧
      (t.chord p).xReplay = (s.chord p).xReplay.filter (fun e => s.now ≤ e.firstAt + 1000 * max 1 (s.rd (CHD_XCTL_MAX_AGE p))) ∧ s.raised t (chordPage p) [EV_CHD_EXP_STALE] ∧
      t.rd (CHD_XERR_STALE p) = satAdd 16 (s.rd (CHD_XERR_STALE p)) (n + 1) ∧ s.regsBut t [CHD_XERR_STALE p, EVT_LOG_STAT_OVF] ∧
      { t with regs := s.regs, pages := s.pages, chords := s.chords, evt := s.evt, out := s.out } = s)

/-- R121–R124, R211: Point messages.
The model's choices that its clauses rest on: assumption log 11, 36. -/
def Obligations.PointRows : Prop :=
  (∀ (s : State) (p : Fin 18) (m : Point) (rest : List Point), s.coreOn = true → (s.chord p).points = m :: rest → s.ls p = LS_ACTIVE →
    ((s.chord p).pointSent.filter (fun t => s.now < t + 1000)).length < 8 →
    ∃ t, exec (.pointSend p) s = .next t ∧ Emit.word p 0 (pointWord m (s.chord p).psn) ∈ t.out ∧
      Emit.word p 1 (pointWord m (s.chord p).psn) ∈ t.out ∧ (t.chord p).points = rest ∧ (t.chord p).psn = ((s.chord p).psn + 1) % 16 ∧
      (t.chord p).pointReps = (s.chord p).pointReps ++ [{ word := pointWord m (s.chord p).psn, due := s.now + 100, left := 2 }] ∧
      t.rd (CHD_POINT_SENT p) = satAdd 16 (s.rd (CHD_POINT_SENT p)) 1 ∧ s.regsBut t [CHD_POINT_SENT p] ∧
      { t with regs := s.regs, chords := s.chords, evt := s.evt, out := s.out } = s) ∧
  (∀ (s : State) (p : Fin 18), s.coreOn = true → s.active p = true →
    ∃ t, exec (.pointRepeat p) s = .next t ∧
      (∀ r ∈ (s.chord p).pointReps, r.due ≤ s.now → Emit.word p 0 r.word ∈ t.out ∧ Emit.word p 1 r.word ∈ t.out) ∧
      (t.chord p).pointReps = (s.chord p).pointReps.filterMap (fun r => if s.now < r.due then some r
        else if r.left = 2 then some { r with due := r.due + 100, left := 1 } else none) ∧ s.onlyChord t p) ∧
  (∀ (s : State) (p : Fin 18) (w : Word), s.coreOn = true → s.active p = true → fld w 34 6 = 0x07 →
    (fld w 30 4 = 0 ∨ 7 ≤ fld w 30 4 →
      ∃ t, exec (.pointRx p w) s = .next t ∧ t.rd (CHD_PROTO_STRAY p) = satAdd 16 (s.rd (CHD_PROTO_STRAY p)) 1 ∧
        s.regsBut t [CHD_PROTO_STRAY p] ∧ s.onlyRegs t) ∧
    (fld w 30 4 = 3 → bitsOf (fld w 0 19) 17 2 = 2 → (s.chord p).pointSeen = [] → (s.chord p).replay ≠ [] →
      ∃ t, exec (.pointRx p w) s = .next t ∧ (t.chord p).quiet = true ∧ (t.chord p).pointSeen = [(3, fld w 26 4, s.now)] ∧ s.onlyChord t p)) ∧
  (∀ (s : State) (p : Fin 18) (w : Word), s.active p = true → s.coreOn = true → fld w 34 6 = 0x07 → fld w 30 4 = 2 →
    (s.chord p).pointSeen = [] → s.fromRoot p = true →
    (latticeOk (bitsOf (fld w 0 19) 15 4) (bitsOf (fld w 0 19) 11 4) = true → s.lattice.stageS = none →
      ∃ t, exec (.latticeMarkRx p w) s = .next t ∧ t.rd LAT_STAT_A_NEXT = bitsOf (fld w 0 19) 15 4 ∧
        t.rd LAT_STAT_B_NEXT = bitsOf (fld w 0 19) 11 4 ∧ t.rd LAT_STAT_PENDING = 1 ∧
        t.lattice.stageS = some (s.datum.sec + modSub 11 (bitsOf (fld w 0 19) 0 11) s.datum.sec)) ∧
    (latticeOk (bitsOf (fld w 0 19) 15 4) (bitsOf (fld w 0 19) 11 4) = false →
      ∃ t, exec (.latticeMarkRx p w) s = .next t ∧ s.raised t 0x0C1 [EV_LAT_MARK_REJECT] ∧ t.lattice = s.lattice ∧
        s.regsBut t [EVT_LOG_STAT_OVF]))

/-- R126–R128, R140, R612: DOWN, the grace period, and what ends it.
The model's choices that its clauses rest on: assumption log 11, 33. -/
def Obligations.LinkLossRows : Prop :=
  (∀ (s : State) (p : Fin 18), s.coreOn = true → s.ls p = LS_DOWN → (s.chord p).downDone = false →
    ∃ t, exec (.linkDown p) s = .next t ∧ (t.chord p).downDone = true ∧ (t.chord p).points = [] ∧ (t.chord p).xReplay = [] ∧
      (t.pages.get (chordPage p)).stat.getLsbD EV_CHD_LINK_DOWN = true ∧ t.ls p = LS_DOWN) ∧
  (∀ (s : State) (p : Fin 18), s.coreOn = true → s.ls p = LS_ACTIVE → (s.chord p).graceMs ≠ 0 →
    ∃ t, exec (.linkDown p) s = .next t ∧ t.ls p = LS_DOWN ∧ (t.chord p).downDone = true ∧ t.rd (CHD_STAT_TX_STATE p) = TX_HOLD ∧
      t.rd (CHD_STAT_GRACE p) = 1 ∧ (t.chord p).graceAt = some (s.now + (s.chord p).graceMs * 1000000) ∧ (t.chord p).timer = none ∧
      (t.lane p).retryAt = some (s.now + 10000)) ∧
  (∀ (s : State) (p : Fin 18), s.coreOn = true → s.ls p = LS_DOWN → (s.lane p).resumed = true →
    ∃ t, exec (.linkResume p) s = .next t ∧ t.ls p = LS_ACTIVE ∧ (t.lane p).resumed = false ∧ (t.lane p).phase = .idle ∧
      (t.lane p).fails = 0 ∧ (t.lane p).activeAt = s.now ∧ t.rd (CHD_STAT_GRACE p) = 0 ∧ (t.chord p).downDone = false ∧
      (t.pages.get (lanePage p)).stat.getLsbD EV_LANE_ACTIVE_ENTRY = true) ∧
  (∀ (s : State) (p : Fin 18) (d : Nat), s.coreOn = true → s.ls p = LS_DOWN → (s.chord p).graceAt = some d → d < s.now → (s.lane p).resumed = false →
    ∃ t, exec (.graceExpiry p) s = .next t ∧ s.flushed t p) ∧
  (∀ (s : State) (p : Fin 18), s.coreOn = true → s.ls p = LS_DOWN → ∃ t, exec (.flushNow p) s = .next t ∧ s.flushed t p) ∧
  (∀ (s : State) (p : Fin 18) (d : Nat), s.coreOn = true → (s.chord p).revoked = true → (s.chord p).revokeAt = some d → d < s.now →
    ∃ t, exec (.revokeGraceExpiry p) s = .next t ∧ s.flushed t p)

/-- R133, R134, R140, R441: epoch changes of an authenticated link.
The model's choices that its clauses rest on: assumption log 6, 11, 33. -/
def Obligations.EpochRows : Prop :=
  (∀ (s : State) (p : Fin 18), s.coreOn = true → s.active p = true → s.rdB (CHD_STAT_AUTH p) = true → (s.chord p).epTx = .none →
    s.useRefusal (s.linkSlot p) 3 masterChord = none → s.rd (CHD_STAT_EPOCH_TX p) ≠ 255 →
    ∃ t, exec (.epochNow p) s = .next t ∧ Emit.word p 3 (epochWord 1 (s.rd (CHD_STAT_EPOCH_TX p) + 1)) ∈ t.out ∧
      (t.chord p).epTx = .announced ∧ (t.chord p).epRepeat = some (s.now + 2000) ∧ (t.chord p).epDeadline = some (s.now + 100000) ∧
      s.onlyChord t p) ∧
  (∀ (s : State) (p : Fin 18) (w : Word), s.coreOn = true → s.active p = true → s.rdB (CHD_STAT_AUTH p) = true → fld w 34 6 = 0x09 →
    fld w 24 8 = (s.rd (CHD_STAT_EPOCH_RX p) + 1) % 256 →
    (fld w 32 2 = 1 → (s.chord p).epRx ≠ .ready →
      ∃ t, exec (.epochRx p w) s = .next t ∧ (t.chord p).epRx = .announced ∧ s.onlyChord t p) ∧
    (fld w 32 2 = 1 → (s.chord p).epRx = .ready →
      ∃ t, exec (.epochRx p w) s = .next t ∧ Emit.word p 3 (epochWord 2 (fld w 24 8)) ∈ t.out ∧ { t with evt := s.evt, out := s.out } = s) ∧
    (fld w 32 2 = 3 → (s.chord p).epRx = .ready →
      ∃ t, exec (.epochRx p w) s = .next t ∧ t.rd (CHD_STAT_EPOCH_RX p) = (s.rd (CHD_STAT_EPOCH_RX p) + 1) % 256 ∧
        (t.chord p).keyRx = (s.chord p).keyNext ∧ (t.chord p).keyOld = (s.chord p).keyRx ∧ (t.chord p).epRx = .none ∧
        (t.chord p).epOldUntil = some (s.now + 1000) ∧ s.regsBut t [CHD_STAT_EPOCH_RX p] ∧
        { t with regs := s.regs, chords := s.chords, evt := s.evt, out := s.out } = s)) ∧
  (∀ (s : State) (p : Fin 18) (d : Nat), s.coreOn = true → s.active p = true → (s.chord p).epTx = .announced → (s.chord p).epRepeat = some d → d < s.now →
    (s.chord p).points = [] →
    ∃ t, exec (.announceRepeat p) s = .next t ∧ Emit.word p 3 (epochWord 1 (s.rd (CHD_STAT_EPOCH_TX p) + 1)) ∈ t.out ∧
      (t.chord p).epRepeat = some (s.now + 2000) ∧ (t.chord p).epTx = .announced ∧ s.onlyChord t p) ∧
  (∀ (s : State) (p : Fin 18), s.coreOn = true → s.active p = true → (s.chord p).epRx = .announced → s.useRefusal (s.linkSlot p) 3 masterChord = none →
    ∃ t, exec (.epochKeyDerived p) s = .next t ∧ Emit.word p 3 (epochWord 2 ((s.rd (CHD_STAT_EPOCH_RX p) + 1) % 256)) ∈ t.out ∧
      (t.chord p).epRx = .ready ∧ (t.chord p).keyNext = s.linkKey p ((s.rd (CHD_STAT_EPOCH_RX p) + 1) % 256) ∧ s.onlyChord t p) ∧
  (∀ (s : State) (p : Fin 18) (d : Nat), s.coreOn = true → (s.chord p).epTx = .announced → (s.chord p).epDeadline = some d → d < s.now →
    (s.chord p).epForLoss = false → (s.chord p).revoked = false →
    ∃ t, exec (.epochTimeout p) s = .next t ∧ (t.chord p).epTx = .none ∧ (t.chord p).epDeadline = none ∧ (t.chord p).epRepeat = none ∧
      t.rd (CHD_AUTH_EPOCH_FAIL p) = satAdd 16 (s.rd (CHD_AUTH_EPOCH_FAIL p)) 1 ∧ s.raised t (chordPage p) [EV_CHD_AUTH_FAIL] ∧
      s.regsBut t [CHD_AUTH_EPOCH_FAIL p, EVT_LOG_STAT_OVF])

/-! ## The Hull -/

/-- R147, R149, R615, R173, R174: a granted flit crosses to an internal port or an egress queue, and messages are reassembled.
The model's choices that its clauses rest on: assumption log 13, 32. -/
def Obligations.HullRows : Prop :=
  (∀ (s : State) (egress : Fin 25) (i : Nat) (f : HFlit), s.running = true → s.grant egress = some (i, f) → (s.tun f.tunnel).e.state = .opened →
    bitOf (s.tun f.tunnel).pruned egress = false → f.stomp = false →
    (18 ≤ egress.val → ∃ t, exec (.flitHullCross egress []) s = .next t ∧ t.hull.adapters = s.hull.adapters ++ [(egress.val, f)]) ∧
    (egress.val < 18 → 2 ≤ f.vc → ∃ t, exec (.flitHullCross egress []) s = .next t ∧ t.hull.adapters = s.hull.adapters ∧
      t.hull.rotor.get egress = f.inPort ∧
      (t.compass.queues.get (qKey egress (s.tun f.tunnel).e.queue)).map (·.f) =
        (s.compass.queues.get (qKey egress (s.tun f.tunnel).e.queue)).map (·.f) ++ [{ f with todo := [] }]) ∧
    (∀ k : Fin 31, 2 ≤ f.vc → k.val ≤ f.payload.length → ∃ t, exec (.flitHullCross egress [(k, true)]) s = .next t ∧
      t.rd HULL_ECC_UNCORR = satAdd 16 (s.rd HULL_ECC_UNCORR) 1 ∧ s.raised t 0x070 [EV_HULL_ECC_UNCORR] ∧
      t.hull.adapters = s.hull.adapters ∧ t.compass = s.compass)) ∧
  (∀ (s : State) (port : Fin 25) (f : HFlit) (rest : List (Nat × HFlit)) (h : Word) (l : List Word), s.running = true →
    takePort port s.hull.adapters = some (f, rest) → 2 ≤ f.vc → (s.tun f.tunnel).rx = {} → f.poison = false → f.last = true →
    f.payload = h :: l → fld h 0 16 = l.length → l ≠ [] → l.length ≤ 29 →
    ((s.tun f.tunnel).e.maxMsg = 0 ∨ l.length ≤ (s.tun f.tunnel).e.maxMsg) → (s.tun f.tunnel).e.keyed = false →
    fld h 16 24 = ((s.tun f.tunnel).e.msnIn + 1) % 2 ^ 24 →
    ∃ t, exec (.adapterFlitRx port) s = .next t ∧ Emit.delivered f.tunnel l ∈ t.out ∧ (t.tun f.tunnel).e.msnIn = fld h 16 24 ∧
      (t.tun f.tunnel).rx = {} ∧ t.hull.adapters = rest ∧
      { t with tuns := s.tuns, hull := s.hull, evt := s.evt, out := s.out } = s) ∧
  (∀ (s : State) (n : BitVec 12), s.running = true → (s.tun n.toNat).rx.isOpen = true → (s.tun n.toNat).rx.startAt + 1000000 < s.now →
    ∃ t, exec (.reasmTimeout n) s = .next t ∧ (t.tun n.toNat).rx = { discarding := true } ∧
      (t.tun n.toNat).e.msgLost = satAdd 16 (s.tun n.toNat).e.msgLost 1 ∧ t.rd TUN_REASM_ABORT = satAdd 16 (s.rd TUN_REASM_ABORT) 1 ∧
      s.raised t 0x080 [EV_TUN_REASM_ABORT] ∧ s.regsBut t [TUN_REASM_ABORT, EVT_LOG_STAT_OVF] ∧
      { t with regs := s.regs, pages := s.pages, tuns := s.tuns, evt := s.evt, out := s.out } = s)

/-! ## Tunnels -/

/-- R159, R162, R163, R167, R170, R171, R185: the commands of TUN_CMD.
The model's choices that its clauses rest on: assumption log 9, 18 (a command completes in its step). -/
def Obligations.TunnelCommandRows : Prop :=
  (∀ s : State, s.running = true → s.rdB TUN_CMD_BUSY = false →
    ∃ t, exec .tunRead s = .next t ∧ t.rd TUN_CMD_STATUS = 0 ∧
      (∀ i : Fin 8, t.rd (TUN_DATA_WORD i) = nth (s.tun (s.rd TUN_SEL_TUNNEL)).e.words i % 2 ^ 32) ∧
      s.regsBut t (TUN_CMD_STATUS :: (List.range 8).map TUN_DATA_WORD) ∧ s.onlyRegs t) ∧
  (∀ (s : State) (n : Nat), s.tunReady n →
    ((s.tun n).e.state = .free ∨ (s.tun n).e.state = .reserved →
      s.fieldsOk n { Entry.ofWords ((List.range 8).map (fun i => s.rd (TUN_DATA_WORD i))) with
        state := (s.tun n).e.state, mig := (s.tun n).e.mig, msnOut := (s.tun n).e.msnOut, msnIn := (s.tun n).e.msnIn,
        gen := (s.tun n).e.gen, cause := (s.tun n).e.cause, msgLost := (s.tun n).e.msgLost } false = true →
      ∃ t, exec .tunWrite s = .next t ∧ t.rd TUN_CMD_STATUS = 0 ∧ (t.tun n).e =
        { Entry.ofWords ((List.range 8).map (fun i => s.rd (TUN_DATA_WORD i))) with
          state := (s.tun n).e.state, mig := (s.tun n).e.mig, msnOut := (s.tun n).e.msnOut, msnIn := (s.tun n).e.msnIn,
          gen := (s.tun n).e.gen, cause := (s.tun n).e.cause, msgLost := (s.tun n).e.msgLost } ∧
        s.regsBut t [TUN_CMD_STATUS] ∧ s.onlyTun t n) ∧
    ((s.tun n).e.state = .opened →
      ∃ t, exec .tunWrite s = .next t ∧ t.rd TUN_CMD_STATUS = 1 ∧ s.raised t 0x080 [EV_TUN_CMD_REJECT] ∧
        s.regsBut t [TUN_CMD_STATUS, EVT_LOG_STAT_OVF] ∧ s.onlyRegs t)) ∧
  (∀ (s : State) (n : Nat), s.tunReady n → (s.tun n).e.state = .free →
    ∃ t, exec .tunReserve s = .next t ∧ t.rd TUN_CMD_STATUS = 0 ∧
      (t.tun n).e = { (s.tun n).e with state := .reserved, gen := ((s.tun n).e.gen + 1) % 256 } ∧
      s.regsBut t [TUN_CMD_STATUS] ∧ s.onlyTun t n) ∧
  (∀ (s : State) (n : Nat), s.tunReady n → (s.tun n).e.state = .reserved →
    (s.openOk n = true → s.alone n → s.openStatus n = 0 →
      ∃ t, exec .tunOpen s = .next t ∧ t.rd TUN_CMD_STATUS = 0 ∧ t.tunOpened n) ∧
    (s.openOk n = true → s.leavesUp (s.tun n).e = true → ¬ s.alone n → s.openStatus n = 0 →
      ∃ t, exec .tunOpen s = .next t ∧ t.rd TUN_CMD_STATUS = 0 ∧ s.tunOpening t n) ∧
    (s.openOk n = true → s.leavesUp (s.tun n).e = true → s.openStatus n = 2 →
      ∃ t, exec .tunOpen s = .next t ∧ t.rd TUN_CMD_STATUS = 2 ∧ (t.tun n).e = { (s.tun n).e with cause := 5 } ∧
        s.raised t 0x080 [EV_TUN_ADMIT_REFUSED] ∧ s.onlyTun t n) ∧
    ∃ t, exec .tunRelease s = .next t ∧ t.rd TUN_CMD_STATUS = 0 ∧ (t.tun n).e = { (s.tun n).e with state := .free } ∧
      s.regsBut t [TUN_CMD_STATUS] ∧ s.onlyTun t n) ∧
  (∀ (s : State) (n : Nat), s.tunReady n → (s.tun n).e.state.charged = true →
    (s.alone n → ∃ t, exec .tunClose s = .next t ∧ t.rd TUN_CMD_STATUS = 0 ∧
      (t.tun n).e = { (s.tun n).e with state := .free, cause := 0x01 }) ∧
    (¬ s.alone n → ∃ t, exec .tunClose s = .next t ∧ t.rd TUN_CMD_STATUS = 0 ∧
      (t.tun n).e = { (s.tun n).e with state := .closing, cause := 0x01 } ∧ (t.tun n).leaves = s.leavesOf (s.tun n).e ∧
      (t.tun n).docks = s.docksOf n (s.tun n).e)) ∧
  (∀ (s : State) (n : Nat), s.tunReady n → (s.tun n).e.state = .failed → s.keyOk n = true → s.openStatus n = 0 →
    (s.alone n → ∃ t, exec .tunReopen s = .next t ∧ t.rd TUN_CMD_STATUS = 0 ∧ t.tunOpened n) ∧
    (¬ s.alone n → s.leavesUp (s.tun n).e = true →
      ∃ t, exec .tunReopen s = .next t ∧ t.rd TUN_CMD_STATUS = 0 ∧ s.tunOpening t n)) ∧
  (∀ s : State, s.running = true → s.rdB TUN_CMD_BUSY = false → protectedTun (s.rd TUN_SEL_TUNNEL) = true →
    ∃ t, exec .tunOpen s = .next t ∧ t.rd TUN_CMD_STATUS = 6 ∧ s.regsBut t [TUN_CMD_STATUS] ∧ s.onlyRegs t)

/-- R163, R165, R166, R168: acknowledgements, time limits and the automatic reopening of tunnels.
The model's choices that its clauses rest on: assumption log 9, 11, 33. -/
def Obligations.TunnelAckRows : Prop :=
  (∀ (s : State) (hub : Fin 17) (msg : List Word), s.running = true → s.isRoot = true → cType msg = 6 → (s.tun (cTun msg)).e.state = .opening →
    hub.val ∈ (s.tun (cTun msg)).leaves →
    (cArg msg % 8 = 0 → (s.tun (cTun msg)).leaves.filter (· ≠ hub.val) = [] →
      ((s.tun (cTun msg)).docks = [] → ∃ t, exec (.entryAckRx hub msg) s = .next t ∧ t.tunOpened (cTun msg)) ∧
      ((s.tun (cTun msg)).docks ≠ [] → ∃ t, exec (.entryAckRx hub msg) s = .next t ∧ (t.tun (cTun msg)).e.state = .opening ∧
        (t.tun (cTun msg)).leaves = [] ∧ (t.tun (cTun msg)).docks = (s.tun (cTun msg)).docks)) ∧
    (cArg msg % 8 = 0 → (s.tun (cTun msg)).leaves.filter (· ≠ hub.val) ≠ [] →
      ∃ t, exec (.entryAckRx hub msg) s = .next t ∧
        t.tun (cTun msg) = { s.tun (cTun msg) with leaves := (s.tun (cTun msg)).leaves.filter (· ≠ hub.val) } ∧
        s.regsBut t [] ∧ s.onlyTun t (cTun msg)) ∧
    (cArg msg % 8 ≠ 0 → ∃ t, exec (.entryAckRx hub msg) s = .next t ∧ t.tunFailed (cTun msg) 0x04)) ∧
  (∀ (s : State) (dock : Fin 64) (msg : List Word), s.running = true → dock.val ∈ (s.tun (fld (msg.headD 0) 20 12)).docks →
    ((s.tun (fld (msg.headD 0) 20 12)).e.state = .opening → fld (msg.headD 0) 32 8 = 0x12 →
      ((s.tun (fld (msg.headD 0) 20 12)).leaves = [] → (s.tun (fld (msg.headD 0) 20 12)).docks.filter (· ≠ dock.val) = [] →
        ∃ t, exec (.tunOpenAckRx dock msg) s = .next t ∧ t.tunOpened (fld (msg.headD 0) 20 12)) ∧
      ((s.tun (fld (msg.headD 0) 20 12)).docks.filter (· ≠ dock.val) ≠ [] →
        ∃ t, exec (.tunOpenAckRx dock msg) s = .next t ∧
          t.tun (fld (msg.headD 0) 20 12) = { s.tun (fld (msg.headD 0) 20 12) with
            docks := (s.tun (fld (msg.headD 0) 20 12)).docks.filter (· ≠ dock.val) } ∧
          s.regsBut t [] ∧ s.onlyTun t (fld (msg.headD 0) 20 12))) ∧
    ((s.tun (fld (msg.headD 0) 20 12)).e.state = .opening → fld (msg.headD 0) 32 8 = 0x13 →
      ∃ t, exec (.tunOpenNakRx dock msg) s = .next t ∧ t.tunFailed (fld (msg.headD 0) 20 12) 0x04) ∧
    ((s.tun (fld (msg.headD 0) 20 12)).e.state = .closing → fld (msg.headD 0) 32 8 = 0x14 →
      ∃ t, exec (.tunCloseAckRx dock msg) s = .next t ∧
        ((s.tun (fld (msg.headD 0) 20 12)).leaves = [] → (s.tun (fld (msg.headD 0) 20 12)).docks.filter (· ≠ dock.val) = [] →
          (t.tun (fld (msg.headD 0) 20 12)).e.state = .free) ∧
        ((s.tun (fld (msg.headD 0) 20 12)).docks.filter (· ≠ dock.val) ≠ [] →
          t.tun (fld (msg.headD 0) 20 12) = { s.tun (fld (msg.headD 0) 20 12) with
            docks := (s.tun (fld (msg.headD 0) 20 12)).docks.filter (· ≠ dock.val) }) ∧
        s.onlyTun t (fld (msg.headD 0) 20 12))) ∧
  (∀ (s : State) (dock : Fin 64), s.running = true → (s.tun (mgmtTun dock)).e.state = .opened → (s.tun (mgmtTun dock)).e.keyed = false →
    ∃ t, exec (.pendingTunMsgSend dock) s = .next t ∧
      ∀ n, (t.tun n).heldMsgs = (s.tun n).heldMsgs.filter (· ≠ dock.val) ∧ (n ≠ mgmtTun dock → (t.tun n).e = (s.tun n).e)) ∧
  (∀ (s : State) (dock : Fin 64) (n : Nat) (ds : List Nat), s.running = true → (s.tun (mgmtTun dock)).e.state = .opened →
    (s.tun (mgmtTun dock)).e.keyed = false → s.route (s.tun (mgmtTun dock)).e 24 = some ds → (s.tun n).e.state = .closing →
    n ≠ mgmtTun dock → s.tunIds.filter (fun t => (s.tun t).heldMsgs.contains dock.val) = [n] →
    ∃ t, exec (.pendingTunMsgSend dock) s = .next t ∧ (t.tun n).heldMsgs = (s.tun n).heldMsgs.filter (· ≠ dock.val) ∧
      t.hull.ingress = s.hull.ingress ++ messageFlits (mgmtTun dock) (s.tun (mgmtTun dock)).e.vc 24 ds
        [pack [(16, 24, (s.tun (mgmtTun dock)).e.msnOut), (0, 16, 1)], tunWord0 0x11 n (s.tun n).e dock] ∧
      (t.tun (mgmtTun dock)).e.msnOut = ((s.tun (mgmtTun dock)).e.msnOut + 1) % 2 ^ 24) ∧
  (∀ (s : State) (n : BitVec 12), s.running = true → (s.tun n.toNat).e.state = .opening → (s.tun n.toNat).since + 10000000 < s.now →
    ∃ t, exec (.openingTimeout n) s = .next t ∧ t.tunFailed n.toNat 0x03 ∧
      (t.pages.get 0x080).stat.getLsbD EV_TUN_OPEN_TIMEOUT = true ∧ (t.pages.get 0x080).stat.getLsbD EV_TUN_FAILED = true) ∧
  (∀ (s : State) (n : BitVec 12), s.running = true → (s.tun n.toNat).e.state = .closing →
    ((s.tun n.toNat).since + 1000000 ≤ s.now →
      ∃ t, exec (.closingDiscard n) s = .next t ∧ (∀ f ∈ t.hull.ingress, f.tunnel ≠ n.toNat) ∧
        t.hull.adapters = s.hull.adapters.filter (fun x => x.2.tunnel ≠ n.toNat) ∧ t.tuns = s.tuns) ∧
    ((s.tun n.toNat).since + 10000000 < s.now →
      ∃ t, exec (.closingTimeout n) s = .next t ∧ (t.tun n.toNat).e = { (s.tun n.toNat).e with state := .free } ∧ s.onlyTun t n.toNat ∧
        s.regsBut t [])) ∧
  (∀ (s : State) (n : BitVec 12), s.running = true → (s.tun n.toNat).e.state = .opening → (s.tun n.toNat).leaves ≠ [] →
    (s.tun n.toNat).resent = false → (s.tun n.toNat).writeAt + 1000000 < s.now →
    ∃ t, exec (.entryWriteResend n) s = .next t ∧ t.tun n.toNat = { s.tun n.toNat with resent := true }) ∧
  (∀ (s : State) (n : BitVec 12) (h : Nat) (ds : List Nat), s.running = true → (s.tun n.toNat).e.state = .opening → (s.tun n.toNat).leaves = [h] →
    (s.tun n.toNat).resent = false → (s.tun n.toNat).writeAt + 1000000 < s.now → n.toNat ≠ ctrlTun h →
    (s.tun (ctrlTun h)).e.state = .opened → (s.tun (ctrlTun h)).e.keyed = false → s.route (s.tun (ctrlTun h)).e 24 = some ds →
    ∃ t, exec (.entryWriteResend n) s = .next t ∧ (t.tun n.toNat).resent = true ∧ (t.tun n.toNat).leaves = [h] ∧
      (t.tun n.toNat).e = (s.tun n.toNat).e ∧ t.hull.ingress.length = s.hull.ingress.length + 1) ∧
  (∀ (s : State) (n : BitVec 12), s.running = true → s.isRoot = true → (s.tun n.toNat).e.state = .opening →
    (s.tun n.toNat).leaves ≠ [] ∧ (s.tun n.toNat).writeAt + 2000000 < s.now ∨ s.leavesUp (s.tun n.toNat).e = false → ∃ t, exec (.entryAckTimeout n) s = .next t ∧ t.tunFailed n.toNat 0x09) ∧
  (∀ (s : State) (n : BitVec 12), s.running = true → (s.tun n.toNat).e.state = .failed → (s.tun n.toNat).e.auto = true → s.rdB TUN_CTL_AUTO_REOPEN = true →
    s.isRoot = true → protectedTun n.toNat = false → (s.tun n.toNat).refused = false → s.pathActive (s.tun n.toNat).e = true →
    s.leavesUp (s.tun n.toNat).e = true → s.openStatus n.toNat = 0 → s.rdB PWR_STAT_CLK_SRC = true →
    (s.alone n.toNat → ∃ t, exec (.autoReopen n) s = .next t ∧ t.tunOpened n.toNat) ∧
    (¬ s.alone n.toNat → ∃ t, exec (.autoReopen n) s = .next t ∧ s.tunOpening t n.toNat))

/-- R20, R154–R157: hub control messages and the identities of the tree.
The model's choices that its clauses rest on: assumption log 9, 33. -/
def Obligations.IdentityRows : Prop :=
  (∀ (s : State) (hub : Fin 17) (msg : List Word), s.running = true → s.isRoot = false → s.hubNo = hub.val → cType msg = 5 → msg.length = 8 →
    protectedTun (cTun msg) = false →
    (bitsOf (nth (wordsEntry (msg.drop 1)) 0) 28 4 = 0 → (Entry.ofWords (wordsEntry (msg.drop 1))).mig ≠ 3 →
      ∃ t, exec (.entryWriteRx hub msg) s = .next t ∧ (t.tun (cTun msg)).e = Entry.ofWords (wordsEntry (msg.drop 1))) ∧
    ((Entry.ofWords (wordsEntry (msg.drop 1))).state = .opened → (Entry.ofWords (wordsEntry (msg.drop 1))).mig ≠ 3 →
      s.fieldsOk (cTun msg) (Entry.ofWords (wordsEntry (msg.drop 1))) true = true →
      s.formatOk (cTun msg) (Entry.ofWords (wordsEntry (msg.drop 1))) = true →
      ((Entry.ofWords (wordsEntry (msg.drop 1))).vc ≤ 2 → s.onOsc = false) →
      s.admission (cTun msg) (Entry.ofWords (wordsEntry (msg.drop 1))) = 0 →
      ∃ t, exec (.entryWriteRx hub msg) s = .next t ∧
        (t.tun (cTun msg)).e = (if (s.tun (cTun msg)).e.state = .opened then { Entry.ofWords (wordsEntry (msg.drop 1)) with
            msnOut := (s.tun (cTun msg)).e.msnOut, msnIn := (s.tun (cTun msg)).e.msnIn, msgLost := (s.tun (cTun msg)).e.msgLost }
          else { Entry.ofWords (wordsEntry (msg.drop 1)) with msnOut := 0, msnIn := 0xFFFFFF }))) ∧
  (∀ (s : State) (hub : Fin 17) (msg : List Word), s.running = true → s.isRoot = false → s.hubNo = hub.val → cType msg = 1 → cArg msg % 32 ≠ s.hubNo →
    s.ls (s.ids.carry.getD 16) = LS_DOWN → ∃ t, exec (.hubAssignRx hub msg) s = .next t ∧ s.attempt t (s.ids.carry.getD 16)) ∧
  (∀ (s : State) (hub : Fin 17) (msg : List Word) (d : Nat), s.running = true → s.isRoot = true → cType msg = 2 → s.chooseDock hub (cPort msg) = some d →
    ∃ t, exec (.dockReqRx hub msg) s = .next t ∧ (hub.val, cPort msg, d) ∈ t.ids.docks ∧ (t.tun (mgmtTun d)).e.state = .opened) ∧
  (∀ (s : State) (hub : Fin 17) (msg : List Word), s.running = true → s.isRoot = true → cType msg = 2 →
    s.chooseDock hub (cPort msg) = none →
      ∃ t, exec (.dockReqRx hub msg) s = .next t ∧ (t.pages.get 0x080).stat.getLsbD EV_TUN_DOCK_ID_EXHAUSTED = true ∧ t.ids = s.ids) ∧
  (∀ (s : State) (hub : Fin 17) (msg : List Word), s.running = true → s.isRoot = false → s.hubNo = hub.val → cPort msg < 16 →
    (cType msg = 3 → s.ids.asked.lookup (cPort msg) ≠ some 0 → (s.lane (cPort msg)).phase = .config → (s.lane (cPort msg)).caps ≠ [] →
      (s.lane (cPort msg)).seenRcvd = false →
      ∃ t, exec (.dockGrantRx hub msg) s = .next t ∧ t.dockAt (cPort msg) = some (cDock msg) ∧
        t.ids.asked = s.ids.asked.filter (·.1 ≠ cPort msg) ∧
        (∀ x ∈ t.capsSet (cPort msg), Emit.word (cPort msg) 2 (ctlWord 0x03 [(30, 4, x.1), (0, 30, x.2)]) ∈ t.out) ∧
        { t with ids := s.ids, lanes := s.lanes, evt := s.evt, out := s.out } = s) ∧
    (cType msg = 3 → (s.lane (cPort msg)).phase ≠ .config → s.active (cPort msg) = false →
      ∃ t, exec (.dockGrantRx hub msg) s = .next t ∧ (cPort msg, cDock msg) ∈ t.ids.granted ∧
        (s.hubNo, cPort msg, cDock msg) ∈ t.ids.docks ∧ t.ids.asked = s.ids.asked.filter (·.1 ≠ cPort msg) ∧
        { t with ids := s.ids, evt := s.evt, out := s.out } = s) ∧
    (cType msg = 4 →
      ∃ t, exec (.dockDenyRx hub msg) s = .next t ∧ t.ls (cPort msg) = LS_DISABLED ∧
        (t.pages.get 0x080).stat.getLsbD EV_TUN_DOCK_ID_EXHAUSTED = true)) ∧
  (∀ (s : State) (p : Fin 18) (d : Nat), s.running = true → s.ids.asked.lookup p.val = some d → d < s.now →
    ∃ t, exec (.dockReqTimeout p) s = .next t ∧ t.ids.asked.lookup p.val = some 0 ∧
      t.ids.asked.filter (·.1 ≠ p.val) = s.ids.asked.filter (·.1 ≠ p.val) ∧ { t with ids := s.ids, evt := s.evt, out := s.out } = s) ∧
  (∀ (s : State) (hub : Fin 17) (msg : List Word), s.running = true → s.isRoot = true → cType msg = 9 → (hub.val, cPort msg, cDock msg) ∈ s.ids.docks →
    (hub.val, cPort msg, cDock msg) ∉ s.ids.dockPins →
    ∃ t, exec (.dockReleaseRx hub msg) s = .next t ∧ t.ids.docks = s.ids.docks.filter (· ≠ (hub.val, cPort msg, cDock msg)) ∧
      (t.tun (mgmtTun (cDock msg))).e.state =
        (if (s.tun (mgmtTun (cDock msg))).e.state ∈ [.opening, .opened, .rekey, .held] then .failed
         else (s.tun (mgmtTun (cDock msg))).e.state))

/-- R176, R178: changeover and the move back of tunnels with two apexes.
The model's choices that its clauses rest on: assumption log 11, 33. -/
def Obligations.DualApexRows : Prop :=
  (∀ (s : State) (hub : Fin 17) (port : Fin 18) (msg : List Word), s.running = true → s.hubAt port = some hub.val → s.isRoot = true →
    cType msg = 7 → (s.tun (cTun msg)).e.altPort = port.val → (s.tun (cTun msg)).e.state ≠ .free →
    s.tunIds.Nodup → s.pairTuns (s.pairSide (s.tun (cTun msg)).e) port ≠ [] →
    ∃ t, exec (.migrateRx hub port msg) s = .next t ∧
      (∀ n ∈ s.pairTuns (s.pairSide (s.tun (cTun msg)).e) port, (s.tun n).e.state = .opened →
        (t.tun n).e = { s.swapAlt (s.tun n).e with mig := 0 }) ∧
      (t.pages.get 0x080).stat.getLsbD EV_TUN_MIGRATED = true) ∧
  (∀ s : State, s.running = true → s.isRoot = false → s.ids.carry = some 17 → s.active 16 = true → s.active 17 = true →
    (s.lane 16).activeAt + 1000000 ≤ s.now → s.tunIds.Nodup →
    ∃ t, exec .moveBackStart s = .next t ∧ t.ids.carry = some 16 ∧
      ∀ n ∈ s.pairTuns 17 16, (2 ≤ (s.tun n).e.vc → (t.tun n).stopAt = some s.now ∧ (t.tun n).retryAt = none) ∧
        ((s.tun n).e.vc ≤ 1 → n ≠ ctrlTun s.hubNo → (t.tun n).e = s.swapAlt (s.tun n).e)) ∧
  (∀ (s : State) (n : BitVec 12) (a : Nat), s.running = true → (s.tun n.toNat).stopAt = some a → s.holdsOld n.toNat = false →
    s.active (s.tun n.toNat).e.altPort = true →
    ∃ t, exec (.moveBackDrained n) s = .next t ∧ (t.tun n.toNat).stopAt = none ∧ (t.tun n.toNat).e.mig = 2 ∧
      (t.tun n.toNat).e.inPort = (s.swapAlt (s.tun n.toNat).e).inPort ∧ (t.tun n.toNat).e.altPort = (s.swapAlt (s.tun n.toNat).e).altPort ∧
      (t.tun n.toNat).e.destMask = (s.swapAlt (s.tun n.toNat).e).destMask) ∧
  (∀ (s : State) (hub : Fin 17) (port : Fin 18) (msg : List Word), s.running = true → s.hubAt port = some hub.val → cType msg = 8 →
    (s.tun (cTun msg)).e.state = .opened → 2 ≤ (s.tun (cTun msg)).e.vc → (s.tun (cTun msg)).e.altPort = port.val →
    (s.tun (cTun msg)).e.mig = 0 → (s.tun (cTun msg)).stopAt = none →
    ∃ t, exec (.migrateDoneRx hub port msg) s = .next t ∧ (t.tun (cTun msg)).doneRcvd = true ∧ (t.tun (cTun msg)).e.mig = 1 ∧
      (t.tun (cTun msg)).stopAt = some s.now ∧ s.onlyTun t (cTun msg)) ∧
  (∀ (s : State) (n : BitVec 12), s.running = true → (s.tun n.toNat).e.mig = 2 → (s.tun n.toNat).doneRcvd = true →
    (∀ f ∈ s.hull.ingress, ¬ (f.tunnel = n.toNat ∧ f.inPort = (s.tun n.toNat).e.altPort)) →
    ∃ t, exec (.migrateIngressSwitch n) s = .next t ∧ (t.tun n.toNat).e = { (s.tun n.toNat).e with mig := 0 } ∧
      (t.tun n.toNat).doneRcvd = false ∧ s.onlyTun t n.toNat) ∧
  (∀ (s : State) (n : BitVec 12) (a : Nat), s.running = true → (s.tun n.toNat).stopAt = some a → a + 100000 < s.now → s.holdsOld n.toNat = true →
    ∃ t, exec (.moveBackAbandon n) s = .next t ∧ (t.tun n.toNat).stopAt = none ∧ (t.tun n.toNat).retryAt = some (s.now + 1000000) ∧
      s.onlyTun t n.toNat) ∧
  (∀ (s : State) (n : BitVec 12) (d : Nat), s.running = true → (s.tun n.toNat).retryAt = some d → d ≤ s.now →
    s.active (s.tun n.toNat).e.altPort = true →
    ∃ t, exec (.moveBackRetry n) s = .next t ∧ (t.tun n.toNat).stopAt = some s.now ∧ (t.tun n.toNat).retryAt = none ∧ s.onlyTun t n.toNat)

/-! ## Time -/

/-- R193–R198, R207: the spoke exchange and the messages of time tunnels.
The model's choices that its clauses rest on: assumption log 11, 30. -/
def Obligations.TimeExchangeRows : Prop :=
  (∀ (s : State) (p : Fin 18), s.coreOn = true → s.active p = true → s.nearRoot p = true → (s.probe p).nextAt ≤ s.now →
    ∃ t, exec (.probeExchangeStart p) s = .next t ∧
      Emit.word p (b2n ((s.probe p).seq % 2 = 1)) (ctlWord 0x0B [(32, 2, 1), (28, 4, (s.probe p).seq), (0, 28, 0)]) ∈ t.out ∧
      (t.probe p).running = true ∧ (t.probe p).t1 = s.datum.whole ∧ (t.probe p).nextAt = s.now + s.exchangeInt ∧
      (t.probe p).seq = ((s.probe p).seq + 1) % 16 ∧ { t with probes := s.probes, evt := s.evt, out := s.out } = s) ∧
  (∀ (s : State) (p : Fin 18) (laneB : Bool) (w : Word) (turn : Fin 1001), s.coreOn = true → s.active p = true → s.nearRoot p = false →
    fld w 34 6 = 0x0B → fld w 32 2 = 1 →
    ∃ t, exec (.probeReqRx p laneB w turn) s = .next t ∧
      Emit.word p (b2n laneB) (ctlWord 0x0B [(32, 2, 2), (28, 4, fld w 28 4), (0, 28, turn)]) ∈ t.out ∧ (t.probe p).t2 = s.datum.whole ∧
      (t.probe p).times = [] ∧ { t with probes := s.probes, evt := s.evt, out := s.out } = s) ∧
  (∀ (s : State) (p : Fin 18) (laneB : Bool) (w : Word) (rtt f : Nat), s.coreOn = true → s.active p = true → s.nearRoot p = true → fld w 34 6 = 0x0B →
    fld w 32 2 = 2 → (s.probe p).running = true → (s.probe p).laneB = laneB → fld w 28 4 = (s.probe p).rxSeq →
    rtt = modSub 40 (modSub 40 s.datum.whole (s.probe p).t1) (fld w 0 28) →
    ((s.probe p).rtt = none →
      ∃ t, exec (.probeRespRx p laneB w) s = .next t ∧ (t.probe p).rtt = some (16 * rtt) ∧ (t.probe p).running = false ∧
        t.rd (DAT_PORT_DELAY_D_MS p) = unsignedOf 26 ((((16 * rtt : Nat) : Int) + signed 16 (s.rd (DAT_PORT_ASYM_ASYM p))) / 2) % 2 ^ 26 ∧
        t.rd (DAT_PORT_CNT_EXCH p) = (s.rd (DAT_PORT_CNT_EXCH p) + 1) % 2 ^ 16 ∧
        s.regsBut t [DAT_PORT_DELAY_D_MS p, DAT_PORT_CNT_EXCH p, CHD_RTT_RTT p, CHD_RTT_TIMER p]) ∧
    ((s.probe p).rtt = some f → f + 256 < 16 * rtt →
      ∃ t, exec (.probeRespRx p laneB w) s = .next t ∧ t.rd (DAT_PORT_CNT_OUTLIER p) = satAdd 16 (s.rd (DAT_PORT_CNT_OUTLIER p)) 1 ∧
        (t.probe p).running = false ∧ (t.probe p).rtt = some f ∧ s.regsBut t [DAT_PORT_CNT_OUTLIER p])) ∧
  (∀ (s : State) (p : Fin 18) (w : Word) (d : Nat), s.coreOn = true → s.nearRoot p = false → (s.probe p).timesBy = some d →
    (s.now ≤ d → fld w 34 6 = 0x0C → fld w 26 4 = (s.probe p).rxSeq → fld w 30 4 ≤ 9 → (s.probe p).times.length < 9 →
      ∃ t, exec (.timeWordRx p w) s = .next t ∧
        (t.probe p).times = (s.probe p).times.filter (fun y => y.1 ≠ fld w 30 4) ++ [(fld w 30 4, fld w 0 26)] ∧
        { t with probes := s.probes, evt := s.evt, out := s.out } = s) ∧
    (d < s.now → ∃ t, exec (.timeWordsTimeout p) s = .next t ∧ (t.probe p).times = [] ∧ (t.probe p).timesBy = none ∧
      { t with probes := s.probes, evt := s.evt, out := s.out } = s)) ∧
  (∀ (s : State) (h : Fin 17) (d : GmData) (ds : List Nat), s.coreOn = true → s.isRoot = true → s.gmNow = some d → s.datum.dsSent.get h = none →
    (s.tun (timeTun h)).e.state = .opened → (s.tun (timeTun h)).e.keyed = false → s.route (s.tun (timeTun h)).e 24 = some ds →
    ∃ t, exec (.timeDsSend h) s = .next t ∧ t.datum.dsSent.get h = some (d, s.now) ∧
      t.hull.ingress = s.hull.ingress ++ messageFlits (timeTun h) (s.tun (timeTun h)).e.vc 24 ds
        (pack [(16, 24, (s.tun (timeTun h)).e.msnOut), (0, 16, 10)] :: gmWords d)) ∧
  (∀ (s : State) (msg : List Word), s.coreOn = true → s.isRoot = false →
    (msg.length = 10 → fld (msg.getD 0 0) 36 4 = 1 →
      ∃ t, exec (.timeDsRx msg) s = .next t ∧ t.datum = { s.datum with ds := some (gmOfWords msg) } ∧
        { t with datum := s.datum, evt := s.evt, out := s.out } = s) ∧
    (msg.length ≠ 10 → ∃ t, exec (.timeDsRx msg) s = .next t ∧ t.rd TUN_REASM_ABORT = satAdd 16 (s.rd TUN_REASM_ABORT) 1 ∧
      s.regsBut t [TUN_REASM_ABORT] ∧ s.onlyRegs t)) ∧
  (∀ (s : State) (ds : List Nat), s.coreOn = true → s.isRoot = false → s.datum.stSent = none → (s.tun (timeTun s.hubNo)).e.state = .opened →
    (s.tun (timeTun s.hubNo)).e.keyed = false → s.route (s.tun (timeTun s.hubNo)).e 24 = some ds →
    ∃ t, exec .timeStatusSend s = .next t ∧ t.datum.stSent = some (s.statusWords, s.now) ∧
      t.hull.ingress = s.hull.ingress ++ messageFlits (timeTun s.hubNo) (s.tun (timeTun s.hubNo)).e.vc 24 ds
        (pack [(16, 24, (s.tun (timeTun s.hubNo)).e.msnOut), (0, 16, 2)] :: s.statusWords)) ∧
  (∀ (s : State) (h : Fin 17) (a b : Word), s.coreOn = true → s.isRoot = true → fld a 36 4 = 2 →
    ∃ t, exec (.timeStatusRx h [a, b]) s = .next t ∧ t.rd (DAT_LEAF_STAT_VALID h) = 1 ∧ t.rd (DAT_LEAF_STAT_STALE h) = 0 ∧
      t.rd (DAT_LEAF_STAT_STATE h) = fld a 34 2 ∧ t.rd (DAT_LEAF_STAT_KEEPER h) = fld a 33 1 ∧
      t.rd (DAT_LEAF_STAT_SOURCE_ACT h) = fld a 30 3 ∧ t.rd (DAT_LEAF_THETA_THETA h) = fld b 8 32 ∧ t.datum.leafAt.get h = s.now ∧
      s.regsBut t [DAT_LEAF_STAT_VALID h, DAT_LEAF_STAT_STALE h, DAT_LEAF_STAT_STATE h, DAT_LEAF_STAT_KEEPER h,
        DAT_LEAF_STAT_SOURCE_ACT h, DAT_LEAF_THETA_THETA h]) ∧
  (∀ (s : State) (h : Fin 17), s.coreOn = true → s.isRoot = true → (s.tun (timeTun h)).e.state ≠ .free →
    s.datum.leafAt.get h + 3000000000 < s.now →
    ∃ t, exec (.timeStatusStale h) s = .next t ∧ t.rd (DAT_LEAF_STAT_STALE h) = 1 ∧ s.regsBut t [DAT_LEAF_STAT_STALE h] ∧ s.onlyRegs t)

/-- R187, R191, R192, R201, R203–R205, R212–R214, R229, R616: the states of Datum, its sources and the keeper.
The model's choices that its clauses rest on: assumption log 11, 34, 35. -/
def Obligations.DatumRows : Prop :=
  (∀ s : State, s.coreOn = true → s.datState = 2 → s.source ≠ 0 → s.datum.measuredAt + 8 * s.interval < s.now →
    ∃ t, exec .measurementLoss s = .next t ∧ t.datState = 3 ∧ t.rd LAT_STAT_SYNCED = 0 ∧ t.datum.slew = 0 ∧ t.datum.t = s.datum.t ∧
      (t.pages.get 0x0C0).stat.getLsbD EV_DAT_HOLDOVER = true ∧ (t.pages.get 0x0C0).stat.getLsbD EV_DAT_LOCK_LOST = true ∧
      s.regsBut t [DAT_STAT_STATE, LAT_STAT_SYNCED, EVT_LOG_STAT_OVF]) ∧
  (∀ s : State, s.coreOn = true → s.source = 3 → (s.datState = 1 ∨ s.datState = 2) →
    ∃ t, exec .sourceLoss s = .next t ∧ t.datState = 3 ∧ t.rd LAT_STAT_SYNCED = 0 ∧ t.datum.t = s.datum.t ∧
      (t.pages.get 0x0C0).stat.getLsbD EV_DAT_HOLDOVER = true ∧ s.regsBut t [DAT_STAT_STATE, LAT_STAT_SYNCED, EVT_LOG_STAT_OVF]) ∧
  (∀ s : State, s.coreOn = true → s.sourceWanted ≠ s.source →
    ∃ t, exec .sourceChange s = .next t ∧ t.source = s.sourceWanted ∧ t.datState = (if s.sourceWanted = 0 then 2 else 0) ∧
      t.datum.measuredAt = s.now ∧ t.datum.t = s.datum.t ∧ (t.pages.get 0x0C0).stat.getLsbD EV_DAT_SOURCE_CHANGE = true) ∧
  (∀ (s : State) (v : Nat), s.coreOn = true → (s.source = 0 ∨ s.source = 2) →
    v = (s.rd DAT_SET_SEC_LO_SEC + s.rd DAT_SET_SEC_HI_SEC * 2 ^ 32) * 1000000000 + s.rd DAT_SET_NS_NS →
    ({ s.datum with t := v * 2 ^ 48 }).whole ≤ s.lattice.next * s.period →
    ∃ t, exec .stepNow s = .next t ∧ t.datum = { s.datum with t := v * 2 ^ 48 } ∧ s.raised t 0x0C0 [EV_DAT_STEP] ∧ s.regsBut t [EVT_LOG_STAT_OVF] ∧
      { t with regs := s.regs, pages := s.pages, datum := s.datum, evt := s.evt, out := s.out } = s) ∧
  (∀ (s : State) (port : Fin 20) (domain : BitVec 8) (q : Nat), s.coreOn = true → 18 ≤ port.val → s.stationOn (port - 18) = true →
    (domain.toNat = s.rd DAT_PTP_DOMAIN →
      ∃ t, exec (.ptpMessageRx port domain (.pdelayReq q)) s = .next t ∧ Emit.ptp port (.pdelayResp q true s.datum.whole 0) ∈ t.out ∧
        Emit.ptp port (.pdelayFollowUp q s.datum.whole 0) ∈ t.out ∧ { t with evt := s.evt, out := s.out } = s) ∧
    ∃ t, exec (.ptpMessageRx port domain .other) s = .next t ∧
      t.rd (FRM_SP_DROP_PTP (port - 18)) = satAdd 16 (s.rd (FRM_SP_DROP_PTP (port - 18))) 1 ∧ s.regsBut t [FRM_SP_DROP_PTP (port - 18)] ∧
      s.onlyRegs t) ∧
  (∀ (s : State) (n : Fin 16) (high : Bool) (w : Nat), s.coreOn = true → s.rd (EVP_CFG_FUNC n) = 6 → s.edgeWanted n high = true →
    w = s.datum.whole - s.filterNs n →
    (s.source ≠ 2 → ∃ t, exec (.ppsInputEdge ⟨n, high⟩) s = .next t ∧ t.datum = { s.datum with ppsAt := s.now, ppsLost := false } ∧
      { t with datum := s.datum, evt := s.evt, out := s.out } = s) ∧
    (s.source = 2 → s.datState = 2 →
      ∃ t, exec (.ppsInputEdge ⟨n, high⟩) s = .next t ∧ t.datum.measuredAt = s.now ∧ t.datum.t = s.datum.t ∧
        t.datum.theta = 16 * ((w : Int) - (((w + 500000000) / 1000000000 * 1000000000 : Nat) : Int)))) ∧
  (∀ (s : State) (n : Fin 16), s.coreOn = true → s.rd (EVP_CFG_FUNC n) = 6 → s.datum.ppsLost = false →
    s.datum.ppsAt + 1500000000 < s.now → s.source ≠ 2 →
    ∃ t, exec .ppsInputLoss s = .next t ∧ t.datum = { s.datum with ppsLost := true } ∧ s.raised t 0x0C2 [EV_EVP_PPSIN_LOST] ∧
      s.regsBut t [EVT_LOG_STAT_OVF]) ∧
  (∀ s : State, s.coreOn = true →
    ∃ t, exec .keeperHandoff s = .next t ∧ t.keeper.rate = signed 32 (s.rd DAT_RATE_RATE) ∧ t.keeper.at_ = edgeBefore s.now ∧
      t.keeper.t = some (fullTime ((s.datum.t : Int) -
        ((s.now % 40 : Nat) : Int) * ((2 ^ 48 : Int) + signed 32 (s.rd DAT_RATE_RATE) + s.datum.slew)).toNat) ∧
      { t with keeper := s.keeper, evt := s.evt, out := s.out } = s) ∧
  (∀ (s : State) (k : Nat), s.coreOn = true → s.keeperTime = some k → s.source ≠ 0 →
    ∃ t, exec .keeperRestore s = .next t ∧ t.datum.t = ((k : Int) + ((s.now % 40 : Nat) : Int) * ((2 ^ 48 : Int) + s.keeper.rate)).toNat ∧
      t.datState = 3 ∧ t.rd DAT_STAT_KEEPER = 1 ∧ t.keeper = { cycle := some (edgeBefore s.now, k) } ∧
      t.rd DAT_RATE_RATE = unsignedOf 32 s.keeper.rate % 2 ^ 32)

/-- R208–R211, R216, R221–R223, R230, R531: the lattice, the event pins and the global operations.
The model's choices that its clauses rest on: assumption log 11, 24, 36. -/
def Obligations.LatticeRows : Prop :=
  (∀ s : State, s.coreOn = true → s.lattice.next * s.period ≤ s.datum.whole → s.lattice.stageS = none → s.gop.target = none →
    ∃ t, exec (.latticeTick none) s = .next t ∧ t.lattice.last = some (s.datum.whole / s.period) ∧
      t.rd LAT_INDEX_INDEX = s.datum.whole / s.period % 2 ^ 32 ∧ t.datum = s.datum) ∧
  (∀ s : State, s.coreOn = true → s.isRoot = true →
    (latticeOk (s.rd LAT_NEXT_A) (s.rd LAT_NEXT_B) = true → s.rdB LAT_STAT_PENDING = false →
      ∃ t, exec .latCommit s = .next t ∧ t.rd LAT_STAT_A_NEXT = s.rd LAT_NEXT_A ∧ t.rd LAT_STAT_B_NEXT = s.rd LAT_NEXT_B ∧
        t.rd LAT_STAT_PENDING = 1 ∧ t.lattice.stageS = some ((s.datum.whole + 2999999999) / 1000000000) ∧
        t.lattice.markAt = some (s.now + 1000000000) ∧ s.regsBut t [LAT_STAT_A_NEXT, LAT_STAT_B_NEXT, LAT_STAT_PENDING]) ∧
    (latticeOk (s.rd LAT_NEXT_A) (s.rd LAT_NEXT_B) = false →
      ∃ t, exec .latCommit s = .next t ∧ s.raised t 0x0C1 [EV_LAT_MARK_REJECT] ∧ s.regsBut t [EVT_LOG_STAT_OVF] ∧ s.onlyRegs t)) ∧
  (∀ (s : State) (b d : Nat), s.coreOn = true → s.lattice.stageS = some b → s.isRoot = true → s.lattice.markAt = some d → d ≤ s.now →
    s.datum.whole < b * 1000000000 →
    ∃ t, exec .latticeMarkRepeat s = .next t ∧ t.lattice = { s.lattice with markAt := some (s.now + 1000000000) } ∧
      (∀ p : Fin 18, s.active p = true → (t.chord p).points = (s.chord p).points ++
        [Point.mk 2 true s.hubNo (packNat [(15, 4, s.rd LAT_STAT_A_NEXT), (11, 4, s.rd LAT_STAT_B_NEXT), (0, 11, b)])]) ∧
      { t with lattice := s.lattice, chords := s.chords, evt := s.evt, out := s.out } = s) ∧
  (∀ (s : State) (b : Nat), s.coreOn = true → s.lattice.stageS = some b → b * 1000000000 ≤ s.datum.whole →
    latticeOk (s.rd LAT_STAT_A_NEXT) (s.rd LAT_STAT_B_NEXT) = true →
    ∃ t, exec .latticePeriodChange s = .next t ∧ t.period = latticeP (s.rd LAT_STAT_A_NEXT) (s.rd LAT_STAT_B_NEXT) ∧
      t.rd LAT_STAT_A = s.rd LAT_STAT_A_NEXT ∧ t.rd LAT_STAT_B = s.rd LAT_STAT_B_NEXT ∧ t.rd LAT_STAT_PENDING = 0 ∧
      t.lattice.stageS = none ∧ (t.pages.get 0x0C1).stat.getLsbD EV_LAT_CHANGE_DONE = true) ∧
  (∀ (s : State) (n : Fin 16) (high : Bool), s.coreOn = true → s.rd (EVP_CFG_FUNC n) = 1 → bitOf s.pins.level n ≠ high →
    s.edgeWanted n high = true → s.pins.fifo.length < 64 → s.pulseShort n = false → s.filterNs n ≤ s.now →
    (∀ e u, s.keeper.cycle = some (e, u) → edgeBefore (s.now - s.filterNs n) ≠ e) →
    ∃ t, exec (.eventPinEdge n high) s = .next t ∧ bitOf t.pins.level n = high ∧
      t.pins.fifo = s.pins.fifo ++ [stampOf n high false (s.datum.whole - s.filterNs n)] ∧
      s.raised t 0x0C2 [EV_EVP_TS_AVAIL] ∧ s.regsBut t [EVT_LOG_STAT_OVF] ∧
      { t with regs := s.regs, pages := s.pages, pins := s.pins, evt := s.evt, out := s.out } = s) ∧
  (∀ (s : State) (x : Stamp) (rest : List Stamp), s.coreOn = true → s.pins.fifo = x :: rest →
    ∃ t, exec .evpTsPop s = .next t ∧ t.pins = { s.pins with fifo := rest, latched := some x } ∧
      Emit.read 0x0C2 0x084 (BitVec.ofNat 32 x.ns) ∈ t.out ∧ { t with pins := s.pins, evt := s.evt, out := s.out } = s) ∧
  (∀ s : State, s.coreOn = true → s.isRoot = true → s.rdB LAT_GOP_BUSY = false →
    (modSub 19 (s.rd LAT_SNAP_IDX_TARGET % 2 ^ 19) (s.datum.whole / s.period) ≠ 0 →
      modSub 19 (s.rd LAT_SNAP_IDX_TARGET % 2 ^ 19) (s.datum.whole / s.period) ≤ 2 ^ 18 →
      ∃ t, exec .snapshot s = .next t ∧ t.rd LAT_GOP_BUSY = 1 ∧ t.gop.late = false ∧
        t.gop.target = some (s.datum.whole / s.period + modSub 19 (s.rd LAT_SNAP_IDX_TARGET % 2 ^ 19) (s.datum.whole / s.period))) ∧
    ∃ t, exec (.treeReset 0xA5) s = .next t ∧ t.rd LAT_GOP_BUSY = 1 ∧ t.gop = { s.gop with resetAt := some (s.now + 2000) } ∧
      (t.pages.get 0x0C1).stat.getLsbD EV_LAT_TREE_RESET = true) ∧
  (∀ (s : State) (d : Nat), s.coreOn = true → s.boot.dieOn = true → s.gop.resetAt = some d → d ≤ s.now →
    ∃ t, exec .treeResetHoldExpiry s = .next t ∧ s.resetTaken t 6) ∧
  (∀ (s : State) (node : Fin 192) (msg : List Word), s.coreOn = true → node.val ∈ s.gop.missing → s.gop.missing.filter (· ≠ node.val) ≠ [] →
    ∃ t, exec (.snapshotRecordRx node msg false) s = .next t ∧
      t.gop.records = s.gop.records.filter (fun x => x.node ≠ node.val) ++ [{ node := node, words := msg, late := false }] ∧
      t.gop.missing = s.gop.missing.filter (· ≠ node.val) ∧ { t with gop := s.gop, evt := s.evt, out := s.out } = s) ∧
  (∀ (s : State) (d : Nat), s.isRoot = true → s.gop.askAt = some d → d < s.now → s.gop.asked = false → s.coreOn = true →
    ∃ t, exec .snapshotRecordTimeout s = .next t ∧
      t = (({ s with gop := { s.gop with asked := true, askAt := some (s.now + 2000000) } }).each s.gop.missing (State.snapSend 1)).settle) ∧
  (∀ s : State, s.isRoot = false → s.coreOn = true →
    ∃ t, exec .snapshotReleaseRx s = .next t ∧
      t = (({ s with gop := { s.gop with records := [], missing := [], askAt := none } }).each s.snapNodes (State.snapSend 2)).settle)


/-! ## Samples -/

/-- R235–R238, R240–R247, R250–R258: parts, composites, sampled-value streams and the records of the sample adapter.
The model's choices that its clauses rest on: assumption log 16, 17, 18, 42. -/
def Obligations.SampleRows : Prop :=
  (∀ (s : State) (f : HFlit) (rest : List (Nat × HFlit)) (i u part : Nat), s.running = true → takePort 18 s.hull.adapters = some (f, rest) → f.tunnel = 0x200 + i →
    (f.poison = true → ∃ t, exec .samplePartRx s = .next t ∧
      bitsOf (t.smp 2 i 0 2) 16 16 = satAdd 16 (bitsOf (s.smp 2 i 0 2) 16 16) 1 ∧ t.samples = s.samples ∧ t.hull.adapters = rest) ∧
    (f.poison = false → s.streamValid i = true → part = fld (f.payload.getD 1 0) 38 2 → fld (f.payload.getD 1 0) 0 32 = 0 →
      fld (f.payload.getD 1 0) 36 2 = partsOf (s.streamN i) - 1 → part < partsOf (s.streamN i) →
      f.payload.length = 2 + partChannels (s.streamN i) part → u = s.fullOf (f.payload.getD 0 0).toNat →
      s.gridIndex (s.streamK i) u = some (fld (f.payload.getD 1 0) 32 4) → u ≤ s.datum.whole + 1000 → s.emissionBegun i u = false →
      (∀ x ∈ s.accepted i u, x.part ≠ part) →
      ∃ t, exec .samplePartRx s = .next t ∧
        t.samples = { s.samples with parts := s.samples.parts.filter (fun x => s.datum.whole < x.inst + 200000000) ++
          [{ stream := i, inst := u, part := part, words := f.payload.drop 2 }] } ∧
        { t with hull := s.hull, samples := s.samples, records := s.records, evt := s.evt, out := s.out } = s)) ∧
  (∀ (s : State) (c : Fin 64) (u : Nat), s.running = true → (s.samples.comps.get c).next = some u →
    u + us (s.compDelay c) ≤ s.datum.whole →
    ∃ t, exec (.compositeEmit c) s = .next t ∧ (t.samples.comps.get c).last = some u ∧
      (t.samples.comps.get c).next = ((s.samples.comps.get c).emitted u (s.nextInst (s.compK c) u)).next ∧
      t.smp 6 c 0 0 = (s.smp 6 c 0 0 + 1) % 2 ^ 32 ∧ t.smp 6 c 0 1 = u % 2 ^ 32 ∧ t.datum = s.datum) ∧
  (∀ (s : State) (c : Fin 64) (u : Nat) (w : Word) (ds : List Nat), s.running = true → (s.samples.comps.get c).next = some u →
    (s.samples.comps.get c).stop = none → u + us (s.compDelay c) ≤ s.datum.whole → s.compN c = 1 →
    bitOf (s.smp 5 c 0 0) 21 = false → s.compSources c = [(bitsOf (s.smp 5 c 0 0) 27 4, 5)] →
    channelOf (s.sourceParts 5 u) (bitsOf (s.smp 5 c 0 0) 22 5) = some w → s.hullTakes 18 (s.compOut c) 1 ds →
    ∃ t, exec (.compositeEmit c) s = .next t ∧ (t.samples.comps.get c).last = some u ∧
      (t.samples.comps.get c).next = some (s.nextInst (s.compK c) u) ∧ t.smp 6 c 0 0 = (s.smp 6 c 0 0 + 1) % 2 ^ 32 ∧
      t.smp 6 c 0 1 = u % 2 ^ 32 ∧ t.datum = s.datum ∧
      t.hull.ingress = s.hull.ingress ++ (setFlits (s.compOut c) u ((s.gridIndex (s.compK c) u).getD 0) [w]).map
        (fun f => { f with inPort := 18, todo := ds, colour := 0 })) ∧
  (∀ (s : State) (i : Fin 256) (u l : Nat), s.running = true → (s.samples.svouts.get i).next = some u →
    l = (s.frameInsts (s.shapeOf (s.svoStream i)).2.1 (s.svoAsdus i) u).getLastD u → l + us (s.svoDelay i) ≤ s.datum.whole →
    bitOf (s.recW 0x0E0 6 i 0 0) 31 = false →
    ∃ t, exec (.svFrameSend i) s = .next t ∧ (t.samples.svouts.get i).last = some l ∧
      t.smp 11 i 0 0 = (s.smp 11 i 0 0 + 1) % 2 ^ 32 ∧ t.datum = s.datum) ∧
  (∀ (s : State) (i : Fin 256) (u ch unit : Nat) (w : Word) (f : Frame), s.running = true → (s.samples.svouts.get i).next = some u → s.svoAsdus i = 1 →
    s.svoN i = 1 → ch = s.svoFirst i → unit = (s.shapeOf (s.svoStream i)).2.2 ch → u + us (s.svoDelay i) ≤ s.datum.whole →
    channelOf (s.sourceParts (s.svoStream i) u) ch = some w → (toInt32 unit (sampleValue w)).2 = false →
    bitOf (s.recW 0x0E0 6 i 0 0) 31 = false → s.redundant = false → s.svoPorts i = 1 → s.bridge.queues = Map.empty →
    f = s.svoFrame i [SvAsdu.mk (s.svId i (bitsOf (s.smp 8 i 0 1) 0 7)) (s.smpCnt (s.shapeOf (s.svoStream i)).2.1 u) (s.smp 8 i 0 0)
      s.smpSynch [((toInt32 unit (sampleValue w)).1, qualOut (sampleQual w))]] →
    ∃ t, exec (.svFrameSend i) s = .next t ∧ (t.samples.svouts.get i).last = some u ∧ t.smp 11 i 0 0 = (s.smp 11 i 0 0 + 1) % 2 ^ 32 ∧
      t.bridge = (if frameLen f ≤ 65536 then { s.bridge with queues := s.bridge.queues.set (bitsOf (s.smp 7 i 0 3) 17 3) [f] }
        else s.bridge) ∧ s.regsBut t [FRM_SP_DROP_TX 0, EVT_LOG_STAT_OVF] ∧
      { t with pages := s.pages, records := s.records, samples := s.samples, bridge := s.bridge, evt := s.evt, out := s.out,
               regs := s.regs } = s) ∧
  (∀ (s : State) (a : Arrival) (rest : List Arrival) (f : SvFrame) (i : Fin 256), s.running = true → s.bridge.forSv = a :: rest →
    a.f.body = .sv f →
    (∀ j < i.val, s.sviValid j = false ∧ s.samples.sviStop.get j = none ∨ bitsOf (s.smp 9 j 0 1) 16 16 ≠ f.appid) →
    s.sviValid i = true → bitOf (s.sviPorts i) (b2n a.portB) = true → bitsOf (s.smp 9 i 0 1) 16 16 = f.appid →
    f.asdus.head?.map (·.svId) = some (s.svId (256 + i) (bitsOf (s.smp 9 i 0 1) 0 7)) → f.sim = false → a.ok = true →
    bitOf (s.recW 0x0E0 6 (256 + i) 0 0) 31 = false → s.streamValid (s.sviStream i) = true →
    (∀ x ∈ f.asdus, x.confRev = s.smp 9 i 0 2) →
    (∀ x ∈ f.asdus, x.pairs.length = s.streamN (s.sviStream i) ∧
      x.smpCnt * s.asduPeriod (s.streamK (s.sviStream i)) x.smpCnt a.stamp < s.streamK (s.sviStream i) * 1000000000) →
    ∃ t, exec .svFrameRx s = .next t ∧ t.smp 11 (256 + i) 0 0 = (s.smp 11 (256 + i) 0 0 + 1) % 2 ^ 32 ∧ t.bridge.forSv = rest ∧
      t.datum = s.datum) ∧
  (∀ (s : State) (a : Arrival) (rest : List Arrival) (f : SvFrame)
    (i : Fin 256) (x : SvAsdu) (v : Int) (q unit : Nat) (ds : List Nat), s.running = true → s.bridge.forSv = a :: rest → a.f.body = .sv f →
    ((∀ i < 256, s.sviValid i = false ∧ s.samples.sviStop.get i = none) →
      ∃ t, exec .svFrameRx s = .next t ∧ t.bridge = { s.bridge with forSv := rest } ∧ { t with bridge := s.bridge, evt := s.evt, out := s.out } = s) ∧
    ((∀ j < i.val, s.sviValid j = false ∧ s.samples.sviStop.get j = none) → s.sviValid i = true →
      bitOf (s.sviPorts i) (b2n a.portB) = true → bitsOf (s.smp 9 i 0 1) 16 16 = f.appid → f.asdus = [x] →
      x.svId = s.svId (256 + i) (bitsOf (s.smp 9 i 0 1) 0 7) → f.sim = false → a.ok = true → bitOf (s.recW 0x0E0 6 (256 + i) 0 0) 31 = false →
      s.streamValid (s.sviStream i) = true → s.streamN (s.sviStream i) = 1 → x.confRev = s.smp 9 i 0 2 → x.pairs = [(v, q)] →
      x.smpCnt * s.asduPeriod (s.streamK (s.sviStream i)) x.smpCnt a.stamp < s.streamK (s.sviStream i) * 1000000000 → x.smpSynch = 2 → unit = s.streamUnit (s.sviStream i) 0 →
      (fromInt32 unit v).2 = false → s.hullTakes 18 (0x200 + s.sviStream i) 1 ds → s.hull.adapters = [] →
      (∀ c < 64, s.compValid c = false ∧ (s.samples.comps.get c).next = none) →
      (∀ r < 256, s.svoValid r = false ∧ (s.samples.svouts.get r).next = none) →
      ∃ t, exec .svFrameRx s = .next t ∧ t.smp 11 (256 + i) 0 0 = (s.smp 11 (256 + i) 0 0 + 1) % 2 ^ 32 ∧ t.bridge.forSv = rest ∧
        t.hull.ingress = s.hull.ingress ++ (setFlits (0x200 + s.sviStream i) (s.asduInst (s.streamK (s.sviStream i)) x.smpCnt a.stamp)
          (x.smpCnt % s.streamK (s.sviStream i)) [sampleWord (fromInt32 unit v).1 (qualIn q)]).map
            (fun f => { f with inPort := 18, todo := ds, colour := 0 }))) ∧
  (∀ (s : State) (k i e : Nat) (ro : Bool) (m : List Nat), s.running = true → s.rdB SMP_CMD_BUSY = false →
    (s.smpSel = none → ∃ t, exec .smpRead s = .next t ∧ t.rd SMP_CMD_STATUS = 3 ∧ s.regsBut t [SMP_CMD_STATUS] ∧ s.onlyRegs t) ∧
    (s.smpSel = some (k, i, e, ro, m) →
      ∃ t, exec .smpRead s = .next t ∧ t.rd SMP_CMD_STATUS = 0 ∧ (∀ w < 4, t.rd (SMP_DATA_WORD w) = s.smp k i e w % 2 ^ 32) ∧
        s.regsBut t [SMP_CMD_STATUS, SMP_DATA_WORD 0, SMP_DATA_WORD 1, SMP_DATA_WORD 2, SMP_DATA_WORD 3] ∧ s.onlyRegs t)) ∧
  (∀ (s : State) (k i e : Nat) (ro : Bool) (m : List Nat), s.running = true → s.rdB SMP_CMD_BUSY = false →
    s.smpSel = some (k, i, e, ro, m) →
    (ro = false → s.locked 0x0D0 = true → ∃ t, exec .smpWrite s = .next t ∧ t.rd SMP_CMD_STATUS = 1 ∧ s.raised t 0x0D0 [EV_SMP_CFG_REJECT] ∧
      s.regsBut t [SMP_CMD_STATUS, EVT_LOG_STAT_OVF] ∧ s.onlyRegs t) ∧
    (ro = true → ∃ t, exec .smpWrite s = .next t ∧ t.rd SMP_CMD_STATUS = 3 ∧ s.regsBut t [SMP_CMD_STATUS, EVT_LOG_STAT_OVF] ∧ s.onlyRegs t) ∧
    (ro = false → s.locked 0x0D0 = false → k = 9 →
      ∃ t, exec .smpWrite s = .next t ∧ t.rd SMP_CMD_STATUS = 0 ∧
        (∀ w < m.length, t.smp k i e w = (s.rd (SMP_DATA_WORD w) &&& m.getD w 0) % 2 ^ 32) ∧ s.regsBut t [SMP_CMD_STATUS] ∧
        t.samples = { s.samples with sviStop := s.samples.sviStop.set i none }) ∧
    (ro = false → s.locked 0x0D0 = false → (k = 8 ∨ k = 10 ∨ ((k = 4 ∨ k = 5) ∧ s.compValid i = false)) →
      ∃ t, exec .smpWrite s = .next t ∧ t.rd SMP_CMD_STATUS = 0 ∧
        (∀ w < m.length, t.smp k i e w = (s.rd (SMP_DATA_WORD w) &&& m.getD w 0) % 2 ^ 32) ∧ s.regsBut t [SMP_CMD_STATUS] ∧
        { t with regs := s.regs, records := s.records, evt := s.evt, out := s.out } = s))

/-! ## Express -/

/-- R261, R265, R267, R271, R272, R279, R280, R283, R289: what reaches and leaves the congruent pair, and its spare.
The model's choices that its clauses rest on: assumption log 5 (the moments of a takeover), 43. -/
def Obligations.ExpressPairRows : Prop :=
  (∀ (s : State) (p : Fin 18) (x : XFlit) (ws : List Word) (rest : List (List Word)) (d l : Nat) (ds : List Nat), s.running = true → (s.chord p).xIn = ws :: rest →
    x.hdr = ws.getD 0 0 → x.payload = ws.getD 1 0 → s.engines = 0 → 0x100 ≤ x.tunnel →
    (s.pairPasses x.tunnel p d → opReserved x.opcode = false → (s.group (groupOf x.tunnel)).last = none →
      ∃ t, exec (.expressFlitRx p none) s = .next t ∧ s.inQ0 t x.clean d ∧ (t.chord p).xIn = rest ∧
        (t.group (groupOf x.tunnel)).last = some x.esn ∧ (t.group (groupOf x.tunnel)).at_ = some s.now ∧
        t.express.made = s.express.made + 1) ∧
    ((s.tun x.tunnel).e.state = .opened → (s.tun x.tunnel).e.vc = 0 → s.route (s.tun x.tunnel).e p = some ds →
      opReserved x.opcode = false → (s.group (groupOf x.tunnel)).last = some l → (s.group (groupOf x.tunnel)).seen = [(l, false)] →
      x.esn = l → s.express.upset = none → s.express.due = none → s.express.takeover = none → s.express.force = false →
      ∃ t, exec (.expressFlitRx p none) s = .next t ∧ t.rd EXP_DEDUP_DUP = satAdd 16 (s.rd EXP_DEDUP_DUP) 1 ∧ (t.chord p).xIn = rest ∧
        (t.group (groupOf x.tunnel)).dups = satAdd 16 (s.group (groupOf x.tunnel)).dups 1 ∧ s.regsBut t [EXP_DEDUP_DUP, EXP_STAT_JOURNAL] ∧
        { t with regs := s.regs, chords := s.chords, express := s.express, evt := s.evt, out := s.out } = s)) ∧
  (∀ (s : State) (p : Fin 18) (x : QFlit) (rest : List QFlit) (e : XReplay), s.compass.queues.get (qKey p 0) = x :: rest → s.running = true → s.active p = true →
    (s.chord p).revoked = false → (s.chord p).quiet = false → s.power.asleep = 0 → (s.chord p).xReplay.length < 64 →
    s.compass.sending.get p = none → e.xsn = (s.chord p).nextXsn → e.firstAt = s.now →
    e.words = [x.f.payload.getD 0 0 ||| pack [(9, 8, (s.chord p).nextXsn)], x.f.payload.getD 1 0, ~~~(x.f.payload.getD 1 0)] →
    ∃ t, exec (.expressQ0Start ⟨p, []⟩) s = .next t ∧ t.compass.queues.get (qKey p 0) = rest ∧ (t.chord p).xReplay = (s.chord p).xReplay ++ [e] ∧
      (t.chord p).nextXsn = ((s.chord p).nextXsn + 1) % 256 ∧ Emit.express p (s.expressWords p e false) ∈ t.out) ∧
  (∀ s : State, s.running = true → s.compared = true →
    ∃ t, exec .forceMismatch s = .next t ∧ t.express = { s.express with force := true } ∧
      { t with express := s.express, evt := s.evt, out := s.out } = s) ∧
  (∀ s : State, s.running = true → s.engines = 2 →
    ∃ t, exec .restore s = .next t ∧ t.engines = 3 ∧ t.express = { s.express with testing := true } ∧ s.regsBut t [EXP_STAT_ENGINES] ∧
      { t with regs := s.regs, express := s.express, evt := s.evt, out := s.out } = s) ∧
  (∀ s : State, s.running = true → s.express.testing = true →
    (∃ t, exec (.restoreSelftestDone true) s = .next t ∧ t.express = { s.express with testing := false, awaiting := true } ∧
      { t with express := s.express, evt := s.evt, out := s.out } = s) ∧
    ∃ t, exec (.restoreSelftestDone false) s = .next t ∧ t.engines = 2 ∧
      t.express = { s.express with testing := false, awaiting := false, rerun := none } ∧ s.raised t 0x0D8 [EV_EXP_RESTORE_FAIL] ∧
      s.regsBut t [EXP_STAT_ENGINES, EVT_LOG_STAT_OVF]) ∧
  (∀ (s : State) (i : Nat), s.running = true → s.express.rerun = some i →
    (∃ t, exec (.restoreHandback true) s = .next t ∧ t.engines = 0 ∧ t.express = { s.express with rerun := none, upset := none, due := none } ∧
      t.rd EXP_COUNT_RESTORE = satAdd 8 (s.rd EXP_COUNT_RESTORE) 1 ∧ s.raised t 0x0D8 [EV_EXP_RESTORED]) ∧
    ∃ t, exec (.restoreHandback false) s = .next t ∧ t.engines = 2 ∧ t.express.rerun = none ∧ s.raised t 0x0D8 [EV_EXP_RESTORE_FAIL]) ∧
  (∀ (s : State) (b c : Bank), s.running = true → s.engines = 0 → s.bankCur = some b → b.start + 96 ≤ s.express.made →
    s.express.mmAt ≠ some s.now → s.upsetAt 7 = none →
    c = { index := s.lattice.last.getD 0 % 2 ^ 32, number := (s.express.ckpts + 1) % 2 ^ 16, second := s.rd EXP_STAT_CKPT_BANK = 0,
          start := s.express.made, groups := s.express.groups, sinks := s.express.sinks, levels := s.pins.driven,
          sent := s.express.sent, handoff := s.express.handoff } →
    ∃ t, exec .extraCheckpoint s = .next t ∧ t.bankCur = some c ∧
      t.express.journal = s.express.journal.filter (fun x => b.start ≤ x.num) ∧
      t.rd EXP_STAT_CKPT_BANK = (if s.rd EXP_STAT_CKPT_BANK = 0 then 1 else 0) ∧
      s.regsBut t [EXP_STAT_CKPT_BANK, EXP_STAT_CKPT_INDEX, EXP_STAT_JOURNAL] ∧
      { t with regs := s.regs, express := s.express, evt := s.evt, out := s.out } = s)

/-- R262–R264, R266, R285–R287, R292, R293: sources and sinks of the express adapter, and its records.
The model's choices that its clauses rest on: assumption log 11, 18, 40. -/
def Obligations.ExpressEndRows : Prop :=
  (∀ (s : State) (g : Fin 256) (u d : Nat) (rest : List Nat) (x : XFlit) (src : XSource), s.running = true → src = (s.group g).src → src.repeats = u :: rest →
    u ≤ s.now → s.spaced g = true → (s.tun (0x100 + g)).e.inPort = 19 → s.engines = 0 → s.pairPasses (0x100 + g) 19 d →
    src.esn < 256 → opReserved src.opcode = false → src.opcode < 256 →
    x.hdr = pack [(25, 12, 0x100 + g.val), (17, 8, src.esn)] →
    x.payload = pack [(32, 8, src.opcode), (8, 24, src.evseq), (0, 8, src.flags + 64)] →
    ∃ t, exec (.expressRepeat g) s = .next t ∧ s.inQ0 t x d ∧
      (t.group g).src = { src with repeats := rest, esn := (src.esn + 1) % 256, lastStart := some s.now }) ∧
  (∀ (s : State) (g : Fin 256) (u d : Nat) (x : XFlit) (src : XSource), s.running = true → src = (s.group g).src → src.beatAt = some u → u ≤ s.now →
    src.begun = true → src.quiet = false → s.spaced g = true → (s.tun (0x100 + g)).e.inPort = 19 → s.engines = 0 →
    s.pairPasses (0x100 + g) 19 d → src.esn < 256 → opReserved src.opcode = false → src.opcode < 256 →
    x.hdr = pack [(25, 12, 0x100 + g.val), (17, 8, src.esn)] →
    x.payload = pack [(32, 8, src.opcode), (8, 24, src.evseq), (0, 8, src.flags + 64)] →
    ∃ t, exec (.heartbeat g) s = .next t ∧ s.inQ0 t x d ∧
      (t.group g).src = { src with
        beatAt := some (u + ms (2 ^ (s.tun (0x100 + g)).e.hb)), esn := (src.esn + 1) % 256, lastStart := some s.now }) ∧
  (∀ (s : State) (g : Fin 256) (u op fl : Nat) (src : XSource), s.running = true → src = (s.group g).src → src.deferred = some u → u ≤ s.now →
    s.sourceReady g = true → s.sourceState src.origin = (op, fl) →
    (op = 0 → ∃ t, exec (.expressDeferredSend g) s = .next t ∧ (t.group g).src = { src with deferred := none, covers := 0 } ∧
      { t with express := s.express, evt := s.evt, out := s.out } = s) ∧
    (op ≠ 0 → ∃ t, exec (.expressDeferredSend g) s = .next t ∧ (t.group g).src = { src with
        deferred := none, covers := 0, opcode := op, flags := fl, begun := true, quiet := false,
        evseq := if src.begun then (src.evseq + src.covers) % 2 ^ 24 else 0,
        repeats := [s.now + 20000, s.now + 200000, s.now + 2000000],
        beatAt := if (s.tun (0x100 + g)).e.hb ≤ 10 then some (s.now + 2000000 + ms (2 ^ (s.tun (0x100 + g)).e.hb)) else none,
        esn := (src.esn + 1) % 256, lastStart := some s.now })) ∧
  (∀ (s : State) (n : Fin 16) (d : Nat), s.running = true → (s.sink n).pulseEnd = some d → d < s.now → s.pinStamp n = false → s.express.upset = none →
    ∃ t, exec (.pinPulseEnd n) s = .next t ∧ t.sink n = { s.sink n with pulseEnd := none, on := false } ∧
      bitOf t.pins.driven n = s.rdB (EVP_CFG_POL n) ∧ (∀ m, m ≠ n.val → t.sink m = s.sink m) ∧ t.pins.fifo = s.pins.fifo ∧
      { t with express := s.express, pins := s.pins, evt := s.evt, out := s.out } = s) ∧
  (∀ (s : State) (g : Fin 256) (n : Fin 16) (d : Nat), s.running = true → (s.group g).superAt = some d → d < s.now → n.val ∈ s.sinkPins g →
    s.pinHold n = false → s.express.upset = none →
    ∃ t, exec (.supervisionLoss g) s = .next t ∧ (t.sink n).on = false ∧ (t.sink n).pulseEnd = none ∧ (t.group g).superAt = none ∧
      bitOf t.pins.driven n = s.rdB (EVP_CFG_POL n) ∧ t.rd EXP_SUPER_MISSES = satAdd 16 (s.rd EXP_SUPER_MISSES) 1 ∧ t.rd EXP_SUPER_GROUP = g ∧
      (t.pages.get 0x0D8).stat.getLsbD EV_EXP_SUPERVISION = true) ∧
  (∀ s : State, s.running = true → s.rdB EXP_CMD_BUSY = false →
    (s.rd EXP_SEL_KIND = 2 → s.rd EXP_SEL_INDEX < 16 →
      ∃ t, exec .expRead s = .next t ∧ t.rd (EXP_DATA_WORD 0) = s.pinW (s.rd EXP_SEL_INDEX) 0 % 2 ^ 32 ∧
        t.rd (EXP_DATA_WORD 1) = s.pinW (s.rd EXP_SEL_INDEX) 1 % 2 ^ 32 ∧ t.rd (EXP_DATA_WORD 2) = 0 ∧ t.rd EXP_CMD_STATUS = 0 ∧
        s.regsBut t [EXP_DATA_WORD 0, EXP_DATA_WORD 1, EXP_DATA_WORD 2, EXP_CMD_STATUS] ∧ s.onlyRegs t) ∧
    (s.rd EXP_SEL_KIND = 1 →
      ∃ t, exec .expRead s = .next t ∧
        t.rd (EXP_DATA_WORD 2) = ((s.group (s.rd EXP_SEL_INDEX)).flits * 2 ^ 16 + (s.group (s.rd EXP_SEL_INDEX)).dups) % 2 ^ 32 ∧
        t.rd EXP_CMD_STATUS = 0 ∧ s.regsBut t [EXP_DATA_WORD 0, EXP_DATA_WORD 1, EXP_DATA_WORD 2, EXP_CMD_STATUS] ∧ s.onlyRegs t)) ∧
  (∀ s : State, s.running = true → s.rdB EXP_CMD_BUSY = false →
    (s.rd EXP_SEL_KIND = 2 → s.rd EXP_SEL_INDEX < 16 → s.locked 0x0D8 = false → bitOf (s.rd (EXP_DATA_WORD 0)) 31 = false →
      ∃ t, exec .expWrite s = .next t ∧ t.rd EXP_CMD_STATUS = 0 ∧ t.pinW (s.rd EXP_SEL_INDEX) 0 = s.rd (EXP_DATA_WORD 0) % 2 ^ 32 ∧
        t.pinW (s.rd EXP_SEL_INDEX) 1 = (0xFFFFE000 &&& s.rd (EXP_DATA_WORD 1)) % 2 ^ 32 ∧ s.regsBut t [EXP_CMD_STATUS] ∧
        { t with regs := s.regs, records := s.records, evt := s.evt, out := s.out } = s) ∧
    (s.rd EXP_SEL_KIND = 2 → s.rd EXP_SEL_INDEX < 16 → s.locked 0x0D8 = true →
      ∃ t, exec .expWrite s = .next t ∧ t.rd EXP_CMD_STATUS = 1 ∧ s.raised t 0x0D8 [EV_EXP_CFG_REJECT] ∧
        s.regsBut t [EXP_CMD_STATUS, EVT_LOG_STAT_OVF] ∧ s.onlyRegs t)) ∧
  (∀ (s : State) (p : Nat), s.running = true → p = s.rd EXP_QSEL_PORT →
    ∃ t, exec .expQmaxRead s = .next t ∧ Emit.read 0x0D8 0x06C (BitVec.ofNat 32 (s.fanin p * 2 ^ 16 + s.rd (EXP_QMAX_QMAX p))) ∈ t.out ∧
      t.rd (EXP_QMAX_QMAX p) = 0 ∧ s.regsBut t [EXP_QMAX_QMAX p] ∧ s.onlyRegs t)

/-! ## Compass -/

/-- R108, R296, R299, R300, R302, R303, R305, R312, R317, R320, R328: selection, buckets, tokens and the queue registers.
The model's choices that its clauses rest on: assumption log 32. -/
def Obligations.CompassSendRows : Prop :=
  (∀ (u s : State) (p : Fin 18) (q pass : Nat) (x : QFlit) (e : Replay), u.running = true → s = u.bucketsFirst → s.portFree p = true → s.compass.queues.get (qKey p 0) = [] →
    [s.choice p 1, s.choice p 2, s.choice p 3, s.choice p 4, s.choice p 5].findSome? id = some (q, pass, x) → s.tokensOn = false →
    s.compass.deferred.get p = none → (s.chord p).makeRoom (if s.diag.test = 1 then 0 else (s.chord p).quota) x.f.size = some (s.chord p) →
    e = { lsn := (s.chord p).nextLsn, vc := x.f.vc, tunnel := x.f.tunnel, payload := x.f.payload, last := x.f.last, poison := x.f.poison,
          stomp := x.f.stomp } →
    ∃ t, exec (.compassSelect ⟨p, []⟩) u = .next t ∧ t.compass.queues.get (qKey p q) = (s.compass.queues.get (qKey p q)).drop 1 ∧
      (t.chord p).replay = (s.chord p).replay ++ [e] ∧ (t.chord p).nextLsn = ((s.chord p).nextLsn + 1) % 2 ^ 16 ∧
      Emit.flit p (s.entryFlit p e false) ∈ t.out ∧ t.rd (CMP_QDELAY_LAST_NS p q) = min 16777215 (s.now - x.at_) ∧
      ((t.compass.sending.get p).map (fun k => (k.queue, k.until_))) = some (q, s.now + x.f.duration)) ∧
  (∀ (u s : State) (p : Fin 18) (x : QFlit) (rest : List QFlit), u.running = true → s = u.bucketsFirst → s.portFree p = true → s.compass.queues.get (qKey p 0) = x :: rest →
    s.compass.sending.get p = none → (s.chord p).xReplay.length < 64 →
    ∃ t, exec (.compassSelect ⟨p, []⟩) u = .next t ∧ t.compass.queues.get (qKey p 0) = rest ∧
      (t.chord p).xReplay.length = (s.chord p).xReplay.length + 1 ∧ (t.chord p).replay = (s.chord p).replay) ∧
  (∀ (s : State) (p : Fin 18) (q : Fin 32) (n : Nat), s.running = true → n = s.datum.whole / 10 - s.compass.filledTo →
    ∃ t, exec .bucketFill s = .next t ∧ t.compass.filledTo = s.datum.whole / 10 ∧
      t.bucket p q = (if s.shaped p q = true then Bucket.mk (min (s.capC p q : Int) ((s.bucket p q).c + (s.cir p q * n : Nat)))
        (min (s.capP p q : Int) ((s.bucket p q).p + (s.pir p q * n : Nat))) else s.bucket p q) ∧
      t.compass.policers = s.compass.policers.mapVals (fun _ x => { x with
        c := min (x.capC : Int) (x.c + (x.cir * n : Nat)), p := min (x.capP : Int) (x.p + (x.pir * n : Nat)) }) ∧
      { t with compass := s.compass, evt := s.evt, out := s.out } = s) ∧
  (∀ s : State, s.running = true → s.compass.etok ≤ s.etokCap → s.compass.etokTo ≤ s.datum.whole / 1000 →
    ∃ t, exec .etokRefill s = .next t ∧ t.compass.etokTo = s.datum.whole / 1000 ∧
      t.compass.etok = min s.etokCap (s.compass.etok + 4 * s.rd CMP_STAT_ETOK_RATE * (s.datum.whole / 1000 - s.compass.etokTo)) ∧
      t.rd CMP_STAT_ETOK_LEVEL = min 65535 (t.compass.etok / 4) ∧ s.regsBut t [CMP_STAT_ETOK_LEVEL] ∧
      { t with regs := s.regs, compass := s.compass, evt := s.evt, out := s.out } = s) ∧
  (∀ (s : State) (p : Fin 18) (q : Nat) (v : Reg), s.running = true → q = s.rd (CMP_QSEL_QUEUE p) →
    (∃ t, exec (.queueShaperWrite p 0 v) s = .next t ∧ t.rd (CMP_QCFG_WEIGHT p q) = fld v 24 8 ∧
      (12 ≤ q → t.rd (CMP_QCFG_SHAPE p q) = fld v 16 1 ∧ t.rd (CMP_QCFG_DTHR p q) = fld v 0 16) ∧
      s.regsBut t [CMP_QCFG_WEIGHT p q, CMP_QCFG_SHAPE p q, CMP_QCFG_DTHR p q] ∧
      { t with regs := s.regs, compass := s.compass, evt := s.evt, out := s.out } = s) ∧
    (12 ≤ q → ∃ t, exec (.queueShaperWrite p 1 v) s = .next t ∧ t.rd (CMP_QRATE_PIR p q) = fld v 16 16 ∧
      t.rd (CMP_QRATE_CIR p q) = fld v 0 16 ∧ t.bucket p q = Bucket.mk (s.capC p q : Int) (s.capP p q : Int) ∧
      s.regsBut t [CMP_QRATE_PIR p q, CMP_QRATE_CIR p q]) ∧
    (12 ≤ q → ∃ t, exec (.queueShaperWrite p 2 v) s = .next t ∧ t.rd (CMP_QBURST_PBS p q) = fld v 16 16 ∧
      t.rd (CMP_QBURST_CBS p q) = fld v 0 16 ∧ t.bucket p q = Bucket.mk ((max 64 (fld v 0 16) * 1000 : Nat) : Int)
        ((max (max 64 (fld v 16 16)) (max 64 (fld v 0 16)) * 1000 : Nat) : Int) ∧
      s.regsBut t [CMP_QBURST_PBS p q, CMP_QBURST_CBS p q])) ∧
  (∀ (s : State) (p : Fin 18) (q : Nat), s.running = true → q = s.rd (CMP_QSEL_QUEUE p) →
    (∃ t, exec (.cmpQdepthRead p) s = .next t ∧ t.rd (CMP_QDEPTH_MAX p q) = 0 ∧ s.regsBut t [CMP_QDEPTH_MAX p q] ∧
      Emit.read (0x0A1 + p) 0x070 (BitVec.ofNat 32 (s.rd (CMP_QDEPTH_MAX p q) * 2 ^ 16 + s.rd (CMP_QDEPTH_NOW p q))) ∈ t.out ∧ s.onlyRegs t) ∧
    ∃ t, exec (.cmpQdelayMaxRead p) s = .next t ∧ t.rd (CMP_QDELAY_MAX_NS p q) = 0 ∧ s.regsBut t [CMP_QDELAY_MAX_NS p q] ∧
      Emit.read (0x0A1 + p) 0x074 (BitVec.ofNat 32 (s.rd (CMP_QDELAY_MAX_NS p q))) ∈ t.out ∧ s.onlyRegs t)

/-- R305, R308, R311, R313–R315, R324–R326, R329: gate lists and policer records.
The model's choices that its clauses rest on: assumption log 18, 32. -/
def Obligations.GateAndPolicerRows : Prop :=
  (∀ (s : State) (x : Fin 18), s.running = true →
    ∃ t, exec (.gateEntryAdvance ⟨x, Nat.lt_trans x.isLt (by decide)⟩) s = .next t ∧
      t.rd (CMP_PORT_STAT_GATES x) = (s.gatesAt x s.datum.whole).2 % 2 ^ 10 ∧
      t.rd (CMP_PORT_STAT_ENTRY x) = (s.gatesAt x s.datum.whole).1 % 2 ^ 8 ∧
      s.regsBut t [CMP_PORT_STAT_GATES x, CMP_PORT_STAT_ENTRY x, CMP_PORT_STAT_GCL_RUN x] ∧ s.onlyRegs t) ∧
  (∀ (s : State) (x : Fin 20) (l : List Reg), s.running = true → l = (List.range (s.rd (gclLen x))).map (fun e => (s.gcl x).admin.get e) →
    (s.gclStatusOf x = 0 → modSub 32 (s.indexAt s.datum.whole) (s.rd (gclChange x)) ≥ 2 ^ 31 →
      ∃ t, exec (.gclCommit x) s = .next t ∧ t.rd (gclStatus x) = 0 ∧ t.rd (gclPending x) = 1 ∧
        t.gcl x = { s.gcl x with nextList := l, nextLog2m := s.rd (gclLog x), nextChange := s.rd (gclChange x), commitAt := s.datum.whole } ∧
        s.regsBut t [gclStatus x, gclPending x] ∧ { t with regs := s.regs, compass := s.compass, evt := s.evt, out := s.out } = s) ∧
    (s.rdB (gclPending x) = false → s.rd (gclLen x) = 0 →
      ∃ t, exec (.gclCommit x) s = .next t ∧ t.rd (gclStatus x) = 2 ∧ t.gcl x = s.gcl x ∧ s.raised t (gclPage x) [gclBit x 2] ∧
        s.regsBut t [gclStatus x, EVT_LOG_STAT_OVF] ∧ s.onlyRegs t)) ∧
  (∀ (s : State) (x : Fin 20), s.running = true → s.changeNow x = false →
    ∃ t, exec (.gclCancel x) s = .next t ∧ t.rd (gclPending x) = 0 ∧ s.regsBut t [gclPending x] ∧ s.onlyRegs t) ∧
  (∀ (s : State) (x : Fin 20) (i : Fin 258) (v : Reg), s.running = true →
    (s.rdB (gclPending x) = false → i.val < 256 →
      ∃ t, exec (.gclAdminWrite x i v) s = .next t ∧ t.gcl x = { s.gcl x with admin := (s.gcl x).admin.set i v } ∧
        { t with compass := s.compass, evt := s.evt, out := s.out } = s) ∧
    (s.rdB (gclPending x) = false → i = 256 →
      ∃ t, exec (.gclAdminWrite x i v) s = .next t ∧ t.rd (gclLen x) = fld v 16 9 ∧ t.rd (gclLog x) = fld v 0 3 ∧
        s.regsBut t [gclLen x, gclLog x] ∧ s.onlyRegs t) ∧
    (s.rdB (gclPending x) = false → i = 257 →
      ∃ t, exec (.gclAdminWrite x i v) s = .next t ∧ t.rd (gclChange x) = v.toNat ∧ s.regsBut t [gclChange x] ∧ s.onlyRegs t) ∧
    (s.rdB (gclPending x) = true → x.val < 18 →
      ∃ t, exec (.gclAdminWrite x i v) s = .next t ∧ t.rd (CMP_GCL_CNT_WR_IGNORED x) = satAdd 16 (s.rd (CMP_GCL_CNT_WR_IGNORED x)) 1 ∧
        s.raised t (gclPage x) [gclBit x 2] ∧ s.regsBut t [CMP_GCL_CNT_WR_IGNORED x, EVT_LOG_STAT_OVF] ∧ s.onlyRegs t)) ∧
  (∀ (s : State) (x : Fin 18), s.running = true → s.locked (gclPage x) = false →
    ∃ t, exec (.gclEnable ⟨x, Nat.lt_trans x.isLt (by decide)⟩ false) s = .next t ∧ t.rd (gclEn x) = 0 ∧ (t.gcl x).startAt = none ∧
      t.rd (CMP_PORT_STAT_GATES x) = 1023 ∧ t.rd (CMP_PORT_STAT_GCL_RUN x) = 0 ∧
      s.regsBut t [gclEn x, CMP_PORT_STAT_GATES x, CMP_PORT_STAT_ENTRY x, CMP_PORT_STAT_GCL_RUN x] ∧
      { t with regs := s.regs, compass := s.compass, evt := s.evt, out := s.out } = s) ∧
  (∀ (s : State) (x : Fin 20), s.running = true → s.locked (gclPage x) = false →
    ∃ t, exec (.gclEnable x true) s = .next t ∧ t.rd (gclEn x) = 1 ∧ t.compass = s.compass) ∧
  (∀ (s : State) (n : Nat), s.running = true → s.rdB CMP_POL_CMD_BUSY = false → n = s.rd CMP_POL_SEL_TUNNEL →
    (n ≠ 0 → ∃ t, exec .polRead s = .next t ∧ t.rd CMP_POL_CMD_STATUS = 0 ∧ t.rd (CMP_POL_DATA_WORD 0) = (s.compass.policers.get n).w0.toNat ∧
      t.rd (CMP_POL_DATA_WORD 1) = (s.compass.policers.get n).w1.toNat ∧ t.rd (CMP_POL_DATA_WORD 2) = (s.compass.policers.get n).w2.toNat ∧
      t.rd (CMP_POL_DATA_WORD 3) = ((s.compass.policers.get n).dropRed * 2 ^ 16 + (s.compass.policers.get n).yellow) % 2 ^ 32 ∧
      s.regsBut t [CMP_POL_CMD_STATUS, CMP_POL_DATA_WORD 0, CMP_POL_DATA_WORD 1, CMP_POL_DATA_WORD 2, CMP_POL_DATA_WORD 3] ∧ s.onlyRegs t) ∧
    (n = 0 → ∃ t, exec .polRead s = .next t ∧ t.rd CMP_POL_CMD_STATUS = 3 ∧ s.regsBut t [CMP_POL_CMD_STATUS] ∧ s.onlyRegs t)) ∧
  (∀ (s : State) (n : Nat) (x : Policer), s.running = true → s.rdB CMP_POL_CMD_BUSY = false → n = s.rd CMP_POL_SEL_TUNNEL →
    x.w0 = BitVec.ofNat 32 (s.rd (CMP_POL_DATA_WORD 0)) &&& 0xF000FFFF → x.w1 = BitVec.ofNat 32 (s.rd (CMP_POL_DATA_WORD 1)) →
    x.w2 = BitVec.ofNat 32 (s.rd (CMP_POL_DATA_WORD 2)) &&& 0x0000FFFF →
    (s.polStatus n x = 0 → x.dropRed = 0 → x.yellow = 0 →
      ∃ t, exec .polWrite s = .next t ∧ t.rd CMP_POL_CMD_STATUS = 0 ∧
        t.compass.policers.get n = { x with c := (x.capC : Int), p := (x.capP : Int), colourIn := none, colourOut := none } ∧
        s.regsBut t [CMP_POL_CMD_STATUS] ∧ { t with regs := s.regs, compass := s.compass, evt := s.evt, out := s.out } = s) ∧
    (n ≠ 0 → x.mode = 3 →
      ∃ t, exec .polWrite s = .next t ∧ t.rd CMP_POL_CMD_STATUS = 2 ∧ s.raised t 0x0A0 [EV_CMP_POL_REJECT] ∧
        s.regsBut t [CMP_POL_CMD_STATUS, EVT_LOG_STAT_OVF] ∧ s.onlyRegs t))

/-! ## Frames -/

/-- R331–R335, R338: frames through the bridge, its tables and its redundancy.
The model's choices that its clauses rest on: assumption log 15, 38, 39. -/
def Obligations.FrameBridgeRows : Prop :=
  (∀ (s : State) (n : BitVec 12) (f : Frame) (x : Fin 2) (b pcp vid c : Nat), s.running = true → (s.tun n.toNat).e.kind = 5 → (s.tun n.toNat).e.state = .opened →
    (s.tun n.toNat).e.path.contains 20 = true → b = 2 + (s.tun n.toNat).e.adapter % 128 → b < 130 → s.bportValid b = true →
    s.bportTun b = n.toNat → f.tag = some (pcp, vid) → 0 < vid → vid < 4095 → frameLen f + 4 ≤ s.maxFrame → s.member vid b = true →
    s.filterOf vid f.da = none → s.redundant = false → s.rdB FRM_CTL_LEARN_EN = false → f.etherType ≠ 0x88F7 →
    (s.destsOf b vid f.da = [x.val] → s.stationTakes x pcp (s.egressForm vid pcp x f) →
      ∃ t, exec (.frameTunnelRx n f) s = .next t ∧
        t.bridge = { s.bridge with queues := s.bridge.queues.upd (x * 8 + pcp % 8) (fun l => l ++ [s.egressForm vid pcp x f]) } ∧
        { t with bridge := s.bridge, evt := s.evt, out := s.out } = s) ∧
    (s.destsOf b vid f.da = [c] → 2 ≤ c → s.bportOpen c = true →
      ((s.bridge.tunWait.get c).map frameLen).sum + frameLen (s.egressForm vid pcp c f) ≤ 65536 →
      ∃ t, exec (.frameTunnelRx n f) s = .next t ∧
        t.bridge = { s.bridge with tunWait := s.bridge.tunWait.upd c (fun l => l ++ [s.egressForm vid pcp c f]) } ∧
        { t with bridge := s.bridge, evt := s.evt, out := s.out } = s)) ∧
  (∀ (s : State) (x : Fin 2) (f : Frame) (pcp vid : Nat), s.running = true → s.stationOn x = true → s.rd (FRM_SP_CTL_MODE x) ≠ 3 →
    (∃ t, exec (.stationFrameRx x f true 0 false) s = .next t ∧ t.rd (FRM_SP_ERR_FCS x) = satAdd 16 (s.rd (FRM_SP_ERR_FCS x)) 1 ∧
      s.regsBut t [FRM_SP_ERR_FCS x] ∧ s.onlyRegs t) ∧
    (f.etherType = 0x88F7 → frameLen f + 4 ≤ s.maxFrame → ∃ t, exec (.stationFrameRx x f false 0 false) s = .next t ∧
      t.rd (FRM_SP_RX_FRAMES x) = (s.rd (FRM_SP_RX_FRAMES x) + 1) % 2 ^ 32 ∧ s.regsBut t [FRM_SP_RX_FRAMES x] ∧
      t.bridge = { s.bridge with lanAt := s.bridge.lanAt.set x s.now, lanFailed := s.bridge.lanFailed.set x false }) ∧
    (f.etherType ≠ 0x88F7 → s.redundant = false → f.tag = some (pcp, vid) → 0 < vid → vid < 4095 → frameLen f + 4 ≤ s.maxFrame →
      s.member vid x = true → s.filterOf vid f.da = none → s.rdB FRM_CTL_LEARN_EN = true → groupMac f.sa = false →
      s.staticPort vid f.sa = none → (∀ e ∈ s.bridge.macs, ¬(e.vid = vid ∧ e.mac = f.sa)) → s.bridge.macs.length < 2 ^ 14 - 1 →
      (s.bridge.macs.filter (fun e => Config.macBucket e.vid e.mac = Config.macBucket vid f.sa)).length < 4 →
      ∃ t, exec (.stationFrameRx x f false 0 false) s = .next t ∧ t.bridge.macs = s.bridge.macs ++ [MacEntry.mk vid f.sa x s.now] ∧
        t.rd FRM_STAT_MAC_USED = s.bridge.macs.length + 1 ∧ t.rd (FRM_SP_RX_FRAMES x) = (s.rd (FRM_SP_RX_FRAMES x) + 1) % 2 ^ 32)) ∧
  (∀ (s : State) (i : Fin 128) (f : Frame) (rest : List Frame) (n : Nat) (ds : List Nat), s.running = true → s.bridge.tunWait.get (i + 2) = f :: rest →
    n = s.bportTun (i + 2) → s.canSend 20 n ds → (∀ g ∈ s.hull.ingress, g.tunnel ≠ n) →
    ∃ t, exec (.tunnelFrameSend i) s = .next t ∧ s.sent t 20 n ds (frameWords f) ∧
      t.bridge = { s.bridge with tunWait := s.bridge.tunWait.set (i + 2) rest }) ∧
  (∀ (s : State) (x : Fin 2) (q : Fin 8) (f : Frame) (rest : List Frame), s.running = true → s.stationOn x = true →
    bitOf (s.rd (FRM_SP_STAT_LINE x)) 1 = true → (∀ k ∈ s.compass.sending.get (18 + x), k.until_ ≤ s.now) →
    s.bridge.queues.get (x * 8 + q) = f :: rest → (∀ r < 8, q.val < r → s.bridge.queues.get (x * 8 + r) = []) →
    s.gateHolds (18 + x) q s.datum.whole (s.datum.whole + lineTime (s.rd (FRM_SP_CTL_MODE x)) (frameLen f)) = true →
    ∃ t, exec (.stationFrameTx x) s = .next t ∧ Emit.frame x f ∈ t.out ∧
      t.bridge = { s.bridge with queues := s.bridge.queues.set (x * 8 + q) rest } ∧
      t.rd (FRM_SP_TX_FRAMES x) = (s.rd (FRM_SP_TX_FRAMES x) + 1) % 2 ^ 32 ∧ s.regsBut t [FRM_SP_TX_FRAMES x] ∧
      (t.compass.sending.get (18 + x)).map (·.until_) = some (s.now + lineTime (s.rd (FRM_SP_CTL_MODE x)) (frameLen f))) ∧
  (∀ (s : State) (l : List MacEntry), s.running = true →
    l = s.bridge.macs.filter (fun e => s.now ≤ e.seen + min 1000000 (max 10 (s.rd FRM_AGE_SEC)) * 1000000000) → l.length < 2 ^ 14 →
    ∃ t, exec .macAgeExpiry s = .next t ∧ t.bridge = { s.bridge with macs := l } ∧ t.rd FRM_STAT_MAC_USED = l.length ∧
      s.regsBut t [FRM_STAT_MAC_USED] ∧ { t with regs := s.regs, bridge := s.bridge, evt := s.evt, out := s.out } = s) ∧
  (∀ s : State, s.running = true →
    ∃ t, exec .dupEntryExpiry s = .next t ∧ t.bridge = { s.bridge with dups := s.bridge.dups.filter (fun d => s.now ≤ d.since + 400000000) } ∧
      { t with bridge := s.bridge, evt := s.evt, out := s.out } = s) ∧
  (∀ (s : State) (x : Fin 2), s.running = true → s.redundant = true → s.bridge.lanFailed.get x = false → s.bridge.lanAt.get x + 2 * s.lifecheck < s.now →
    ∃ t, exec (.lanFail x) s = .next t ∧ t.bridge = { s.bridge with lanFailed := s.bridge.lanFailed.set x true } ∧
      s.raised t 0x0E0 [EV_FRM_LAN_FAIL] ∧ s.regsBut t [EVT_LOG_STAT_OVF]) ∧
  (∀ (s : State) (f : Frame) (n : Nat), s.running = true → s.redundant = true → s.bridge.superAt ≤ s.now →
    f = s.superFrame Config.hubMac → n = s.bridge.seqs.get Config.hubMac.toNat →
    s.bridge.proxies.contains Config.hubMac = false →
    ∃ t, exec .supervisionFrameSend s = .next t ∧ t.bridge.superAt = s.now + s.lifecheck ∧
      (s.stationTakes 0 0 { f with red := some { lanB := false, seq := n } } →
        { f with red := some { lanB := false, seq := n } } ∈ t.bridge.queues.get 0) ∧
      (s.stationTakes 1 0 { f with red := some { lanB := true, seq := n } } →
        { f with red := some { lanB := true, seq := n } } ∈ t.bridge.queues.get 8) ∧
      t.bridge.seqs.get Config.hubMac.toNat = (n + 1) % 2 ^ 16 ∧
      s.regsBut t [FRM_SP_DROP_TX 0, FRM_SP_DROP_TX 1, EVT_LOG_STAT_OVF] ∧
      { t with regs := s.regs, pages := s.pages, bridge := s.bridge, evt := s.evt, out := s.out } = s)

/-- R336, R337, R339, R340, R343, R344: the lines of the station ports, GOOSE and the records of the bridge.
The model's choices that its clauses rest on: assumption log 14, 18, 40. -/
def Obligations.StationAndGooseRows : Prop :=
  (∀ (s : State) (x : Fin 2), s.running = true →
    (s.rd (FRM_SP_CTL_MODE x) = 3 → bitOf (s.rd (FRM_SP_STAT_LINE x)) 1 = false →
      ∃ t, exec (.stationLinkUp x) s = .next t ∧ t.rd (FRM_SP_STAT_LINE x) = putBits (s.rd (FRM_SP_STAT_LINE x)) 1 3 7 % 2 ^ 7 ∧
        s.raised t (0x0E1 + x) [EV_FRMSP_LINK_UP] ∧ s.regsBut t [FRM_SP_STAT_LINE x, EVT_LOG_STAT_OVF] ∧ s.onlyRegs t) ∧
    (bitOf (s.rd (FRM_SP_STAT_LINE x)) 1 = true →
      ∃ t, exec (.stationLinkDown x false) s = .next t ∧ bitOf (t.rd (FRM_SP_STAT_LINE x)) 1 = false ∧
        bitOf (t.rd (FRM_SP_STAT_LINE x)) 3 = false ∧ s.raised t (0x0E1 + x) [EV_FRMSP_LINK_DOWN] ∧
        s.regsBut t [FRM_SP_STAT_LINE x, EVT_LOG_STAT_OVF] ∧ s.onlyRegs t)) ∧
  (∀ (s : State) (x : Fin 2) (v : BitVec 3), s.running = true → bitOf (s.rd (FRM_SP_STAT_LINE x)) 6 ≠ v.getLsbD 2 →
    ∃ t, exec (.sfpSidebandChange x v) s = .next t ∧ bitsOf (t.rd (FRM_SP_STAT_LINE x)) 4 3 = v.toNat ∧
      t.bridge.txDisable.get x = (decide (s.rd (FRM_SP_CTL_MODE x) = 0) || v.getLsbD 2) ∧
      (t.pages.get (0x0E1 + x)).stat.getLsbD EV_FRMSP_MODULE = true ∧ s.regsBut t [FRM_SP_STAT_LINE x, EVT_LOG_STAT_OVF]) ∧
  (∀ (s : State) (x : Fin 2) (v : Reg), s.running = true → s.rdB (FRM_SP_I2C_BUSY x) = false →
    ∃ t, exec (.sfpI2cCmd x v) s = .next t ∧ t.rd (FRM_SP_I2C_BUSY x) = 1 ∧ t.rd (FRM_SP_I2C_RD x) = fld v 24 1 ∧
      t.rd (FRM_SP_I2C_DEV x) = fld v 16 8 ∧ t.rd (FRM_SP_I2C_ADDR x) = fld v 8 8 ∧ t.rd (FRM_SP_I2C_DATA x) = fld v 0 8 ∧
      Emit.i2c x (decide (fld v 24 1 = 1)) (fld v 16 8) (fld v 8 8) (fld v 0 8) ∈ t.out ∧
      s.regsBut t [FRM_SP_I2C_BUSY x, FRM_SP_I2C_RD x, FRM_SP_I2C_DEV x, FRM_SP_I2C_ADDR x, FRM_SP_I2C_DATA x] ∧ s.onlyRegs t) ∧
  (∀ (s : State) (x : Fin 2) (nack : Bool) (d : BitVec 8), s.running = true → s.rdB (FRM_SP_I2C_BUSY x) = true →
    ∃ t, exec (.sfpI2cDone x nack d) s = .next t ∧ t.rd (FRM_SP_I2C_BUSY x) = 0 ∧ t.rd (FRM_SP_I2C_NACK x) = b2n nack ∧
      t.rd (FRM_SP_I2C_DATA x) = (if s.rdB (FRM_SP_I2C_RD x) && !nack then d.toNat else s.rd (FRM_SP_I2C_DATA x)) ∧
      s.regsBut t [FRM_SP_I2C_BUSY x, FRM_SP_I2C_NACK x, FRM_SP_I2C_DATA x] ∧ s.onlyRegs t) ∧
  (∀ (s : State) (a : Arrival) (rest : List Arrival) (g : GooseFrame) (r : Fin 256) (v : Bool) (op : Nat), s.running = true → s.bridge.forGoose = a :: rest →
    a.f.body = .goose g →
    ((g.sim = true ∨ a.ok = false) → ∃ t, exec .gooseFrameRx s = .next t ∧ t.bridge = { s.bridge with forGoose := rest } ∧
      { t with bridge := s.bridge, evt := s.evt, out := s.out } = s) ∧
    (g.sim = false → a.ok = true → (List.range 256).filter (fun r => s.gooseFits r a g) = [r.val] → bitOf (s.gooseW r 0) 13 = false →
      g.data[bitsOf (s.gooseW r 6) 8 6]? = some (.bool v) → bitsOf (s.gooseW r 6) 0 7 = 127 → g.confRev = s.gooseW r 4 → g.ndsCom = false →
      (s.goose r).lastSt ≠ some g.stNum → g.stNum < 2 ^ 32 → g.sqNum < 2 ^ 32 →
      op = bitsOf (s.gooseW r 3) (if v then 24 else 16) 8 → op ≠ 0 → a.at_ ≤ s.now →
      ∃ t, exec .gooseFrameRx s = .next t ∧ t.goose r = { s.goose r with
          lastSt := some g.stNum, liveUntil := some (a.at_ + ms g.ttl), lost := false, op := op, test := false } ∧
        t.frm 7 r 0 0 = g.stNum ∧ t.frm 7 r 0 1 = g.sqNum ∧ t.bridge.forGoose = rest)) ∧
  (∀ (s : State) (r : Fin 256) (u : Nat), s.running = true → (s.goose r).liveUntil = some u → u < s.now → bitOf (s.gooseW r 0) 31 = true →
    bitOf (s.gooseW r 0) 30 = false → (s.goose r).lost = false → s.gooseWaits r u = false →
    ∃ t, exec (.gooseTalExpiry r) s = .next t ∧ t.goose r = { s.goose r with
        lost := true, lastSt := none, liveUntil := none, op := bitsOf (s.gooseW r 3) 8 8, test := false } ∧
      bitsOf (t.frm 7 r 0 2) 0 16 = satAdd 16 (bitsOf (s.frm 7 r 0 2) 0 16) 1 ∧
      (t.pages.get 0x0E0).stat.getLsbD EV_FRM_GOOSE_LOSS = true) ∧
  (∀ (s : State) (r : Fin 256) (x : Fin 2) (u sq iv : Nat) (f : Frame), s.running = true → (s.goose r).nextAt = some u → u ≤ s.now → bitOf (s.gooseW r 0) 31 = true →
    bitOf (s.gooseW r 0) 13 = false → sq = (s.frm 7 r 0 1 + 1) % 2 ^ 32 → iv = min (2 * (s.goose r).interval) (s.gooseT0 r) →
    f = s.gooseFrame r (s.frm 7 r 0 0) sq (3 * iv) → s.redundant = false → bitsOf (s.gooseW r 0) 28 2 = 2 ^ x.val →
    s.stationTakes x (bitsOf (s.gooseW r 6) 17 3) f →
    ∃ t, exec (.gooseRetransmit r) s = .next t ∧ t.goose r = { s.goose r with interval := iv, nextAt := some (s.now + ms iv) } ∧
      t.frm 7 r 0 1 = sq ∧ t.frm 7 r 0 0 = s.frm 7 r 0 0 % 2 ^ 32 ∧ t.bridge.queues.get (x * 8 + bitsOf (s.gooseW r 6) 17 3) = s.bridge.queues.get (x * 8 + bitsOf (s.gooseW r 6) 17 3) ++ [f] ∧
      { t with records := s.records, bridge := s.bridge, evt := s.evt, out := s.out } = s) ∧
  (∀ (s : State) (k i e : Nat), s.running = true → s.rdB FRM_CMD_BUSY = false → k = s.rd FRM_SEL_KIND → i = s.rd FRM_SEL_INDEX →
    e = s.rd FRM_SEL_ENTRY →
    (frmIndexOk k i e = true → ∃ t, exec .frmRead s = .next t ∧ t.rd FRM_CMD_STATUS = 0 ∧
      (∀ w < 4, t.rd (FRM_DATA_WORD w) = s.frm k i e w % 2 ^ 32) ∧
      s.regsBut t [FRM_CMD_STATUS, FRM_DATA_WORD 0, FRM_DATA_WORD 1, FRM_DATA_WORD 2, FRM_DATA_WORD 3] ∧ s.onlyRegs t) ∧
    (frmIndexOk k i e = false → ∃ t, exec .frmRead s = .next t ∧ t.rd FRM_CMD_STATUS = 3 ∧ s.regsBut t [FRM_CMD_STATUS] ∧ s.onlyRegs t)) ∧
  (∀ (s : State) (k i e : Nat), s.running = true → s.rdB FRM_CMD_BUSY = false → k = s.rd FRM_SEL_KIND → i = s.rd FRM_SEL_INDEX →
    e = s.rd FRM_SEL_ENTRY → frmIndexOk k i e = true →
    (s.locked 0x0E0 = false → (k = 1 ∨ k = 3 ∨ k = 5 ∨ k = 8) →
      ∃ t, exec .frmWrite s = .next t ∧ t.rd FRM_CMD_STATUS = 0 ∧
        (∀ w < 4, t.frm k i e w = ((frmMasks k e).getD w 0 &&& s.rd (FRM_DATA_WORD w)) % 2 ^ 32) ∧ s.regsBut t [FRM_CMD_STATUS] ∧
        { t with regs := s.regs, records := s.records, evt := s.evt, out := s.out } = s) ∧
    (k ≠ 7 → s.locked 0x0E0 = true → ∃ t, exec .frmWrite s = .next t ∧ t.rd FRM_CMD_STATUS = 1 ∧ s.raised t 0x0E0 [EV_FRM_CFG_REJECT] ∧
      s.regsBut t [FRM_CMD_STATUS, EVT_LOG_STAT_OVF] ∧ s.onlyRegs t))

/-! ## The host link and windows -/

/-- R347–R349, R352, R355, R358, R360–R363, R365, R368–R370: the host link, its configuration requests, and reads and writes of windows.
The model's choices that its clauses rest on: assumption log 5 (a register the spec does not describe), 41, 46. -/
def Obligations.HostAndWindowRows : Prop :=
  (∀ (s : State) (speed : Fin 5) (width : Fin 17) (cs cw : Nat), s.running = true → s.isRoot = true → bitOf (s.rd CHIP_STRAP_STRAPS) 2 = true →
    cs = speedCap (s.rd WIN_PCIE_CTL_MAX_SPEED) → cw = widthCap (s.rd WIN_PCIE_CTL_MAX_WIDTH) →
    ∃ t, exec (.pcieLinkUp speed width) s = .next t ∧ t.rd WIN_PCIE_STAT_SPEED = min (max 1 speed.val) cs ∧
      t.rd WIN_PCIE_STAT_WIDTH ∈ [1, 2, 4, 8] ∧ t.rd WIN_PCIE_STAT_WIDTH ≤ max 1 (min width.val cw) ∧
      (∀ w ∈ [1, 2, 4, 8], w ≤ width.val → w ≤ cw → w ≤ t.rd WIN_PCIE_STAT_WIDTH) ∧ t.hostUp = true ∧
      t.rd WIN_PCIE_CNT_RECOVERY = (if s.hostUp = true then satAdd 16 (s.rd WIN_PCIE_CNT_RECOVERY) 1 else s.rd WIN_PCIE_CNT_RECOVERY) ∧
      s.regsBut t [WIN_PCIE_STAT_SPEED, WIN_PCIE_STAT_WIDTH, WIN_PCIE_STAT_LINK_UP, WIN_PCIE_CNT_RECOVERY, WIN_PCIE_STAT_L1,
        EVT_LOG_STAT_OVF] ∧ s.onlyRegs t) ∧
  (∀ s : State, s.running = true → s.hostUp = true →
    (∃ t, exec .pcieLinkDown s = .next t ∧ t.hostUp = false ∧ t.rd WIN_PCIE_STAT_SPEED = 0 ∧ t.rd WIN_PCIE_STAT_WIDTH = 0 ∧
      t.rd WIN_PCIE_CNT_LINK_DOWN = satAdd 16 (s.rd WIN_PCIE_CNT_LINK_DOWN) 1 ∧ t.win.funcs = Map.empty ∧ t.win.maxPayload = 128 ∧
      t.rd EVT_STAT_MSIX_READY = 0 ∧ s.raised t 0x0F1 [EV_PCIE_LINK_DOWN] ∧ s.regsBut t [WIN_PCIE_STAT_LINK_UP, WIN_PCIE_STAT_SPEED,
        WIN_PCIE_STAT_WIDTH, WIN_PCIE_STAT_L1, WIN_PCIE_CNT_LINK_DOWN, EVT_STAT_MSIX_READY, EVT_LOG_STAT_OVF]) ∧
    ∃ t, exec .hotReset s = .next t ∧ t.hostUp = true ∧ t.win.funcs = Map.empty ∧ t.win.maxPayload = 128 ∧ t.rd EVT_STAT_MSIX_READY = 0 ∧
      s.raised t 0x0F1 [EV_PCIE_HOT_RESET] ∧ s.regsBut t [EVT_STAT_MSIX_READY, WIN_PCIE_STAT_L1, EVT_LOG_STAT_OVF]) ∧
  (∀ (s : State) (f : Fin 3) (r : CfgReg) (wr : Bool) (v : Reg) (tag : BitVec 10), s.running = true → s.hostUp = true →
    (s.now < s.win.cfgReadyAt → ∃ t, exec (.configRequest f r wr v tag) s = .next t ∧ Emit.completion tag.toNat 3 [] ∈ t.out ∧
      { t with evt := s.evt, out := s.out } = s) ∧
    (s.win.cfgReadyAt ≤ s.now → ∃ t, exec (.configRequest f .id false v tag) s = .next t ∧
      Emit.completion tag.toNat 0 [deviceOf f * 65536 + s.rd CHIP_ID_VENDOR] ∈ t.out ∧ { t with evt := s.evt, out := s.out } = s) ∧
    (s.win.cfgReadyAt ≤ s.now → (v.toNat % 4 = 0 ∨ v.toNat % 4 = 3) → ∃ t, exec (.configRequest f .powerState true v tag) s = .next t ∧ Emit.completion tag.toNat 0 [] ∈ t.out ∧
      t.pf f = { s.pf f with power := v.toNat % 4 } ∧ s.regsBut t [EVT_STAT_MSIX_READY, WIN_PCIE_STAT_L1] ∧
      { t with regs := s.regs, win := s.win, evt := s.evt, out := s.out } = s)) ∧
  (∀ (s : State) (apt : Bool) (o : BitVec 36) (len : Fin 1025) (fbe lbe : BitVec 4) (tag : BitVec 10) (w n a g : Nat) (e : PfEntry) (ds : List Nat),
    s.running = true → s.hostUp = true → s.rd WIN_STAT_NP_OUT < 256 →
    (s.winMatch apt o.toNat = none → ∃ t, exec (.hostRead apt o len fbe lbe tag) s = .next t ∧
      Emit.completion tag.toNat 0 (allOnes (max 1 len)) ∈ t.out ∧ t.rd WIN_ERR_UNMAPPED = satAdd 16 (s.rd WIN_ERR_UNMAPPED) 1 ∧
      s.raised t 0x0F0 [EV_WIN_UNMAPPED] ∧ s.regsBut t [WIN_ERR_UNMAPPED, EVT_LOG_STAT_OVF] ∧ s.onlyRegs t) ∧
    (s.winMatch apt o.toNat = some w → n = s.winTun w → s.canSend 21 n ds → a = (s.winBase w + (o.toNat - s.winOff w)) / 4 * 4 →
      (∀ r ∈ s.win.reqs, r.tunnel = n → r.sent = true ∨ r.waits ≠ none) → s.winPrefetch w = false → s.freeTag = some g →
      ∃ t, exec (.hostRead apt o len fbe lbe tag) s = .next t ∧
        t.win.reqs = s.win.reqs ++ [{ tag := g, hostTag := tag.toNat, window := w, tunnel := n, addr := a, len := max 1 len,
                                      fbe := fbe.toNat, lbe := lbe.toNat, sent := true }] ∧
        s.sent t 21 n ds (winReqWords 1 g false (max 1 len) lbe.toNat fbe.toNat a []) ∧
        t.rd WIN_STAT_NP_OUT = ((s.win.reqs.filter (fun r => !r.write && !r.spec)).length + 1) % 2 ^ 9) ∧
    (s.winMatch apt o.toNat = some w → n = s.winTun w → (s.tun n).e.state = .opened → a = (s.winBase w + (o.toNat - s.winOff w)) / 4 * 4 →
      (∀ r ∈ s.win.reqs, r.tunnel = n → r.sent = true ∨ r.waits ≠ none) → s.winPrefetch w = true → s.winFault w = false →
      s.win.prefetch.find? (fun x => x.tunnel = n && x.lo ≤ a && a + max 1 len.val * 4 ≤ x.lo + x.len) = some e → e.filledAt.isSome = true →
      ∃ t, exec (.hostRead apt o len fbe lbe tag) s = .next t ∧
        Emit.completion tag.toNat 0 (dwords ((e.data.drop (a - e.lo)).take (max 1 len.val * 4))) ∈ t.out ∧ t.win.reqs = s.win.reqs ∧
        t.rd WIN_PF_HITS = (s.rd WIN_PF_HITS + 1) % 2 ^ 16 ∧ t.hull = s.hull)) ∧
  (∀ (s : State) (apt : Bool) (o : BitVec 36) (data : List Reg) (fbe lbe : BitVec 4) (w n a : Nat) (ds : List Nat), s.running = true →
    s.hostUp = true → data ≠ [] →
    (s.winMatch apt o.toNat = none → ∃ t, exec (.hostWrite apt o data fbe lbe) s = .next t ∧
      t.rd WIN_ERR_UNMAPPED = satAdd 16 (s.rd WIN_ERR_UNMAPPED) 1 ∧ s.raised t 0x0F0 [EV_WIN_UNMAPPED] ∧ t.win = s.win ∧ t.hull = s.hull) ∧
    (s.winMatch apt o.toNat = some w → n = s.winTun w → s.canSend 21 n ds → a = (s.winBase w + (o.toNat - s.winOff w)) / 4 * 4 →
      (∀ r ∈ s.win.reqs, r.tunnel = n → r.sent = true ∨ r.waits ≠ none) →
      (∀ e ∈ s.win.prefetch, e.tunnel = n → e.lo < a + data.length * 4 → e.lo + e.len ≤ a) →
      ∃ t, exec (.hostWrite apt o data fbe lbe) s = .next t ∧ t.win = s.win ∧
        s.sent t 21 n ds (winReqWords 2 0 false data.length lbe.toNat fbe.toNat a (data.flatMap (fun d => natBytes 4 d.toNat))))) ∧
  (∀ (s : State) (n : BitVec 12) (r : WinReq) (g : Nat) (ds : List Nat), s.running = true →
    s.win.reqs.filter (fun x => x.tunnel = n.toNat && !x.sent && x.waits.isNone) = [r] → s.canSend 21 n.toNat ds →
    (r.write = true → (∀ e ∈ s.win.prefetch, e.tunnel = n.toNat → e.lo < r.addr + r.len * 4 → e.lo + e.len ≤ r.addr) →
      ∃ t, exec (.heldRequestResume n) s = .next t ∧ t.win.reqs = s.win.reqs.filter (· ≠ r) ∧
        s.sent t 21 n.toNat ds (winReqWords 2 0 false r.len r.lbe r.fbe r.addr r.data)) ∧
    (r.write = false → s.winPrefetch r.window = false → s.freeTag = some g →
      ∃ t, exec (.heldRequestResume n) s = .next t ∧
        t.win.reqs = s.win.reqs.map (fun x => if x = r then { r with tag := g, sent := true } else x) ∧
        s.sent t 21 n.toNat ds (winReqWords 1 g false r.len r.lbe r.fbe r.addr []))) ∧
  (∀ (s : State) (n : BitVec 12) (msg : List Word) (r : WinReq), s.running = true → fld (msg.getD 0 0) 36 4 = 8 →
    (s.win.reqs.find? (fun r => !r.write && r.sent && r.tag = fld (msg.getD 0 0) 28 8 && r.tunnel = n.toNat) = none →
      ∃ t, exec (.readRspRx n msg false) s = .next t ∧ t.rd WIN_ERR3_LATE = satAdd 16 (s.rd WIN_ERR3_LATE) 1 ∧
      s.raised t 0x0F0 [EV_WIN_LATE] ∧ s.regsBut t [WIN_ERR3_LATE, EVT_LOG_STAT_OVF] ∧ s.onlyRegs t) ∧
    (s.win.reqs.find? (fun r => !r.write && r.sent && r.tag = fld (msg.getD 0 0) 28 8 && r.tunnel = n.toNat) = some r →
      r.spec = false → r.silent = false →
      (fld (msg.getD 0 0) 24 4 = 0 → ∃ t, exec (.readRspRx n msg false) s = .next t ∧ t.win.reqs = s.win.reqs.filter (· ≠ r) ∧
        Emit.completion r.hostTag 0 (dwords (unpackBytes (msg.drop 1) (r.len * 4))) ∈ t.out ∧ s.regsBut t [WIN_STAT_NP_OUT]) ∧
      ∃ t, exec (.readRspRx n msg true) s = .next t ∧ t.win.reqs = s.win.reqs.filter (· ≠ r) ∧
        Emit.completion r.hostTag (if s.rdB WIN_CTL_EP_EN then 4 else 0) (allOnes r.len) ∈ t.out ∧
        t.rd WIN_ERR2_DOCK = satAdd 16 (s.rd WIN_ERR2_DOCK) 1 ∧ s.regsBut t [WIN_STAT_NP_OUT, WIN_ERR2_DOCK, EVT_LOG_STAT_OVF])) ∧
  (∀ (s : State) (n : BitVec 12) (msg : List Word) (a : Nat) (o : Option Nat), s.running = true → fld (msg.getD 0 0) 36 4 = 9 → a = (msg.getD 1 0).toNat →
    o = (List.range 256).find? (fun w => s.winValid w && s.winTun w = n.toNat && s.winBase w ≤ a && a < s.winBase w + 2 ^ s.winSize w) →
    ∃ t, exec (.writeErrRx n msg) s = .next t ∧ t.rd WIN_ERR2_DOCK = satAdd 16 (s.rd WIN_ERR2_DOCK) 1 ∧
      ((s.pages.get 0x0F0).full = false → (t.pages.get 0x0F0).capt = BitVec.ofNat 40 a) ∧
      s.raised t 0x0F0 [EV_WIN_DOCK_ERR] ∧ s.regsBut t [WIN_ERR2_DOCK, EVT_LOG_STAT_OVF] ∧ (o = none → s.onlyRegs t) ∧
      (∀ w ∈ o, bitsOf (t.winW w 3) 16 16 = satAdd 16 (bitsOf (s.winW w 3) 16 16) 1) ∧
      { t with regs := s.regs, pages := s.pages, records := s.records, evt := s.evt, out := s.out } = s) ∧
  (∀ (s : State) (r : WinReq), s.running = true → r.write = false → r.spec = false → r.silent = false →
    (s.win.reqs.filter (fun x => !x.write && s.rdTimeout < x.ran) = [r] →
      ∃ t, exec .hostReadTimeout s = .next t ∧ t.win.reqs = s.win.reqs.filter (· ≠ r) ∧ Emit.completion r.hostTag 0 (allOnes r.len) ∈ t.out ∧
      t.rd WIN_ERR_TIMEOUT = satAdd 16 (s.rd WIN_ERR_TIMEOUT) 1 ∧ s.raised t 0x0F0 [EV_WIN_TIMEOUT] ∧
      s.regsBut t [WIN_STAT_NP_OUT, WIN_ERR_TIMEOUT, EVT_LOG_STAT_OVF]) ∧
    (s.win.reqs.filter (fun x => s.pathGrace x.tunnel < x.held) = [r] →
      ∃ t, exec .hostReadHoldLimit s = .next t ∧ t.win.reqs = s.win.reqs.filter (· ≠ r) ∧
      Emit.completion r.hostTag 0 (allOnes r.len) ∈ t.out ∧ t.rd WIN_ERR2_LINK = satAdd 16 (s.rd WIN_ERR2_LINK) 1 ∧
      s.raised t 0x0F0 [EV_WIN_LINK_FAIL] ∧ s.regsBut t [WIN_STAT_NP_OUT, WIN_ERR2_LINK, EVT_LOG_STAT_OVF])) ∧
  (∀ (s : State), s.running = true →
    ∃ t, exec .prefetchAgeExpiry s = .next t ∧
      t.win = { s.win with prefetch := s.win.prefetch.filter (fun e =>
        (e.filledAt.map (fun u => decide (s.now ≤ u + us (min 1000 (max 1 (s.rd WIN_TIMING_PF_AGE)))))).getD true) } ∧
      { t with win := s.win, evt := s.evt, out := s.out } = s)

/-- R354, R356, R367, R371–R379, R383: interrupt words, reverse windows and the records of the window bridge.
The model's choices that its clauses rest on: assumption log 11, 18, 41. -/
def Obligations.InterruptAndReverseRows : Prop :=
  (∀ (s : State) (d : Fin 64) (ds : List Nat) (x : Poll), s.running = true → s.isRoot = true → s.intValid d = true → x = s.win.polls.get d → x.nextAt ≤ s.now →
    (x.out = none → s.canSend 21 (s.intTun d) ds →
      ∃ t, exec (.intPoll d) s = .next t ∧
        t.win.polls.get d = { x with nextAt := s.now + s.intPeriod d, count := (x.count + 1) % 256, out := some (x.count, s.now) } ∧
        s.sent t 21 (s.intTun d) ds [pack [(36, 4, 3), (28, 8, x.count), (27, 1, b2n x.ack.isSome), (19, 8, x.ack.getD 0)],
          pack [(0, 40, s.recW 0x0F0 3 d 0 1 + bitsOf (s.recW 0x0F0 3 d 0 2) 0 8 * 2 ^ 32)]]) ∧
    (x.out ≠ none → ∃ t, exec (.intPoll d) s = .next t ∧ t.win.polls.get d = { x with nextAt := s.now + s.intPeriod d } ∧
      t.rd WIN_INT_CNT_SKIP = satAdd 16 (s.rd WIN_INT_CNT_SKIP) 1 ∧ s.raised t 0x0F2 [EV_WINT_POLL_SKIP] ∧
      s.regsBut t [WIN_INT_CNT_SKIP, EVT_LOG_STAT_OVF] ∧ t.hull = s.hull)) ∧
  (∀ (s : State) (d : Fin 64) (x : Nat × Nat), s.running = true → (s.win.polls.get d).out = some x → x.2 + s.rdTimeout < s.now →
    ∃ t, exec (.intPollTimeout d) s = .next t ∧ t.win.polls.get d = { s.win.polls.get d with out := none, ack := none } ∧
      t.rd WIN_INT_CNT_TIMEOUT = satAdd 16 (s.rd WIN_INT_CNT_TIMEOUT) 1 ∧ s.raised t 0x0F2 [EV_WINT_POLL_TIMEOUT] ∧
      s.regsBut t [WIN_INT_CNT_TIMEOUT, EVT_LOG_STAT_OVF]) ∧
  (∀ (s : State) (n : BitVec 12) (msg : List Word) (tag : Nat) (d : Fin 64) (o : Option Nat), s.running = true → fld (msg.getD 0 0) 36 4 = 10 → tag = fld (msg.getD 0 0) 28 8 →
    o = (List.range 64).find? (fun d => s.intValid d && s.intTun d = n.toNat && ((s.win.polls.get d).out).map (·.1) = some tag) →
    (o = some d.val →
      ∃ t, exec (.intRspRx n msg) s = .next t ∧ t.rd (WIN_INT_PEND_PEND d) = (s.rd (WIN_INT_PEND_PEND d) ||| fld (msg.getD 1 0) 0 32) % 2 ^ 32 ∧
        t.win.polls.get d = { s.win.polls.get d with out := none, ack := some tag } ∧ s.regsBut t [WIN_INT_PEND_PEND d] ∧
        (s.rd (WIN_INT_PEND_PEND d) ||| fld (msg.getD 1 0) 0 32 ≠ s.rd (WIN_INT_PEND_PEND d) → s.win.upstream.any (fun u => u.writesOf d) = false →
          s.vectorOpen 1 d = true → Emit.msix 1 d (s.evt.msix.get (64 + d)).addr (s.evt.msix.get (64 + d)).data ∈ t.out)) ∧
    (o = none →
      ∃ t, exec (.intRspRx n msg) s = .next t ∧ t.rd WIN_ERR3_LATE = satAdd 16 (s.rd WIN_ERR3_LATE) 1 ∧ s.raised t 0x0F0 [EV_WIN_LATE] ∧
        s.regsBut t [WIN_ERR3_LATE, EVT_LOG_STAT_OVF] ∧ s.onlyRegs t)) ∧
  (∀ (s : State) (n : BitVec 12) (msg : List Word) (d rseq idx len off : Nat) (ds : List Nat), s.running = true → fld (msg.getD 0 0) 36 4 = 11 →
    d = (s.tun n.toNat).e.srcDock → rseq = fld (msg.getD 0 0) 28 8 → len = fld (msg.getD 0 0) 16 11 → idx = fld (msg.getD 0 0) 0 6 →
    off = (msg.getD 1 0).toNat →
    (1 ≤ modSub 8 rseq (s.win.reverse.get d).expected → modSub 8 rseq (s.win.reverse.get d).expected < 128 →
      ∃ t, exec (.rwriteRx n msg) s = .next t ∧ t.rd WIN_RW_DISCARD = satAdd 16 (s.rd WIN_RW_DISCARD) 1 ∧ s.regsBut t [WIN_RW_DISCARD] ∧
        s.onlyRegs t) ∧
    (rseq = (s.win.reverse.get d).expected → bitOf (s.rwinW idx 0) 31 = false → s.canSend 21 n.toNat ds →
      ∃ t, exec (.rwriteRx n msg) s = .next t ∧ s.sent t 21 n.toNat ds [pack [(36, 4, 6), (28, 8, rseq), (24, 4, 1)]] ∧
        t.win.reverse.get d = { s.win.reverse.get d with expected := (rseq + 1) % 256 } ∧
        t.rd WIN_RW2_REFUSE = satAdd 16 (s.rd WIN_RW2_REFUSE) 1 ∧ s.regsBut t [WIN_RW2_REFUSE, EVT_LOG_STAT_OVF]) ∧
    (rseq = (s.win.reverse.get d).expected → bitOf (s.rwinW idx 0) 31 = true → bitsOf (s.rwinW idx 0) 24 6 = d →
      off + len * 4 ≤ 2 ^ bitsOf (s.rwinW idx 0) 16 6 → s.hostUp = true → s.busMaster 1 = true →
      s.backOff d (len * 4) = none → (s.win.reverse.get d).owed < 15 →
      ∃ t, exec (.rwriteRx n msg) s = .next t ∧
        t.win.upstream = s.win.upstream ++ [.write d (bitsOf (s.rwinW idx 1) 12 20 * 4096 + s.rwinW idx 2 * 2 ^ 32 + off) (unpackBytes (msg.drop 2) (len * 4))
          (fld (msg.getD 0 0) 8 4) (fld (msg.getD 0 0) 12 4)] ∧
        t.win.reverse.get d = { s.win.reverse.get d with expected := (rseq + 1) % 256, owed := (s.win.reverse.get d).owed + 1, dueAt :=
                                                           some ((s.win.reverse.get d).dueAt.getD (s.now + 10000)), tunnel := n.toNat } ∧
        s.regsBut t [WIN_STAT_RW_LEVEL])) ∧
  (∀ (s : State) (d a fbe lbe n : Nat) (b : List Nat) (rest : List Upstream), s.running = true → s.hostUp = true → s.busMaster 1 = true →
    s.win.upstream = .write d a b fbe lbe :: rest → n = min s.win.maxPayload (4096 - a % 4096) →
    (b.length ≤ n → ∃ t, exec .reverseWriteUpstream s = .next t ∧ Emit.posted a b fbe lbe ∈ t.out ∧
      t.win = { s.win with upstream := rest.dropWhile Upstream.isVector } ∧ s.regsBut t [WIN_STAT_RW_LEVEL] ∧
      { t with regs := s.regs, win := s.win, evt := s.evt, out := s.out } = s) ∧
    (n < b.length → ∃ t, exec .reverseWriteUpstream s = .next t ∧ Emit.posted a (b.take n) fbe 15 ∈ t.out ∧
      t.win = { s.win with upstream := .write d (a + n) (b.drop n) 15 lbe :: rest } ∧ s.regsBut t [WIN_STAT_RW_LEVEL] ∧
      { t with regs := s.regs, win := s.win, evt := s.evt, out := s.out } = s)) ∧
  (∀ (s : State) (d : Fin 64) (r : Reverse) (ds : List Nat), s.running = true → r = s.win.reverse.get d → r.owed ≠ 0 → s.canSend 21 r.tunnel ds →
    ∃ t, exec (.rwAckSend d) s = .next t ∧ t.win.reverse.get d = { r with owed := 0, dueAt := none } ∧
      s.sent t 21 r.tunnel ds [pack [(36, 4, 4), (28, 8, (r.expected + 255) % 256)]]) ∧
  (∀ (s : State) (k i : Nat), s.running = true → s.rdB WIN_CMD_BUSY = false → k = s.rd WIN_SEL_KIND → i = s.rd WIN_SEL_INDEX →
    (winIndexOk k i = true → ∃ t, exec .winRead s = .next t ∧ t.rd WIN_CMD_STATUS = 0 ∧
      (∀ w < 4, t.rd (WIN_DATA_WORD w) = s.recW 0x0F0 k i 0 w % 2 ^ 32) ∧
      s.regsBut t [WIN_CMD_STATUS, WIN_DATA_WORD 0, WIN_DATA_WORD 1, WIN_DATA_WORD 2, WIN_DATA_WORD 3] ∧ s.onlyRegs t) ∧
    (winIndexOk k i = false → ∃ t, exec .winRead s = .next t ∧ t.rd WIN_CMD_STATUS = 3 ∧ s.regsBut t [WIN_CMD_STATUS] ∧ s.onlyRegs t)) ∧
  (∀ (s : State) (k i : Nat), s.running = true → s.rdB WIN_CMD_BUSY = false → k = s.rd WIN_SEL_KIND → i = s.rd WIN_SEL_INDEX →
    (winIndexOk k i = true → s.locked 0x0F0 = true → ∃ t, exec .winWrite s = .next t ∧ t.rd WIN_CMD_STATUS = 1 ∧
      s.raised t 0x0F0 [EV_WIN_CFG_REJECT] ∧ s.regsBut t [WIN_CMD_STATUS, EVT_LOG_STAT_OVF] ∧ s.onlyRegs t) ∧
    (k = 3 → i < 64 → s.locked 0x0F0 = false → s.intOk (s.rd (WIN_DATA_WORD 0)) (s.rd (WIN_DATA_WORD 1)) = true →
      ∃ t, exec .winWrite s = .next t ∧ t.rd WIN_CMD_STATUS = 0 ∧
        t.recW 0x0F0 3 i 0 0 = (0xFFF83FFF &&& s.rd (WIN_DATA_WORD 0)) % 2 ^ 32 ∧
        t.win.polls.get i = { nextAt := s.now + us (bitsOf (s.rd (WIN_DATA_WORD 0)) 0 14) } ∧ s.regsBut t [WIN_CMD_STATUS] ∧
        { t with regs := s.regs, records := s.records, win := s.win, evt := s.evt, out := s.out } = s) ∧
    (k = 1 → i < 256 → s.locked 0x0F0 = false → bitOf (s.winW i 0) 31 = true → bitOf (s.rd (WIN_DATA_WORD 0)) 31 = true →
      ∃ t, exec .winWrite s = .next t ∧ t.rd WIN_CMD_STATUS = 1 ∧ t.win = s.win ∧ t.records = s.records) ∧
    (k = 2 → i < 64 → s.locked 0x0F0 = false → bitOf (s.recW 0x0F0 2 i 0 0) 31 = false →
      rwindowOk (s.rd (WIN_DATA_WORD 0)) (s.rd (WIN_DATA_WORD 1)) (s.rd (WIN_DATA_WORD 2)) = true →
      ∃ t, exec .winWrite s = .next t ∧ t.rd WIN_CMD_STATUS = 0 ∧
        t.recW 0x0F0 2 i 0 0 = (0xBF3F0000 &&& s.rd (WIN_DATA_WORD 0)) % 2 ^ 32 ∧
        t.recW 0x0F0 2 i 0 1 = (0xFFFFF000 &&& s.rd (WIN_DATA_WORD 1)) % 2 ^ 32 ∧ t.recW 0x0F0 2 i 0 2 = s.rd (WIN_DATA_WORD 2) % 2 ^ 32 ∧
        s.regsBut t [WIN_CMD_STATUS] ∧ { t with regs := s.regs, records := s.records, evt := s.evt, out := s.out } = s)) ∧
  (∀ (s : State) (i : Nat), s.running = true → s.rdB WIN_CMD_BUSY = false → s.rd WIN_SEL_KIND = 1 → i = s.rd WIN_SEL_INDEX → i < 256 →
    s.win.faultAt.get i ≠ some s.now →
    ∃ t, exec .pfRestore s = .next t ∧ t.rd WIN_CMD_STATUS = 0 ∧ t.winFault i = false ∧ t.winW i 0 = putBits (s.winW i 0) 10 1 0 % 2 ^ 32 ∧
      s.regsBut t [WIN_CMD_STATUS] ∧ { t with regs := s.regs, records := s.records, evt := s.evt, out := s.out } = s)

/-! ## Peripheral tunnels -/

/-- R390–R394, R397, R403: tokens at the upstream port, transfers and what docks answer.
The model's choices that its clauses rest on: assumption log 23, 58. -/
def Obligations.UsbTokenRows : Prop :=
  (∀ (u s : State) (k : UsbTok), u.running = true → s = u.usbSync → s.usbOn = true → s.rdB PER_USB_STAT_SUSPENDED = false →
    (k.addr ≠ 0 → s.usb.binds.lookup k.addr = none → ∃ t, exec (.usbTokenRx k) u = .next t ∧ { t with evt := s.evt, out := s.out } = s) ∧
    (k.addr = 0 → (s.vhub 0).addr = 0 → k.pid = .setup → k.bytes = [0, 9, 1, 0, 0, 0, 0, 0] →
      ∃ t, exec (.usbTokenRx k) u = .next t ∧ Emit.usb 0 k.ep PID_ACK [] ∈ t.out ∧ t.rd PER_USB_STAT_CONFIGURED = 1 ∧
        t.vhub 0 = { s.vhub 0 with config := 1, setup := k.bytes, reply := some [] } ∧ s.regsBut t [PER_USB_STAT_CONFIGURED] ∧
        { t with regs := s.regs, usb := s.usb, evt := s.evt, out := s.out } = s)) ∧
  (∀ (u s : State) (k : UsbTok) (d : Fin 64) (port : Fin 4) (key g : Nat) (ds : List Nat) (e : UsbEp), u.running = true → s = u.usbSync →
    s.usbOn = true → s.rdB PER_USB_STAT_SUSPENDED = false → s.vreached (32 + d) = true → k.addr ≠ 0 → s.usb.binds.lookup k.addr = some (devTarget d port) →
    s.vstate (32 + d) port = 4 → s.canSend 22 (asyncTun d) ds → (s.tun (periodicTun d)).e.state = .opened → k.split = none → k.kind = 2 →
    s.freeXfer d = some g → e = s.uep key →
    (k.pid = .inn → key = epKey (devTarget d port) k.ep 2 true → e.stallNext = false → e.tag = none → e.result = none →
      ∃ t, exec (.usbTokenRx k) u = .next t ∧ Emit.usb k.addr k.ep PID_NAK [] ∈ t.out ∧
        t.usb.xfers = s.usb.xfers ++ [{ dock := d, port := port, tag := g, ep := key, due := s.now + s.xferTo }] ∧
        t.uep key = { e with tag := some g, isSetup := false, isIn := true, result := none } ∧
        s.sent t 22 (asyncTun d) ds [pack [(36, 4, 1), (34, 2, port), (30, 4, s.epoch d port), (22, 8, g),
          (0, 22, packNat [(15, 7, k.addr), (11, 4, k.ep), (10, 1, 1), (8, 2, 2), (7, 1, 0), (6, 1, 0)])], pack [(0, 11, 1024)]]) ∧
    (k.pid = .inn → key = epKey (devTarget d port) k.ep 2 true → e.stallNext = false → e.tag = none → e.isIn = true →
      e.result = some (0, k.bytes) →
      ∃ t, exec (.usbTokenRx k) u = .next t ∧ Emit.usb k.addr k.ep (pidData e.toggle) k.bytes ∈ t.out ∧ t.uep key = { e with sent := true } ∧
        { t with usb := s.usb, evt := s.evt, out := s.out } = s) ∧
    (k.pid = .out → key = epKey (devTarget d port) k.ep 2 false → e.stallNext = true →
      ∃ t, exec (.usbTokenRx k) u = .next t ∧ Emit.usb k.addr k.ep PID_STALL [] ∈ t.out ∧ t.uep key = { e with stallNext := false } ∧
        { t with usb := s.usb, evt := s.evt, out := s.out } = s)) ∧
  (∀ (s : State) (d : Fin 64) (x : UsbXfer) (o : Option UsbXfer) (msg : List Word) (w : Word) (e : UsbEp) (st n : Nat), s.running = true → s.isRoot = true → w = msg.getD 0 0 → fld w 36 4 = 2 →
    n = fld (msg.getD 1 0) 0 11 →
    o = s.usb.xfers.find? (fun x => x.dock = d.val && x.port = fld w 34 2 && x.tag = fld w 22 8) →
    (o = none → ∃ t, exec (.resultRx (BitVec.ofNat 12 (0xE00 + d)) msg) s = .next t ∧
      t.rd PER_CNT1_STALE = satAdd 16 (s.rd PER_CNT1_STALE) 1 ∧ s.raised t 0x100 [EV_PER_STALE_RSP] ∧
      s.regsBut t [PER_CNT1_STALE, EVT_LOG_STAT_OVF] ∧ s.onlyRegs t) ∧
    (o = some x → s.epoch d (fld w 34 2) = fld w 30 4 → e = s.uep x.ep → st = min 3 (fld w 19 3) → (st = 2 → e.isIn = true) →
      ∃ t, exec (.resultRx (BitVec.ofNat 12 (0xE00 + d)) msg) s = .next t ∧ t.usb.xfers = s.usb.xfers.erase x ∧
        t.uep x.ep = { e with tag := none, result := if e.isSetup && st = 0 then none else some (st, unpackBytes (msg.drop 2) n) } ∧
        { t with usb := s.usb, evt := s.evt, out := s.out } = s)) ∧
  (∀ (s : State) (d : Fin 64) (tag : BitVec 8) (x : UsbXfer), s.running = true →
    s.usb.xfers.find? (fun y => y.dock = d.val && y.tag = tag.toNat) = some x → x.due < s.now →
    ∃ t, exec (.xferTimeout d tag) s = .next t ∧ t.usb.xfers = s.usb.xfers.erase x ∧ t.uep x.ep = { s.uep x.ep with tag := none, stallNext := true, data := none } ∧
      t.rd PER_CNT1_XFER_TO = satAdd 16 (s.rd PER_CNT1_XFER_TO) 1 ∧ s.raised t 0x100 [EV_PER_XFER_TIMEOUT] ∧
      s.regsBut t [PER_CNT1_XFER_TO, EVT_LOG_STAT_OVF]) ∧
  (∀ (s : State) (d : Fin 64) (i : UsbIso) (o : Option UsbIso) (msg : List Word) (w : Word) (r : Nat × Nat × List Nat), s.running = true → s.isRoot = true → w = msg.getD 0 0 → fld w 36 4 = 10 →
    s.epoch d (fld w 34 2) = fld w 30 4 →
    o = s.usb.isos.find? (fun i => i.dock = d.val && i.port = fld w 34 2 && i.addr = fld w 15 7 && i.ep = fld w 11 4) →
    (o = some i → r = (fld (msg.getD 1 0) 11 14, fld w 8 3, unpackBytes (msg.drop 2) (fld (msg.getD 1 0) 0 11)) →
      ∃ t, exec (.periodicInRx (BitVec.ofNat 12 (0xE40 + d)) msg) s = .next t ∧
        t.usb = { s.usb with isos := s.usb.isos.map (fun x => if x = i then { i with held := i.held ++ [r] } else x) } ∧ { t with usb := s.usb, evt := s.evt, out := s.out } = s) ∧
    (o = none → ∃ t, exec (.periodicInRx (BitVec.ofNat 12 (0xE40 + d)) msg) s = .next t ∧
      t.rd PER_CNT1_STALE = satAdd 16 (s.rd PER_CNT1_STALE) 1 ∧ s.raised t 0x100 [EV_PER_STALE_RSP] ∧ s.onlyRegs t)) ∧
  (∀ (s : State) (i : UsbIso) (d : Fin 64) (port : Fin 4) (ep : Fin 16) (ds : List Nat), s.running = true →
    s.usb.isos.find? (fun i => i.dock = d.val && i.port = port.val && i.ep = ep.val && i.last + 8 * 2 ^ i.period * 125000 < s.now) = some i →
    s.canSend 22 (asyncTun d) ds →
    ∃ t, exec (.isoIdleTimeout d port ep) s = .next t ∧ t.usb = { s.usb with isos := s.usb.isos.filter (· ≠ i) } ∧
      s.sent t 22 (asyncTun d) ds [pack [(36, 4, 3), (34, 2, port), (30, 4, s.epoch d port), (22, 8, 0), (0, 22, 0xB * 2 ^ 18)],
        pack [(33, 7, i.addr), (29, 4, i.ep), (25, 4, i.period), (24, 1, b2n i.inter)]])

/-- R387, R389, R399, R401–R405, R415, R416, R605: the upstream port and the ports of virtual hubs.
The model's choices that its clauses rest on: assumption log 23, 58. -/
def Obligations.UsbPortRows : Prop :=
  (∀ (s : State) (d : Fin 64) (port : Fin 4) (msg : List Word) (w : Word) (ds : List Nat), s.running = true → s.isRoot = true → w = msg.getD 0 0 →
    fld w 34 2 = port →
    (s.usbDocks.contains d = true → fld w 36 4 = 4 → s.vstate (32 + d) port = 1 → fld w 19 3 = 2 → fld w 16 1 = 0 →
      ∃ t, exec (.portStatRx (BitVec.ofNat 12 (0xE00 + d)) msg) s = .next t ∧ t.vstate (32 + d) port = 2 ∧
        t.rd (PER_PORT_SPEED (d.val * 4 + port.val)) = fld w 17 2 ∧ bitOf (t.vport (32 + d) port).change 0 = true ∧
        (t.vport (32 + d) port).overCur = false ∧ (t.vhub (32 + d)).seen = true ∧ (t.vhub (32 + d)).nports = fld w 13 2 + 1 ∧
        (t.pages.get 0x100).stat.getLsbD EV_PER_PORT_CHANGE = true ∧ ∀ q < 4, q ≠ port.val → t.vstate (32 + d) q = s.vstate (32 + d) q) ∧
    (fld w 36 4 = 5 → s.now < s.usb.resumeBy →
      ∃ t, exec (.usbWakeRx (BitVec.ofNat 12 (0xE00 + d)) msg) s = .next t ∧ t.rd PER_WAKE_WAKES = satAdd 16 (s.rd PER_WAKE_WAKES) 1 ∧
        t.rd PER_WAKE_COINCIDENT = satAdd 16 (s.rd PER_WAKE_COINCIDENT) 1 ∧ s.raised t 0x100 [EV_PER_WAKE_COINCIDENT] ∧
        s.regsBut t [PER_WAKE_WAKES, PER_WAKE_COINCIDENT, EVT_LOG_STAT_OVF] ∧ s.onlyRegs t) ∧
    (fld w 36 4 = 5 → s.usb.resumeBy ≤ s.now → s.rdB PER_USB_STAT_SUSPENDED = true → s.wakePath d = true → s.usb.wakeAt = none →
      (s.vstate (32 + d) port = 5 → (s.vport (32 + d) port).alone = false) →
      (s.usb.suspAt + 5000000 ≤ s.now →
        ∃ t, exec (.usbWakeRx (BitVec.ofNat 12 (0xE00 + d)) msg) s = .next t ∧ Emit.usbLine 1 ∈ t.out ∧
          t.usb = { s.usb with wakeAt := none, kUntil := s.now + 2000000 } ∧ s.regsBut t [PER_WAKE_WAKES]) ∧
      (s.now < s.usb.suspAt + 5000000 →
        ∃ t, exec (.usbWakeRx (BitVec.ofNat 12 (0xE00 + d)) msg) s = .next t ∧ t.usb = { s.usb with wakeAt := some (s.usb.suspAt + 5000000) } ∧
          s.regsBut t [PER_WAKE_WAKES])) ∧
    (fld w 36 4 = 5 → s.usb.resumeBy ≤ s.now → s.rdB PER_USB_STAT_SUSPENDED = false → s.vstate (32 + d) port = 5 →
      (s.vport (32 + d) port).alone = true → (s.vhub (32 + d)).wake = true → s.canSend 22 (asyncTun d) ds →
      ∃ t, exec (.usbWakeRx (BitVec.ofNat 12 (0xE00 + d)) msg) s = .next t ∧ t.vstate (32 + d) port = 6 ∧
        s.sent t 22 (asyncTun d) ds [pack [(36, 4, 3), (34, 2, port), (30, 4, s.epoch d port), (22, 8, 0), (0, 22, 6 * 2 ^ 18)]] ∧
        s.regsBut t [PER_WAKE_WAKES, PER_PORT_STATE (d.val * 4 + port.val)])) ∧
  (∀ (s : State) (d : Nat) (frame : BitVec 11) (micro : Fin 8) (ds : List Nat), s.running = true → s.usbOn = true →
    (∃ t, exec (.usbSofRx frame micro) s = .next t ∧ t.rd PER_USB_STAT_FRAME = frame.toNat ∧
      t.rd PER_USB_SOF_LO_STAMP = s.short % 2 ^ 32 ∧ t.rd PER_USB_SOF_HI_STAMP = s.short / 2 ^ 32 % 2 ^ 8 ∧
      t.usb = { s.usb with micro := micro, sofAt := s.now }) ∧
    (s.vdocks = [d] → s.canSend 22 (periodicTun d) ds → ∃ t, exec (.usbSofRx frame micro) s = .next t ∧ t.rd PER_USB_STAT_FRAME = frame.toNat ∧ t.rd PER_USB_SOF_LO_STAMP = s.short % 2 ^ 32 ∧
      t.rd PER_USB_SOF_HI_STAMP = s.short / 2 ^ 32 % 2 ^ 8 ∧ t.usb = { s.usb with micro := micro, sofAt := s.now } ∧
      s.sent t 22 (periodicTun d) ds [pack [(36, 4, 8), (34, 2, 0), (30, 4, s.epoch d 0), (22, 8, 0),
        (0, 22, packNat [(11, 11, frame.toNat), (8, 3, micro)])], BitVec.ofNat 40 s.short] ∧
      s.regsBut t [PER_USB_STAT_FRAME, PER_USB_SOF_LO_STAMP, PER_USB_SOF_HI_STAMP])) ∧
  (∀ s : State, s.running = true → s.usbOn = true →
    (s.rdB PER_USB_STAT_SUSPENDED = false → s.usb.sofAt + s.sofSpan < s.now →
      ∃ t, exec .sofLost s = .next t ∧ t.usb = { s.usb with sofAt := s.now } ∧
        t.rd PER_USB_CNT_SOF_LOST = satAdd 16 (s.rd PER_USB_CNT_SOF_LOST) 1 ∧ s.raised t 0x101 [EV_USB_SOF_LOST] ∧
        s.regsBut t [PER_USB_CNT_SOF_LOST, EVT_LOG_STAT_OVF]) ∧
    (∃ t, exec .usbBusReset s = .next t ∧ t.rd PER_USB_STAT_CONFIGURED = 0 ∧ t.rd PER_USB_STAT_SUSPENDED = 0 ∧
      t.rd PER_USB_STAT_SPEED = (if s.rdB PER_USB_CTL_HS_DISABLE then 2 else 3) ∧ t.usb.binds = [] ∧ t.usb.dflt = none ∧ t.usb.xfers = [] ∧
      t.usb.isos = [] ∧ t.usb.eps = Map.empty ∧ t.usb.ports = Map.empty ∧ (t.vhub 0).addr = 0 ∧ (t.vhub 0).config = 0 ∧
      t.usb.delay = max 1 (s.rd PER_CTL_SOF_DELAY) ∧ t.rd PER_USB_CNT_BUS_RESET = satAdd 16 (s.rd PER_USB_CNT_BUS_RESET) 1 ∧
      (t.pages.get 0x101).stat.getLsbD EV_USB_BUS_RESET = true)) ∧
  (∀ s : State, s.running = true → s.usbOn = true →
    (s.rdB PER_USB_STAT_SUSPENDED = false → ∃ t, exec .usbSuspend s = .next t ∧ t.rd PER_USB_STAT_SUSPENDED = 1 ∧
      t.usb = { s.usb with suspAt := s.now } ∧ (t.pages.get 0x101).stat.getLsbD EV_USB_SUSPEND = true) ∧
    (s.rdB PER_USB_STAT_SUSPENDED = true → ∃ t, exec .usbResume s = .next t ∧ t.rd PER_USB_STAT_SUSPENDED = 0 ∧
      t.usb = { s.usb with wakeAt := none, kUntil := 0, resumeBy := s.now + 20000000, sofAt := s.now + 20000000 } ∧
      (t.pages.get 0x101).stat.getLsbD EV_USB_RESUME = true)) ∧
  (∀ (s : State) (d : Nat) (ds : List Nat), s.running = true → s.usbOn = true → s.usbDocks = [d] → s.canSend 22 (asyncTun d) ds →
    (s.rdB PER_USB_STAT_SUSPENDED = false → ∃ t, exec .usbSuspend s = .next t ∧ t.rd PER_USB_STAT_SUSPENDED = 1 ∧
      t.usb = { s.usb with suspAt := s.now } ∧ s.raised t 0x101 [EV_USB_SUSPEND] ∧
      s.sent t 22 (asyncTun d) ds [pack [(36, 4, 3), (34, 2, 0), (30, 4, s.epoch d 0), (22, 8, 0), (0, 22, 7 * 2 ^ 18)]] ∧
      s.regsBut t [PER_USB_STAT_SUSPENDED, EVT_LOG_STAT_OVF]) ∧
    (s.rdB PER_USB_STAT_SUSPENDED = true → s.usb.wakeAt = none → s.usb.kUntil ≤ s.now →
      ∃ t, exec .usbResume s = .next t ∧ t.rd PER_USB_STAT_SUSPENDED = 0 ∧ t.usb.resumeBy = s.now + 20000000 ∧
        s.raised t 0x101 [EV_USB_RESUME] ∧
        s.sent t 22 (asyncTun d) ds [pack [(36, 4, 3), (34, 2, 0), (30, 4, s.epoch d 0), (22, 8, 0), (0, 22, 8 * 2 ^ 18)]] ∧
        s.regsBut t [PER_USB_STAT_SUSPENDED, EVT_LOG_STAT_OVF])) ∧
  (∀ s : State, s.running = true → s.isRoot = true → bitOf (s.rd CHIP_STRAP_STRAPS) 2 = true → s.locked 0x101 = false →
    (s.usb.vbus = true → s.rdB PER_USB_CTL_CONNECT = false →
      ∃ t, exec (.usbConnect true) s = .next t ∧ t.rd PER_USB_CTL_CONNECT = 1 ∧ t.usbOn = true ∧ Emit.usbLine 2 ∈ t.out ∧
        s.raised t 0x101 [EV_USB_CONNECTED] ∧ s.regsBut t [PER_USB_CTL_CONNECT, EVT_LOG_STAT_OVF]) ∧
    (s.usb.vbus = false → s.rdB PER_USB_CTL_CONNECT = true →
      ∃ t, exec (.usbVbusChange 141) s = .next t ∧ t.usbOn = true ∧ t.usb = { s.usb with vbus := true, sofAt := s.now } ∧
        Emit.usbLine 2 ∈ t.out ∧ s.raised t 0x101 [EV_USB_CONNECTED] ∧ s.regsBut t [EVT_LOG_STAT_OVF]) ∧
    (s.usb.vbus = true → s.rdB PER_USB_CTL_CONNECT = true →
      ∃ t, exec (.usbVbusChange 119) s = .next t ∧ t.usbOn = false ∧ Emit.usbLine 0 ∈ t.out ∧ t.usb.binds = [] ∧
        t.rd PER_USB_STAT_SUSPENDED = 0 ∧ t.rd PER_USB_STAT_SPEED = 0 ∧ t.rd PER_USB_STAT_CONFIGURED = 0)) ∧
  (∀ (s : State) (h : Fin 17) (port : Fin 16) (d c : Nat) (x : VPort), s.running = true → x = s.vport h port → x.wait = some d → d ≤ s.now →
    (x.st = 3 → x.next = 4 → (∀ c ∈ s.vchildren, s.vparent c = some (h.val, port.val) → s.vkept c = true) →
      ∃ t, exec (.emulatedPortTiming h port) s = .next t ∧ t.vport h port = { x with st := 4, wait := none, change := x.change ||| 16 } ∧
        (t.pages.get 0x100).stat.getLsbD EV_PER_PORT_CHANGE = true) ∧
    (x.st = 0 → x.next = 1 → (∀ c ∈ s.vchildren, s.vparent c = some (h.val, port.val) → s.vpresent c = false) →
      ∃ t, exec (.emulatedPortTiming h port) s = .next t ∧ t.vport h port = { x with st := 1, wait := none }) ∧
    (x.st = 0 → x.next = 1 → s.usbOn = true → s.vparent c = some (h.val, port.val) → s.vpresent c = true →
      (s.vchildren.filter (fun b => s.vparent b = some (h.val, port.val))) = [c] →
      ∃ t, exec (.emulatedPortTiming h port) s = .next t ∧ t.vport h port = { x with st := 2, wait := none, change := x.change ||| 1 }))

/-! ## Display tunnels -/

/-- R406–R414, R417: the display inputs, their AUX channels and HPD.
The model's choices that its clauses rest on: assumption log 23, 59. -/
def Obligations.DisplayRows : Prop :=
  (∀ (s : State) (i : Fin 2) (rate : Fin 5) (lanes : Fin 4) (fec : Bool), s.running = true → s.dspOn i = true → (s.din i).hpd = true →
    (1 ≤ rate.val → rate.val ≤ (s.din i).maxRate → 1 ≤ lanes.val → lanes.val ≤ (s.din i).maxLanes →
      ∃ t, exec (.dpLinkTrain i rate lanes fec true) s = .next t ∧ t.rd (dspState i) = 3 ∧ t.rd (dspRate i) = rate ∧
        t.rd (dspLanes i) = lanes ∧ t.rd (dspFec i) = b2n fec ∧ s.raised t 0x108 [EV_DSP_TRAINED] ∧
        s.regsBut t [dspState i, dspRate i, dspLanes i, dspFec i, EVT_LOG_STAT_OVF] ∧ s.onlyRegs t) ∧
    ∃ t, exec (.dpLinkTrain i rate lanes fec false) s = .next t ∧ t.rd (dspState i) = 2 ∧ t.rd (dspRate i) = 0 ∧ t.rd (dspLanes i) = 0 ∧
      s.regsBut t [dspState i, dspRate i, dspLanes i] ∧ s.onlyRegs t) ∧
  (∀ (s : State) (i : Fin 2) (m : DpMsa) (ds : List Nat) (p r : Nat), s.running = true → 3 ≤ s.rd (dspState i) → s.rd (dspState i) ≤ 4 →
    s.canSend 23 (streamTun i) ds → (s.din i).timing ≠ msaWords m ++ [m.bpp, b2n m.dsc] → m.nvid * m.htotal * m.vtotal ≠ 0 →
    r = min 65535 (ceilDiv ((ceilDiv (m.hwidth * m.bpp) 40 + 2) * m.vheight * m.mvid * symbolClock (s.rd (dspRate i)) * 33)
      (m.nvid * m.htotal * m.vtotal * 30 * 100000)) →
    (((s.tun (streamTun i)).e.dests.filter (· < 18)).all (fun q =>
      (if (s.tun (streamTun (1 - i))).e.dests.contains q then s.rd (dspRes (1 - i)) else 0) + r ≤ min 4000 (s.rd DSP_BUDGET_UNITS)) = true →
      ∃ t, exec (.dpMsaRx i m) s = .next t ∧ t.rd (dspState i) = 4 ∧ t.rd (dspRes i) = r ∧ t.rd (dspDsc i) = b2n m.dsc ∧
        (t.din i).frame = ((s.din i).frame + 1) % 256 ∧ (t.din i).timing = msaWords m ++ [m.bpp, b2n m.dsc] ∧
        s.sent t 23 (streamTun i) ds (pack [(36, 4, 1), (28, 8, (s.din i).frame), (25, 3, s.rd (dspRate i)), (23, 2, s.rd (dspLanes i)),
          (22, 1, b2n m.dsc), (21, 1, s.rd (dspFec i)), (20, 1, 0)] :: BitVec.ofNat 40 s.short :: (msaWords m).map (BitVec.ofNat 40)) ∧
        s.regsBut t [dspState i, dspRes i, dspDsc i, EVT_LOG_STAT_OVF]) ∧
    (p ∈ (s.tun (streamTun i)).e.dests → p < 18 → min 4000 (s.rd DSP_BUDGET_UNITS) < r →
      ∃ t, exec (.dpMsaRx i m) s = .next t ∧ t.rd (dspState i) = 5 ∧ t.rd (dspRes i) = r ∧
        (t.pages.get 0x108).stat.getLsbD EV_DSP_OVER_BUDGET = true ∧
        s.sent t 23 (streamTun i) ds (pack [(36, 4, 1), (28, 8, (s.din i).frame), (25, 3, s.rd (dspRate i)), (23, 2, s.rd (dspLanes i)),
          (22, 1, b2n m.dsc), (21, 1, s.rd (dspFec i)), (20, 1, 1)] :: BitVec.ofNat 40 s.short :: (msaWords m).map (BitVec.ofNat 40)))) ∧
  (∀ (s : State) (i : Fin 2) (line : BitVec 13) (bytes : List (BitVec 8)) (ds : List Nat), s.running = true → s.canSend 23 (streamTun i) ds →
    (s.rd (dspState i) = 4 → s.withinBudget i = true → ∃ t, exec (.dpLineRx i line bytes) s = .next t ∧
      s.sent t 23 (streamTun i) ds (pack [(36, 4, 2), (28, 8, ((s.din i).frame + 255) % 256), (15, 13, line.toNat), (0, 15, bytes.length)] ::
        packBytes (bytes.map BitVec.toNat)) ∧ { t with tuns := s.tuns, hull := s.hull, evt := s.evt, out := s.out } = s) ∧
    (s.rd (dspState i) = 5 → ∃ t, exec (.dpLineRx i line bytes) s = .next t ∧ { t with evt := s.evt, out := s.out } = s) ∧
    (s.rd (dspState i) = 4 → ∃ t, exec (.dpSdpRx i line bytes) s = .next t ∧
      s.sent t 23 (streamTun i) ds (pack [(36, 4, 3), (28, 8, ((s.din i).frame + 255) % 256), (15, 13, line.toNat)] ::
        packBytes ((bytes.map BitVec.toNat).take 36)) ∧ { t with tuns := s.tuns, hull := s.hull, evt := s.evt, out := s.out } = s)) ∧
  (∀ (s : State) (i : Fin 2) (cmd : BitVec 4) (addr : BitVec 20) (len : Fin 17) (data : List (BitVec 8)) (ds : List Nat)
      (r : Nat × List Nat), s.running = true → s.dspOn i = true →
    (cmd = 9 → ownAux 9 addr.toNat = true → ∃ t, exec (.auxRequest i cmd addr len data) s = .next t ∧
      Emit.aux i 0 ((List.range len).map (fun k => s.dpcdRead i (addr.toNat + k))) ∈ t.out ∧ { t with evt := s.evt, out := s.out } = s) ∧
    (cmd = 8 → data = [7] → 0x100 ≤ addr.toNat → addr.toNat < 0x200 → ∃ t, exec (.auxRequest i cmd addr len data) s = .next t ∧
      Emit.aux i 0 [] ∈ t.out ∧ (t.din i).dpcd = (s.din i).dpcd.set addr.toNat 7 ∧
      { t with dsp := s.dsp, evt := s.evt, out := s.out } = s) ∧
    (ownAux cmd.toNat addr.toNat = false → (s.din i).aux ≠ some (cmd.toNat, addr.toNat, len.val, data.map BitVec.toNat) → s.canSend 23 (slotTun i (s.din i).primary) ds →
      ∃ t, exec (.auxRequest i cmd addr len data) s = .next t ∧ Emit.aux i (if cmd.toNat < 8 then 8 else 2) [] ∈ t.out ∧
        (t.din i).aux = some (cmd.toNat, addr.toNat, len.val, data.map BitVec.toNat) ∧ (t.din i).tag = ((s.din i).tag + 1) % 256 ∧
        (t.din i).auxBy = some (s.now + ms (min 20 (max 1 (s.rd DSP_TIMING_AUX_TO)))) ∧
        s.sent t 23 (slotTun i (s.din i).primary) ds (pack [(36, 4, 8), (32, 4, cmd.toNat), (12, 20, addr.toNat), (8, 4, len.val - 1),
          (0, 8, ((s.din i).tag + 1) % 256)] :: packBytes (data.map BitVec.toNat))) ∧
    (ownAux cmd.toNat addr.toNat = false → (s.din i).aux = some (cmd.toNat, addr.toNat, len.val, data.map BitVec.toNat) →
      (s.din i).reply = some r → ∃ t, exec (.auxRequest i cmd addr len data) s = .next t ∧ Emit.aux i r.1 r.2 ∈ t.out ∧
        t.din i = { s.din i with aux := none, auxBy := none, reply := none } ∧ { t with dsp := s.dsp, evt := s.evt, out := s.out } = s)) ∧
  (∀ (s : State) (i : Fin 2) (m : Fin 4) (msg : List Word) (d : Nat), s.running = true → (s.din i).reply = none →
    (m.val = (s.din i).primary → (s.din i).aux ≠ none → fld (msg.getD 0 0) 36 4 = 9 → fld (msg.getD 0 0) 0 8 = (s.din i).tag →
      ∃ t, exec (.auxRspRx (BitVec.ofNat 12 (slotTun i m)) msg) s = .next t ∧
        t.din i = { s.din i with reply := some (fld (msg.getD 0 0) 32 4, unpackBytes (msg.drop 1) (fld (msg.getD 0 0) 8 5)), auxBy := none } ∧
        { t with dsp := s.dsp, evt := s.evt, out := s.out } = s) ∧
    ((s.din i).auxBy = some d → d < s.now → ∃ t, exec (.auxTimeout i) s = .next t ∧
      t.din i = { s.din i with reply := some (1, []), auxBy := none } ∧ s.raised t 0x108 [EV_DSP_AUX_TIMEOUT] ∧
      t.rd (if i.val = 0 then DSP_CNT_A_AUX_TIMEOUT else DSP_CNT_B_AUX_TIMEOUT) =
        satAdd 16 (s.rd (if i.val = 0 then DSP_CNT_A_AUX_TIMEOUT else DSP_CNT_B_AUX_TIMEOUT)) 1 ∧
      s.regsBut t [if i.val = 0 then DSP_CNT_A_AUX_TIMEOUT else DSP_CNT_B_AUX_TIMEOUT, EVT_LOG_STAT_OVF])) ∧
  (∀ (s : State) (i : Fin 2) (m : Fin 4) (msg : List Word) (w : Word), s.running = true → w = msg.getD 0 0 → fld w 36 4 = 10 → fld w 33 1 = 1 →
    (fld w 32 1 = 1 ∨ s.rdB (dspDsc i) = false) →
    ∃ t, exec (.displayStatusRx (BitVec.ofNat 12 (slotTun i m)) msg) s = .next t ∧
      (t.din i).slots.get m = Slot5.mk (decide (fld w 35 1 = 1)) true (decide (fld w 32 1 = 1)) (fld w 16 16) (fld w 13 3) (fld w 11 2) false none ∧
      (m.val = (s.din i).primary → fld w 35 1 = 1 → fld w 34 1 = 0 → s.rd (dspState i) = 1 → (s.din i).hpd = false → s.dspOn i = true →
        s.openOrHeld (streamTun i) = true → s.openOrHeld (slotTun i m) = true → (s.din i).pulseBy = none → (s.din i).holdBy = none →
        (t.din i).hpd = true ∧ t.rd (dspState i) = 2 ∧ Emit.hpd i true ∈ t.out)) ∧
  (∀ (s : State) (i : Fin 2) (d : Nat), s.running = true → s.dspOn i = true → s.rd (dspState i) = 2 → s.openOrHeld (streamTun i) = true →
    s.openOrHeld (slotTun i (s.din i).primary) = true → ((s.din i).slots.get (s.din i).primary).hpd = true → (s.din i).hpd = false →
    ((s.din i).pulseBy = some d → d ≤ s.now → (s.din i).holdBy = none → ∃ t, exec (.hpdIrqPulseEnd i) s = .next t ∧
      t.din i = { s.din i with pulseBy := none, hpd := true } ∧ Emit.hpd i true ∈ t.out ∧ s.raised t 0x108 [EV_DSP_HPD_CHANGE] ∧
      s.regsBut t [EVT_LOG_STAT_OVF]) ∧
    ((s.din i).holdBy = some d → d ≤ s.now → (s.din i).pulseBy = none → ∃ t, exec (.hpdHoldEnd i) s = .next t ∧
      t.din i = { s.din i with holdBy := none, hpd := true } ∧ Emit.hpd i true ∈ t.out ∧ s.raised t 0x108 [EV_DSP_HPD_CHANGE] ∧
      s.regsBut t [EVT_LOG_STAT_OVF])) ∧
  (∀ (s : State) (i : Fin 2) (m : Nat), s.running = true → s.dspOn i = true →
    ((s.tun (slotTun i (s.din i).primary)).e.state = .failed ∨ ∃ u ∈ ((s.din i).slots.get (s.din i).primary).badAt, u + 1000000000 < s.now) →
    (List.range 4).find? (fun m => m ≠ (s.din i).primary && (s.din i).slotValid m && ((s.din i).slots.get m).hpd) = some m → (s.din i).hpd = true → s.rd (dspState i) = 4 →
    ∃ t, exec (.primaryChange i) s = .next t ∧ (t.din i).primary = m ∧ (t.din i).holdBy = some (s.now + 5000000) ∧ (t.din i).hpd = false ∧
      Emit.hpd i false ∈ t.out ∧ t.rd (dspState i) = 1 ∧ (t.pages.get 0x108).stat.getLsbD EV_DSP_PRIMARY_CHANGE = true)

/-! ## Keys -/

/-- R418, R423, R425, R427, R432–R437: the commands on slots.
The model's choices that its clauses rest on: assumption log 6, 18, 48, 49. -/
def Obligations.KeySlotRows : Prop :=
  (∀ (s : State) (k : Nat), s.running = true → s.lc ≤ 4 → k = (s.keys.args.get 0).toNat →
    (k ≤ 255 → (s.slot k).st ≠ .bad → ∃ t, exec (.getInfo .mailbox) s = .next t ∧
      s.keyAnswered t 0 ([(s.slot k).inUse.gen, putBits (s.slot k).inUse.w1.toNat 30 2 (s.slot k).st.code, (s.slot k).inUse.w2.toNat,
        (s.slot k).inUse.pgen, (s.slot k).inUse.keyId.toNat].flatMap (natBytes 4)) ∧
      s.raised t 0x110 [EV_KEY_CMD_DONE] ∧ s.regsBut t [EVT_LOG_STAT_OVF] ∧ s.onlyKeys t) ∧
    (255 < k → ∃ t, exec (.getInfo .mailbox) s = .next t ∧ s.keyAnswered t 1 [] ∧
      s.regsBut t [EVT_LOG_STAT_OVF] ∧ s.onlyKeys t)) ∧
  (∀ (s : State) (k : Fin 256) (w id x : Reg) (fails : Fin 3), s.keyReady → fails.val ≤ 1 → s.slot k = Slot.init → badWord1 w.toNat = false →
    ∃ t, exec (.generate (.sequencer [BitVec.ofNat 32 k, w, id, x] []) fails) s = .next t ∧
      t.newKey k (keyWord1 w.toNat) (parentWord 0xFF 0) id (Config.freeDraw s.free) ∧ (∀ j : Fin 256, j ≠ k → t.slot j = s.slot j)) ∧
  (∀ (s : State) (k : Fin 256) (w id : Reg) (input label ctx : List Nat) (b : List (BitVec 8)) (fails : Fin 3), s.keyReady → fails.val ≤ 1 →
    s.slot k = Slot.init → badWord1 w.toNat = false → input = b.map BitVec.toNat → deriveInput input = some (label, ctx) →
    reservedLabel label = false →
    ∃ t, exec (.derive (.sequencer [0xFE, BitVec.ofNat 32 k, w, id] b) fails) s = .next t ∧
      t.newKey k (keyWord1 w.toNat) (parentWord 0xFE s.lc) id (kdf (lcRoot s.lc) label ctx)) ∧
  (∀ (s : State) (kek k : Fin 256) (b : List (BitVec 8)) (fails : Fin 3), s.keyReady → fails.val ≤ 1 → s.slot k = Slot.init →
    b.length = 48 → s.useRefusal kek 2 masterSequencer = none →
    ∃ t, exec (.importKey (.sequencer [BitVec.ofNat 32 kek, BitVec.ofNat 32 k] b) fails) s = .next t ∧
      (Config.keyUnwrap (s.slot kek).inUse.key (b.map BitVec.toNat) = none ∧ t.keys.slots = s.keys.slots ∨
       ∃ p, Config.keyUnwrap (s.slot kek).inUse.key (b.map BitVec.toNat) = some p ∧
        (badWord1 (beNat p 0 4) = true ∧ t.keys.slots = s.keys.slots ∨ badWord1 (beNat p 0 4) = false ∧
          t.newKey k (keyWord1 (beNat p 0 4)) (parentWord 0xFF 0) (BitVec.ofNat 32 (beNat p 4 4)) (BitVec.ofNat 256 (beNat p 8 32))))) ∧
  (∀ (s : State) (kek k : Nat) (c : SlotCopy), s.running = true → s.lc ∈ [1, 2, 3] → kek = (s.keys.args.get 0).toNat → kek ≤ 255 →
    k = (s.keys.args.get 1).toNat → k ≤ 255 → (s.slot kek).st ≠ .bad → (s.slot k).st = .key → c = (s.slot k).inUse → c.purpose ≠ 6 →
    s.useRefusal kek 2 masterMailbox = none →
    (c.exportable = true → ∃ t, exec (.exportKey .mailbox) s = .next t ∧
        s.keyServed t kek 0 (Config.keyWrap (s.slot kek).inUse.key
          (natBytesBE 4 c.w1.toNat ++ natBytesBE 4 c.keyId.toNat ++ natBytesBE 32 c.key.toNat)) ∧
      s.regsBut t [EVT_LOG_STAT_OVF] ∧ s.onlyKeys t) ∧
    (c.exportable = false → ∃ t, exec (.exportKey .mailbox) s = .next t ∧ s.keyServed t kek 2 [] ∧
      t.rd KEY_DENY_SLOT = k ∧ t.rd KEY_DENY_CAUSE = 1 ∧ t.rd KEY_DENY_COUNT = satAdd 16 (s.rd KEY_DENY_COUNT) 1 ∧
      s.regsBut t [KEY_DENY_SLOT, KEY_DENY_CAUSE, KEY_DENY_COUNT, EVT_LOG_STAT_OVF] ∧ s.onlyKeys t)) ∧
  (∀ (s : State) (k : Fin 256) (fails : Fin 3), s.running = true → s.lc ∈ [1, 2, 3] → (s.slot k).st = .key → (s.slot k).exhausted = false →
    (s.rdB FEED_STAT_WARN = false → fails.val ≤ 1 → ∃ t, exec (.revoke (.sequencer [BitVec.ofNat 32 k] []) fails) s = .next t ∧
      (t.slot k).st = .revoked ∧ (t.slot k).inUse.gen = (s.slot k).inUse.gen + 1 ∧ (t.slot k).invalidGen = some (s.slot k).inUse.gen ∧
      (t.pages.get 0x110).stat.getLsbD EV_KEY_REVOKED = true) ∧
    (s.rdB FEED_STAT_WARN = true → ∃ t, exec (.revoke (.sequencer [BitVec.ofNat 32 k] []) fails) s = .next t ∧ t.keys = s.keys ∧
      s.raised t 0x110 [EV_KEY_CMD_DONE, EV_KEY_DEFERRED] ∧ s.regsBut t [EVT_LOG_STAT_OVF] ∧ s.onlyRegs t)) ∧
  (∀ (s : State) (k : Fin 256) (fails : Fin 3), s.keyReady → (s.slot k).st = .revoked →
    (fails.val ≤ 1 → ∃ t, exec (.erase (.sequencer [BitVec.ofNat 32 k] []) fails) s = .next t ∧
      t.slot k = { s.slot k with c0 := {}, c1 := {}, use1 := false, st := .empty } ∧ (∀ j : Fin 256, j ≠ k → t.slot j = s.slot j) ∧
      s.regsBut t [EVT_LOG_STAT_OVF] ∧ s.onlyKeys t) ∧
    (fails = 2 → ∃ t, exec (.erase (.sequencer [BitVec.ofNat 32 k] []) fails) s = .next t ∧ t.keys = s.keys ∧
      t.rd KEY_INTEG_MRAM_FAIL = satAdd 16 (s.rd KEY_INTEG_MRAM_FAIL) 1 ∧ (t.pages.get 0x110).stat.getLsbD EV_KEY_MRAM_FAIL = true ∧
      s.regsBut t [KEY_INTEG_MRAM_FAIL, EVT_LOG_STAT_OVF] ∧ s.onlyRegs t))

/-- R422, R428–R431, R434, R438, R446, R520: attestation, the life cycle, the link map and the scrub of the key store.
The model's choices that its clauses rest on: assumption log 6, 18, 48, 49, 50. -/
def Obligations.LifeCycleRows : Prop :=
  (∀ (s : State) (input : List Nat), s.running = true → s.lc ∈ [1, 2, 3] → s.keys.inLen = 32 → (s.slot 0).st ≠ .bad →
    input = (List.range 32).map (fun i => s.keys.inBytes.get i) → s.useRefusal 0 6 masterMailbox = none →
    ∃ t, exec (.attest .mailbox) s = .next t ∧
      s.keyServed t 0 0 (s.attestReport input ++ Config.ecdsaPublic (s.slot 0).inUse.key ++
        Config.ecdsaSign (s.slot 0).inUse.key (Config.sha256 (s.attestReport input))) ∧
      s.regsBut t [EVT_LOG_STAT_OVF] ∧ s.onlyKeys t) ∧
  (∀ (s : State) (fails : Fin 3), s.running = true → s.lc = 0 → s.rdB FEED_STAT_WARN = false → fails.val ≤ 1 → s.slot 0 = Slot.init →
    ∃ t, exec (.provision (.sequencer [] []) fails) s = .next t ∧ t.lc = 1 ∧
      t.newKey 0 (keyWord1 attestWord1) (parentWord 0xFF 0) 0 (Config.freeDraw s.free) ∧
      t.keys.lcRec.state = 1 ∧ (t.pages.get 0x110).stat.getLsbD EV_KEY_LC_CHANGE = true) ∧
  (∀ s : State, s.running = true → s.lc = 2 →
    ∃ t, exec (.lcChallenge .mailbox) s = .next t ∧ t.keys.challenge = some (Config.freeDraw s.free).toNat ∧
      t.keys.outBytes = natBytesBE 32 (Config.freeDraw s.free).toNat ∧ t.keys.status = 0 ∧ t.keys.slots = s.keys.slots ∧
      s.regsBut t [EVT_LOG_STAT_OVF] ∧
      { t with regs := s.regs, pages := s.pages, keys := s.keys, free := s.free, evt := s.evt, out := s.out } = s) ∧
  (∀ (s : State) (fails : Fin 3), s.keyReady → fails.val ≤ 1 →
    (s.lc = 1 → ∃ t, exec (.lcAdvance (.sequencer [2] []) fails) s = .next t ∧ t.lc = 2 ∧
      t.keys.lcRec.state = 2 ∧ t.keys.lcRec.count = (s.keys.lcRec.count + 1) % 2 ^ 32 ∧
      (s.lcLosers 1 2 = [] → s.regsBut t [KEY_STAT_LC, EVT_LOG_STAT_OVF] ∧ s.onlyKeys t)) ∧
    (s.lc = 3 → ∃ t, exec (.lcAdvance (.sequencer [2] []) fails) s = .next t ∧ t.lc = 2 ∧ (s.lcLosers 3 2 = [] → t.keys = s.keys)) ∧
    (∃ t, exec (.lcAdvance (.sequencer [4] []) fails) s = .next t ∧ t.lc = 4 ∧ t.keys.lcRec.state = 4 ∧
      ∀ k : Fin 256, t.slot k = if (s.slot k).st = .bad then { st := .bad } else Slot.init)) ∧
  (∀ (s : State) (b : List (BitVec 8)) (fails : Fin 3), s.running = true → s.lc = 2 → s.keys.challenge = none → b.length = 128 →
    ∃ t, exec (.lcAdvance (.sequencer [3] b) fails) s = .next t ∧ t.lc = 2 ∧ t.keys = s.keys ∧
      (t.pages.get 0x110).stat.getLsbD EV_KEY_LC_AUTH_FAIL = true ∧ s.regsBut t [EVT_LOG_STAT_OVF] ∧ s.onlyRegs t) ∧
  (∀ (s : State) (p : Fin 18) (k : Fin 256), s.running = true → s.lc ∈ [1, 2, 3] → (s.slot k).st ≠ .bad →
    ∃ t, exec (.linkMap (.sequencer [BitVec.ofNat 32 p, BitVec.ofNat 32 k] [])) s = .next t ∧ t.linkSlot p = k ∧
      s.regsBut t [KEY_LINKMAP_SLOT (p / 4), EVT_LOG_STAT_OVF] ∧ s.onlyRegs t) ∧
  (∀ s : State, s.running = true → s.lc ≤ 4 →
    ∃ t, exec (.wakeSrc .mailbox) s = .next t ∧ s.keyAnswered t 0 s.power.wakeSrc ∧
      s.regsBut t [EVT_LOG_STAT_OVF] ∧ s.onlyKeys t) ∧
  (∀ (s : State) (lost : List (Fin 256 × Bool)) (lcLost : List Bool) (cache : Bool), s.running = true → s.keys.scrubAt ≤ s.now →
    ∃ t, exec (.keyScrub lost lcLost cache) s = .next t ∧ t.keys.scrubAt = s.now + max 1 (s.rd KEY_SCRUB_INTERVAL) * 3600000000000 ∧
      t.rd KEY_SCRUB_PASSES = (s.rd KEY_SCRUB_PASSES + 1) % 2 ^ 16 ∧
      (cache = true → (t.pages.get 0x110).stat.getLsbD EV_KEY_CACHE_ERR = true)) ∧
  (∀ s : State, s.running = true → s.keys.scrubAt ≤ s.now → s.keys.lc0.good = s.keys.lc1.good →
    (s.keys.slots.keys.all (fun k => (s.slot k).st = .bad || ((s.slot k).c0.valid k 0 && (s.slot k).c1.valid k 1) ||
      ((s.slot k).c0.erased && (s.slot k).c1.erased))) = true →
    ∃ t, exec (.keyScrub [] [] false) s = .next t ∧
      t.keys = { s.keys with scrubAt := s.now + max 1 (s.rd KEY_SCRUB_INTERVAL) * 3600000000000 } ∧
      t.rd KEY_SCRUB_PASSES = (s.rd KEY_SCRUB_PASSES + 1) % 2 ^ 16 ∧ s.regsBut t [KEY_SCRUB_PASSES] ∧ s.onlyKeys t)


/-! ## Tangent lines and port power -/

/-- R66, R74, R452–R456, R478, R484: attach, presentation and detach.
The model's choices that its clauses rest on: assumption log 5, 56. -/
def Obligations.TangentAttachRows : Prop :=
  (∀ (s : State) (p : Fin 18) (t2 : Bool), s.boot.dieOn = true →
    (s.ps p = PS_UNATTACHED → ∃ t, exec (.tangentBandEntry p t2) s = .next t ∧ t.ps p = PS_ATTACH_WAIT ∧
      t.tan p = { s.tan p with ip := s.presentsIp p, contact := t2, bandAt := s.now, toggleAt := none } ∧
      s.regsBut t [TAN_PORT_STAT_PSTATE p] ∧ s.onlyTan t p ∧ t.log = s.log) ∧
    (s.ps p = PS_ATTACH_WAIT → ∃ t, exec (.tangentBandExit p) s = .next t ∧
      t.ps p = (if s.rd (TAN_PORT_CTL_ROLE p) = 3 then PS_DISABLED else PS_UNATTACHED) ∧ t.pd = s.pd ∧
      s.regsBut t [TAN_PORT_STAT_PSTATE p] ∧ s.onlyRegs t)) ∧
  (∀ (s : State) (p : Fin 18), s.boot.dieOn = true → s.ps p = PS_UNATTACHED → s.rd (TAN_PORT_CTL_ROLE p) = 2 → s.feedPg = true →
    (s.tan p).toggleAt = none ∨ (s.tan p).toggleAt = some s.now →
    ∃ t, exec (.drpToggle p) s = .next t ∧ (t.tan p).ip = !(s.tan p).ip ∧
      (t.tan p).toggleAt.any (fun d => decide (s.now + 25000000 ≤ d) && decide (d ≤ s.now + 35000000)) = true ∧
      { t.tan p with ip := (s.tan p).ip, toggleAt := (s.tan p).toggleAt } = s.tan p ∧
      { t with pd := s.pd, free := s.free, evt := s.evt, out := s.out } = s) ∧
  (∀ (s : State) (p : Fin 18) (ohms : Nat), s.boot.dieOn = true → s.coreOn = true → s.ps p = PS_ATTACH_WAIT → (s.tan p).bandAt + 10000000 ≤ s.now →
    ∃ t, exec (.attachDebounce p ohms) s = .next t ∧ t.ps p = (if (s.tan p).ip then PS_SRC else PS_SNK) ∧ t.cs p = CS_HELLO ∧
      t.rd (TAN_PORT_STAT_ORIENT p) = b2n (s.tan p).contact ∧ t.rd (TAN_PORT_STAT_CABLE p) = cableClass ohms ∧
      t.rd (TAN_PORT_STAT_AUX_ON p) = 1 ∧ t.rd (TAN_PORT_STAT_MAIN_SRC p) = b2n (s.tan p).ip ∧ t.rd (TAN_PARTNER_VALID p) = 0 ∧
      (t.tan p).attSrc = (s.tan p).ip ∧ (t.tan p).helloAt = (if (s.tan p).ip then some (s.now + 25000000) else none) ∧
      ((s.tan p).ip = true → Emit.rail p false true ∈ t.out ∧ t.rd TAN_STAT_DB_ACTIVE = s.rd TAN_STAT_DB_ACTIVE) ∧
      ((s.tan p).ip = false → s.feedPg = false → s.rdB TAN_STAT_DB_ACTIVE = false →
        t.rd TAN_STAT_DB_ACTIVE = 1 ∧ t.rd TAN_STAT_DB_PORT = p) ∧
      s.raised t (tanPage p) [EV_TAN_ATTACH] ∧ s.onlyTan t p ∧
      s.regsBut t [TAN_PORT_STAT_PSTATE p, TAN_PORT_STAT_CSTATE p, TAN_PORT_STAT_ORIENT p, TAN_PORT_STAT_CABLE p, TAN_PORT_STAT_AUX_ON p,
        TAN_PORT_STAT_MAIN_SRC p, TAN_PARTNER_VALID p, LANE_STAT_CABLE p, TAN_STAT_DB_ACTIVE, TAN_STAT_DB_PORT, EVT_LOG_STAT_OVF]) ∧
  (∀ (s : State) (p : Fin 18) (ohms : Nat), s.boot.dieOn = true → s.coreOn = false → s.ps p = PS_ATTACH_WAIT → (s.tan p).bandAt + 10000000 ≤ s.now →
    ∃ t, exec (.attachDebounce p ohms) s = .next t ∧ t.ps p = (if (s.tan p).ip then PS_SRC else PS_SNK) ∧ t.cs p = CS_HELLO ∧
      t.rd (TAN_PORT_STAT_CABLE p) = cableClass ohms ∧ t.rd (LANE_STAT_CABLE p) = s.rd (LANE_STAT_CABLE p) ∧
      t.pd.classes = s.pd.classes.filter (· ≠ p.val) ++ [p.val] ∧ s.raised t (tanPage p) [EV_TAN_ATTACH]) ∧
  (∀ (s : State) (p : Fin 18), s.boot.dieOn = true → s.joined p = true → (s.cs p = CS_HARD_RESET → (s.tan p).resetRcvd = false) →
    ∃ t, exec (.detach p) s = .next t ∧ t.portLeft p PS_GUARD (some (s.now + 100000000)) ∧ t.rd (TAN_PORT_STAT_MAIN_ON p) = 0 ∧
      t.rd (TAN_CONTRACT_I_C p) = 0 ∧ t.rd (TAN_CONTRACT_P_C p) = 0 ∧ Emit.rail p false false ∈ t.out ∧ Emit.rail p true false ∈ t.out ∧
      (t.pages.get (tanPage p)).stat.getLsbD EV_TAN_DETACH = true ∧
      ((s.tan p).signalled = false → s.regsBut t (leftRegs p) ∧ s.onlyTan t p ∧ t.log = s.log) ∧
      ((s.tan p).signalled = true → s.coreOn = true → s.ls p = LS_ACTIVE → t.ls p = LS_DOWN) ∧
      ((s.tan p).signalled = true → s.coreOn = false → t.ls p = s.ls p ∧ t.pd.gone = s.pd.gone.filter (· ≠ p.val) ++ [p.val])) ∧
  (∀ (s : State) (p : Fin 18) (d : Nat), s.boot.dieOn = true → s.ps p = PS_GUARD → (s.tan p).waitBy = some d → d ≤ s.now →
    (s.tan p).signalled = false → ∃ t, exec (.guardExpiry p) s = .next t ∧
      t.portLeft p (if s.rd (TAN_PORT_CTL_ENABLE p) = 0 ∨ s.rd (TAN_PORT_CTL_ROLE p) = 3 then PS_DISABLED else PS_UNATTACHED) none ∧
      s.regsBut t (leftRegs p) ∧ s.onlyTan t p ∧ t.log = s.log) ∧
  (∀ (s : State) (p : Fin 18) (en : Bool) (role : BitVec 2), s.boot.dieOn = true → s.coreOn = true → (s.tan p).signalled = false →
    (s.locked (tanPage p) = true → ∃ t, exec (.tanPortEnable p en role) s = .next t ∧ t.regs = s.regs ∧ t.pd = s.pd) ∧
    (s.locked (tanPage p) = false → ∃ t, exec (.tanPortEnable p en role) s = .next t ∧
      t.rd (TAN_PORT_CTL_ENABLE p) = b2n en ∧ t.rd (TAN_PORT_CTL_ROLE p) = role.toNat ∧
      (en = false → s.ps p ≤ PS_SNK → t.portLeft p PS_DISABLED none) ∧
      (en = true → role ≠ 3 → s.ps p = PS_DISABLED → t.portLeft p PS_UNATTACHED none) ∧
      (en = true → role ≠ 3 → s.ps p ≠ PS_DISABLED → t.pd = s.pd) ∧
      s.regsBut t (TAN_PORT_CTL_ENABLE p :: TAN_PORT_CTL_ROLE p :: leftRegs p) ∧ s.onlyTan t p))

/-- R457–R465: what is sent and received on a tangent line.
The model's choices that its clauses rest on: assumption log 11, 55. -/
def Obligations.TangentMessageRows : Prop :=
  (∀ (s : State) (p : Fin 18) (m : TanMsg) (rest : List TanMsg), s.boot.dieOn = true → s.joined p = true → (s.tan p).out = none →
    (s.tan p).phase ≤ 1 → (s.tan p).queue = m :: rest →
    (∃ t, exec (.tanMsgSend p true) s = .next t ∧ t.rd (TAN_MSG_COLLISION p) = satAdd 8 (s.rd (TAN_MSG_COLLISION p)) 1 ∧ t.pd = s.pd ∧
      s.regsBut t [TAN_MSG_COLLISION p] ∧ s.onlyRegs t) ∧
    (m.type ≠ 3 → m.type ≠ 7 → ∃ t, exec (.tanMsgSend p false) s = .next t ∧
      Emit.tangent p (withCrc (s.tanHeader p m (s.tan p).msgId :: m.data)) ∈ t.out ∧
      t.tan p = { s.tan p with queue := rest, out := some (TanOut.mk m (s.tan p).msgId 1 s.now none) } ∧ t.regs = s.regs ∧
      s.onlyTan t p ∧ t.log = s.log ∧ t.pages = s.pages) ∧
    (m = TanMsg.mk 3 0 [] → ∃ t, exec (.tanMsgSend p false) s = .next t ∧
      Emit.tangent p (withCrc [s.tanHeader p (TanMsg.mk 3 0 [s.offerWord p]) (s.tan p).msgId, s.offerWord p]) ∈ t.out ∧
      t.cs p = CS_NEGOTIATE ∧ (t.tan p).offerI = s.offerImax p ∧ (t.tan p).offerP = s.offerPmax p ∧ (t.tan p).queue = rest ∧
      (t.tan p).out = some (TanOut.mk (TanMsg.mk 3 0 [s.offerWord p]) (s.tan p).msgId 1 s.now none) ∧
      s.regsBut t [TAN_PORT_STAT_CSTATE p] ∧ s.onlyTan t p ∧ t.log = s.log)) ∧
  (∀ (s : State) (p : Fin 18) (o : TanOut) (id : Fin 8), s.boot.dieOn = true → (s.tan p).out = some o → o.ackAt = none → o.id = id →
    (o.m.type = 3 ∨ o.m.type = 4 → ∃ t, exec (.tanAckRx p id) s = .next t ∧
      t.tan p = { s.tan p with msgId := ((s.tan p).msgId + 1) % 8, out := some { o with ackAt := some s.now } } ∧ t.regs = s.regs ∧
      s.onlyTan t p) ∧
    (o.m.type = 6 ∨ o.m.type = 9 → ∃ t, exec (.tanAckRx p id) s = .next t ∧
      t.tan p = { s.tan p with msgId := ((s.tan p).msgId + 1) % 8, out := none } ∧ t.regs = s.regs ∧ s.onlyTan t p) ∧
    (o.m.type = 5 → (s.tan p).swapping = false → (s.tan p).reqI ≠ 0 → s.rd (TAN_PORT_STAT_MAIN_ON p) = 0 →
      ∃ t, exec (.tanAckRx p id) s = .next t ∧ t.cs p = CS_TRANSITION ∧ (t.tan p).phase = PH_RAMP ∧ Emit.rail p true true ∈ t.out ∧
        (t.tan p).out = none ∧ s.regsBut t [TAN_PORT_STAT_CSTATE p] ∧ s.onlyTan t p)) ∧
  (∀ (s : State) (p : Fin 18) (o : TanOut), s.boot.dieOn = true → s.joined p = true → (s.tan p).out = some o → o.ackAt = none →
    s.cycleOver (some (o.sentAt + (32 + 16 + 44 * (o.m.data.length + 2) + 2) * 1600 + 600000)) = true →
    (o.sends < 3 → ∃ t, exec (.tanResendTimeout p) s = .next t ∧ Emit.tangent p (withCrc (s.tanHeader p o.m o.id :: o.m.data)) ∈ t.out ∧
      t.rd (TAN_MSG_RETRY p) = satAdd 8 (s.rd (TAN_MSG_RETRY p)) 1 ∧
      t.tan p = { s.tan p with out := some { o with sends := o.sends + 1, sentAt := s.now } } ∧
      s.regsBut t [TAN_MSG_RETRY p] ∧ s.onlyTan t p) ∧
    (3 ≤ o.sends → ∃ t, exec (.tanResendTimeout p) s = .next t ∧ t.rd (TAN_MSG_FAIL p) = satAdd 8 (s.rd (TAN_MSG_FAIL p)) 1 ∧
      (t.pages.get (tanPage p)).stat.getLsbD EV_TAN_MSG_FAIL = true ∧ Emit.tangentReset p ∈ t.out ∧ (t.tan p).out = none ∧
      t.rd (TAN_FAULTS_HARD_RESETS p) = satAdd 8 (s.rd (TAN_FAULTS_HARD_RESETS p)) 1 ∧ s.onlyTan t p)) ∧
  (∀ (s : State) (p : Fin 18) (o : TanOut) (a : Nat), s.boot.dieOn = true → s.joined p = true → (s.tan p).out = some o → o.m.type ≠ 2 →
    o.ackAt = some a → s.cycleOver (some (a + 10000000)) = true → ∃ t, exec (.tanReplyTimeout p) s = .next t ∧ s.hardResetDone t p false false) ∧
  (∀ (s : State) (p : Fin 18) (d : Nat), s.boot.dieOn = true → s.joined p = true → s.cs p = CS_HELLO → s.mainSrc p = true →
    (s.tan p).helloAt = some d → d ≤ s.now →
    ((s.tan p).hellos < 3 → ∃ t, exec (.helloSend p) s = .next t ∧
      t.tan p = { s.tan p with
                    out := none, phase := 0, hellos := (s.tan p).hellos + 1, helloAt := some (s.now + 100000000)
                    mySwap := s.rdB (TAN_PORT_CTL_SWAP_EN p)
                    queue := (s.tan p).queue ++ [TanMsg.mk 2 (s.helloArg p) []] } ∧ t.regs = s.regs ∧ s.onlyTan t p) ∧
    (3 ≤ (s.tan p).hellos → s.cycleOver (some d) = true → ∃ t, exec (.helloSend p) s = .next t ∧ t.cs p = CS_AUX_ONLY ∧ t.rd (TAN_PORT_STAT_VER_MINOR p) = 15 ∧
      (t.tan p).queue = [] ∧ (t.tan p).out = none ∧ (t.tan p).signalled = true ∧ s.raised t (tanPage p) [EV_TAN_AUX_ONLY] ∧
      s.regsBut t [TAN_PORT_STAT_CSTATE p, TAN_PORT_STAT_VER_MINOR p, EVT_LOG_STAT_OVF] ∧ s.onlyTan t p)) ∧
  (∀ (s : State) (p : Fin 18) (msg : List Word), s.boot.dieOn = true → s.joined p = true →
    (∃ t, exec (.helloRx p msg true) s = .next t ∧ t.rd (TAN_MSG_BAD p) = satAdd 8 (s.rd (TAN_MSG_BAD p)) 1 ∧ t.pd = s.pd ∧
      s.regsBut t [TAN_MSG_BAD p] ∧ s.onlyRegs t) ∧
    (∃ t, exec (.offerRx p msg true) s = .next t ∧ t.rd (TAN_MSG_BAD p) = satAdd 8 (s.rd (TAN_MSG_BAD p)) 1 ∧ t.pd = s.pd ∧
      s.regsBut t [TAN_MSG_BAD p] ∧ s.onlyRegs t)) ∧
  (∀ (s : State) (p : Fin 18) (msg : List Word) (arg v : Nat), s.tanHears p 2 msg → arg = fld (msg.getD 0 0) 0 27 → s.cs p = CS_HELLO →
    (s.mainSrc p = true → (s.tan p).hellos ≠ 0) →
    (commonMinor arg = some v → ∃ t, exec (.helloRx p msg false) s = .next t ∧ s.tanAcked t p msg ∧ t.rd (TAN_PARTNER_VALID p) = 1 ∧
      t.rd (TAN_PARTNER_ARG p) = arg ∧ t.rd (TAN_PORT_STAT_VER_MINOR p) = v ∧ (t.tan p).out = none ∧ (t.tan p).helloAt = none ∧
      (t.tan p).lastRx = some (fld (msg.getD 0 0) 33 3) ∧
      (s.mainSrc p = true → (s.tan p).queue.all (fun m => m.type != 3) = true →
        (t.tan p).queue = (s.tan p).queue ++ [TanMsg.mk 3 0 []] ∧ (t.tan p).mySwap = (s.tan p).mySwap) ∧
      (s.mainSrc p = false → (t.tan p).mySwap = s.rdB (TAN_PORT_CTL_SWAP_EN p) ∧ (t.tan p).queue = (s.tan p).queue ++ [TanMsg.mk 2 (s.helloArg p) []]) ∧
      s.regsBut t [TAN_PARTNER_VALID p, TAN_PARTNER_ARG p, TAN_PORT_STAT_VER_MINOR p] ∧ s.onlyTan t p) ∧
    (commonMinor arg = none → ∃ t, exec (.helloRx p msg false) s = .next t ∧ s.tanAcked t p msg ∧ t.cs p = CS_AUX_ONLY ∧
      t.rd (TAN_PORT_STAT_VER_MINOR p) = 15 ∧ s.onlyTan t p))

/-- R464, R466–R474: the negotiation of power, its transitions and the swap of roles.
The model's choices that its clauses rest on: assumption log 11, 55. -/
def Obligations.PowerContractRows : Prop :=
  (∀ (s : State) (p : Fin 18) (msg : List Word) (r : Nat × Nat), s.tanHears p 3 msg → s.mainSrc p = false →
    s.cs p = CS_HELLO ∨ s.cs p = CS_NEGOTIATE ∨ s.cs p = CS_CONTRACT ∨ s.cs p = CS_SWAP → s.rdB (TAN_PARTNER_VALID p) = true →
    r = s.wantedPower p (fld (msg.getD 1 0) 12 8) (fld (msg.getD 1 0) 4 8) →
    ∃ t, exec (.offerRx p msg false) s = .next t ∧ s.tanAcked t p msg ∧ t.cs p = CS_NEGOTIATE ∧
      (t.tan p).offerI = fld (msg.getD 1 0) 12 8 ∧ (t.tan p).offerP = fld (msg.getD 1 0) 4 8 ∧ (t.tan p).reqI = r.1 ∧ (t.tan p).reqP = r.2 ∧
      (t.tan p).queue = (s.tan p).queue ++ [TanMsg.mk 4 0 [pack [(32, 8, r.1), (24, 8, r.2)]]] ∧
      s.regsBut t [TAN_PORT_STAT_CSTATE p] ∧ s.onlyTan t p) ∧
  (∀ (s : State) (p : Fin 18) (msg : List Word) (i w : Nat), s.tanHears p 4 msg → s.mainSrc p = true → s.cs p = CS_NEGOTIATE →
    i = fld (msg.getD 1 0) 32 8 → w = fld (msg.getD 1 0) 24 8 →
    (s.requestRefusal p i w = 0 → ∃ t, exec (.requestRx p msg false) s = .next t ∧ s.tanAcked t p msg ∧ (t.tan p).reqI = i ∧
      (t.tan p).reqP = w ∧ (t.tan p).granted = true ∧ (t.tan p).queue = (s.tan p).queue ++ [TanMsg.mk 5 0 []] ∧ t.regs = s.regs ∧
      s.onlyTan t p) ∧
    (s.requestRefusal p i w = 1 → (s.tan p).queue.all (fun m => m.type != 3) = true → ∃ t, exec (.requestRx p msg false) s = .next t ∧ s.tanAcked t p msg ∧
      (t.tan p).queue = (s.tan p).queue ++ [TanMsg.mk 6 1 [], TanMsg.mk 3 0 []] ∧ s.raised t tangPage [EV_TANG_BUDGET_REJECT] ∧
      s.regsBut t [EVT_LOG_STAT_OVF] ∧ s.onlyTan t p) ∧
    (s.requestRefusal p i w = 2 → (s.tan p).queue.all (fun m => m.type != 3) = true → ∃ t, exec (.requestRx p msg false) s = .next t ∧ s.tanAcked t p msg ∧
      (t.tan p).queue = (s.tan p).queue ++ [TanMsg.mk 6 2 [], TanMsg.mk 3 0 []] ∧ s.raised t tangPage [EV_TANG_FEED_REJECT] ∧
      s.regsBut t [EVT_LOG_STAT_OVF] ∧ s.onlyTan t p) ∧
    (s.requestRefusal p i w = 3 → ∃ t, exec (.requestRx p msg false) s = .next t ∧ s.tanAcked t p msg ∧
      (t.tan p).queue = (s.tan p).queue ++ [TanMsg.mk 6 3 []] ∧ t.regs = s.regs ∧ s.onlyTan t p)) ∧
  (∀ (s : State) (p : Fin 18) (msg : List Word), s.tanHears p 5 msg → s.cs p = CS_NEGOTIATE → s.mainSrc p = false → s.awaiting p 4 = true →
    ((s.tan p).reqI ≠ 0 → s.rd (TAN_PORT_STAT_MAIN_ON p) = 0 → ∃ t, exec (.acceptRx p msg false) s = .next t ∧ s.tanAcked t p msg ∧
      t.cs p = CS_TRANSITION ∧ (t.tan p).phase = PH_RAMP ∧ (t.tan p).out = none ∧
      (t.tan p).readyBy = some (s.now + 100000 + 138 * 1600 + 40000000) ∧ s.regsBut t [TAN_PORT_STAT_CSTATE p] ∧ s.onlyTan t p) ∧
    ((s.tan p).reqI = 0 → s.rd (TAN_PORT_STAT_MAIN_ON p) = 0 → ∃ t, exec (.acceptRx p msg false) s = .next t ∧ s.tanAcked t p msg ∧
      t.cs p = CS_CONTRACT ∧ (t.tan p).signalled = true ∧ (t.tan p).resets = 0 ∧
      (t.pages.get (tanPage p)).stat.getLsbD EV_TAN_CONTRACT = true ∧ s.onlyTan t p)) ∧
  (∀ (s : State) (p : Fin 18) (msg : List Word), s.tanHears p 6 msg → (s.tan p).out ≠ none →
    ∃ t, exec (.tanRejectRx p msg false) s = .next t ∧ s.tanAcked t p msg ∧ (t.tan p).out = none ∧
      (s.cs p = CS_NEGOTIATE → s.rd (TAN_PORT_STAT_MAIN_ON p) = 1 → fld (msg.getD 0 0) 0 27 % 16 = 4 → t.cs p = CS_CONTRACT) ∧
      (fld (msg.getD 0 0) 0 27 % 16 = 1 → t.regs = s.regs) ∧ s.regsBut t [TAN_PORT_STAT_CSTATE p] ∧ s.onlyTan t p) ∧
  (∀ (s : State) (p : Fin 18) (msg : List Word), s.tanHears p 7 msg → s.mainSrc p = false → s.cs p = CS_TRANSITION →
    ((s.tan p).phase = PH_RAMP → bitOf (fld (msg.getD 0 0) 0 27) 0 = true → ∃ t, exec (.readyRx p msg false) s = .next t ∧
      s.tanAcked t p msg ∧ t.cs p = CS_CONTRACT ∧ t.rd (TAN_PORT_STAT_MAIN_ON p) = 1 ∧
      t.rd (TAN_CONTRACT_I_C p) = (s.tan p).reqI % 2 ^ 8 ∧ t.rd (TAN_CONTRACT_P_C p) = (s.tan p).reqP % 2 ^ 8 ∧
      (t.tan p).readyBy = none ∧ t.pd.warn = { s.pd.warn with armed := true } ∧ Emit.rail p true true ∈ t.out ∧
      s.regsBut t [TAN_PORT_STAT_CSTATE p, TAN_PORT_STAT_MAIN_ON p, TAN_CONTRACT_I_C p, TAN_CONTRACT_P_C p, TAN_STAT_SRC_P,
        EVT_LOG_STAT_OVF]) ∧
    ((s.tan p).phase = PH_OFF → bitOf (fld (msg.getD 0 0) 0 27) 0 = false → ∃ t, exec (.readyRx p msg false) s = .next t ∧
      s.tanAcked t p msg ∧ t.cs p = CS_CONTRACT ∧ t.rd (TAN_PORT_STAT_MAIN_ON p) = 0 ∧ t.rd (TAN_CONTRACT_I_C p) = 0 ∧
      t.rd (TAN_CONTRACT_P_C p) = 0 ∧ Emit.rail p true false ∈ t.out ∧ s.onlyTan t p)) ∧
  (∀ (s : State) (p : Fin 18) (msg : List Word), s.tanHears p 8 msg →
    (s.swapCommon p = false → ∃ t, exec (.prSwapRx p msg false) s = .next t ∧ s.tanAcked t p msg ∧
      (t.tan p).queue = (s.tan p).queue ++ [TanMsg.mk 6 4 []] ∧ t.rd (TAN_MSG_BAD p) = satAdd 8 (s.rd (TAN_MSG_BAD p)) 1 ∧
      s.raised t (tanPage p) [EV_TAN_UNSUPPORTED] ∧ s.regsBut t [TAN_MSG_BAD p, EVT_LOG_STAT_OVF] ∧ s.onlyTan t p) ∧
    (s.cs p = CS_CONTRACT → s.rd (TAN_PORT_STAT_VER_MINOR p) = 1 → bitOf (s.rd (TAN_PARTNER_ARG p)) 9 = true → (s.tan p).mySwap = true →
      s.rdB (TAN_PORT_CTL_SWAP_EN p) = true → s.mainSrc p = true → s.rdB (TAN_PORT_CTL_SINK_EN p) = true → ∃ t, exec (.prSwapRx p msg false) s = .next t ∧ s.tanAcked t p msg ∧
        (t.tan p).swapping = true ∧ (t.tan p).queue = (s.tan p).queue ++ [TanMsg.mk 5 0 []] ∧ t.regs = s.regs ∧ s.onlyTan t p) ∧
    (s.cs p = CS_CONTRACT → s.rd (TAN_PORT_STAT_VER_MINOR p) = 1 → bitOf (s.rd (TAN_PARTNER_ARG p)) 9 = true → (s.tan p).mySwap = true →
      s.rdB (TAN_PORT_CTL_SWAP_EN p) = false →
      ∃ t, exec (.prSwapRx p msg false) s = .next t ∧ s.tanAcked t p msg ∧
        (t.tan p).queue = (s.tan p).queue ++ [TanMsg.mk 6 6 []] ∧ t.regs = s.regs ∧ s.onlyTan t p)) ∧
  (∀ (s : State) (p : Fin 18) (msg : List Word), s.tanHears p 9 msg → s.cs p = CS_CONTRACT → s.mainSrc p = true →
    (s.tan p).queue.all (fun m => m.type != 3) = true →
    ∃ t, exec (.getOfferRx p msg false) s = .next t ∧ s.tanAcked t p msg ∧ t.cs p = CS_NEGOTIATE ∧
      (t.tan p).queue = (s.tan p).queue ++ [TanMsg.mk 3 0 []] ∧
      s.regsBut t [TAN_PORT_STAT_CSTATE p] ∧ s.onlyTan t p) ∧
  (∀ (s : State) (p : Fin 18) (v : BitVec 10), s.boot.dieOn = true → s.joined p = true → s.mainSrc p = true →
    ((s.tan p).phase = PH_RAMP → ∃ t, exec (.mainRampDone p v) s = .next t ∧ t.rd (TAN_MEAS_V p) = v.toNat ∧
      t.tan p = { s.tan p with phase := PH_SETTLE, queue := (s.tan p).queue ++ [TanMsg.mk 7 1 []] } ∧
      s.regsBut t [TAN_MEAS_V p] ∧ s.onlyTan t p) ∧
    ((s.tan p).phase = PH_OFF → v.toNat < 50 → ∃ t, exec (.mainOffDone p v) s = .next t ∧ t.rd (TAN_MEAS_V p) = v.toNat ∧
      t.tan p = { s.tan p with queue := (s.tan p).queue ++ [TanMsg.mk 7 0 []] } ∧ s.regsBut t [TAN_MEAS_V p] ∧ s.onlyTan t p) ∧
    (50 ≤ v.toNat → ∃ t, exec (.mainOffDone p v) s = .next t ∧ t.rd (TAN_MEAS_V p) = v.toNat ∧ t.pd = s.pd ∧
      s.regsBut t [TAN_MEAS_V p] ∧ s.onlyRegs t)) ∧
  (∀ (s : State) (p : Fin 18) (rest : List TanMsg), s.boot.dieOn = true → s.joined p = true → s.mainSrc p = true → s.cs p = CS_TRANSITION →
    (s.tan p).out = none → (s.tan p).queue = TanMsg.mk 7 1 [] :: rest → (s.tan p).swapping = false → ∃ t, exec (.tanMsgSend p false) s = .next t ∧ t.cs p = CS_CONTRACT ∧
      t.rd (TAN_PORT_STAT_MAIN_ON p) = 1 ∧ t.rd (TAN_CONTRACT_I_C p) = (s.tan p).reqI % 2 ^ 8 ∧
      t.rd (TAN_CONTRACT_P_C p) = (s.tan p).reqP % 2 ^ 8 ∧ (t.tan p).phase = 0 ∧ s.raised t (tanPage p) [EV_TAN_CONTRACT] ∧
      s.regsBut t [TAN_PORT_STAT_CSTATE p, TAN_PORT_STAT_MAIN_ON p, TAN_CONTRACT_I_C p, TAN_CONTRACT_P_C p, TAN_STAT_SRC_P,
        EVT_LOG_STAT_OVF] ∧ s.onlyTan t p) ∧
  (∀ (s : State) (p : Fin 18) (d : Nat), s.boot.dieOn = true → s.joined p = true → s.cycleOver (some d) = true →
    ((s.tan p).readyBy = some d → ∃ t, exec (.readyTimeout p) s = .next t ∧ s.hardResetDone t p false false) ∧
    ((s.tan p).swapBy = some d → ∃ t, exec (.swapTimeout p) s = .next t ∧ s.hardResetDone t p false false)) ∧
  (∀ (s : State) (p : Fin 18), s.boot.dieOn = true → s.coreOn = true → s.joined p = true → s.cs p = CS_CONTRACT → s.mainSrc p = true →
    (s.tan p).queue.all (fun m => m.type != 3) = true → ∃ t, exec (.reoffer p) s = .next t ∧
      t.tan p = { s.tan p with queue := (s.tan p).queue ++ [TanMsg.mk 3 0 []] } ∧
      t.regs = s.regs ∧ s.onlyTan t p)

/-- R451, R464, R471, R472, R475, R476, R479, R480, R484: hard resets, loss in a transition and the faults of the rails.
The model's choices that its clauses rest on: assumption log 11, 56. -/
def Obligations.TangentFaultRows : Prop :=
  (∀ (s : State) (p : Fin 18), s.boot.dieOn = true → s.joined p = true →
    (∃ t, exec (.hardResetRx p) s = .next t ∧ s.hardResetDone t p true false) ∧
    (s.coreOn = true → s.cs p ≠ CS_AUX_ONLY → ∃ t, exec (.tanHardResetCmd p) s = .next t ∧ s.hardResetDone t p false false) ∧
    (s.coreOn = true → s.cs p = CS_AUX_ONLY → ∃ t, exec (.tanHardResetCmd p) s = .next t ∧ s.hardResetDone t p false true)) ∧
  (∀ (s : State) (p : Fin 18) (d : Nat), s.boot.dieOn = true → s.cs p = CS_HARD_RESET → (s.tan p).waitBy = some d → d ≤ s.now →
    ∃ t, exec (.hardResetExpiry p) s = .next t ∧ t.cs p = CS_HELLO ∧ (t.tan p).waitBy = none ∧ (t.tan p).phase = 0 ∧
      (t.tan p).helloAt = (if (s.tan p).attSrc then some s.now else none) ∧ s.regsBut t [TAN_PORT_STAT_CSTATE p] ∧ s.onlyTan t p) ∧
  (∀ (s : State) (p : Fin 18), s.boot.dieOn = true → s.joined p = true → (s.tan p).phase ≠ 0 →
    (s.tan p).phase ≠ 1 ∨ s.now ≤ (s.tan p).auxBy → ∃ t, exec (.transitionLoss p) s = .next t ∧ t.portLeft p PS_GUARD (some (s.now + 100000000)) ∧
      t.rd (TAN_PORT_STAT_LAST_PHASE p) = (s.tan p).phase % 2 ^ 3 ∧
      t.rd (TAN_FAULTS_TRANSITION_LOSS p) = satAdd 8 (s.rd (TAN_FAULTS_TRANSITION_LOSS p)) 1 ∧
      (t.pages.get (tanPage p)).stat.getLsbD EV_TAN_TRANSITION_LOSS = true ∧
      ((s.tan p).signalled = false → s.onlyTan t p ∧
        s.regsBut t (TAN_PORT_STAT_LAST_PHASE p :: TAN_FAULTS_TRANSITION_LOSS p :: leftRegs p))) ∧
  (∀ (s : State) (p : Fin 18) (i r : Nat), s.boot.dieOn = true → s.ps p = PS_SRC → s.mainSrc p = true →
    s.rd (TAN_PORT_STAT_MAIN_ON p) = 1 → (s.tan p).railAt = some r → s.now < r + 1000000000 →
    ((s.tan p).faults < 3 → ∃ t, exec (.railFault p true) s = .next t ∧
      t.portLeft p PS_FAULT_WAIT (some (s.now + min 10000 (max 100 (s.rd TAN_RETRY_MS)) * 1000000)) ∧
      (t.tan p).faults = (s.tan p).faults + 1 ∧ t.rd (TAN_FAULTS_MAIN_TRIPS p) = satAdd 8 (s.rd (TAN_FAULTS_MAIN_TRIPS p)) 1 ∧
      (t.pages.get (tanPage p)).stat.getLsbD EV_TAN_FAULT = true ∧
      ((s.tan p).signalled = false → s.onlyTan t p ∧ s.regsBut t (TAN_FAULTS_MAIN_TRIPS p :: leftRegs p))) ∧
    ((s.tan p).faults = 3 → ∃ t, exec (.railFault p true) s = .next t ∧ t.portLeft p PS_LATCHED none ∧
      t.rd (TAN_FAULTS_MAIN_TRIPS p) = satAdd 8 (s.rd (TAN_FAULTS_MAIN_TRIPS p)) 1 ∧
      (t.pages.get (tanPage p)).stat.getLsbD EV_TAN_FAULT_LATCH = true) ∧
    (20 * s.rd (TAN_CONTRACT_I_C p) < i → (s.tan p).faults < 3 → ∃ t, exec (.portFastTrip p true i) s = .next t ∧
      t.ps p = PS_FAULT_WAIT ∧ t.rd (TAN_MEAS_I p) = min i 4095 ∧
      t.rd (TAN_FAULTS_MAIN_TRIPS p) = satAdd 8 (s.rd (TAN_FAULTS_MAIN_TRIPS p)) 1) ∧
    (i ≤ 20 * s.rd (TAN_CONTRACT_I_C p) → ∃ t, exec (.portFastTrip p true i) s = .next t ∧
      t.rd (TAN_MEAS_I p) = min i 4095 ∧ t.pd = s.pd ∧ s.regsBut t [TAN_MEAS_I p] ∧ s.onlyRegs t)) ∧
  (∀ (s : State) (p : Fin 18), s.boot.dieOn = true → s.ps p = PS_SRC → (s.tan p).railAt.all (fun r => r + 1000000000 ≤ s.now) = true ∨ (s.tan p).faults < 3 → (s.tan p).signalled = false →
    ∃ t, exec (.contactShort p) s = .next t ∧
      t.portLeft p PS_FAULT_WAIT (some (s.now + min 10000 (max 100 (s.rd TAN_RETRY_MS)) * 1000000)) ∧
      t.rd (TAN_FAULTS_AUX_TRIPS p) = satAdd 8 (s.rd (TAN_FAULTS_AUX_TRIPS p)) 1 ∧
      (t.pages.get (tanPage p)).stat.getLsbD EV_TAN_FAULT = true ∧ s.onlyTan t p ∧
      s.regsBut t (TAN_FAULTS_AUX_TRIPS p :: leftRegs p)) ∧
  (∀ (s : State) (p : Fin 18) (d : Nat), s.boot.dieOn = true → (s.tan p).signalled = false → s.rd (TAN_PORT_CTL_ENABLE p) = 1 →
    s.rd (TAN_PORT_CTL_ROLE p) < 3 →
    (s.ps p = PS_FAULT_WAIT → (s.tan p).waitBy = some d → d ≤ s.now → ∃ t, exec (.faultRetryExpiry p) s = .next t ∧
      t.portLeft p PS_UNATTACHED none ∧ s.regsBut t (leftRegs p) ∧ s.onlyTan t p) ∧
    (s.ps p = PS_LATCHED → s.coreOn = true → ∃ t, exec (.clearFault p) s = .next t ∧ t.portLeft p PS_UNATTACHED none ∧
      (t.tan p).faults = 0 ∧ s.regsBut t (leftRegs p) ∧ s.onlyTan t p))


/-! ## Feeds -/

/-- R490–R499, R504–R506: the states of a feed, its breaker, its limits and power-good.
The model's choices that its clauses rest on: assumption log 11, 57. -/
def Obligations.FeedRows : Prop :=
  (∀ (s : State) (x : Fin 2) (m : FeedMeas), s.boot.dieOn = true →
    ((s.feed x).st = .absent → s.testStrap = false → s.rd FEED_THR_UV ≤ m.vin → m.vin ≤ s.rd FEED_THR_OV →
      ∃ t, exec (.feedQualify x m) s = .next t ∧
        s.fed t x m { (s.feed x).gone .start s.now with
                      limit := true, startBy := some (s.now + min 1000 (max 10 (s.rd FEED_INRUSH_T_START)) * 1000000) } ∧ s.regsBut t (fedRegs x)) ∧
    ((s.feed x).st = .ovOff → m.vin + 10 ≤ s.rd FEED_THR_OV → ∃ t, exec (.feedOvRecover x m) s = .next t ∧
        s.fed t x m { (s.feed x).gone .start s.now with
                      limit := true, startBy := some (s.now + min 1000 (max 10 (s.rd FEED_INRUSH_T_START)) * 1000000) } ∧ s.regsBut t (fedRegs x)) ∧
    (m.vin < 50 → (s.feed x).st = .on ∨ (s.feed x).st = .latched ∨ (s.feed x).st = .start ∨ (s.feed x).st = .ovOff →
      ∃ t, exec (.feedVinLoss x m) s = .next t ∧ s.fed t x m ((s.feed x).gone .absent s.now) ∧
        ((s.feed x).pg = true → (t.pages.get feedPage).stat.getLsbD (EV_FEED_A_PG_DOWN + 8 * x.val) = true) ∧ s.regsBut t (fedRegs x)) ∧
    ((s.feed x).st = .start → m.vin ≤ m.fbus + 10 → m.fbus ≤ m.vin + 10 →
      ∃ t, exec (.feedOn x m) s = .next t ∧
        s.fed t x m { (s.feed x).gone .on s.now with pgFrom := some s.now } ∧ s.regsBut t (fedRegs x))) ∧
  (∀ (s : State) (x : Fin 2) (m : FeedMeas) (d : Nat), s.boot.dieOn = true →
    ((s.feed x).st = .start → (s.feed x).startBy = some d → s.cycleOver (some d) = true → ∃ t, exec (.feedStartTimeout x m) s = .next t ∧
      s.fed t x m ((s.feed x).gone .latched s.now) ∧
      t.rd (if x = 0 then FEED_TRIPS_A_START_FAIL else FEED_TRIPS_B_START_FAIL) =
        satAdd 8 (s.rd (if x = 0 then FEED_TRIPS_A_START_FAIL else FEED_TRIPS_B_START_FAIL)) 1 ∧
      (t.pages.get feedPage).stat.getLsbD (EV_FEED_A_START_FAIL + 8 * x.val) = true ∧
      s.regsBut t (LOG_RING_STAT_WRAPS :: (if x = 0 then FEED_TRIPS_A_START_FAIL else FEED_TRIPS_B_START_FAIL) :: fedRegs x)) ∧
    ((s.feed x).st = .on → (s.feed x).faultBy = some d → s.cycleOver (some d) = true → ∃ t, exec (.feedCbTrip x m) s = .next t ∧
      s.fed t x m ((s.feed x).gone .latched s.now) ∧
      t.rd (if x = 0 then FEED_TRIPS_A_CB else FEED_TRIPS_B_CB) = satAdd 8 (s.rd (if x = 0 then FEED_TRIPS_A_CB else FEED_TRIPS_B_CB)) 1 ∧
      (t.pages.get feedPage).stat.getLsbD (EV_FEED_A_CB_TRIP + 8 * x.val) = true ∧
      s.regsBut t (LOG_RING_STAT_WRAPS :: (if x = 0 then FEED_TRIPS_A_CB else FEED_TRIPS_B_CB) :: fedRegs x)) ∧
    ((s.feed x).st = .on → (s.feed x).pg = false → (s.feed x).faultBy = none → (s.feed x).pgFrom = some d → d + 1000000 ≤ s.now →
      s.rd FEED_THR_UV + 5 ≤ m.vin → m.vin ≤ s.rd FEED_THR_OV → ∃ t, exec (.pgUp x m) s = .next t ∧
        t.feed x = { s.feed x with pg := true } ∧ s.raised t feedPage [EV_FEED_A_PG_UP + 8 * x.val] ∧
        t.pd.warn = { s.pd.warn with armed := true } ∧ t.rd TAN_STAT_DB_ACTIVE = 0 ∧ s.regsBut t (TAN_STAT_DB_ACTIVE :: fedRegs x) ∧
        { t with regs := s.regs, pages := s.pages, pd := s.pd, log := s.log, evt := s.evt, out := s.out } = s)) ∧
  (∀ (s : State) (x : Fin 2) (m : FeedMeas), s.boot.dieOn = true → (s.feed x).st = .start ∨ (s.feed x).st = .on →
    (s.rd FEED_CB_FAST * 10 ≤ m.vs → ∃ t, exec (.feedFastTrip x m) s = .next t ∧
      s.fed t x m ((s.feed x).gone .latched s.now) ∧
      t.rd (if x = 0 then FEED_TRIPS_A_FAST else FEED_TRIPS_B_FAST) =
        satAdd 8 (s.rd (if x = 0 then FEED_TRIPS_A_FAST else FEED_TRIPS_B_FAST)) 1 ∧
      (t.pages.get feedPage).stat.getLsbD (EV_FEED_A_FAST_TRIP + 8 * x.val) = true ∧
      s.regsBut t (LOG_RING_STAT_WRAPS :: (if x = 0 then FEED_TRIPS_A_FAST else FEED_TRIPS_B_FAST) :: fedRegs x)) ∧
    (s.rd FEED_THR_OV < m.vin → ∃ t, exec (.feedOv x m) s = .next t ∧
      s.fed t x m ((s.feed x).gone .ovOff s.now) ∧
      t.rd (if x = 0 then FEED_OV_CNT_OV_A else FEED_OV_CNT_OV_B) = satAdd 8 (s.rd (if x = 0 then FEED_OV_CNT_OV_A else FEED_OV_CNT_OV_B)) 1 ∧
      (t.pages.get feedPage).stat.getLsbD (EV_FEED_A_OV + 8 * x.val) = true ∧
      s.regsBut t ((if x = 0 then FEED_OV_CNT_OV_A else FEED_OV_CNT_OV_B) :: fedRegs x)) ∧
    (m.vin ≤ m.fbus → (s.feed x).blocked = false → ∃ t, exec (.feedReverse x m) s = .next t ∧
      s.fed t x m { s.feed x with blocked := true } ∧ s.raised t feedPage [EV_FEED_A_REVERSE + 8 * x.val] ∧
      t.rd (if x = 0 then FEED_TRIPS_A_REVERSE else FEED_TRIPS_B_REVERSE) =
        satAdd 8 (s.rd (if x = 0 then FEED_TRIPS_A_REVERSE else FEED_TRIPS_B_REVERSE)) 1 ∧
      s.regsBut t ((if x = 0 then FEED_TRIPS_A_REVERSE else FEED_TRIPS_B_REVERSE) :: fedRegs x)) ∧
    (m.fbus ≤ m.vin → (s.feed x).blocked = true → ∃ t, exec (.feedReverseClear x m) s = .next t ∧
      s.fed t x m { s.feed x with blocked := false } ∧ s.regsBut t (fedRegs x) ∧ t.pages = s.pages)) ∧
  (∀ (s : State) (x : Fin 2) (m : FeedMeas), s.boot.dieOn = true → (s.feed x).since / 40 = s.now / 40 →
    ((s.feed x).st = .ovOff → s.rd FEED_CB_FAST * 10 ≤ m.vs → ∃ t, exec (.feedFastTrip x m) s = .next t ∧
      s.fed t x m ((s.feed x).gone .latched s.now) ∧ (t.pages.get feedPage).stat.getLsbD (EV_FEED_A_FAST_TRIP + 8 * x.val) = true) ∧
    ((s.feed x).st = .latched → s.rd FEED_THR_OV < m.vin → ∃ t, exec (.feedOv x m) s = .next t ∧ t.pd = s.pd ∧
      t.rd (if x = 0 then FEED_OV_CNT_OV_A else FEED_OV_CNT_OV_B) = satAdd 8 (s.rd (if x = 0 then FEED_OV_CNT_OV_A else FEED_OV_CNT_OV_B)) 1 ∧
      (t.pages.get feedPage).stat.getLsbD (EV_FEED_A_OV + 8 * x.val) = true)) ∧
  (∀ (s : State) (x : Fin 2) (m : FeedMeas), s.boot.dieOn = true →
    ((s.feed x).st = .on → s.rd FEED_CB_CB * 5 ≤ m.vs → (s.feed x).faultBy = none → ∃ t, exec (.feedCbLimit x m) s = .next t ∧
      s.fed t x m { s.feed x with
                      limit := true, pgFrom := none
                      faultBy := some (s.now + min 100 (max 1 (s.rd FEED_CB_FT)) * 1000000) } ∧ s.regsBut t (fedRegs x)) ∧
    ((s.feed x).st = .on → m.vs < s.rd FEED_CB_CB * 5 → (s.feed x).faultBy ≠ none → ∃ t, exec (.feedCbLimit x m) s = .next t ∧
      s.fed t x m { s.feed x with limit := false, faultBy := none, pgFrom := some s.now } ∧ s.regsBut t (fedRegs x)) ∧
    ((s.feed x).pg = true → m.vin < s.rd FEED_THR_UV → ∃ t, exec (.pgDown x m) s = .next t ∧
      s.fed t x m { s.feed x with pg := false, pgFrom := some s.now } ∧ s.raised t feedPage [EV_FEED_A_PG_DOWN + 8 * x.val] ∧
      s.regsBut t (fedRegs x)))

/-- R496, R499–R501, R504–R506: FEED_WARN, and the writes and reads of the feed page.
The model's choices that its clauses rest on: assumption log 11, 57. -/
def Obligations.FeedWarnRows : Prop :=
  (∀ (s : State) (v : BitVec 10) (c : Nat) (k : Fin 18), s.boot.dieOn = true → s.pd.warn.armed = true → s.rdB FEED_STAT_WARN = false → c ≠ 0 →
    c = (if v.toNat < s.rd FEED_THR_WARN then 1 else 0) + (if s.feedPg = false ∧ s.sinkContract = false then 2 else 0) →
    (s.rdB FEED_CTL_SHED = true → s.joined k = true → s.mainSrc k = true → s.rdB (TAN_PORT_STAT_MAIN_ON k) = true →
      ∃ t, exec (.feedWarnAssert v) s = .next t ∧ t.rd FEED_STAT_WARN = 1 ∧ t.rd (TAN_PORT_STAT_MAIN_ON k) = 0 ∧
        t.rd (TAN_CONTRACT_I_C k) = 0 ∧ t.rd (TAN_CONTRACT_P_C k) = 0 ∧ Emit.tangentReset k ∈ t.out ∧ Emit.rail k true false ∈ t.out) ∧
    (s.rdB FEED_CTL_SHED = false → (s.tan k).granted = true → (s.tan k).grantAt / 40 = s.now / 40 → TanMsg.mk 5 0 [] ∈ (s.tan k).queue →
      s.rd (TAN_CONTRACT_I_C k) < (s.tan k).reqI → ∃ t, exec (.feedWarnAssert v) s = .next t ∧ t.rd FEED_STAT_WARN = 1 ∧
        (t.tan k).granted = false ∧ TanMsg.mk 5 0 [] ∉ (t.tan k).queue ∧ TanMsg.mk 6 2 [] ∈ (t.tan k).queue ∧
        (t.pages.get tangPage).stat.getLsbD EV_TANG_FEED_REJECT = true) ∧
    (s.coreOn = false → s.rdB FEED_CTL_SHED = false → s.noFreshGrant = true → ∃ t, exec (.feedWarnAssert v) s = .next t ∧ t.rd FEED_STAT_WARN = 1 ∧
      t.rd FEED_STAT_CAUSE = c ∧ t.rd FEED_BUS_V = v.toNat ∧ t.rd FEED_BUS_MIN = min (s.rd FEED_BUS_MIN) v.toNat ∧
      t.rd FEED_WARN_CNT_ASSERTS = satAdd 16 (s.rd FEED_WARN_CNT_ASSERTS) 1 ∧
      t.pd = { s.pd with warn := { armed := true, at_ := s.now, arg := packNat [(18, 1, 1), (16, 2, c), (6, 10, v.toNat)]
                                   repeatAt := some (s.now + 10000000) } } ∧
      s.raised t feedPage [EV_FEED_WARN_ON] ∧
      s.regsBut t [FEED_STAT_WARN, FEED_STAT_CAUSE, FEED_BUS_V, FEED_BUS_MIN, FEED_WARN_CNT_ASSERTS, EVT_LOG_STAT_OVF] ∧
      { t with regs := s.regs, pages := s.pages, pd := s.pd, log := s.log, evt := s.evt, out := s.out } = s) ∧
    (s.coreOn = true → s.rdB FEED_CTL_SHED = false → s.stored.committing = none → s.log.writing = none →
      ∃ t, exec (.feedWarnAssert v) s = .next t ∧ t.rd FEED_STAT_WARN = 1 ∧ t.rd FEED_STAT_CAUSE = c ∧
        (t.pages.get feedPage).stat.getLsbD EV_FEED_WARN_ON = true ∧ t.log.writing ≠ none ∧ t.rd LOG_STAT_COMMITTING = 1 ∧
        s.regsBut t [FEED_STAT_WARN, FEED_STAT_CAUSE, FEED_BUS_V, FEED_BUS_MIN, FEED_WARN_CNT_ASSERTS, LOG_STAT_COMMITTING,
          LOG_RING_STAT_WRAPS, EVT_LOG_STAT_OVF] ∧ t.stored = s.stored ∧
        ∀ p ∈ s.warnPorts, s.ls p = LS_ACTIVE →
          (t.chord p).points.getLast? = some (Point.mk 1 true s.hubNo (packNat [(18, 1, 1), (16, 2, c), (6, 10, v.toNat)])))) ∧
  (∀ (s : State) (v : BitVec 10), s.boot.dieOn = true → s.coreOn = false → s.rdB FEED_STAT_WARN = true → s.pd.warn.at_ + 10000000 ≤ s.now →
    s.rd FEED_THR_WARN + 10 ≤ v.toNat → s.feedPg = true ∨ s.sinkContract = true → ∃ t, exec (.feedWarnDeassert v) s = .next t ∧
      t.rd FEED_STAT_WARN = 0 ∧ t.rd FEED_STAT_CAUSE = 0 ∧ t.pd.warn.repeatAt = none ∧ bitOf t.pd.warn.arg 18 = false ∧
      s.raised t feedPage [EV_FEED_WARN_OFF] ∧ s.regsBut t [FEED_STAT_WARN, FEED_STAT_CAUSE, EVT_LOG_STAT_OVF] ∧
      { t with regs := s.regs, pages := s.pages, pd := s.pd, evt := s.evt, out := s.out } = s) ∧
  (∀ (s : State) (d : Nat), s.boot.dieOn = true → s.rdB FEED_STAT_WARN = true → s.pd.warn.repeatAt = some d → d ≤ s.now →
    ∃ t, exec .feedWarnRepeat s = .next t ∧ t.pd = { s.pd with warn := { s.pd.warn with repeatAt := some (s.now + 10000000) } } ∧
      t.regs = s.regs ∧ t.pages = s.pages ∧
      ∀ p ∈ s.warnPorts, s.coreOn = true → s.ls p = LS_ACTIVE →
        (t.chord p).points.getLast? = some (Point.mk 1 true s.hubNo s.pd.warn.arg)) ∧
  (∀ (s : State) (x : Fin 2), s.boot.dieOn = true → s.coreOn = true → s.locked feedPage = false → (s.feed x).offAt = none →
    ((s.feed x).st ≠ .latched → (s.feed x).st ≠ .disabled → (s.feed x).pg = false → ∃ t, exec (.feedEnable x false) s = .next t ∧
      t.rd (if x = 0 then FEED_CTL_EN_A else FEED_CTL_EN_B) = 0 ∧ t.feed x = { (s.feed x).gone .disabled s.now with offAt := some s.now } ∧
      s.regsBut t [if x = 0 then FEED_CTL_EN_A else FEED_CTL_EN_B, if x = 0 then FEED_STAT_FEED_A else FEED_STAT_FEED_B] ∧
      { t with regs := s.regs, pd := s.pd, evt := s.evt, out := s.out } = s) ∧
    ((s.feed x).st = .disabled → (s.feed x).pg = false → ∃ t, exec (.feedEnable x true) s = .next t ∧
      t.rd (if x = 0 then FEED_CTL_EN_A else FEED_CTL_EN_B) = 1 ∧ t.feed x = { (s.feed x).gone .absent s.now with offAt := none } ∧
      s.regsBut t [if x = 0 then FEED_CTL_EN_A else FEED_CTL_EN_B, if x = 0 then FEED_STAT_FEED_A else FEED_STAT_FEED_B] ∧
      { t with regs := s.regs, pd := s.pd, evt := s.evt, out := s.out } = s)) ∧
  (∀ (s : State) (x : Fin 2) (d : Nat), s.boot.dieOn = true → s.coreOn = true → s.locked feedPage = false → (s.feed x).st = .latched →
    ((s.feed x).offAt = none → ∃ t, exec (.feedEnable x false) s = .next t ∧ t.rd (if x = 0 then FEED_CTL_EN_A else FEED_CTL_EN_B) = 0 ∧
      t.feed x = { s.feed x with offAt := some s.now }) ∧
    ((s.feed x).offAt = some d → d + 1000000 ≤ s.now → ∃ t, exec (.feedEnable x true) s = .next t ∧
      t.rd (if x = 0 then FEED_CTL_EN_A else FEED_CTL_EN_B) = 1 ∧ (t.feed x).st = .absent ∧ (t.feed x).offAt = none) ∧
    ((s.feed x).offAt = some d → s.now < d + 1000000 → ∃ t, exec (.feedEnable x true) s = .next t ∧
      t.rd (if x = 0 then FEED_CTL_EN_A else FEED_CTL_EN_B) = 1 ∧ (t.feed x).st = .latched ∧ (t.feed x).offAt = none)) ∧
  (∀ (s : State) (v : Reg) (uv ov wn : Nat), s.boot.dieOn = true → s.coreOn = true → uv = bitsOf v.toNat 0 10 → ov = bitsOf v.toNat 10 10 →
    wn = bitsOf v.toNat 20 10 →
    (s.locked feedPage = true → ∃ t, exec (.feedThrWrite v) s = .next t ∧ t.regs = s.regs ∧ s.onlyRegs t) ∧
    (s.locked feedPage = false → 180 ≤ uv ∧ uv < wn ∧ wn < ov ∧ ov ≤ 600 → ∃ t, exec (.feedThrWrite v) s = .next t ∧
      t.rd FEED_THR_UV = uv ∧ t.rd FEED_THR_OV = ov ∧ t.rd FEED_THR_WARN = wn ∧ s.regsBut t [FEED_THR_UV, FEED_THR_OV, FEED_THR_WARN] ∧
      s.onlyRegs t) ∧
    (s.locked feedPage = false → ¬ (180 ≤ uv ∧ uv < wn ∧ wn < ov ∧ ov ≤ 600) → ∃ t, exec (.feedThrWrite v) s = .next t ∧
      s.raised t feedPage [EV_FEED_THR_REJECT] ∧ s.regsBut t [EVT_LOG_STAT_OVF] ∧ s.onlyRegs t)) ∧
  (∀ s : State, s.boot.dieOn = true → s.coreOn = true → ∃ t, exec .feedBusMinRead s = .next t ∧ t.rd FEED_BUS_MIN = 0x3FF ∧
    Emit.read feedPage 0x058 (BitVec.ofNat 32 (s.rd FEED_BUS_MIN * 2 ^ FEED_BUS_MIN.lsb + s.rd FEED_BUS_V * 2 ^ FEED_BUS_V.lsb)) ∈ t.out ∧
    s.regsBut t [FEED_BUS_MIN] ∧ s.onlyRegs t)


/-! ## Sleep, level and energy -/

/-- R509–R518, R530: requests for sleep, their refusal and abort, and the wake.
The model's choices that its clauses rest on: assumption log 11, 52. -/
def Obligations.SleepRows : Prop :=
  (∀ (s : State) (req : BitVec 2) (us : List Nat), s.coreOn = true → req ≠ 0 → us = s.refusers →
    (s.rd PWR_STAT_ENTRY ≠ 0 ∨ s.power.asleep ≠ 0 ∨ s.power.srcAt.any (fun a => a / 40 == s.now / 40) = true → ∃ t, exec (.sleepRequest req) s = .next t ∧
      t.rd PWR_COUNT_IGNORED = satAdd 8 (s.rd PWR_COUNT_IGNORED) 1 ∧ s.regsBut t [PWR_COUNT_IGNORED] ∧ s.onlyRegs t) ∧
    (s.rd PWR_STAT_ENTRY = 0 → s.power.asleep = 0 → s.power.srcAt.all (fun a => a / 40 != s.now / 40) = true → us ≠ [] → ∃ t, exec (.sleepRequest req) s = .next t ∧
      t.rd PWR_LAST_REFUSER_UNIT = us.headD 0 ∧ t.rd PWR_LAST_REFUSER_STATE = req.toNat ∧ t.rd PWR_LAST_REFUSER_ABORTED = 0 ∧
      (∀ u ∈ us, t.rd (if u % 2 = 1 then PWR_REFUSE_ODD (u / 2) else PWR_REFUSE_EVEN (u / 2)) =
        satAdd 16 (s.rd (if u % 2 = 1 then PWR_REFUSE_ODD (u / 2) else PWR_REFUSE_EVEN (u / 2))) 1) ∧
      s.raised t pwrPage [EV_PWR_REFUSED] ∧
      s.regsBut t ([PWR_LAST_REFUSER_UNIT, PWR_LAST_REFUSER_STATE, PWR_LAST_REFUSER_ABORTED, EVT_LOG_STAT_OVF] ++
        us.map (fun u => if u % 2 = 1 then PWR_REFUSE_ODD (u / 2) else PWR_REFUSE_EVEN (u / 2))) ∧ s.onlyRegs t) ∧
    (s.rd PWR_STAT_ENTRY = 0 → s.power.asleep = 0 → s.power.srcAt.all (fun a => a / 40 != s.now / 40) = true → us = [] → ∃ t, exec (.sleepRequest req) s = .next t ∧
      t.rd PWR_STAT_ENTRY = 1 ∧ t.power = { s.power with asked := req.toNat, drainBy := some (s.now + 120000), stopped := true, early := [] } ∧
      s.regsBut t [PWR_STAT_ENTRY] ∧ (req = 1 → t.chords = s.chords) ∧
      (req ≠ 1 → ∀ p : Fin 18, s.ls p = LS_ACTIVE → t.chord p =
        { s.chord p with quiet := true, points := (s.chord p).points ++ [Point.mk 3 false s.hubNo (2 * 2 ^ 17)] }) ∧
      { t with regs := s.regs, chords := s.chords, power := s.power, evt := s.evt, out := s.out } = s)) ∧
  (∀ (s : State) (d : Nat) (ps : List Nat), s.coreOn = true → s.power.asked = 1 → s.power.drainBy = some d → d < s.now →
    ps = (List.range 18).filter (fun p => !s.portDrained p) → ps ≠ [] →
    ∃ t, exec .sleepDrainTimeout s = .next t ∧ t.power = { s.power with asked := 0, drainBy := none, stopped := false, early := [] } ∧
      t.rd PWR_STAT_ENTRY = 0 ∧ t.rd PWR_LAST_REFUSER_UNIT = ps.headD 0 + 16 ∧ t.rd PWR_LAST_REFUSER_STATE = 1 ∧
      t.rd PWR_LAST_REFUSER_ABORTED = 1 ∧ s.raised t pwrPage [EV_PWR_REFUSED] ∧ t.lanes = s.lanes) ∧
  (∀ (s : State) (d : Nat) (a : Fin 4) (ps : List Nat), s.coreOn = true → s.power.asked = a → a ≠ 0 → s.power.drainBy = some d → d < s.now →
    ps = (List.range 18).filter (fun p => !s.portDrained p) → ps ≠ [] →
    ∃ t, exec .sleepDrainTimeout s = .next t ∧ t.power.asked = 0 ∧ t.power.drainBy = none ∧ t.power.stopped = false ∧
      t.rd PWR_STAT_ENTRY = 0 ∧ t.rd PWR_LAST_REFUSER_UNIT = ps.headD 0 + 16 ∧ t.rd PWR_LAST_REFUSER_STATE = a ∧
      t.rd PWR_LAST_REFUSER_ABORTED = 1 ∧ (t.pages.get pwrPage).stat.getLsbD EV_PWR_REFUSED = true) ∧
  (∀ (s : State) (c : Fin 10) (d : Fin 18), s.boot.dieOn = true → s.sourceOn (c.val, d.val) = true →
    (s.power.asked ≠ 0 → ∃ t, exec (.wakeSource [(c, d)]) s = .next t ∧
      t.power = { s.power with srcAt := some s.now, early := s.power.early ++ [(c.val, d.val)] } ∧ t.regs = s.regs ∧ t.coreOn = s.coreOn) ∧
    (s.power.asked = 0 → s.power.asleep = 0 → ∃ t, exec (.wakeSource [(c, d)]) s = .next t ∧
      { t with evt := s.evt, out := s.out } = { s with power := { s.power with srcAt := some s.now } }) ∧
    (s.power.asked = 0 → s.power.asleep = 1 → (∀ p, p < 18 → s.ls p ≠ LS_DOZE) → ∃ t, exec (.wakeSource [(c, d)]) s = .next t ∧
      t.power.asleep = 0 ∧ t.power.stopped = false ∧ t.power.wakeSrc.take 4 = [c.val, d.val, 1, 0] ∧ t.rd PWR_STAT_STATE = 0 ∧
      t.rd PWR_STAT_CLK_SRC = 0 ∧ t.rd PWR_STAT_LEVEL = 3 ∧ t.rd PWR_COUNT_WAKES = satAdd 16 (s.rd PWR_COUNT_WAKES) 1 ∧
      s.raised t pwrPage [EV_PWR_WAKE] ∧
      s.regsBut t [PWR_STAT_STATE, PWR_STAT_CLK_SRC, PWR_STAT_LEVEL, HULL_STAT_PLEVEL, PWR_COUNT_WAKES, EVT_LOG_STAT_OVF]) ∧
    (s.power.asked = 0 → s.power.asleep = 2 → ∃ t, exec (.wakeSource [(c, d)]) s = .next t ∧ t.power.asleep = 0 ∧ t.coreOn = true ∧
      t.power.wakeSrc.take 4 = [c.val, d.val, 2, 0] ∧ Emit.coreRails true ∈ t.out ∧ t.rd PWR_STAT_LEVEL = 3 ∧
      (t.pages.get pwrPage).stat.getLsbD EV_PWR_WAKE = true) ∧
    (s.power.asked = 0 → s.power.asleep = 3 → ∃ t, exec (.wakeSource [(c, d)]) s = .next t ∧ t.power.asleep = 0 ∧
      t.power.wakeSrc.take 4 = [c.val, d.val, 3, 0] ∧ Emit.coreRails true ∈ t.out ∧ t.boot.seen = [0xA] ∧ t.boot.started = false ∧
      t.boot.rails = true ∧ t.coreOn = s.coreOn ∧ t.regs = s.regs)) ∧
  (∀ (s : State) (d : Nat), s.boot.dieOn = true → s.power.asked = 0 → s.power.asleep = 3 → s.power.timerAt = some d → d ≤ s.now →
    bitOf (s.rd PWR_WAKE_EN_EN) 6 = true → ∃ t, exec .wakeTimer s = .next t ∧ t.power.asleep = 0 ∧ t.power.timerAt = none ∧
      t.power.wakeSrc.take 3 = [7, 0, 3] ∧ t.boot.seen = [0xA] ∧ t.regs = s.regs)

/-- R519, R522, R529, R530: the performance level, its clock source and the PLL.
The model's choices that its clauses rest on: assumption log 51. -/
def Obligations.LevelRows : Prop :=
  (∀ (s : State) (v : Reg) (l : Nat), s.coreOn = true → s.power.asleep = 0 → s.locked pwrPage = false → l = bitsOf v.toNat 4 2 →
    (bitOf v.toNat 1 = true → bitOf v.toNat 0 = false → s.power.crit = false → s.rdB PWR_STAT_PLL_LOCK = true → s.power.change = none →
      (l < s.rd PWR_STAT_LEVEL → ∃ t, exec (.perfWrite v) s = .next t ∧ t.rd PWR_PERF_LEVEL = l ∧ t.rd PWR_PERF_SRC = 1 ∧
        t.rd PWR_PERF_AUTO = 0 ∧ t.power = { s.power with change := some (l, true, s.now + 40000), wanted := none, pllHeld := false } ∧
        Emit.coreVoltage l ∈ t.out ∧ s.regsBut t [PWR_PERF_LEVEL, PWR_PERF_SRC, PWR_PERF_AUTO]) ∧
      (s.rd PWR_STAT_LEVEL < l → ∃ t, exec (.perfWrite v) s = .next t ∧ t.rd PWR_PERF_LEVEL = l ∧
        t.power = { s.power with change := some (l, true, s.now), wanted := none, pllHeld := false } ∧
        s.regsBut t [PWR_PERF_LEVEL, PWR_PERF_SRC, PWR_PERF_AUTO])) ∧
    (bitOf v.toNat 1 = true → bitOf v.toNat 0 = false → s.power.crit = false → s.rdB PWR_STAT_PLL_LOCK = false →
      ∃ t, exec (.perfWrite v) s = .next t ∧ t.rd PWR_PERF_LEVEL = l ∧ t.power = { s.power with pllHeld := true, wanted := some (l, true) } ∧
        s.regsBut t [PWR_PERF_LEVEL, PWR_PERF_SRC, PWR_PERF_AUTO]) ∧
    (bitOf v.toNat 1 = false → s.power.change ≠ none → ∃ t, exec (.perfWrite v) s = .next t ∧ t.rd PWR_PERF_SRC = 0 ∧ t.rd PWR_PERF_LEVEL = l ∧
      t.power = { s.power with wanted := some (3, false), pllHeld := false } ∧
      s.regsBut t [PWR_PERF_LEVEL, PWR_PERF_SRC, PWR_PERF_AUTO] ∧ s.onlyRegs { t with power := s.power }) ∧
    (bitOf v.toNat 1 = false → s.rdB PWR_STAT_CLK_SRC = true → s.power.change = none → ∃ t, exec (.perfWrite v) s = .next t ∧ t.rd PWR_STAT_CLK_SRC = 0 ∧
      t.rd PWR_STAT_LEVEL = 3 ∧ t.rd HULL_STAT_PLEVEL = 3 ∧ t.rd PWR_PERF_SRC = 0 ∧
      t.power = { s.power with change := none, wanted := none, pllHeld := false } ∧
      (s.rd PWR_STAT_LEVEL ≠ 3 → s.raised t pwrPage [EV_PWR_LEVEL_CHANGE]) ∧
      s.regsBut t [PWR_PERF_LEVEL, PWR_PERF_SRC, PWR_PERF_AUTO, PWR_STAT_CLK_SRC, PWR_STAT_LEVEL, HULL_STAT_PLEVEL, EVT_LOG_STAT_OVF])) ∧
  (∀ (s : State) (v : Reg), s.coreOn = true → s.power.asleep = 0 → s.locked pwrPage = true → ∃ t, exec (.perfWrite v) s = .next t ∧
    t.rd PWR_PERF_LEVEL = bitsOf v.toNat 4 2 ∧ t.rd PWR_PERF_SRC = b2n (bitOf v.toNat 1) ∧ t.rd PWR_PERF_AUTO = s.rd PWR_PERF_AUTO) ∧
  (∀ (s : State) (l : Fin 4) (pll : Bool) (d : Nat), s.coreOn = true → s.power.change = some (l.val, pll, d) → d ≤ s.now →
    s.power.wanted = none → ∃ t, exec .perfLevelSwitch s = .next t ∧ t.rd PWR_STAT_LEVEL = l ∧ t.rd HULL_STAT_PLEVEL = l ∧
      t.rd PWR_STAT_CLK_SRC = b2n pll ∧ t.power = { s.power with change := none } ∧ s.raised t pwrPage [EV_PWR_LEVEL_CHANGE] ∧
      Emit.coreVoltage l ∈ t.out ∧ s.regsBut t [PWR_STAT_LEVEL, HULL_STAT_PLEVEL, PWR_STAT_CLK_SRC, EVT_LOG_STAT_OVF] ∧
      { t with regs := s.regs, pages := s.pages, power := s.power, evt := s.evt, out := s.out } = s) ∧
  (∀ (s : State) (l : Fin 4), s.coreOn = true → s.power.asleep = 0 → s.power.perf = none →
    (s.power.wanted = none → ∃ t, exec .pllLock s = .next t ∧ t.rd PWR_STAT_PLL_LOCK = 1 ∧ t.power = s.power ∧
      s.regsBut t [PWR_STAT_PLL_LOCK] ∧ s.onlyRegs t) ∧
    (s.power.wanted = some (l.val, true) → s.power.pllHeld = true → s.power.change = none → s.rd PWR_STAT_LEVEL ≤ l → s.rd PWR_STAT_CLK_SRC = 0 →
      ∃ t, exec .pllLock s = .next t ∧ t.rd PWR_STAT_PLL_LOCK = 1 ∧
        t.power = { s.power with change := some (l.val, true, s.now), wanted := none, pllHeld := false } ∧ s.regsBut t [PWR_STAT_PLL_LOCK])) ∧
  (∀ s : State, s.coreOn = true → s.rdB PWR_STAT_PLL_LOCK = true → s.rdB PWR_STAT_CLK_SRC = true →
    ∃ t, exec .pllLoss s = .next t ∧ t.rd PWR_STAT_PLL_LOCK = 0 ∧ t.rd PWR_STAT_CLK_SRC = 0 ∧ t.rd PWR_STAT_LEVEL = 3 ∧
      t.rd HULL_STAT_PLEVEL = 3 ∧ t.power = { s.power with change := none, wanted := none, pllHeld := false } ∧
      s.raised t pwrPage [EV_PWR_PLL_LOSS] ∧
      s.regsBut t [PWR_STAT_PLL_LOCK, PWR_STAT_CLK_SRC, PWR_STAT_LEVEL, HULL_STAT_PLEVEL, EVT_LOG_STAT_OVF])

/-- R523–R527, R530, R531: the period of the energy governor, the thermal limits and the thermal shutdown.
The model's choices that its clauses rest on: assumption log 51. -/
def Obligations.GovernorRows : Prop :=
  (∀ (s : State) (p : BitVec 16) (c : BitVec 8) (u : Nat), s.coreOn = true → s.power.asleep = 0 →
    s.power.periodAt + max 1 (s.rd PWR_GOV_PERIOD) * 1000000 ≤ s.now → u = min 65535 (s.power.spent * 1000 / (4 * (s.now - s.power.periodAt))) →
    (s.rdB PWR_STAT_CLK_SRC = false → ∃ t, exec (.governorPeriod p c) s = .next t ∧ t.rd PWR_MEAS_P = p.toNat ∧ t.rd PWR_MEAS_U = u ∧
      t.rd PWR_STAT_TEMP = c.toNat ∧ t.power = { s.power with spent := 0, periodAt := s.now } ∧
      t.rd CMP_STAT_ETOK_RATE = (if s.rdB PWR_GOV_GOV_EN = false then 0xFFFF else
        if s.rd PWR_STAT_LEVEL = 3 ∧ (s.pwrBudget * 1000000 : Nat) < ((p.toNat * 10000 : Nat) : Int) - ((u * s.epw : Nat) : Int) then 0
        else s.energy p.toNat u c.toInt) ∧
      ((s.rd PWR_THERM_WARN : Nat) < c.toInt → (t.pages.get pwrPage).stat.getLsbD EV_PWR_THERM_WARN = true) ∧
      ((s.rd PWR_THERM_HOT : Nat) ≤ c.toInt → (t.pages.get pwrPage).stat.getLsbD EV_PWR_THERM_HOT = true) ∧
      (t.rd CMP_STAT_ETOK_RATE = 0 → s.raised t 0x0A0 [EV_CMP_ETOK_ZERO]) ∧
      s.regsBut t [PWR_MEAS_P, PWR_MEAS_U, PWR_STAT_TEMP, CMP_STAT_ETOK_RATE, EVT_LOG_STAT_OVF] ∧
      { t with regs := s.regs, pages := s.pages, power := s.power, log := s.log, evt := s.evt, out := s.out } = s) ∧
    (s.rdB PWR_STAT_CLK_SRC = true → s.rdB PWR_STAT_PLL_LOCK = true → s.rdB PWR_PERF_AUTO = true → s.rdB PWR_GOV_GOV_EN = true →
      s.power.change = none → s.rd PWR_STAT_LEVEL < 3 → (s.rd PWR_THERM_HOT : Nat) ≤ c.toInt → c.toInt < (s.rd PWR_THERM_CRIT : Nat) →
      ∃ t, exec (.governorPeriod p c) s = .next t ∧ t.power.change = some (max (s.rd PWR_PERF_LEVEL) (s.rd PWR_STAT_LEVEL + 1), true, s.now) ∧
        t.rd CMP_STAT_ETOK_RATE = 0 ∧ t.rd PWR_MEAS_P = p.toNat)) ∧
  (∀ (s : State) (c : BitVec 8), s.coreOn = true → (s.rd PWR_THERM_CRIT : Nat) ≤ c.toInt →
    (s.rdB PWR_STAT_CLK_SRC = false → ∃ t, exec (.thermCrit c) s = .next t ∧ t.power = { s.power with crit := true, cool := 0 } ∧
      s.raised t pwrPage [EV_PWR_THERM_CRIT] ∧ s.regsBut t [EVT_LOG_STAT_OVF]) ∧
    (s.rdB PWR_STAT_CLK_SRC = true → s.rdB PWR_STAT_PLL_LOCK = true → s.power.change = none → s.rd PWR_STAT_LEVEL < 3 →
      ∃ t, exec (.thermCrit c) s = .next t ∧ t.power.crit = true ∧ t.power.change = some (3, true, s.now) ∧
        s.raised t pwrPage [EV_PWR_THERM_CRIT] ∧ s.regsBut t [EVT_LOG_STAT_OVF])) ∧
  (∀ s : State, s.boot.dieOn = true → s.coreOn = true → s.boot.rails = true → ∃ t, exec .thermalShutdown s = .next t ∧ s.resetTaken t 7 ∧
    t.boot.rails = false ∧ t.boot.hot = true ∧ Emit.coreRails false ∈ t.out) ∧
  (∀ (s : State) (v : Reg) (w h c : Nat), s.coreOn = true → w = bitsOf v.toNat 16 8 → h = bitsOf v.toNat 8 8 → c = bitsOf v.toNat 0 8 →
    (s.locked pwrPage = true → ∃ t, exec (.pwrThermWrite v) s = .next t ∧ t.regs = s.regs ∧ s.onlyRegs t) ∧
    (s.locked pwrPage = false → w < h ∧ h < c ∧ c ≤ 110 → ∃ t, exec (.pwrThermWrite v) s = .next t ∧ t.rd PWR_THERM_WARN = w ∧
      t.rd PWR_THERM_HOT = h ∧ t.rd PWR_THERM_CRIT = c ∧ s.regsBut t [PWR_THERM_WARN, PWR_THERM_HOT, PWR_THERM_CRIT] ∧ s.onlyRegs t) ∧
    (s.locked pwrPage = false → ¬ (w < h ∧ h < c ∧ c ≤ 110) → ∃ t, exec (.pwrThermWrite v) s = .next t ∧
      s.raised t pwrPage [EV_PWR_THERM_REJECT] ∧ s.regsBut t [EVT_LOG_STAT_OVF] ∧ s.onlyRegs t))


/-! ## Resets, start and the stored configuration -/

/-- R531–R536, R539, R546, R566, R595, R599: the sources of the full reset, the supplies and the watchdogs.
The model's choices that its clauses rest on: assumption log 5, 7, 11, 53. -/
def Obligations.ResetRows : Prop :=
  (∀ (s : State) (straps : BitVec 6), s.boot.dieOn = false → ∃ t, exec (.powerOnReset straps) s = .next t ∧ t.boot.dieOn = true ∧
    t.boot.rails = false ∧ t.boot.seen = [1] ∧ t.boot.at_ = s.now ∧ t.boot.started = false ∧ t.rd CHIP_STRAP_STRAPS = straps.toNat ∧
    t.rd RST_STAT_RCNT = (Config.freeDraw s.free).toNat % 16 ∧ t.boot.rcnt = t.rd RST_STAT_RCNT ∧
    s.regsBut t [CHIP_STRAP_STRAPS, RST_STAT_RCNT, RST_CAUSE_RCNT] ∧
    { t with regs := s.regs, boot := s.boot, free := s.free, evt := s.evt, out := s.out } = s) ∧
  (∀ s : State, s.boot.dieOn = true → s.held = true → s.boot.rails = false → s.testStrap = false →
    (s.feedPg = true → ∃ t, exec .coreRailStart s = .next t ∧ t.boot = { s.boot with rails := true, cable := false } ∧
      Emit.coreRails true ∈ t.out ∧ { t with boot := s.boot, evt := s.evt, out := s.out } = s) ∧
    (s.feedPg = false → s.cableStart = true → ∃ t, exec .coreRailStart s = .next t ∧ t.boot = { s.boot with rails := true, cable := true } ∧
      Emit.coreRails true ∈ t.out) ∧
    (s.feedPg = false → s.cableStart = false → ∃ t, exec .coreRailStart s = .next t ∧ t.boot = s.boot ∧ t.regs = s.regs)) ∧
  (∀ (s : State) (v : Reg), s.boot.dieOn = true → s.coreOn = true →
    (∃ t, exec .resetNAssert s = .next t ∧ s.resetTaken t 2) ∧
    (bitOf (s.rd CHIP_STRAP_STRAPS) 2 = true → ∃ t, exec .perstAssert s = .next t ∧ s.resetTaken t 3) ∧
    (bitOf (s.rd CHIP_STRAP_STRAPS) 2 = false → ∃ t, exec .perstAssert s = .next t ∧ { t with evt := s.evt, out := s.out } = s) ∧
    (bitsOf v.toNat 8 8 = 0x5A → bitOf v.toNat 0 = true → ∃ t, exec (.rstCmd v) s = .next t ∧ s.resetTaken t 4) ∧
    (bitsOf v.toNat 8 8 ≠ 0x5A → ∃ t, exec (.rstCmd v) s = .next t ∧ { t with evt := s.evt, out := s.out } = s) ∧
    (∃ t, exec .sequencerWatchdog s = .next t ∧ s.resetTaken t 5) ∧
    (∃ t, exec (.coreVoltageMonitor false) s = .next t ∧ s.resetTaken t 8) ∧
    (∃ t, exec (.clockMonitor false) s = .next t ∧ s.resetTaken t 9 ∧ t.keeper = {}) ∧
    (∃ t, exec (.coreVoltageMonitor true) s = .next t ∧ s.raised t 0x001 [EV_EVT_VMON_CORE] ∧ s.regsBut t [EVT_LOG_STAT_OVF] ∧ s.onlyRegs t) ∧
    ∃ t, exec (.clockMonitor true) s = .next t ∧ s.raised t 0x001 [EV_EVT_CLK_GLITCH] ∧ s.regsBut t [EVT_LOG_STAT_OVF] ∧ s.onlyRegs t) ∧
  (∀ s : State, s.boot.dieOn = true → s.held = true → s.boot.at_ / 40 = s.now / 40 → s.boot.seen = [5] →
    ∃ t, exec .resetNAssert s = .next t ∧ t.boot = { s.boot with seen := [5, 2] } ∧ { t with boot := s.boot, evt := s.evt, out := s.out } = s) ∧
  (∀ s : State, ∃ t, exec .powerLoss s = .next t ∧ t.coreOn = false ∧ t.boot.dieOn = false ∧ t.boot.rails = false ∧
    t.regs = State.reset.regs ∧ t.pd = State.reset.pd ∧ t.power = State.reset.power ∧ t.keys.lc0 = s.keys.lc0 ∧ t.keys.lc1 = s.keys.lc1 ∧
    (∀ k : Fin 256, (t.slot k).c0 = (s.slot k).c0 ∧ (t.slot k).c1 = (s.slot k).c1) ∧ t.stored.copy0 = s.stored.copy0 ∧
    t.stored.copy1 = s.stored.copy1 ∧ t.log.bank0 = s.log.bank0 ∧ t.log.bank1 = s.log.bank1 ∧ t.log.ring = s.log.ring ∧
    t.log.work = State.reset.log.work) ∧
  (∀ (s : State) (d : Nat), s.coreOn = true →
    (s.rd RST_WDOG_HOST_PERIOD ≠ 0 → s.boot.hostBy = some d → d < s.now → ∃ t, exec .hostWatchdog s = .next t ∧
      t.boot = { s.boot with hostBy := some (s.now + s.rd RST_WDOG_HOST_PERIOD * 1000000) } ∧ s.raised t rstPage [EV_RST_WDOG_HOST] ∧
      s.regsBut t [EVT_LOG_STAT_OVF] ∧ { t with regs := s.regs, pages := s.pages, boot := s.boot, evt := s.evt, out := s.out } = s) ∧
    (s.boot.started = true → s.rdB RST_STAT_RESTORING = true → s.boot.late = false → s.boot.released = some d → d + 15000000 < s.now →
      ∃ t, exec .restoreLateTimer s = .next t ∧ t.boot = { s.boot with late := true } ∧ s.raised t rstPage [EV_RST_RESTORE_LATE] ∧
        s.regsBut t [EVT_LOG_STAT_OVF] ∧ { t with regs := s.regs, pages := s.pages, boot := s.boot, evt := s.evt, out := s.out } = s)) ∧
  (∀ (s : State) (v : Reg), s.coreOn = true → s.locked rstPage = false →
    (bitsOf v.toNat 0 16 ≠ 0 → bitOf v.toNat 31 = true → ∃ t, exec (.watchdogFeed v) s = .next t ∧
      t.rd RST_WDOG_HOST_PERIOD = bitsOf v.toNat 0 16 ∧ t.boot = { s.boot with hostBy := some (s.now + bitsOf v.toNat 0 16 * 1000000) } ∧
      s.regsBut t [RST_WDOG_HOST_PERIOD] ∧ { t with regs := s.regs, boot := s.boot, evt := s.evt, out := s.out } = s) ∧
    (bitsOf v.toNat 0 16 = 0 → ∃ t, exec (.watchdogFeed v) s = .next t ∧ t.rd RST_WDOG_HOST_PERIOD = 0 ∧
      t.boot = { s.boot with hostBy := none } ∧ s.regsBut t [RST_WDOG_HOST_PERIOD]))

/-- R533, R534, R537, R540, R543, R544, R62, R76: the release of the full reset, and the tunnels of the image.
The model's choices that its clauses rest on: assumption log 45, 46. -/
def Obligations.BootRows : Prop :=
  (∀ (s : State) (code : Nat), s.boot.dieOn = true → s.boot.rails = true → s.boot.started = false → s.testStrap = false →
    (s.boot.released = none ∨ s.boot.released = some 0 ∧ 64000000 ≤ s.now) → s.boot.seen.min? = some code → 1 ≤ code → code ≤ 10 →
    s.stored.pick = none →
    ∃ t, exec .fullResetRelease s = .next t ∧ t.coreOn = true ∧ t.boot.started = true ∧ t.boot.released = some s.now ∧
      t.boot.rcnt = (s.boot.rcnt + 1) % 16 ∧ t.rd RST_CAUSE_SEEN = (s.boot.seen.map (fun c => 2 ^ (c - 1))).sum % 2 ^ RST_CAUSE_SEEN.width ∧ t.rd RST_CAUSE_PRIMARY = code ∧
      t.rd RST_STAT_RCNT = (s.boot.rcnt + 1) % 16 ∧ t.rd RST_CAUSE_TIME_LO_SHORT = bitsOf s.boot.short 0 32 ∧
      t.rd RST_CAUSE_TIME_HI_SHORT = bitsOf s.boot.short 32 8 ∧
      t.rd (RST_COUNT_COUNT (code - 1)) = satAdd 16 (s.rd (RST_COUNT_COUNT (code - 1))) 1 ∧
      (t.pages.get rstPage).stat.getLsbD EV_RST_CAUSE = true ∧ (t.pages.get cfgPage).stat.getLsbD EV_CFG_NO_IMAGE = true ∧
      t.rd CFG_STAT_VALID = 0 ∧ (∀ p : Fin 16, t.rd (LANE_CTL_ENABLE p) = 1) ∧ t.rd PWR_STAT_PLL_LOCK = 1 ∧ t.rd PWR_STAT_CLK_SRC = 1 ∧
      t.rd CHIP_STAT_HUB = (if t.rd CHIP_STAT_ROLE = 0 then 0 else 0x1F) ∧ t.stored.tunnels = s.stored.tunnels) ∧
  (∀ (s : State) (b : Bool), s.boot.dieOn = true → s.boot.rails = true → s.boot.started = false → s.testStrap = false →
    s.boot.released = none → s.boot.seen = [2] → s.stored.pick = some b → (s.stored.copy b).body.get 0 = 0 →
    ∃ t, exec .fullResetRelease s = .next t ∧ t.coreOn = true ∧ t.rd RST_STAT_IMAGE = 1 ∧ t.rd CFG_STAT_APPLIED = b2n b ∧
      t.rd CFG_GEN_GEN = (s.stored.copy b).w 2 % 2 ^ 32 ∧ t.ids.treeTag = (s.stored.copy b).w 3 / 2 ^ 6 % 2 ^ 26 ∧
      t.rd CFG_ERR_COUNT = s.rd CFG_ERR_COUNT ∧ (∀ p : Fin 16, t.rd (LANE_CTL_ENABLE p) = s.rd (LANE_CTL_ENABLE p)) ∧
      t.stored = s.stored) ∧
  (∀ (s : State) (i n : Nat) (x : Nat) (ws : List Nat) (rest : List (Nat × List Nat)), s.coreOn = true → s.boot.started = true →
    s.stored.tunnels = (i, x :: ws) :: rest → ((Entry.ofWords ws).path.filter (· < 18)).all s.active = true → n = bitsOf x 0 12 →
    protectedTun n = true ∨ n = 0 → s.isLeaf = false →
    ∃ t, exec .cfgTunnelOpen s = .next t ∧ t.stored.tunnels = rest ∧
      t.rd CFG_ERR_COUNT = satAdd 16 (s.rd CFG_ERR_COUNT) 1 ∧ (s.rd CFG_ERR_COUNT = 0 → t.rd CFG_ERR_FIRST = i % 2 ^ 16) ∧
      s.raised t cfgPage [EV_CFG_RECORD_FAIL] ∧ t.tuns = s.tuns ∧
      s.regsBut t [CFG_ERR_COUNT, CFG_ERR_FIRST, EVT_LOG_STAT_OVF]) ∧
  (∀ (s u v : State) (i n : Nat) (x y : Nat) (ws : List Nat) (rest : List (Nat × List Nat)), s.coreOn = true → s.boot.started = true →
    s.stored.tunnels = (i, x :: y :: ws) :: rest → ((Entry.ofWords (y :: ws)).path.filter (· < 18)).all s.active = true →
    n = bitsOf x 0 12 → protectedTun n = false → n ≠ 0 → (s.tun n).e.state = .free →
    (s.onStored (fun z => { z with tunnels := rest })).writeEntry n (putBits y 10 1 1 :: ws) true = (u, 0) →
    u.reserveTun n = (v, 0) → v.openOk n = true → v.openStatus n = 0 → s.isLeaf = false →
    (v.alone n → ∃ t, exec .cfgTunnelOpen s = .next t ∧ t.stored.tunnels = rest ∧ t.rd CFG_ERR_COUNT = s.rd CFG_ERR_COUNT ∧ t.tunOpened n ∧
      (t.tun n).e.auto = true) ∧
    (¬ v.alone n → v.leavesUp (v.tun n).e = true → ∃ t, exec .cfgTunnelOpen s = .next t ∧ t.stored.tunnels = rest ∧
      t.rd CFG_ERR_COUNT = s.rd CFG_ERR_COUNT ∧ v.tunOpening t n ∧ (t.tun n).e.auto = true)) ∧
  (∀ (s : State) (i : Nat) (ws : List Nat) (rest : List (Nat × List Nat)), s.coreOn = true → s.boot.started = true →
    s.stored.tunnels = (i, ws) :: rest → ((Entry.ofWords (ws.drop 1)).path.filter (· < 18)).all s.active = true → s.isLeaf = true →
    ∃ t, exec .cfgTunnelOpen s = .next t ∧ { t with evt := s.evt, out := s.out } = s.onStored (fun z => { z with tunnels := rest })) ∧
  (∀ (s : State) (i : Nat) (ws : List Nat) (rest : List (Nat × List Nat)), s.coreOn = true → s.stored.tunnels = (i, ws) :: rest →
    ((Entry.ofWords (ws.drop 1)).path.filter (· < 18)).all s.active = false →
    ∃ t, exec .cfgTunnelOpen s = .next t ∧ { t with evt := s.evt, out := s.out } = s)

/-- R541, R542, R546, R548: writing an image of the stored configuration.
The model's choices that its clauses rest on: assumption log 5, 18, 53. -/
def Obligations.ImageRows : Prop :=
  (∀ s : State, s.coreOn = true →
    (s.rdB FEED_STAT_WARN = true ∨ s.locked cfgPage = true ∨ s.rdB CFG_STAT_BUSY = true → ∃ t, exec .cfgBegin s = .next t ∧
      t.rd CFG_STAT_STATUS = 3 ∧ t.stored = s.stored ∧ s.raised t cfgPage [EV_CFG_ABORTED] ∧
      s.regsBut t [CFG_STAT_STATUS, EVT_LOG_STAT_OVF] ∧ s.onlyRegs t) ∧
    (s.rdB FEED_STAT_WARN = false → s.locked cfgPage = false → s.rdB CFG_STAT_BUSY = false → s.stored.copy0.hdr = List.replicate 16 0 →
      s.stored.copy1.hdr = List.replicate 16 0 → ∃ t, exec .cfgBegin s = .next t ∧ t.rd CFG_STAT_BUSY = 1 ∧ t.rd CFG_STAT_STATUS = 0 ∧
        t.rd CFG_WADDR_ADDR = 0 ∧ t.stored = { s.stored with target := some true, committing := none } ∧
        s.regsBut t [CFG_STAT_BUSY, CFG_STAT_STATUS, CFG_WADDR_ADDR, CFG_STAT_VALID] ∧
        { t with regs := s.regs, stored := s.stored, evt := s.evt, out := s.out } = s)) ∧
  (∀ (s : State) (b : Bool), s.coreOn = true → s.rdB FEED_STAT_WARN = false → s.locked cfgPage = false → s.rdB CFG_STAT_BUSY = false →
    b = (!s.stored.copy1.ok || s.stored.copy0.ok && decide (s.stored.copy1.w 2 ≤ s.stored.copy0.w 2)) → ∃ t, exec .cfgBegin s = .next t ∧
      t.rd CFG_STAT_BUSY = 1 ∧ t.rd CFG_STAT_STATUS = 0 ∧ t.rd CFG_WADDR_ADDR = 0 ∧ t.stored.target = some b ∧ t.stored.committing = none ∧
      t.stored.copy b = { s.stored.copy b with hdr := (s.stored.copy b).hdr.set 15 0 } ∧ t.stored.copy (!b) = s.stored.copy (!b)) ∧
  (∀ (s : State) (v : Reg), s.coreOn = true → s.rdB CFG_STAT_BUSY = true → s.stored.target = some false → s.stored.committing = none →
    (s.rd CFG_WADDR_ADDR < 16368 → ∃ t, exec (.cfgWdata v) s = .next t ∧ t.stored.copy0.body.get (s.rd CFG_WADDR_ADDR) = v.toNat ∧
      t.rd CFG_WADDR_ADDR = s.rd CFG_WADDR_ADDR + 1 ∧
      (∀ i, i ≠ s.rd CFG_WADDR_ADDR → t.stored.copy0.body.get i = s.stored.copy0.body.get i) ∧ t.stored.copy0.hdr = s.stored.copy0.hdr ∧
      t.stored.copy1 = s.stored.copy1 ∧ s.regsBut t [CFG_WADDR_ADDR] ∧
      { t with regs := s.regs, stored := s.stored, evt := s.evt, out := s.out } = s) ∧
    (16368 ≤ s.rd CFG_WADDR_ADDR → ∃ t, exec (.cfgWdata v) s = .next t ∧ t.rd CFG_STAT_BUSY = 0 ∧ t.rd CFG_STAT_STATUS = 2 ∧
      t.stored = { s.stored with target := none, committing := none } ∧ s.raised t cfgPage [EV_CFG_ABORTED] ∧
      s.regsBut t [CFG_STAT_BUSY, CFG_STAT_STATUS, EVT_LOG_STAT_OVF])) ∧
  (∀ (s : State) (b : Bool) (g : Nat), s.coreOn = true → s.rdB FEED_STAT_WARN = false → s.locked cfgPage = false → s.stored.committing = none →
    s.stored.target = some b → s.rd CFG_HDR1_FORMAT = 3 → 1 ≤ s.rd CFG_HDR1_LEN → s.rd CFG_HDR1_LEN ≤ 16368 →
    s.rd CFG_HDR1_LEN ≤ s.rd CFG_WADDR_ADDR → g = (if (s.stored.copy (!b)).ok then ((s.stored.copy (!b)).w 2 + 1) % 2 ^ 32 else 1) →
    ∃ t, exec (.cfgCommit true) s = .next t ∧ t.regs = s.regs ∧ t.stored.copy (!b) = s.stored.copy (!b) ∧
      (t.stored.copy b).body = (s.stored.copy b).body ∧
      (t.stored.copy b).hdr.take 4 = [0x4B4E4346, 3 * 2 ^ 24 + s.rd CFG_HDR1_LEN, g, s.rd CFG_HDR3_TREE_TAG * 2 ^ 6] ∧
      ((t.stored.copy b).hdr.drop 4).take 8 = (s.stored.copy b).digest (s.rd CFG_HDR1_LEN) ∧ (t.stored.copy b).hdr.drop 14 = [0, 0] ∧
      t.stored.committing = some (s.now + (Config.freeDraw s.free).toNat % 20000001) ∧ t.stored.target = some b) ∧
  (∀ (s : State), s.coreOn = true → s.rdB FEED_STAT_WARN = false → s.locked cfgPage = false → s.stored.committing = none →
    (s.stored.target = none → ∃ t, exec (.cfgCommit true) s = .next t ∧ t.rd CFG_STAT_STATUS = 1 ∧ s.regsBut t [CFG_STAT_STATUS] ∧
      s.onlyRegs t) ∧
    (s.stored.target = some false → s.rd CFG_HDR1_FORMAT = 3 → 1 ≤ s.rd CFG_HDR1_LEN → s.rd CFG_HDR1_LEN ≤ 16368 →
      s.rd CFG_HDR1_LEN ≤ s.rd CFG_WADDR_ADDR → s.stored.copy1.hdr = List.replicate 16 0 →
      (∃ t, exec (.cfgCommit true) s = .next t ∧ t.regs = s.regs ∧ t.stored.copy1 = s.stored.copy1 ∧
        t.stored.copy0.body = s.stored.copy0.body ∧
        t.stored.copy0.hdr.take 4 = [0x4B4E4346, 3 * 2 ^ 24 + s.rd CFG_HDR1_LEN, 1, s.rd CFG_HDR3_TREE_TAG * 2 ^ 6] ∧
        (t.stored.copy0.hdr.drop 4).take 8 = s.stored.copy0.digest (s.rd CFG_HDR1_LEN) ∧ t.stored.copy0.hdr.drop 14 = [0, 0] ∧
        t.stored.committing = some (s.now + (Config.freeDraw s.free).toNat % 20000001) ∧ t.stored.target = some false) ∧
      ∃ t, exec (.cfgCommit false) s = .next t ∧ t.rd CFG_STAT_BUSY = 0 ∧ t.rd CFG_STAT_STATUS = 4 ∧
        t.stored = { s.stored with target := none, committing := none } ∧ s.raised t cfgPage [EV_CFG_ABORTED] ∧
        s.regsBut t [CFG_STAT_BUSY, CFG_STAT_STATUS, EVT_LOG_STAT_OVF]) ∧
    (s.stored.target = some false → s.rd CFG_WADDR_ADDR < s.rd CFG_HDR1_LEN → ∃ t, exec (.cfgCommit true) s = .next t ∧
      t.rd CFG_STAT_BUSY = 0 ∧ t.rd CFG_STAT_STATUS = 2 ∧ s.raised t cfgPage [EV_CFG_ABORTED]))


/-! ## The lifetime log and diagnostics -/

/-- R567–R573, R577: the minute, the commits and the event ring of the lifetime log.
The model's choices that its clauses rest on: assumption log 11, 47, 54. -/
def Obligations.LogRows : Prop :=
  (∀ (s : State) (c : Int), s.boot.dieOn = true → s.log.minuteAt ≤ s.now →
    (s.coreOn = true → s.power.asleep = 0 → s.rd PWR_STAT_LEVEL < 4 → ∃ t, exec (.logMinute c) s = .next t ∧
      t.log.minuteAt = s.log.minuteAt + 60000000000 ∧ t.log.work.get 0 = satAdd 32 (s.log.work.get 0) 1 ∧
      t.log.work.get 1 = satAdd 32 (s.log.work.get 1) 1 ∧
      t.log.work.get (2 + s.rd PWR_STAT_LEVEL) = satAdd 32 (s.log.work.get (2 + s.rd PWR_STAT_LEVEL)) 1 ∧
      t.log.work.get (0x010 + tempBin c) = satAdd 32 (s.log.work.get (0x010 + tempBin c)) 1 ∧
      (∀ i, i ≠ 0 → i ≠ 1 → i ≠ 2 + s.rd PWR_STAT_LEVEL → i ≠ 0x010 + tempBin c → t.log.work.get i = s.log.work.get i) ∧
      s.regsBut t [EVT_LOG_STAT_OVF] ∧ { t with regs := s.regs, pages := s.pages, log := s.log, evt := s.evt, out := s.out } = s) ∧
    (s.coreOn = false → ∃ t, exec (.logMinute c) s = .next t ∧ t.log.kept.get 0 = satAdd 32 (s.log.kept.get 0) 1 ∧
      (s.power.asleep = 2 → t.log.kept.get 7 = satAdd 32 (s.log.kept.get 7) 1) ∧ t.log.work = s.log.work ∧ t.regs = s.regs)) ∧
  (∀ s : State, s.coreOn = true → s.log.writing = none →
    (s.log.nextAt ≤ s.now → ∃ t, exec .logIntervalCommit s = .next t ∧ t.log.writing = some s.log.work ∧ t.rd LOG_STAT_COMMITTING = 1 ∧
      t.log.nextAt = s.now + max 1 (s.rd LOG_CTL_INTERVAL) * 60000000000 ∧ t.log.byCmd = false ∧
      (t.log.bank (!s.log.last1)).commit = 0 ∧ t.log.bank s.log.last1 = s.log.bank s.log.last1 ∧ s.regsBut t [LOG_STAT_COMMITTING]) ∧
    (s.rdB LOG_CMD_BUSY = false → s.log.cmdAt.all (fun d => d + 1000000000 ≤ s.now) = true → ∃ t, exec .commit s = .next t ∧ t.log.writing = some s.log.work ∧
      t.rd LOG_CMD_BUSY = 1 ∧ t.rd LOG_CMD_STATUS = 0 ∧ t.rd LOG_STAT_COMMITTING = 1 ∧ t.log.byCmd = true ∧ t.log.cmdAt = some s.now ∧
      s.regsBut t [LOG_CMD_BUSY, LOG_CMD_STATUS, LOG_STAT_COMMITTING])) ∧
  (∀ (s : State) (d : Nat), s.coreOn = true → s.rdB LOG_CMD_BUSY = false → s.log.cmdAt = some d → s.now < d + 1000000000 →
    ∃ t, exec .commit s = .next t ∧ t.rd LOG_CMD_STATUS = 3 ∧ t.log = s.log ∧ s.regsBut t [LOG_CMD_STATUS] ∧ s.onlyRegs t) ∧
  (∀ (s : State) (w : Map (0 : Nat)), s.coreOn = true → s.log.writing = some w → s.log.again = false → s.log.held = [] →
    (∃ t, exec (.logCommitDone true) s = .next t ∧ t.log.writing = none ∧ t.rd LOG_STAT_COMMITTING = 0 ∧ t.log.last1 = !s.log.last1 ∧
      (t.log.bank t.log.last1).counts = w ∧ (t.log.bank t.log.last1).gen = ((s.log.bank s.log.last1).gen + 1) % 2 ^ 32 ∧
      (t.log.bank t.log.last1).commit = (t.log.bank t.log.last1).gen ∧ t.rd LOG_GEN_GEN = (t.log.bank t.log.last1).gen ∧
      t.rd LOG_STAT_BANK = b2n t.log.last1 ∧ t.log.bank s.log.last1 = s.log.bank s.log.last1 ∧ s.raised t logPage [EV_LOG_COMMITTED] ∧
      (s.log.byCmd = true → t.rd LOG_CMD_BUSY = 0) ∧
      s.regsBut t [LOG_STAT_COMMITTING, LOG_GEN_GEN, LOG_STAT_BANK, LOG_CMD_BUSY, EVT_LOG_STAT_OVF]) ∧
    (s.log.retried = false → ∃ t, exec (.logCommitDone false) s = .next t ∧ t.log = { s.log with retried := true } ∧ t.regs = s.regs) ∧
    (s.log.retried = true → ∃ t, exec (.logCommitDone false) s = .next t ∧ t.log.writing = none ∧ t.rd LOG_STAT_COMMITTING = 0 ∧
      s.raised t logPage [EV_LOG_COMMIT_FAIL] ∧ t.log.bank0 = s.log.bank0 ∧ t.log.bank1 = s.log.bank1)) ∧
  (∀ (s : State) (w : Map (0 : Nat)), s.coreOn = true → s.log.writing = some w →
    (∃ t, exec (.logCommitDone true) s = .next t ∧ t.log.last1 = !s.log.last1 ∧ (t.log.bank t.log.last1).counts = w ∧
      (t.log.bank t.log.last1).gen = ((s.log.bank s.log.last1).gen + 1) % 2 ^ 32 ∧
      (t.log.bank t.log.last1).commit = (t.log.bank t.log.last1).gen ∧ t.rd LOG_GEN_GEN = (t.log.bank t.log.last1).gen ∧
      t.rd LOG_STAT_BANK = b2n t.log.last1 ∧ t.log.held = [] ∧ t.rd LOG_STAT_COMMITTING = b2n s.log.again ∧
      t.log.writing = (if s.log.again then some t.log.work else none) ∧ t.log.again = false ∧
      (t.pages.get logPage).stat.getLsbD EV_LOG_COMMITTED = true) ∧
    (s.log.startAt ≠ s.now → s.coreOn = true → s.rdB LOG_CMD_BUSY = false → s.log.cmdAt.all (fun d => d + 1000000000 ≤ s.now) = true →
      ∃ t, exec .commit s = .next t ∧ t.rd LOG_CMD_BUSY = 1 ∧ t.rd LOG_CMD_STATUS = 0 ∧
        t.log = { s.log with cmdAt := some s.now, again := true, againCmd := true } ∧ s.regsBut t [LOG_CMD_BUSY, LOG_CMD_STATUS]) ∧
    (s.log.startAt ≠ s.now → s.log.nextAt ≤ s.now → ∃ t, exec .logIntervalCommit s = .next t ∧ t.log.again = true ∧
      t.log.writing = some w ∧ t.log.nextAt = s.now + max 1 (s.rd LOG_CTL_INTERVAL) * 60000000000 ∧ t.regs = s.regs)) ∧
  (∀ (s : State) (maint : Bool) (key : BitVec 8), s.coreOn = true → s.rdB LOG_CMD_BUSY = false →
    (maint = true → s.rd KEY_STAT_LC = 3 → key = 0xC3 → s.log.writing = none → ∃ t, exec (.ringClear maint key) s = .next t ∧
      t.rd LOG_CMD_STATUS = 0 ∧ t.log.ring.length = 1 ∧ (t.log.ring.headD []).take 1 = [6 * 2 ^ 28 + (s.evt.next.toNat % 2 ^ 28)] ∧
      s.raised t logPage [EV_LOG_RING_CLEARED] ∧ s.regsBut t [LOG_CMD_STATUS, EVT_LOG_STAT_OVF]) ∧
    (maint = false ∨ s.rd KEY_STAT_LC ≠ 3 ∨ key ≠ 0xC3 → ∃ t, exec (.ringClear maint key) s = .next t ∧ t.rd LOG_CMD_STATUS = 1 ∧
      t.log = s.log ∧ s.regsBut t [LOG_CMD_STATUS] ∧ s.onlyRegs t))

/-- R575, R576, R578: the self-tests and the pattern checkers.
The model's choices that its clauses rest on: assumption log 54. -/
def Obligations.DiagnosticsRows : Prop :=
  (∀ (s : State) (q : Fin 18), s.coreOn = true → s.rdB DIAG_CMD_BUSY = false →
    ((∀ p : Fin 18, s.rd (CHD_SPILL_USED p) = 0) → ∃ t, exec .mbistSpill s = .next t ∧ t.rd DIAG_CMD_BUSY = 1 ∧ t.rd DIAG_CMD_STATUS = 0 ∧
      t.diag = { s.diag with test := 1 } ∧ s.regsBut t [DIAG_CMD_BUSY, DIAG_CMD_STATUS] ∧
      { t with regs := s.regs, diag := s.diag, evt := s.evt, out := s.out } = s) ∧
    (s.rd (CHD_SPILL_USED q) ≠ 0 → ∃ t, exec .mbistSpill s = .next t ∧ t.rd DIAG_CMD_STATUS = 1 ∧ t.diag = s.diag ∧
      s.regsBut t [DIAG_CMD_STATUS] ∧ s.onlyRegs t) ∧
    ∃ t, exec .mramScan s = .next t ∧ t.rd DIAG_CMD_BUSY = 1 ∧ t.rd DIAG_CMD_STATUS = 0 ∧ t.diag = { s.diag with test := 2 } ∧
      s.regsBut t [DIAG_CMD_BUSY, DIAG_CMD_STATUS] ∧ { t with regs := s.regs, diag := s.diag, evt := s.evt, out := s.out } = s) ∧
  (∀ (s : State) (e : BitVec 19) (a : BitVec 16) (u : BitVec 4), s.coreOn = true → s.diag.test = 1 →
    (e = 0 → ∃ t, exec (.diagTestDone e a u) s = .next t ∧ t.rd DIAG_RESULT_ERRORS = 0 ∧ t.rd DIAG_RESULT_ADDR = 0 ∧
      t.rd DIAG_CMD_BUSY = 0 ∧ t.rd DIAG_CMD_STATUS = 0 ∧ s.raised t diagPage [EV_DIAG_DONE] ∧ t.diag = { s.diag with test := 0 } ∧
      s.regsBut t [DIAG_RESULT_ERRORS, DIAG_RESULT_ADDR, DIAG_CMD_BUSY, DIAG_CMD_STATUS, EVT_LOG_STAT_OVF]) ∧
    (e ≠ 0 → ∃ t, exec (.diagTestDone e a u) s = .next t ∧ t.rd DIAG_RESULT_ERRORS = min e.toNat 0xFFFF ∧ t.rd DIAG_RESULT_ADDR = a.toNat ∧
      t.rd DIAG_CMD_BUSY = 0 ∧ t.rd DIAG_CMD_STATUS = 2 ∧ s.raised t diagPage [EV_DIAG_DONE, EV_DIAG_FAIL] ∧
      t.diag = { s.diag with test := 0 } ∧
      s.regsBut t [DIAG_RESULT_ERRORS, DIAG_RESULT_ADDR, DIAG_CMD_BUSY, DIAG_CMD_STATUS, EVT_LOG_STAT_OVF])) ∧
  (∀ (s : State) (e : BitVec 19) (a : BitVec 16) (u : BitVec 4), s.coreOn = true → s.diag.test = 2 →
    ∃ t, exec (.diagTestDone e a u) s = .next t ∧ t.rd DIAG_RESULT_ERRORS = min e.toNat 0xFFFF ∧
      t.rd DIAG_RESULT_ADDR = (if e = 0 then 0 else a.toNat) ∧ t.rd DIAG_CMD_BUSY = 0 ∧ t.rd DIAG_CMD_STATUS = (if e = 0 then 0 else 2) ∧
      (t.pages.get diagPage).stat.getLsbD EV_DIAG_DONE = true ∧ (e ≠ 0 → (t.pages.get 0x001).stat.getLsbD EV_EVT_MRAM_CORR = true) ∧
      (u ≠ 0 → (t.pages.get 0x001).stat.getLsbD EV_EVT_MRAM_UNCORR = true) ∧ t.diag = { s.diag with test := 0 } ∧
      s.regsBut t [DIAG_RESULT_ERRORS, DIAG_RESULT_ADDR, DIAG_CMD_BUSY, DIAG_CMD_STATUS, EVT_LOG_STAT_OVF]) ∧
  (∀ (s : State) (v : Bool) (p : Fin 18) (c : PatCheck), s.coreOn = true → s.rd DIAG_PSEL_PORT = p → c = s.diag.pats.get p →
    (v = true → c.on = false → ∃ t, exec (.patCheck v) s = .next t ∧
      t.diag.pats.get p = { c with on := true, syncA := false, syncB := false, runA := 0, runB := 0 } ∧
      (∀ q : Fin 18, q ≠ p → t.diag.pats.get q = s.diag.pats.get q) ∧ { t with diag := s.diag, evt := s.evt, out := s.out } = s) ∧
    (v = false ∨ c.on = true → ∃ t, exec (.patCheck v) s = .next t ∧ t.diag.pats.get p = { c with on := v } ∧
      (∀ q : Fin 18, q ≠ p → t.diag.pats.get q = s.diag.pats.get q) ∧ { t with diag := s.diag, evt := s.evt, out := s.out } = s) ∧
    ∃ t, exec .patClear s = .next t ∧ t.diag.pats.get p = { c with errA := 0, errB := 0, groupsA := 0, groupsB := 0 } ∧
      (∀ q : Fin 18, q ≠ p → t.diag.pats.get q = s.diag.pats.get q) ∧ { t with diag := s.diag, evt := s.evt, out := s.out } = s) ∧
  (∀ (s : State) (p : Fin 18) (c : PatCheck), s.coreOn = true → c = s.diag.pats.get p → c.on = true →
    (c.syncB = true → 1000 ≤ c.burst true s.now → ∃ t, exec (.patSyncLoss p true) s = .next t ∧
      t.diag.pats.get p = { c with syncB := false, runB := 0, recentB := [] } ∧ s.raised t diagPage [EV_DIAG_PAT_ERR] ∧
      s.regsBut t [EVT_LOG_STAT_OVF] ∧ { t with regs := s.regs, pages := s.pages, diag := s.diag, evt := s.evt, out := s.out } = s) ∧
    (c.syncA = true → 1000 ≤ c.burst false s.now → ∃ t, exec (.patSyncLoss p false) s = .next t ∧
      t.diag.pats.get p = { c with syncA := false, runA := 0, recentA := [] } ∧ s.raised t diagPage [EV_DIAG_PAT_ERR]))


/-! ## Single rules -/

/-- R97: a received LIMIT is taken as the new CL exactly where both differences are at most 32 767; any other CREDIT word, and one for VC 0,
a reserved VC or a credit-less VC, is discarded, counted and raised. -/
def Obligations.CreditLimitRule : Prop :=
  ∀ (s : State) (p : Fin 18) (w : Word) (vc lim : Nat) (r : Cred), s.coreOn = true → s.active p = true → fld w 34 6 = 0x06 → vc = fld w 31 3 → lim = fld w 14 16 →
    r = (s.chord p).cred vc →
    (1 ≤ vc ∧ vc ≤ 5 ∧ r.cless = false → fld w 30 1 = 0 → modSub 16 lim r.ccH ≤ 32767 ∧ modSub 16 lim r.clH ≤ 32767 →
      ∃ t, exec (.creditRx p w) s = .next t ∧ t.chord p = (s.chord p).onCred vc (fun r => { r with clH := lim }) ∧ s.onlyChord t p) ∧
    (1 ≤ vc ∧ vc ≤ 5 ∧ r.cless = false → fld w 30 1 = 1 → modSub 16 lim r.ccD ≤ 32767 ∧ modSub 16 lim r.clD ≤ 32767 →
      ∃ t, exec (.creditRx p w) s = .next t ∧ t.chord p = (s.chord p).onCred vc (fun r => { r with clD := lim }) ∧ s.onlyChord t p) ∧
    (vc = 0 ∨ 5 < vc ∨ r.cless = true ∨ fld w 30 1 = 0 ∧ (32767 < modSub 16 lim r.ccH ∨ 32767 < modSub 16 lim r.clH) ∨
        fld w 30 1 = 1 ∧ (32767 < modSub 16 lim r.ccD ∨ 32767 < modSub 16 lim r.clD) →
      ∃ t, exec (.creditRx p w) s = .next t ∧ t.rd (CHD_CREDERR_BAD_LIMIT p) = satAdd 16 (s.rd (CHD_CREDERR_BAD_LIMIT p)) 1 ∧
        s.raised t (chordPage p) [EV_CHD_CREDIT_ERR] ∧ t.chords = s.chords ∧
        s.regsBut t [CHD_CREDERR_BAD_LIMIT p, EVT_LOG_STAT_OVF] ∧ s.onlyRegs t)

/-- R524: the energy tokens that the governor publishes at the end of a period, from P in 10 mW units, U in tokens/µs and T in °C: Pb in µW,
the floor of the budget's rest over EPW, scaled between WARN and HOT, none from HOT on, clamped to 0xFFFE; a publication of 0 raises
ETOK_ZERO, and 0xFFFF is published while GOV_EN is 0 only. -/
def Obligations.EnergyRule : Prop :=
  ∀ (s : State) (p : BitVec 16) (c : BitVec 8) (u : Nat) (hot warn e0 e1 : Int), s.coreOn = true → s.power.asleep = 0 →
    s.power.periodAt + max 1 (s.rd PWR_GOV_PERIOD) * 1000000 ≤ s.now →
    u = min 65535 (s.power.spent * 1000 / (4 * (s.now - s.power.periodAt))) → hot = (s.rd PWR_THERM_HOT : Nat) → warn = (s.rd PWR_THERM_WARN : Nat) →
    e0 = ((min 50 (max 5 (s.rd PWR_BUDGET_W)) * 1000000 : Nat) - ((p.toNat * 10000 : Nat) - (u * min 10000 (max 50 (s.rd PWR_GOV_EPW)) : Nat) : Int)) /
      (min 10000 (max 50 (s.rd PWR_GOV_EPW)) : Nat) →
    e1 = (if hot ≤ c.toInt then 0 else if warn < c.toInt then e0 * (hot - c.toInt) / (hot - warn) else e0) →
    ∃ t, exec (.governorPeriod p c) s = .next t ∧
      t.rd CMP_STAT_ETOK_RATE = (if s.rd PWR_GOV_GOV_EN = 0 then 0xFFFF else (min 0xFFFE (max 0 e1)).toNat) ∧
      (t.rd CMP_STAT_ETOK_RATE = 0 → s.raised t 0x0A0 [EV_CMP_ETOK_ZERO])

/-- R526: at P3 with Pb over the budget the governor (on, R524) publishes E = 0 and raises BUDGET_LOW, and nothing of the guaranteed traffic
changes: no tunnel, queue, credit or gate. -/
def Obligations.BudgetLowRule : Prop :=
  ∀ (s : State) (p : BitVec 16) (c : BitVec 8) (u : Nat), s.coreOn = true → s.power.asleep = 0 →
    s.power.periodAt + max 1 (s.rd PWR_GOV_PERIOD) * 1000000 ≤ s.now → s.rdB PWR_GOV_GOV_EN = true → s.rd PWR_STAT_LEVEL = 3 →
    u = min 65535 (s.power.spent * 1000 / (4 * (s.now - s.power.periodAt))) →
    ((min 50 (max 5 (s.rd PWR_BUDGET_W)) * 1000000 : Nat) : Int) < (p.toNat * 10000 : Nat) - (u * min 10000 (max 50 (s.rd PWR_GOV_EPW)) : Nat) →
    ∃ t, exec (.governorPeriod p c) s = .next t ∧ t.rd CMP_STAT_ETOK_RATE = 0 ∧
      (t.pages.get pwrPage).stat.getLsbD EV_PWR_BUDGET_LOW = true ∧ t.tuns = s.tuns ∧ t.compass = s.compass ∧ t.chords = s.chords ∧
      t.lanes = s.lanes ∧ t.hull = s.hull ∧ t.samples = s.samples ∧ t.express = s.express
/-! ## Further forms -/

/-- R43, R46, R50–R56, R58–R61, R64, R66, R68–R70, R73, R76: lane commands in further link states: words of either polarity, every stage of
the sweep, CAPS sets, LAST, the ends of bursts, and what leaves a resting state.
The model's choices that its clauses rest on: assumption log 11, 12 (the order of the sweep), 27, 28. -/
def Obligations.LaneFormRows : Prop :=
  (∀ (s : State) (p : Fin 18) (pair : Bool) (cg g : BitVec 46) (x : Pair) (hdr : Nat) (r : Nat × BitVec 31) (w : Word), s.coreOn = true →
    s.ls p = LS_ACTIVE → x = (s.lane p).pair pair → x.descrambling = true → g = (if x.inverted then ~~~cg else cg) → hdr = fld g 44 2 →
    r = scramble x.lfsr (fld g 0 44) → w = BitVec.ofNat 40 r.1 →
    (hdr ≠ 0 → r.1 / 2 ^ 40 = parity w → (hdr = 1 → fld w 34 6 < 0x0D) →
      ∃ t, exec (.codeGroupRx p pair cg) s = .next t ∧ ((t.lane p).pair pair).lfsr = r.2 ∧
        ((t.lane p).pair pair).items = x.items ++ [if hdr = 3 then .express else if hdr = 2 then .data w else .ctl w] ∧
        ((t.lane p).pair pair).express = (if hdr = 3 then x.express ++ [some w] else []) ∧
        { t with lanes := s.lanes, evt := s.evt, out := s.out } = s) ∧
    (hdr = 0 ∨ r.1 / 2 ^ 40 ≠ parity w ∨ hdr = 1 ∧ 0x0D ≤ fld w 34 6 →
      ∃ t, exec (.codeGroupRx p pair cg) s = .next t ∧ ((t.lane p).pair pair).lfsr = r.2 ∧ ((t.lane p).pair pair).items = x.items ++ [.bad] ∧
        t.rd (if x.laneB.getD pair then LANE_ERR_BAD_B p else LANE_ERR_BAD_A p) =
          satAdd 16 (s.rd (if x.laneB.getD pair then LANE_ERR_BAD_B p else LANE_ERR_BAD_A p)) 1)) ∧
  (∀ (s : State) (p : Fin 18) (pair inv : Bool) (hdr : BitVec 2) (w v : Word) (slot : Nat), s.coreOn = true →
    v = (if inv then ~~~w else w) → (hdr = 1 ∨ inv = true ∧ hdr = 2) → fld v 34 6 = 0x02 → fld v 0 17 = 0x1A5A5 →
    (s.ls p = LS_ACTIVE ∨ s.ls p = LS_DOZE ∨ s.ls p = LS_NAP →
      ∃ t, exec (.trainWordRx p pair hdr w slot) s = .next t ∧ s.retraining t p ∧ ((t.lane p).pair pair).hits = 1 ∧
        ((t.lane p).pair pair).inverted = inv ∧ ((t.lane p).pair pair).laneB = some (fld v 33 1 = 1 : Bool)) ∧
    (s.ls p = LS_TRAIN → (s.lane p).phase = .equalise → fld v 32 1 = 0 → (s.lane p).reqT = decide (fld v 18 1 = 1) →
      ∃ t, exec (.trainWordRx p pair hdr w slot) s = .next t ∧
        ((t.lane p).pair pair).hits = (if slot = 16 then ((s.lane p).pair pair).hits + 1 else 1) ∧ (t.lane p).myAckT = decide (fld v 17 1 = 1)) ∧
    (s.ls p = LS_TRAIN → (s.lane p).phase = .equalise → (s.lane p).rdySent = false → (s.lane p).reqT ≠ decide (fld v 18 1 = 1) →
      fld v 25 2 = 3 → fld v 23 2 = 3 →
      ∃ t, exec (.trainWordRx p pair hdr w slot) s = .next t ∧ (t.lane p).preSt = 0 ∧ (t.lane p).postSt = 0 ∧
        (t.lane p).reqT = decide (fld v 18 1 = 1) ∧ t.rd (LANE_EQ_TX_PRE p) = (presetCursors (fld v 27 3)).1 ∧
        t.rd (LANE_EQ_TX_POST p) = (presetCursors (fld v 27 3)).2)) ∧
  (∀ (s : State) (p : Fin 18) (pair : Bool) (w : Word) (skew : Int), s.coreOn = true → fld w 34 6 = 0x08 →
    ((s.lane p).phase = .lock ∨ (s.lane p).phase = .equalise →
      ∃ t, exec (.alignWordRx p pair w skew) s = .next t ∧
        ((t.lane p).pair pair).hits = (if s.now = ((s.lane p).pair pair).wordAt + 32 then ((s.lane p).pair pair).hits + 1 else 1) ∧
        ((t.lane p).pair pair).wordAt = s.now ∧ s.regsBut t [LANE_STAT_LOCK_A p, LANE_STAT_LOCK_B p]) ∧
    ((s.lane p).phase = .align → s.ls p ≠ LS_RETRAIN → 64 < skew ∨ skew < -64 →
      ∃ t, exec (.alignWordRx p pair w skew) s = .next t ∧ s.attemptFailed t p ∧ (t.pages.get (lanePage p)).stat.getLsbD EV_LANE_SKIP_LIMIT = true) ∧
    ((s.lane p).phase = .align → (s.lane p).lastSent = true → ((s.lane p).pair (!pair)).descrambling = true → fld w 32 1 = 1 →
      -64 ≤ skew → skew ≤ 64 →
      ∃ t, exec (.alignWordRx p pair w skew) s = .next t ∧ (t.lane p).phase = .config ∧ (t.lane p).deadline = some (s.now + 200000) ∧
        ((t.lane p).pair pair).lfsr = BitVec.ofNat 31 (fld w 0 31) ∧ t.ls p = (if s.ls p = LS_DOWN then LS_DOWN else LS_CONFIG))) ∧
  (∀ (s : State) (p : Fin 18), s.coreOn = true → (s.lane p).dskRcvd = true → (s.lane p).lastSent = false → (s.lane p).lastRcvd = true →
    (s.lane p).alignAt + 7 * 64 ≤ s.now →
    ((s.lane p).phase = .align →
      ∃ t, exec (.lastSend p) s = .next t ∧ (t.lane p).phase = .config ∧ (t.lane p).deadline = some (s.now + 200000) ∧ (t.lane p).myCaps ≠ [] ∧
        Emit.word p 0 (alignWord (s.lane p) false true (s.lane p).seedA) ∈ t.out ∧ t.ls p = (if s.ls p = LS_DOWN then LS_DOWN else LS_CONFIG)) ∧
    ((s.lane p).phase = .rtAlign →
      ∃ t, exec (.lastSend p) s = .next t ∧ t.rd (LANE_RETRAINS_RETRAIN_OK p) = satAdd 16 (s.rd (LANE_RETRAINS_RETRAIN_OK p)) 1 ∧
        Emit.word p 1 (alignWord (s.lane p) true true (s.lane p).seedB) ∈ t.out ∧
        t.rd (LANE_TTIME_LAST_RETRAIN p) = min 65535 ((s.now - (s.lane p).since) / 10))) ∧
  (∀ (s : State) (p : Fin 18) (margin d n bp bo : Nat) (y : Nat × (Nat × Nat)), s.coreOn = true → (s.lane p).phase = .equalise →
    (s.lane p).evalUntil = some d → d ≤ s.now → 7 ≤ (s.lane p).sweepStage → n = (s.lane p).sweepStage + 1 →
    bp = (if (s.lane p).bestMargin < margin then s.rd (LANE_EQ_RX_PRE p) else (s.lane p).bestPre) →
    bo = (if (s.lane p).bestMargin < margin then s.rd (LANE_EQ_RX_POST p) else (s.lane p).bestPost) →
    y = sweepTarget n bp bo → y.2.1 ≤ 15 → y.2.2 ≤ 31 → (s.lane p).rdyRcvd = false →
    ∃ t, exec (.presetEvalExpiry p margin) s = .next t ∧ (t.lane p).sweepStage = y.1 ∧ t.rd (LANE_EQ_RX_PRE p) = y.2.1 ∧
      t.rd (LANE_EQ_RX_POST p) = y.2.2 ∧ (t.lane p).bestPre = bp ∧ (t.lane p).bestPost = bo ∧
      (t.lane p).evalUntil = (if y.1 < 11 then some (s.now + 50000) else none) ∧
      (t.lane p).rdySent = ((s.lane p).rdySent || decide (11 ≤ y.1))) ∧
  (∀ (s : State) (p : Fin 18) (w v : Word) (x : Nat × Nat) (l : List (Nat × Nat)), s.coreOn = true → (s.lane p).phase = .config → fld w 34 6 = 0x03 →
    (fld w 30 4 ≠ 15 → (s.lane p).capsRx = x :: l → x.1 < fld w 30 4 →
      ∃ t, exec (.capsRx p none (some w)) s = .next t ∧ (t.lane p).capsRx = (fld w 30 4, fld w 0 30) :: (s.lane p).capsRx ∧
        { t with lanes := s.lanes, evt := s.evt, out := s.out } = s) ∧
    (v ≠ w → ∃ t, exec (.capsRx p (some v) (some w)) s = .next t ∧ { t with evt := s.evt, out := s.out } = s) ∧
    (fld w 30 4 = 15 → capsComplete (s.lane p).capsRx (fld w 24 5) = false →
      ∃ t, exec (.capsRx p (some w) (some w)) s = .next t ∧ (t.lane p).capsRx = [] ∧ { t with lanes := s.lanes, evt := s.evt, out := s.out } = s) ∧
    (fld w 30 4 = 15 → capsComplete (s.lane p).capsRx (fld w 24 5) = true → s.commonVersion p (s.lane p).capsRx = none →
      ∃ t, exec (.capsRx p (some w) none) s = .next t ∧ t.ls p = LS_DISABLED ∧
        (t.pages.get (lanePage p)).stat.getLsbD EV_LANE_DISABLED = true) ∧
    (fld w 30 4 = 15 → capsComplete (s.lane p).capsRx (fld w 24 5) = true → s.commonVersion p (s.lane p).capsRx ≠ none → fld w 29 1 = 0 →
      ∃ t, exec (.capsRx p (some w) (some w)) s = .next t ∧ (t.lane p).caps = (s.lane p).capsRx ∧ (t.lane p).capsRx = [] ∧
        (t.lane p).seenRcvd = false ∧ t.ls p = s.ls p)) ∧
  (∀ (s : State) (p : Fin 18) (d : Nat), s.coreOn = true → s.ls p = LS_RETRAIN → (s.lane p).deadline = some d → d < s.now →
    ∃ t, exec (.retrainDeadlineExpiry p) s = .next t ∧ t.ls p = (if (s.chord p).graceMs = 0 then LS_DETECT else LS_DOWN) ∧
      t.rd (LANE_RETRAINS_RETRAIN_FAIL p) = satAdd 16 (s.rd (LANE_RETRAINS_RETRAIN_FAIL p)) 1) ∧
  (∀ (s : State) (p : Fin 18) (w : Word), s.coreOn = true →
    (s.ls p = LS_NAP ∨ s.ls p = LS_DOZE ∧ (s.lane p).viaRetrain = true → ∃ t, exec (.linkWake p) s = .next t ∧ s.retraining t p) ∧
    (s.ls p = LS_DORMANT → ∃ t, exec (.linkWake p) s = .next t ∧ s.attempt t p ∧ Emit.burst p ∈ t.out ∧ (t.lane p).bursts = 1 ∧
      (t.lane p).burstAt = some (s.now + 1000000)) ∧
    (s.ls p = LS_DOZE → fld w 34 6 = 0x0A →
      ((s.lane p).viaRetrain = true → ∃ t, exec (.wakeWordRx p w) s = .next t ∧ s.retraining t p) ∧
      ((s.lane p).viaRetrain = false → (s.lane p).coldAfter = false →
        ∃ t, exec (.wakeWordRx p w) s = .next t ∧ (t.ls p = LS_ACTIVE ∨ t.ls p = LS_RETRAIN) ∧ (t.lane p).waking = false)) ∧
    (s.ls p = LS_NAP ∨ s.ls p = LS_DOZE → ∃ t, exec (.signalEnergyDetect p) s = .next t ∧ s.retraining t p)) ∧
  (∀ (s : State) (p : Fin 18) (w : Word) (n : Nat), s.coreOn = true → (s.lane p).asked = some n → fld w 34 6 = 0 → fld w 31 3 = n → fld w 30 1 = 0 →
    s.ls p = LS_ACTIVE →
    ∃ t, exec (.idleAcceptRx p w) s = .next t ∧ (t.lane p).asked = none ∧ (t.lane p).askUntil = none ∧
      { t with lanes := s.lanes, evt := s.evt, out := s.out } = s) ∧
  (∀ (s : State) (p : Fin 18) (d : Nat), s.coreOn = true → (s.lane p).burstAt = some d → d ≤ s.now →
    ((s.lane p).pair0.hits ≠ 0 ∨ (s.lane p).pair1.hits ≠ 0 ∨ s.ls p = LS_ACTIVE →
      ∃ t, exec (.wakeBurstRepeat p) s = .next t ∧ (t.lane p).burstAt = none ∧ (t.lane p).bursts = 0 ∧
        { t with lanes := s.lanes, evt := s.evt, out := s.out } = s) ∧
    ((s.lane p).pair0.hits = 0 → (s.lane p).pair1.hits = 0 → s.ls p = LS_TRAIN → 60 ≤ (s.lane p).bursts →
      ∃ t, exec (.wakeBurstRepeat p) s = .next t ∧ (t.lane p).burstAt = none ∧ t.ls p = LS_DORMANT ∧ (t.lane p).phase = .idle ∧
        t.rd (LANE_TRAINS_COLD_FAIL p) = satAdd 16 (s.rd (LANE_TRAINS_COLD_FAIL p)) 1)) ∧
  (∀ (s : State) (p : Fin 18), s.coreOn = true → s.locked (lanePage p) = false →
    (s.ls p ≠ LS_DISABLED → s.ls p ≠ LS_LOOPBACK → ∃ t, exec (.laneEnable p false) s = .next t ∧ t.rd (LANE_CTL_ENABLE p) = 0 ∧
      t.ls p = LS_DISABLED ∧ (t.lane p).phase = .idle ∧ (t.pages.get (lanePage p)).stat.getLsbD EV_LANE_DISABLED = true) ∧
    (s.rd (LANE_CTL_ENABLE p) = 0 → s.ls p = LS_LOOPBACK → ∃ t, exec (.loopWrite p 0) s = .next t ∧ t.rd (LANE_CTL_LOOP p) = 0 ∧
      t.ls p = LS_DISABLED ∧ s.raised t (lanePage p) [EV_LANE_DISABLED])) ∧
  (∀ (s : State) (p : Fin 18) (pair : Bool), s.coreOn = true → s.ls p = LS_TRAIN → (s.lane p).phase = .lock → ((s.lane p).pair pair).locked = true →
    ((s.lane p).pair pair).restLeft = 0 → ((s.lane p).pair pair).wordAt + 128 < s.now →
    ∃ t, exec (.blockLockLoss p pair) s = .next t ∧ ((t.lane p).pair pair).locked = false ∧ ((t.lane p).pair pair).hits = 0 ∧
      t.rd (if ((s.lane p).pair pair).laneB.getD pair then LANE_STAT_LOCK_B p else LANE_STAT_LOCK_A p) = 0) ∧
  (∀ (s : State) (p : Fin 18), s.coreOn = true → s.ls p = LS_ACTIVE ∨ s.ls p = LS_RETRAIN ∨ s.ls p = LS_NAP → 1 ≤ (s.chord p).graceMs →
    ∃ t, exec (.forceCold p) s = .next t ∧ t.ls p = LS_DOWN ∧ (t.lane p).phase = .lock ∧ (t.lane p).deadline = some (s.now + 150000) ∧
      t.rd (CHD_STAT_GRACE p) = 1)

/-- R82, R89–R91, R95, R102, R103, R111, R114, R118, R121–R123, R133, R155, R172–R174, R178, R500: commands of Chord, the Hull and the tunnels
in further states of their queues.
The model's choices that its clauses rest on: assumption log 28, 29, 33 (LEN 0), 36. -/
def Obligations.ChordFormRows : Prop :=
  (∀ (s : State) (p : Fin 18) (x y : Word) (a b : List RxItem) (ws : List Word), s.coreOn = true → s.active p = true →
    (s.lane p).pair0.laneB = some false → ws = (s.chord p).framing.words →
    ((s.lane p).pair0.items = .data x :: a → (s.lane p).pair1.items = .data y :: b → (s.chord p).void = false →
      flitComplete (ws ++ [x]) = false → flitComplete (ws ++ [x, y]) = true →
      ∃ t, exec (.wordFrameRx p) s = .next t ∧ (t.chord p).framing.words = [] ∧
        (t.chord p).framed = (s.chord p).framed ++ [(ws ++ [x, y], (s.chord p).framing.bad)] ∧ (t.lane p).pair0.items = a ∧
        (t.lane p).pair1.items = b ∧ { t with lanes := s.lanes, chords := s.chords, evt := s.evt, out := s.out } = s) ∧
    ((s.lane p).pair0.items = .ctl x :: a → (s.lane p).pair1.items = .ctl x :: b → fld x 34 6 = 0x03 ∨ fld x 34 6 = 0x08 ∨ fld x 34 6 = 0x0A →
      ∃ t, exec (.wordFrameRx p) s = .next t ∧ t.rd (CHD_PROTO_STRAY p) = satAdd 16 (s.rd (CHD_PROTO_STRAY p)) 1 ∧
        (t.lane p).pair0.items = a ∧ (t.lane p).pair1.items = b ∧ (t.chord p).framed = (s.chord p).framed ∧ s.regsBut t [CHD_PROTO_STRAY p])) ∧
  (∀ (s : State) (p : Fin 18) (ws : List Word) (bad : Bool) (rest : List (List Word × Bool)) (n d form vc len : Nat), s.coreOn = true →
    (s.chord p).framed = (ws, bad) :: rest → vc = fld (ws.headD 0) 37 3 → len = fld (ws.headD 0) 20 5 → n = fld (ws.headD 0) 4 16 →
    d = modSub 16 n ((s.chord p).cum + 1) →
    form = s.trailerForm p (s.chord p).keyRx (s.rd (CHD_STAT_EPOCH_RX p)) ws.dropLast (ws.getLastD 0) →
    (bad = false → 1 ≤ vc → vc ≤ 5 → 1 ≤ len → len ≤ 30 → form ≠ 2 →
      (32768 ≤ d → ∃ t, exec (.flitRx p) s = .next t ∧ (t.chord p).framed = rest ∧ t.rd (CHD_MISC_DUP p) = satAdd 16 (s.rd (CHD_MISC_DUP p)) 1 ∧
        (t.chord p).cum = (s.chord p).cum) ∧
      (d ≠ 0 → d < 32768 → ∃ t, exec (.flitRx p) s = .next t ∧ (t.chord p).framed = rest ∧
        t.rd (CHD_RXERR_GAP p) = satAdd 16 (s.rd (CHD_RXERR_GAP p)) 1 ∧ (t.chord p).cum = (s.chord p).cum ∧
        t.rd (CHD_STAT_RX_STATE p) = (if s.rd (CHD_STAT_RX_STATE p) = 0 then 1 else s.rd (CHD_STAT_RX_STATE p))) ∧
      (d = 0 → ((s.chord p).cred vc).myCless = false →
        ∃ t, exec (.flitRx p) s = .next t ∧ (t.chord p).framed = rest ∧ (t.chord p).cum = n ∧ (t.chord p).unacked = (s.chord p).unacked + 1 ∧
          t.rd (CHD_STAT_RX_STATE p) = 0 ∧
          (form = 1 → t.rd (CHD_POISON_RX p) = satAdd 16 (s.rd (CHD_POISON_RX p)) 1))) ∧
    (bad = true → ∃ t, exec (.flitRx p) s = .next t ∧ (t.chord p).framed = rest ∧ (t.chord p).cum = (s.chord p).cum ∧
      t.rd (CHD_RXERR_CORRUPT p) = satAdd 16 (s.rd (CHD_RXERR_CORRUPT p)) 1 ∧ (t.chord p).void = true)) ∧
  (∀ (s : State) (p : Fin 18) (pair : Bool) (x : Pair) (g : List (Option Word)) (a b c : Word) (d : Nat), s.coreOn = true → s.active p = true →
    s.rdB (CHD_STAT_AUTH p) = false → x = (s.lane p).pair pair → g = (x.runs.headD x.express).take 3 → d = modSub 8 (fld a 9 8) (s.chord p).xCum →
    (g = [some a, some b, some c] → c = ~~~b → fld a 37 3 = 0 →
      (1 ≤ d → d ≤ 64 → fld a 9 8 ∉ (s.chord p).xAcc →
        ∃ t, exec (.expressCopyRx p pair) s = .next t ∧ (t.chord p).xIn = (s.chord p).xIn ++ [[a, b, c]] ∧ (t.chord p).ackDue ≠ none ∧
          { t with regs := s.regs, lanes := s.lanes, chords := s.chords, evt := s.evt, out := s.out } = s) ∧
      (d = 0 ∨ 64 < d ∨ fld a 9 8 ∈ (s.chord p).xAcc →
        ∃ t, exec (.expressCopyRx p pair) s = .next t ∧ (t.chord p).xIn = (s.chord p).xIn ∧ (t.chord p).xCum = (s.chord p).xCum ∧
          { t with regs := s.regs, lanes := s.lanes, chords := s.chords, evt := s.evt, out := s.out } = s)) ∧
    (g = [some a, some b, some c] → c ≠ ~~~b → (s.chord p).xWait = [] →
      ∃ t, exec (.expressCopyRx p pair) s = .next t ∧ (t.chord p).xIn = (s.chord p).xIn ∧
        (t.chord p).xWait = [(x.laneB.getD pair, false, s.now + 20)] ∧
        { t with lanes := s.lanes, chords := s.chords, evt := s.evt, out := s.out } = s)) ∧
  (∀ (s : State) (p : Fin 18) (n : Nat), s.coreOn = true → ((s.chord p).xWait.filter (fun x => x.2.2 < s.now && !x.2.1)).length = n + 1 →
    s.rdB (CHD_STAT_XNAK p) = true →
    ∃ t, exec (.expressCopyWaitExpiry p) s = .next t ∧ t.rd (CHD_XERR_BOTH_BAD p) = satAdd 16 (s.rd (CHD_XERR_BOTH_BAD p)) (n + 1) ∧
      (t.chord p).xWait = (s.chord p).xWait.filter (fun x => s.now ≤ x.2.2) ∧
      Emit.word p 3 (ctlWord 0x05 [(18, 16, (s.chord p).cum), (10, 8, ((s.chord p).xCum + 1) % 256), (9, 1, 1)]) ∈ t.out ∧
      s.regsBut t [CHD_XERR_BOTH_BAD p, CHD_NAK_SENT p]) ∧
  (∀ (s : State) (p : Fin 18) (vc : Fin 5) (data : Bool) (d : Nat), s.coreOn = true → s.active p = true →
    ((s.chord p).ackDue ≠ none → ∃ t, exec (.ackSend p) s = .next t ∧
      Emit.word p 3 (ctlWord 0x04 [(18, 16, (s.chord p).cum), (10, 8, (s.chord p).xCum), (9, 1, 0)]) ∈ t.out ∧ (t.chord p).ackDue = none) ∧
    (((s.chord p).cred (vc + 1)).myCless = false →
      (if data then ((s.chord p).cred (vc + 1)).freedD else ((s.chord p).cred (vc + 1)).freedH) ≠ 0 →
      ∃ t, exec (.creditSend p vc data) s = .next t ∧
        Emit.word p 3 (ctlWord 0x06 [(31, 3, vc + 1), (30, 1, b2n data), (14, 16, (if data
          then ((s.chord p).cred (vc + 1)).limD + ((s.chord p).cred (vc + 1)).freedD
          else ((s.chord p).cred (vc + 1)).limH + ((s.chord p).cred (vc + 1)).freedH) % 2 ^ 16)]) ∈ t.out) ∧
    ((s.chord p).creditRepeat = some d → d ≤ s.now →
      ∃ t, exec (.creditRepeat p) s = .next t ∧ (t.chord p).creditRepeat = some (s.now + 10000)) ∧
    (s.rd (CHD_STAT_RX_STATE p) = 1 → (s.chord p).nakAgain = some d → d < s.now →
      ∃ t, exec (.nakRepeat p) s = .next t ∧
        Emit.word p 3 (ctlWord 0x05 [(18, 16, (s.chord p).cum), (10, 8, (s.chord p).xCum), (9, 1, 0)]) ∈ t.out ∧
        t.rd (CHD_NAK_SENT p) = satAdd 16 (s.rd (CHD_NAK_SENT p)) 1) ∧
    ((s.chord p).epTx = .announced → (s.chord p).epRepeat = some d → d < s.now →
      ∃ t, exec (.announceRepeat p) s = .next t ∧
        Emit.word p 3 (epochWord 1 (s.rd (CHD_STAT_EPOCH_TX p) + 1)) ∈ t.out ∧ (t.chord p).epRepeat = some (s.now + 2000))) ∧
  (∀ (s : State) (p : Fin 18) (w : Word) (fresh : Bool), s.coreOn = true → s.active p = true → fld w 34 6 = 0x07 → 1 ≤ fld w 30 4 → fld w 30 4 ≤ 6 →
    fresh = (s.chord p).pointSeen.all (fun x => !(x.1 = fld w 30 4 && x.2.1 = fld w 26 4 && s.now ≤ x.2.2 + 1000)) →
    (fresh = false → (∃ t, exec (.pointRx p w) s = .next t ∧ { t with evt := s.evt, out := s.out } = s) ∧
      ∃ t, exec (.latticeMarkRx p w) s = .next t ∧ { t with evt := s.evt, out := s.out } = s) ∧
    (fresh = true → fld w 30 4 = 6 → ∃ t, exec (.pointRx p w) s = .next t ∧
      (6, fld w 26 4, s.now) ∈ (t.chord p).pointSeen ∧ (t.pages.get 0x0D8).stat.getLsbD EV_EXP_PEER_TAKEOVER = true) ∧
    (fresh = true → fld w 30 4 = 1 → s.rd (LANE_STAT_PARTNER_KIND p) ≠ 0 → fld w 25 1 = 1 →
      ∃ t, exec (.pointRx p w) s = .next t ∧ (1, fld w 26 4, s.now) ∈ (t.chord p).pointSeen ∧
        t.rd FEED_WARN_RX_ASSERT = fld w 18 1 ∧ t.rd FEED_WARN_RX_ORIGIN = fld w 19 6 ∧
        t.rd FEED_WARN_CNT_RX = satAdd 16 (s.rd FEED_WARN_CNT_RX) 1 ∧ (t.pages.get feedPage).stat.getLsbD EV_FEED_WARN_RX = true) ∧
    (fresh = true → fld w 30 4 = 3 → bitsOf (fld w 0 19) 17 2 ≠ 2 → ∃ t, exec (.pointRx p w) s = .next t ∧
      (3, fld w 26 4, s.now) ∈ (t.chord p).pointSeen ∧ (t.chord p).quiet = (s.chord p).quiet ∧ s.onlyChord t p) ∧
    (fresh = true → fld w 30 4 = 2 → s.fromRoot p = true → latticeOk (bitsOf (fld w 0 19) 15 4) (bitsOf (fld w 0 19) 11 4) = true →
      ∃ t, exec (.latticeMarkRx p w) s = .next t ∧ (2, fld w 26 4, s.now) ∈ (t.chord p).pointSeen ∧
        t.lattice = (if s.lattice.stageS.isSome then s.lattice
          else { s.lattice with stageS := some (s.datum.sec + modSub 11 (bitsOf (fld w 0 19) 0 11) s.datum.sec) }))) ∧
  (∀ (s : State) (port : Fin 25) (f : HFlit) (rest : List (Nat × HFlit)) (r : Reasm) (e : Entry) (h len d : Nat), s.running = true →
    takePort port s.hull.adapters = some (f, rest) → 2 ≤ f.vc → r = (s.tun f.tunnel).rx → e = (s.tun f.tunnel).e → h = fld (f.payload.headD 0) 16 24 →
    len = fld (f.payload.headD 0) 0 16 → d = modSub 24 h ((e.msnIn + 1) % 2 ^ 24) →
    (r.discarding = true ∨ r.duplicate = true → ∃ t, exec (.adapterFlitRx port) s = .next t ∧ t.hull.adapters = rest ∧
      (t.tun f.tunnel).rx = (if f.last then {} else r) ∧ { t with hull := s.hull, tuns := s.tuns, evt := s.evt, out := s.out } = s) ∧
    (r.discarding = false → r.duplicate = false →
      (f.poison = true ∨ (r.isOpen = true ∧ f.last = true ∧ (r.words ++ f.payload).length ≠ r.len) ∨
        (r.isOpen = false ∧ d < 8388608 ∧ (len = 0 ∨ (if e.maxMsg = 0 then 65535 else e.maxMsg) < len)) →
        ∃ t, exec (.adapterFlitRx port) s = .next t ∧ (t.tun f.tunnel).rx = { discarding := !f.last } ∧
          t.rd TUN_REASM_ABORT = satAdd 16 (s.rd TUN_REASM_ABORT) 1 ∧ s.raised t 0x080 [EV_TUN_REASM_ABORT]) ∧
      (f.poison = false → r.isOpen = true → f.last = false → f.payload.length = 30 →
        ∃ t, exec (.adapterFlitRx port) s = .next t ∧ (t.tun f.tunnel).rx = { r with words := r.words ++ f.payload } ∧
          (t.tun f.tunnel).e = e ∧ { t with hull := s.hull, tuns := s.tuns, evt := s.evt, out := s.out } = s) ∧
      (f.poison = false → r.isOpen = true → f.last = true → (r.words ++ f.payload).length = r.len → e.keyed = false →
        ∃ t, exec (.adapterFlitRx port) s = .next t ∧ (t.tun f.tunnel).rx = {} ∧ (t.tun f.tunnel).e = { e with msnIn := r.msn } ∧
          Emit.delivered f.tunnel (r.words ++ f.payload) ∈ t.out ∧ { t with hull := s.hull, tuns := s.tuns, evt := s.evt, out := s.out } = s) ∧
      (f.poison = false → r.isOpen = false → 8388608 ≤ d →
        ∃ t, exec (.adapterFlitRx port) s = .next t ∧ (t.tun f.tunnel).rx = { duplicate := !f.last } ∧
          t.rd TUN_REASM_DUP = satAdd 8 (s.rd TUN_REASM_DUP) 1 ∧ s.regsBut t [TUN_REASM_DUP]))) ∧
  (∀ (s : State) (hub : Fin 17) (port : Fin 18) (msg : List Word) (n : Nat), s.running = true →
    (s.isRoot = false → s.hubNo = hub.val → cType msg = 1 →
      (cArg msg % 32 = s.hubNo → ∃ t, exec (.hubAssignRx hub msg) s = .next t ∧ { t with evt := s.evt, out := s.out } = s) ∧
      (cArg msg % 32 ≠ s.hubNo → s.ids.carry.getD 16 = port.val → s.ls port = LS_ACTIVE → 1 ≤ (s.chord port).graceMs →
        ∃ t, exec (.hubAssignRx hub msg) s = .next t ∧ t.ls port = LS_DOWN ∧ (t.lane port).phase = .lock ∧
          (t.lane port).deadline = some (s.now + 150000))) ∧
    (s.hubAt port = some hub.val → cType msg = 8 → n = cTun msg → (s.tun n).e.state ≠ .free →
      ((s.tun n).e.vc ≤ 1 → (s.tun n).e.altPort = port.val → ∃ t, exec (.migrateDoneRx hub port msg) s = .next t ∧
        (t.tun n).e = s.swapAlt (s.tun n).e) ∧
      (2 ≤ (s.tun n).e.vc → (s.tun n).e.mig = 2 → ∃ t, exec (.migrateDoneRx hub port msg) s = .next t ∧
        t.tun n = { s.tun n with doneRcvd := true })))

/-- R197, R198, R201, R207–R209, R216, R221, R261, R265, R267, R330–R334, R358–R364, R387, R391–R394, R401: commands of the time unit, of the
adapters and of the USB port in further states of what they keep.
The model's choices that its clauses rest on: assumption log 11, 23, 24, 30, 34, 38, 39, 43, 58. -/
def Obligations.StreamFormRows : Prop :=
  (∀ (s : State) (h : Fin 17) (d e : GmData) (ds : List Nat) (u : Nat) (l : List Word), s.coreOn = true →
    (s.isRoot = true → s.gmNow = some d → s.datum.dsSent.get h = some (e, u) → e ≠ d ∨ u + 1000000000 ≤ s.now → s.canSend 24 (timeTun h) ds →
      ∃ t, exec (.timeDsSend h) s = .next t ∧ t.datum.dsSent.get h = some (d, s.now) ∧ s.sent t 24 (timeTun h) ds (gmWords d)) ∧
    (s.isRoot = false → s.datum.stSent = some (l, u) → u + 1000000000 ≤ s.now → s.canSend 24 (timeTun s.hubNo) ds →
      ∃ t, exec .timeStatusSend s = .next t ∧ t.datum.stSent = some (s.statusWords, s.now) ∧ s.sent t 24 (timeTun s.hubNo) ds s.statusWords)) ∧
  (∀ (s : State) (p : Fin 18) (w : Word) (d : Nat) (l : List (Nat × Nat)), s.coreOn = true → s.nearRoot p = false → (s.probe p).timesBy = some d →
    s.now ≤ d → fld w 34 6 = 0x0C → fld w 26 4 = (s.probe p).rxSeq → fld w 30 4 ≤ 9 →
    l = (s.probe p).times.filter (fun y => y.1 ≠ fld w 30 4) ++ [(fld w 30 4, fld w 0 26)] → l.length = 10 →
    ∃ t, exec (.timeWordRx p w) s = .next t ∧ (t.probe p).times = [] ∧ (t.probe p).timesBy = none ∧
      t.rd (DAT_PORT_DELAY_D_MS p) = (l.lookup 6).getD 0 % 2 ^ 26 ∧ t.rd (DAT_PORT_CNT_EXCH p) = (s.rd (DAT_PORT_CNT_EXCH p) + 1) % 2 ^ 16) ∧
  (∀ (s : State) (p : Fin 18) (laneB : Bool) (w : Word) (rtt f : Nat), s.coreOn = true → s.active p = true → s.nearRoot p = true → fld w 34 6 = 0x0B →
    fld w 32 2 = 2 → (s.probe p).running = true → (s.probe p).laneB = laneB → fld w 28 4 = (s.probe p).rxSeq →
    rtt = modSub 40 (modSub 40 s.datum.whole (s.probe p).t1) (fld w 0 28) → (s.probe p).rtt = some f → 16 * rtt ≤ f + 256 → f ≤ 16 * rtt + 256 →
    ∃ t, exec (.probeRespRx p laneB w) s = .next t ∧ (t.probe p).rtt = some (f + rtt - f / 16) ∧ (t.probe p).running = false ∧
      t.rd (DAT_PORT_CNT_EXCH p) = (s.rd (DAT_PORT_CNT_EXCH p) + 1) % 2 ^ 16 ∧
      s.regsBut t [DAT_PORT_DELAY_D_MS p, DAT_PORT_CNT_EXCH p, CHD_RTT_RTT p, CHD_RTT_TIMER p]) ∧
  (∀ s : State, s.coreOn = true → s.lattice.next * s.period ≤ s.datum.whole → s.lattice.stageS.all (fun b => s.datum.whole < b * 1000000000) = true →
    ∃ t, exec (.latticeTick none) s = .next t ∧ t.lattice.last = some (s.datum.whole / s.period) ∧
      t.rd LAT_INDEX_INDEX = s.datum.whole / s.period % 2 ^ 32 ∧ t.datum = s.datum) ∧
  (∀ (s : State) (node : Fin 192) (msg : List Word) (late : Bool), s.coreOn = true → s.isRoot = true → node.val ∈ s.gop.missing →
    s.gop.missing.filter (· ≠ node.val) = [] →
    ∃ t, exec (.snapshotRecordRx node msg late) s = .next t ∧ t.gop.missing = [] ∧ t.gop.askAt = none ∧ t.rd LAT_GOP_BUSY = 0 ∧
      t.rd LAT_SNAP_TIME_US = min 1048575 ((s.now - s.gop.tickAt) / 1000) ∧ (t.pages.get 0x0C1).stat.getLsbD EV_LAT_SNAP_DONE = true) ∧
  (∀ (s : State) (n : Fin 16) (high : Bool), s.coreOn = true → bitOf s.pins.level n ≠ high → s.pulseShort n = false →
    (s.rd (EVP_CFG_FUNC n) = 0 → ∃ t, exec (.eventPinEdge n high) s = .next t ∧ bitOf t.pins.level n = high ∧
      t.pins.edgeAt.get n = some s.now ∧ t.pins.fifo = s.pins.fifo ∧ { t with pins := s.pins, evt := s.evt, out := s.out } = s) ∧
    (s.rd (EVP_CFG_FUNC n) = 1 → s.edgeWanted n high = true → 64 ≤ s.pins.fifo.length → s.keeper.cycle = none →
      ∃ t, exec (.eventPinEdge n high) s = .next t ∧ t.pins.fifo = s.pins.fifo ∧
        t.rd EVP_TS_LEVEL_OVF = satAdd 16 (s.rd EVP_TS_LEVEL_OVF) 1 ∧ s.raised t 0x0C2 [EV_EVP_TS_OVF])) ∧
  (∀ (s : State) (n : Fin 16) (high : Bool), s.coreOn = true → s.rd (EVP_CFG_FUNC n) = 6 → s.edgeWanted n high = true → s.source = 2 →
    ∃ t, exec (.ppsInputEdge ⟨n, high⟩) s = .next t ∧ t.datum.ppsAt = s.now ∧ t.datum.ppsLost = false ∧ t.datum.measuredAt = s.now) ∧
  (∀ (s : State) (p : Fin 18) (x : XFlit) (ws : List Word) (rest : List (List Word)) (d v : Nat) (ds : List Nat), s.running = true →
    (s.chord p).xIn = ws :: rest → x.hdr = ws.getD 0 0 → x.payload = ws.getD 1 0 → x.comp = 0 → s.engines = 0 → 0x100 ≤ x.tunnel →
    v = (s.group (groupOf x.tunnel)).verdict x.esn x.suspect →
    (s.pairPasses x.tunnel p d → opReserved x.opcode = false → v ≠ 0 → v ≠ 2 →
      ∃ t, exec (.expressFlitRx p none) s = .next t ∧ s.inQ0 t x.clean d ∧ (t.chord p).xIn = rest ∧
        (t.group (groupOf x.tunnel)).at_ = some s.now ∧ (v = 1 → (t.group (groupOf x.tunnel)).last = some x.esn) ∧
        t.express.made = s.express.made + 1) ∧
    ((s.tun x.tunnel).e.state = .opened → (s.tun x.tunnel).e.vc = 0 → s.route (s.tun x.tunnel).e p = some ds → s.express.upset = none →
      s.express.due = none → s.express.takeover = none → s.express.force = false →
      (opReserved x.opcode = true → ∃ t, exec (.expressFlitRx p none) s = .next t ∧ (t.chord p).xIn = rest ∧
        t.rd EXP_DROP_BAD_OP = satAdd 8 (s.rd EXP_DROP_BAD_OP) 1 ∧ s.raised t 0x0D8 [EV_EXP_DROP]) ∧
      (opReserved x.opcode = false → v = 0 → ∃ t, exec (.expressFlitRx p none) s = .next t ∧ (t.chord p).xIn = rest ∧
        t.rd EXP_DEDUP_DUP = satAdd 16 (s.rd EXP_DEDUP_DUP) 1 ∧ s.regsBut t [EXP_DEDUP_DUP, EXP_STAT_JOURNAL]) ∧
      (opReserved x.opcode = false → v = 2 → ∃ t, exec (.expressFlitRx p none) s = .next t ∧ (t.chord p).xIn = rest ∧
        t.rd EXP_DEDUP_STALE = satAdd 8 (s.rd EXP_DEDUP_STALE) 1 ∧ s.regsBut t [EXP_DEDUP_STALE, EXP_STAT_JOURNAL]))) ∧
  (∀ (s : State) (n : BitVec 12) (f : Frame) (x : Fin 2) (b : Nat) (v : Nat × Nat), s.running = true → b = 2 + (s.tun n.toNat).e.adapter % 128 →
    s.bportOpen b = true → b < 130 → s.bportValid b = true → s.bportTun b = n.toNat → f.etherType ≠ 0x88F7 → v = s.vlanOf b f →
    (s.maxFrame < frameLen f + 4 → ∃ t, exec (.frameTunnelRx n f) s = .next t ∧ t.rd FRM_DROP_FILTER = satAdd 16 (s.rd FRM_DROP_FILTER) 1 ∧
      s.regsBut t [FRM_DROP_FILTER] ∧ s.onlyRegs t) ∧
    (frameLen f + 4 ≤ s.maxFrame → s.member v.1 b = false → ∃ t, exec (.frameTunnelRx n f) s = .next t ∧ { t with evt := s.evt, out := s.out } = s) ∧
    (frameLen f + 4 ≤ s.maxFrame → 0 < v.1 → v.1 < 4095 → s.member v.1 b = true → s.filterOf v.1 f.da = none → s.redundant = false → f.da ≠ f.sa →
      x.val ∈ s.destsOf b v.1 f.da → s.stationTakes x v.2 (s.egressForm v.1 v.2 x f) →
      ∃ t, exec (.frameTunnelRx n f) s = .next t ∧
        t.bridge.queues.get (x * 8 + v.2 % 8) = s.bridge.queues.get (x * 8 + v.2 % 8) ++ [s.egressForm v.1 v.2 x f])) ∧
  (∀ (s : State) (r : WinReq), s.running = true → r ∈ s.win.reqs → r.write = false → r.spec = false → r.silent = false →
    (s.rdTimeout < r.ran → ∃ t, exec .hostReadTimeout s = .next t ∧ Emit.completion r.hostTag 0 (allOnes r.len) ∈ t.out ∧ r ∉ t.win.reqs) ∧
    (s.pathGrace r.tunnel < r.held → ∃ t, exec .hostReadHoldLimit s = .next t ∧ Emit.completion r.hostTag 0 (allOnes r.len) ∈ t.out ∧ r ∉ t.win.reqs)) ∧
  (∀ (u s : State) (k : UsbTok) (h : Nat) (v : VHub), u.running = true → s = u.usbSync → s.usbOn = true → s.rdB PER_USB_STAT_SUSPENDED = false →
    k.addr = 0 ∧ (s.vhub 0).addr = 0 ∧ h = 0 ∨ k.addr ≠ 0 ∧ s.usb.binds.lookup k.addr = some h ∧ h < 1024 → s.vreached h = true → v = s.vhub h →
    (k.pid = .setup → ∃ t, exec (.usbTokenRx k) u = .next t ∧ Emit.usb k.addr k.ep PID_ACK [] ∈ t.out ∧ (t.vhub h).setup = k.bytes ∧
      (t.vhub h).reply = (s.hubRequest h k.bytes).2) ∧
    (k.pid = .inn → k.ep = 0 → ∃ t, exec (.usbTokenRx k) u = .next t ∧
      (match v.reply with | some l => Emit.usb k.addr 0 (pidData true) l | none => Emit.usb k.addr 0 PID_STALL []) ∈ t.out ∧
      { t with evt := s.evt, out := s.out } = s) ∧
    (k.pid = .inn → k.ep = 1 → ∃ t, exec (.usbTokenRx k) u = .next t ∧
      (if v.config = 0 ∨ s.hubChanges h = [] then Emit.usb k.addr 1 PID_NAK [] else Emit.usb k.addr 1 (pidData false) (s.hubChanges h)) ∈ t.out ∧
      { t with evt := s.evt, out := s.out } = s) ∧
    (k.pid = .out ∨ k.pid = .ping → ∃ t, exec (.usbTokenRx k) u = .next t ∧
      Emit.usb k.addr k.ep (if v.reply.isSome then PID_ACK else PID_STALL) [] ∈ t.out ∧ { t with evt := s.evt, out := s.out } = s) ∧
    (k.pid = .ack → v.setup.getD 0 0 = 0 → v.setup.getD 1 0 = 5 → ∃ t, exec (.usbTokenRx k) u = .next t ∧
      (t.vhub h).addr = v.setup.getD 2 0 % 128 ∧ (t.vhub h).setup = [] ∧ ∀ b ∈ t.usb.binds, b.2 = h → b.1 = v.setup.getD 2 0 % 128)) ∧
  (∀ (u s : State) (k : UsbTok) (d : Fin 64) (port : Fin 4) (key g : Nat) (ds : List Nat) (e : UsbEp), u.running = true → s = u.usbSync →
    s.usbOn = true → s.rdB PER_USB_STAT_SUSPENDED = false → s.vreached (32 + d) = true → k.addr ≠ 0 → s.usb.binds.lookup k.addr = some (devTarget d port) →
    s.vstate (32 + d) port = 4 → k.kind = 0 ∨ k.kind = 2 →
    key = epKey (devTarget d port) k.ep k.kind (k.pid = .inn || (k.pid = .ack && k.kind ≠ 0)) → e = s.uep key →
    (k.pid = .ack → e.sent = true → e.setup = [] → ∃ t, exec (.usbTokenRx k) u = .next t ∧
      t.uep key = { e with sent := false, result := none, toggle := !e.toggle } ∧ { t with usb := s.usb, evt := s.evt, out := s.out } = s) ∧
    (k.pid ≠ .ack → (s.tun (asyncTun d)).e.state ≠ .opened → ∃ t, exec (.usbTokenRx k) u = .next t ∧
      Emit.usb k.addr k.ep PID_NAK [] ∈ t.out ∧ { t with evt := s.evt, out := s.out } = s) ∧
    (s.canSend 22 (asyncTun d) ds → (s.tun (periodicTun d)).e.state = .opened → k.split = none → e.stallNext = false → s.freeXfer d = some g →
      (e.tag ≠ none → k.pid = .inn ∨ k.pid = .out ∨ k.pid = .ping → ∃ t, exec (.usbTokenRx k) u = .next t ∧
        Emit.usb k.addr k.ep PID_NAK [] ∈ t.out ∧ { t with evt := s.evt, out := s.out } = s) ∧
      (e.tag = none → e.result = none → k.pid = .ping → ∃ t, exec (.usbTokenRx k) u = .next t ∧
        Emit.usb k.addr k.ep PID_NAK [] ∈ t.out ∧ { t with evt := s.evt, out := s.out } = s) ∧
      (e.tag = none → e.result = none → k.pid = .out → ∃ t, exec (.usbTokenRx k) u = .next t ∧ Emit.usb k.addr k.ep PID_NAK [] ∈ t.out ∧
        t.usb.xfers = s.usb.xfers ++ [{ dock := d, port := port, tag := g, ep := key, due := s.now + s.xferTo }] ∧
        t.uep key = { e with data := some k.bytes, tag := some g, isSetup := false, isIn := false, result := none } ∧
        s.sent t 22 (asyncTun d) ds (pack [(36, 4, 1), (34, 2, port), (30, 4, s.epoch d port), (22, 8, g),
          (0, 22, packNat [(15, 7, k.addr), (11, 4, k.ep), (10, 1, 0), (8, 2, k.kind), (7, 1, 0), (6, 1, 0)])] ::
          pack [(0, 11, k.bytes.length)] :: packBytes k.bytes)))) ∧
  (∀ (s : State) (d : Fin 64) (port : Fin 4) (msg : List Word) (w : Word) (old st : Nat), s.running = true → s.isRoot = true → w = msg.getD 0 0 →
    fld w 34 2 = port → s.usbDocks.contains d = true → fld w 36 4 = 4 → old = s.vstate (32 + d) port → st = min 6 (fld w 19 3) →
    ∃ t, exec (.portStatRx (BitVec.ofNat 12 (0xE00 + d)) msg) s = .next t ∧ t.vstate (32 + d) port = st ∧
      t.rd (PER_PORT_SPEED (d.val * 4 + port.val)) = fld w 17 2 ∧ (t.vport (32 + d) port).overCur = (fld w 16 1 = 1 : Bool) ∧
      (old = 1 ∧ st = 2 ∨ 2 ≤ old ∧ st = 1 → bitOf (t.vport (32 + d) port).change 0 = true) ∧
      (old = 4 → st = 2 → bitOf (t.vport (32 + d) port).change 1 = true) ∧ (old = 3 → st = 4 → bitOf (t.vport (32 + d) port).change 4 = true) ∧
      (fld w 16 1 = 1 → (s.vport (32 + d) port).overCur = false → bitOf (t.vport (32 + d) port).change 3 = true))


/-! ## Power and reset, further states -/

/-- R454, R471, R479, R514, R516–R518, R522, R529, R534, R544, R546, R548, R567, R571: commands of the power unit, of the Tangent, of the
reset and of the stored data in further states of what they keep.
The model's choices that its clauses rest on: assumption log 11, 45, 47, 51, 52, 53, 57. -/
def Obligations.PowerFormRows : Prop :=
  (∀ (s : State) (p : Fin 18), s.boot.dieOn = true → s.ps p = PS_UNATTACHED → s.rd (TAN_PORT_CTL_ROLE p) = 2 → s.feedPg = true →
    (∀ d ∈ (s.tan p).toggleAt, d ≤ s.now) →
    ∃ t, exec (.drpToggle p) s = .next t ∧ (t.tan p).ip = !(s.tan p).ip ∧
      (t.tan p).toggleAt.any (fun d => decide (s.now + 25000000 ≤ d) && decide (d ≤ s.now + 35000000)) = true ∧
      { t with pd := s.pd, free := s.free, evt := s.evt, out := s.out } = s) ∧
  (∀ (s : State) (p : Fin 18), s.boot.dieOn = true → s.ps p = PS_SRC → s.rd (TAN_PORT_STAT_AUX_ON p) = 1 → (s.tan p).faults < 3 →
    ∃ t, exec (.railFault p false) s = .next t ∧ t.ps p = PS_FAULT_WAIT ∧
      (t.tan p).faults = (if (s.tan p).railAt.any (fun r => decide (s.now < r + 1000000000)) = true then (s.tan p).faults + 1 else 0) ∧
      t.rd (TAN_FAULTS_AUX_TRIPS p) = satAdd 8 (s.rd (TAN_FAULTS_AUX_TRIPS p)) 1 ∧
      (t.pages.get (tanPage p)).stat.getLsbD EV_TAN_FAULT = true) ∧
  (∀ (s : State) (d : Nat), s.boot.dieOn = true → s.power.asked = 0 → s.power.timerAt = some d → d ≤ s.now →
    bitOf (s.rd PWR_WAKE_EN_EN) 6 = true →
    (s.power.asleep = 1 → (∀ p, p < 18 → s.ls p ≠ LS_DOZE) → ∃ t, exec .wakeTimer s = .next t ∧ t.power.asleep = 0 ∧ t.power.timerAt = none ∧
      t.power.wakeSrc.take 4 = [7, 0, 1, 0] ∧ t.rd PWR_STAT_STATE = 0 ∧ s.raised t pwrPage [EV_PWR_WAKE]) ∧
    (s.power.asleep = 2 → ∃ t, exec .wakeTimer s = .next t ∧ t.power.asleep = 0 ∧ t.power.timerAt = none ∧ t.coreOn = true ∧
      t.power.wakeSrc.take 4 = [7, 0, 2, 0] ∧ Emit.coreRails true ∈ t.out ∧ (t.pages.get pwrPage).stat.getLsbD EV_PWR_WAKE = true)) ∧
  (∀ (s : State) (c : Fin 10) (d p : Fin 18), s.boot.dieOn = true → s.sourceOn (c.val, d.val) = true → s.power.asked = 0 → s.power.asleep = 1 →
    s.ls p = LS_DOZE → (s.lane p).viaRetrain = false → ∃ t, exec (.wakeSource [(c, d)]) s = .next t ∧ t.power.asleep = 0 ∧
      t.power.wakeSrc.take 4 = [c.val, d.val, 1, 0] ∧ (t.lane p).waking = true ∧ t.rd PWR_STAT_STATE = 0 ∧
      t.rd PWR_COUNT_WAKES = satAdd 16 (s.rd PWR_COUNT_WAKES) 1 ∧ (t.pages.get pwrPage).stat.getLsbD EV_PWR_WAKE = true) ∧
  (∀ (s : State) (l k : Fin 4) (pll : Bool) (d : Nat), s.coreOn = true → s.power.change = some (l.val, pll, d) → d ≤ s.now →
    s.power.wanted = some (k.val, true) →
    (k = l → pll = true → ∃ t, exec .perfLevelSwitch s = .next t ∧ t.rd PWR_STAT_LEVEL = l ∧ t.rd PWR_STAT_CLK_SRC = 1 ∧
      t.power = { s.power with change := none, wanted := none, pllHeld := false } ∧ s.raised t pwrPage [EV_PWR_LEVEL_CHANGE]) ∧
    (k < l → s.rd PWR_STAT_PLL_LOCK = 1 → ∃ t, exec .perfLevelSwitch s = .next t ∧ t.rd PWR_STAT_LEVEL = l ∧
      t.power = { s.power with change := some (k.val, true, s.now + 40000), wanted := none, pllHeld := false } ∧ Emit.coreVoltage k ∈ t.out ∧
      s.raised t pwrPage [EV_PWR_LEVEL_CHANGE])) ∧
  (∀ (s : State) (l : Fin 4), s.coreOn = true → s.power.asleep = 0 → s.power.perf = some (l.val, false, true) →
    s.rd PWR_STAT_CLK_SRC = 0 → s.rd PWR_STAT_LEVEL = 3 → s.power.change = none →
    ∃ t, exec .pllLock s = .next t ∧ t.rd PWR_STAT_PLL_LOCK = 1 ∧ t.rd PWR_PERF_LEVEL = l ∧ t.rd PWR_PERF_SRC = 0 ∧ t.rd PWR_PERF_AUTO = 1 ∧
      t.power.perf = none ∧ t.rd PWR_STAT_CLK_SRC = 0) ∧
  (∀ s : State, s.coreOn = true → s.rdB PWR_STAT_PLL_LOCK = true → s.rdB PWR_STAT_CLK_SRC = false →
    ∃ t, exec .pllLoss s = .next t ∧ t.rd PWR_STAT_PLL_LOCK = 0 ∧ t.power = s.power ∧ s.raised t pwrPage [EV_PWR_PLL_LOSS] ∧
      s.regsBut t [PWR_STAT_PLL_LOCK, EVT_LOG_STAT_OVF]) ∧
  (∀ (s : State) (v : Reg), s.coreOn = true → s.rdB CFG_STAT_BUSY = true → s.stored.target = some true → s.stored.committing = none →
    s.rd CFG_WADDR_ADDR < 16368 → ∃ t, exec (.cfgWdata v) s = .next t ∧ t.stored.copy1.body.get (s.rd CFG_WADDR_ADDR) = v.toNat ∧
      t.rd CFG_WADDR_ADDR = s.rd CFG_WADDR_ADDR + 1 ∧ t.stored.copy0 = s.stored.copy0 ∧
      (∀ i, i ≠ s.rd CFG_WADDR_ADDR → t.stored.copy1.body.get i = s.stored.copy1.body.get i) ∧ s.regsBut t [CFG_WADDR_ADDR]) ∧
  (∀ (s : State) (code : Nat), s.boot.dieOn = true → s.boot.rails = true → s.boot.started = false → s.testStrap = false →
    (∀ d ∈ s.boot.released, d + 64000000 ≤ s.now) → s.boot.seen.min? = some code → 1 ≤ code → code ≤ 10 → s.stored.pick = none →
    ∃ t, exec .fullResetRelease s = .next t ∧ t.coreOn = true ∧ t.boot.started = true ∧ t.boot.released = some s.now ∧
      t.boot.rcnt = (s.boot.rcnt + 1) % 16 ∧ t.rd RST_CAUSE_PRIMARY = code ∧ t.rd CFG_STAT_VALID = 0) ∧
  (∀ (s : State) (v : Reg), s.coreOn = true → s.locked rstPage = true → bitsOf v.toNat 0 16 ≠ 0 →
    (bitOf v.toNat 31 = true → s.rd RST_WDOG_HOST_PERIOD ≠ 0 → ∃ t, exec (.watchdogFeed v) s = .next t ∧ t.regs = s.regs ∧
      t.boot = { s.boot with hostBy := some (s.now + s.rd RST_WDOG_HOST_PERIOD * 1000000) } ∧
      { t with boot := s.boot, evt := s.evt, out := s.out } = s) ∧
    (bitOf v.toNat 31 = false → ∃ t, exec (.watchdogFeed v) s = .next t ∧ t.regs = s.regs)) ∧
  (∀ (s : State) (c : Int), s.boot.dieOn = true → s.log.minuteAt ≤ s.now →
    (s.coreOn = true → s.power.asleep = 1 → s.rd PWR_STAT_LEVEL < 4 → ∃ t, exec (.logMinute c) s = .next t ∧
      t.log.minuteAt = s.log.minuteAt + 60000000000 ∧ t.log.work.get 6 = satAdd 32 (s.log.work.get 6) 1 ∧
      t.log.work.get 1 = satAdd 32 (s.log.work.get 1) 1 ∧ t.log.work.get (0x010 + tempBin c) = satAdd 32 (s.log.work.get (0x010 + tempBin c)) 1) ∧
    (s.coreOn = false → s.power.asleep = 3 → ∃ t, exec (.logMinute c) s = .next t ∧ t.log.kept.get 8 = satAdd 32 (s.log.kept.get 8) 1 ∧
      t.log.kept.get 0 = satAdd 32 (s.log.kept.get 0) 1 ∧ t.log.work = s.log.work ∧ t.regs = s.regs))
end

