-- ==== Sys2Proof/Laws/Map.lean ====
section
/-!
SUPPORT. Laws of the maps with a default: reading what was written, leaving the rest alone, keeping the canonical form.
-/
namespace Sys2Proof.Machine

variable {α : Type} {d : α}

theorem look_del_same (k : Nat) (l : List (Nat × α)) : Map.look d k (Map.del k l) = d := by
  induction l with
  | nil => rfl
  | cons e l ih =>
    by_cases h : e.1 = k
    · simpa [Map.del, h] using ih
    · simpa [Map.del, List.filter_cons, h, Map.look] using ih

theorem look_del_other {j k : Nat} (l : List (Nat × α)) (h : j ≠ k) : Map.look d j (Map.del k l) = Map.look d j l := by
  induction l with
  | nil => rfl
  | cons e l ih =>
    by_cases e1 : e.1 = k
    · have : e.1 ≠ j := fun x => h (x.symm.trans e1)
      simpa [Map.del, List.filter_cons, e1, Map.look, this, Ne.symm h] using ih
    · simp only [Map.del, List.filter_cons, bne_iff_ne, ne_eq, e1, not_false_eq_true, if_true, Map.look] at ih ⊢
      rw [ih]

theorem look_ins_same (k : Nat) (a : α) (l : List (Nat × α)) : Map.look d k (Map.ins k a l) = a := by
  induction l with
  | nil => simp [Map.ins, Map.look]
  | cons e l ih =>
    unfold Map.ins
    split_ifs with h1 h2
    · simp [Map.look]
    · simp [Map.look]
    · simp [Map.look, Ne.symm h2, ih]

theorem look_ins_other {j k : Nat} (a : α) (l : List (Nat × α)) (h : j ≠ k) : Map.look d j (Map.ins k a l) = Map.look d j l := by
  induction l with
  | nil => simp [Map.ins, Map.look, Ne.symm h]
  | cons e l ih =>
    unfold Map.ins
    split_ifs with h1 h2
    · simp [Map.look, Ne.symm h]
    · subst h2; simp [Map.look, Ne.symm h]
    · simp [Map.look, ih]

@[simp] theorem Map.get_empty (k : Nat) : (Map.empty : Map d).get k = d := rfl

/-- Keys strictly rising, as a chain. -/
theorem rising_iff (l : List (Nat × α)) : Map.rising l = true ↔ l.Pairwise (fun a b => a.1 < b.1) := by
  induction l with
  | nil => simp [Map.rising]
  | cons e l ih =>
    cases l with
    | nil => simp [Map.rising]
    | cons e' l =>
      simp only [Map.rising, Bool.and_eq_true, decide_eq_true_eq, ih]
      constructor
      · rintro ⟨h, hp⟩
        refine List.pairwise_cons.2 ⟨fun x hx => ?_, hp⟩
        rcases List.mem_cons.1 hx with rfl | hx
        · exact h
        · exact h.trans ((List.pairwise_cons.1 hp).1 x hx)
      · intro h
        exact ⟨(List.pairwise_cons.1 h).1 e' (by simp), (List.pairwise_cons.1 h).2⟩

theorem mem_ins {k : Nat} {a : α} {l : List (Nat × α)} {x : Nat × α} (h : x ∈ Map.ins k a l) : x = (k, a) ∨ x ∈ l := by
  induction l with
  | nil => simpa [Map.ins] using h
  | cons e l ih =>
    unfold Map.ins at h
    split_ifs at h with h1 h2
    · simpa using h
    · rcases List.mem_cons.1 h with h | h
      · exact .inl h
      · exact .inr (List.mem_cons_of_mem _ h)
    · rcases List.mem_cons.1 h with h | h
      · exact .inr (h ▸ List.mem_cons_self)
      · exact (ih h).imp_right (List.mem_cons_of_mem _)

theorem rising_ins (k : Nat) (a : α) (l : List (Nat × α)) (h : l.Pairwise (fun a b => a.1 < b.1)) :
    (Map.ins k a l).Pairwise (fun a b => a.1 < b.1) := by
  induction l with
  | nil => simp [Map.ins]
  | cons e l ih =>
    have hc := List.pairwise_cons.1 h
    unfold Map.ins
    split_ifs with h1 h2
    · refine List.pairwise_cons.2 ⟨fun x hx => ?_, h⟩
      rcases List.mem_cons.1 hx with rfl | hx
      · exact h1
      · exact h1.trans (hc.1 x hx)
    · subst h2; exact List.pairwise_cons.2 ⟨hc.1, hc.2⟩
    · refine List.pairwise_cons.2 ⟨fun x hx => ?_, ih hc.2⟩
      rcases mem_ins hx with rfl | hx
      · show e.1 < k; omega
      · exact hc.1 x hx

/-- Reading after dropping entries. -/
theorem Map.get_keep (m : Map d) (p : Nat → Bool) (k : Nat) : (m.keep p).get k = if p k then m.get k else d := by
  unfold Map.keep Map.get
  induction m.entries with
  | nil => simp [Map.look]
  | cons e l ih =>
    by_cases h : e.1 = k
    · subst h
      by_cases hp : p e.1 <;> simp [hp, Map.look] at ih ⊢
      exact ih
    · by_cases hp : p e.1 <;> simp [hp, Map.look, h] at ih ⊢ <;> exact ih

variable [DecidableEq α]

/-- Reading the key just written gives the value written. -/
@[simp] theorem Map.get_set_same (m : Map d) (k : Nat) (a : α) : (m.set k a).get k = a := by
  unfold Map.set Map.get
  split_ifs with h
  · rw [h]; exact look_del_same k _
  · exact look_ins_same k a _

/-- Writing a key leaves every other key alone. -/
theorem Map.get_set_other (m : Map d) {j k : Nat} (a : α) (h : j ≠ k) : (m.set k a).get j = m.get j := by
  unfold Map.set Map.get
  split_ifs
  · exact look_del_other _ h
  · exact look_ins_other a _ h

/-- Both laws in one. -/
theorem Map.get_set (m : Map d) (j k : Nat) (a : α) : (m.set k a).get j = if j = k then a else m.get j := by
  split_ifs with h
  · rw [h]; exact m.get_set_same k a
  · exact m.get_set_other a h

@[simp] theorem Map.get_upd_same (m : Map d) (k : Nat) (f : α → α) : (m.upd k f).get k = f (m.get k) := m.get_set_same k _

theorem Map.get_upd_other (m : Map d) {j k : Nat} (f : α → α) (h : j ≠ k) : (m.upd k f).get j = m.get j := m.get_set_other _ h

/-- A write keeps the canonical form. -/
theorem Map.wf_set (m : Map d) (k : Nat) (a : α) (h : m.wf = true) : (m.set k a).wf = true := by
  simp only [Map.wf, Bool.and_eq_true, rising_iff, List.all_eq_true, decide_eq_true_eq] at h ⊢
  unfold Map.set
  split_ifs with e
  · exact ⟨h.1.filter _, fun x hx => h.2 x (List.mem_of_mem_filter hx)⟩
  · refine ⟨rising_ins k a _ h.1, fun x hx => ?_⟩
    rcases mem_ins hx with rfl | hx
    · exact e
    · exact h.2 x hx

/-- Dropping entries keeps the canonical form. -/
theorem Map.wf_keep (m : Map d) (p : Nat → Bool) (h : m.wf = true) : (m.keep p).wf = true := by
  simp only [Map.wf, Bool.and_eq_true, rising_iff, List.all_eq_true, decide_eq_true_eq] at h ⊢
  exact ⟨h.1.filter _, fun x hx => h.2 x (List.mem_of_mem_filter hx)⟩

end Sys2Proof.Machine
end

