-- ==== Sys2Proof/Laws/State.lean ====
section
/-!
SUPPORT. What each shared operation leaves alone: one law for each field of the state.
-/
namespace Sys2Proof.Machine

/-- What every single change keeps, a sequence of changes keeps. -/
theorem each_keeps {α β : Type} (l : List α) (f : α → State → State) (g : State → β) (h : ∀ a s, g (f a s) = g s) (s : State) :
    g (s.each l f) = g s := by
  unfold State.each
  induction l generalizing s with
  | nil => rfl
  | cons a l ih => simp only [List.foldl_cons]; rw [ih, h]

/-- What the evaluation of one vector keeps, the event unit's evaluation keeps. -/
theorem settle_keeps {β : Type} (g : State → β) (h : ∀ n s, g (State.settleVec n s) = g s) (s : State) : g s.settle = g s := by
  unfold State.settle
  split_ifs
  · exact each_keeps _ _ g h s
  · rfl

@[simp] theorem State.when_true (f : State → State) (s : State) : s.when true f = f s := rfl
@[simp] theorem State.when_false (f : State → State) (s : State) : s.when false f = s := rfl
@[simp] theorem State.each_nil {α : Type} (f : α → State → State) (s : State) : s.each [] f = s := rfl
@[simp] theorem State.each_cons {α : Type} (a : α) (l : List α) (f : α → State → State) (s : State) :
    s.each (a :: l) f = (f a s).each l f := rfl

/-! `wr` -/

@[simp] theorem State.wr_now (s : State) (f : Field) (v : Nat) : (s.wr f v).now = s.now := rfl
@[simp] theorem State.wr_pending (s : State) (f : Field) (v : Nat) : (s.wr f v).pending = s.pending := rfl
@[simp] theorem State.wr_out (s : State) (f : Field) (v : Nat) : (s.wr f v).out = s.out := rfl
@[simp] theorem State.wr_taken (s : State) (f : Field) (v : Nat) : (s.wr f v).taken = s.taken := rfl
@[simp] theorem State.wr_free (s : State) (f : Field) (v : Nat) : (s.wr f v).free = s.free := rfl
@[simp] theorem State.wr_nonces (s : State) (f : Field) (v : Nat) : (s.wr f v).nonces = s.nonces := rfl
@[simp] theorem State.wr_coreOn (s : State) (f : Field) (v : Nat) : (s.wr f v).coreOn = s.coreOn := rfl
@[simp] theorem State.wr_hiLatch (s : State) (f : Field) (v : Nat) : (s.wr f v).hiLatch = s.hiLatch := rfl
@[simp] theorem State.wr_hiHold (s : State) (f : Field) (v : Nat) : (s.wr f v).hiHold = s.hiHold := rfl
@[simp] theorem State.wr_locks (s : State) (f : Field) (v : Nat) : (s.wr f v).locks = s.locks := rfl
@[simp] theorem State.wr_records (s : State) (f : Field) (v : Nat) : (s.wr f v).records = s.records := rfl
@[simp] theorem State.wr_pages (s : State) (f : Field) (v : Nat) : (s.wr f v).pages = s.pages := rfl
@[simp] theorem State.wr_evt (s : State) (f : Field) (v : Nat) : (s.wr f v).evt = s.evt := rfl
@[simp] theorem State.wr_lanes (s : State) (f : Field) (v : Nat) : (s.wr f v).lanes = s.lanes := rfl
@[simp] theorem State.wr_chords (s : State) (f : Field) (v : Nat) : (s.wr f v).chords = s.chords := rfl
@[simp] theorem State.wr_tuns (s : State) (f : Field) (v : Nat) : (s.wr f v).tuns = s.tuns := rfl
@[simp] theorem State.wr_ids (s : State) (f : Field) (v : Nat) : (s.wr f v).ids = s.ids := rfl
@[simp] theorem State.wr_hull (s : State) (f : Field) (v : Nat) : (s.wr f v).hull = s.hull := rfl
@[simp] theorem State.wr_compass (s : State) (f : Field) (v : Nat) : (s.wr f v).compass = s.compass := rfl
@[simp] theorem State.wr_keys (s : State) (f : Field) (v : Nat) : (s.wr f v).keys = s.keys := rfl
@[simp] theorem State.wr_probes (s : State) (f : Field) (v : Nat) : (s.wr f v).probes = s.probes := rfl
@[simp] theorem State.wr_datum (s : State) (f : Field) (v : Nat) : (s.wr f v).datum = s.datum := rfl
@[simp] theorem State.wr_lattice (s : State) (f : Field) (v : Nat) : (s.wr f v).lattice = s.lattice := rfl
@[simp] theorem State.wr_keeper (s : State) (f : Field) (v : Nat) : (s.wr f v).keeper = s.keeper := rfl
@[simp] theorem State.wr_pins (s : State) (f : Field) (v : Nat) : (s.wr f v).pins = s.pins := rfl
@[simp] theorem State.wr_gop (s : State) (f : Field) (v : Nat) : (s.wr f v).gop = s.gop := rfl
@[simp] theorem State.wr_samples (s : State) (f : Field) (v : Nat) : (s.wr f v).samples = s.samples := rfl
@[simp] theorem State.wr_bridge (s : State) (f : Field) (v : Nat) : (s.wr f v).bridge = s.bridge := rfl
@[simp] theorem State.wr_express (s : State) (f : Field) (v : Nat) : (s.wr f v).express = s.express := rfl
@[simp] theorem State.wr_win (s : State) (f : Field) (v : Nat) : (s.wr f v).win = s.win := rfl
@[simp] theorem State.wr_usb (s : State) (f : Field) (v : Nat) : (s.wr f v).usb = s.usb := rfl
@[simp] theorem State.wr_dsp (s : State) (f : Field) (v : Nat) : (s.wr f v).dsp = s.dsp := rfl
@[simp] theorem State.wr_pd (s : State) (f : Field) (v : Nat) : (s.wr f v).pd = s.pd := rfl
@[simp] theorem State.wr_power (s : State) (f : Field) (v : Nat) : (s.wr f v).power = s.power := rfl
@[simp] theorem State.wr_boot (s : State) (f : Field) (v : Nat) : (s.wr f v).boot = s.boot := rfl
@[simp] theorem State.wr_stored (s : State) (f : Field) (v : Nat) : (s.wr f v).stored = s.stored := rfl
@[simp] theorem State.wr_log (s : State) (f : Field) (v : Nat) : (s.wr f v).log = s.log := rfl
@[simp] theorem State.wr_diag (s : State) (f : Field) (v : Nat) : (s.wr f v).diag = s.diag := rfl

/-! `wrB` -/

@[simp] theorem State.wrB_now (s : State) (f : Field) (b : Bool) : (s.wrB f b).now = s.now := rfl
@[simp] theorem State.wrB_pending (s : State) (f : Field) (b : Bool) : (s.wrB f b).pending = s.pending := rfl
@[simp] theorem State.wrB_out (s : State) (f : Field) (b : Bool) : (s.wrB f b).out = s.out := rfl
@[simp] theorem State.wrB_taken (s : State) (f : Field) (b : Bool) : (s.wrB f b).taken = s.taken := rfl
@[simp] theorem State.wrB_free (s : State) (f : Field) (b : Bool) : (s.wrB f b).free = s.free := rfl
@[simp] theorem State.wrB_nonces (s : State) (f : Field) (b : Bool) : (s.wrB f b).nonces = s.nonces := rfl
@[simp] theorem State.wrB_coreOn (s : State) (f : Field) (b : Bool) : (s.wrB f b).coreOn = s.coreOn := rfl
@[simp] theorem State.wrB_hiLatch (s : State) (f : Field) (b : Bool) : (s.wrB f b).hiLatch = s.hiLatch := rfl
@[simp] theorem State.wrB_hiHold (s : State) (f : Field) (b : Bool) : (s.wrB f b).hiHold = s.hiHold := rfl
@[simp] theorem State.wrB_locks (s : State) (f : Field) (b : Bool) : (s.wrB f b).locks = s.locks := rfl
@[simp] theorem State.wrB_records (s : State) (f : Field) (b : Bool) : (s.wrB f b).records = s.records := rfl
@[simp] theorem State.wrB_pages (s : State) (f : Field) (b : Bool) : (s.wrB f b).pages = s.pages := rfl
@[simp] theorem State.wrB_evt (s : State) (f : Field) (b : Bool) : (s.wrB f b).evt = s.evt := rfl
@[simp] theorem State.wrB_lanes (s : State) (f : Field) (b : Bool) : (s.wrB f b).lanes = s.lanes := rfl
@[simp] theorem State.wrB_chords (s : State) (f : Field) (b : Bool) : (s.wrB f b).chords = s.chords := rfl
@[simp] theorem State.wrB_tuns (s : State) (f : Field) (b : Bool) : (s.wrB f b).tuns = s.tuns := rfl
@[simp] theorem State.wrB_ids (s : State) (f : Field) (b : Bool) : (s.wrB f b).ids = s.ids := rfl
@[simp] theorem State.wrB_hull (s : State) (f : Field) (b : Bool) : (s.wrB f b).hull = s.hull := rfl
@[simp] theorem State.wrB_compass (s : State) (f : Field) (b : Bool) : (s.wrB f b).compass = s.compass := rfl
@[simp] theorem State.wrB_keys (s : State) (f : Field) (b : Bool) : (s.wrB f b).keys = s.keys := rfl
@[simp] theorem State.wrB_probes (s : State) (f : Field) (b : Bool) : (s.wrB f b).probes = s.probes := rfl
@[simp] theorem State.wrB_datum (s : State) (f : Field) (b : Bool) : (s.wrB f b).datum = s.datum := rfl
@[simp] theorem State.wrB_lattice (s : State) (f : Field) (b : Bool) : (s.wrB f b).lattice = s.lattice := rfl
@[simp] theorem State.wrB_keeper (s : State) (f : Field) (b : Bool) : (s.wrB f b).keeper = s.keeper := rfl
@[simp] theorem State.wrB_pins (s : State) (f : Field) (b : Bool) : (s.wrB f b).pins = s.pins := rfl
@[simp] theorem State.wrB_gop (s : State) (f : Field) (b : Bool) : (s.wrB f b).gop = s.gop := rfl
@[simp] theorem State.wrB_samples (s : State) (f : Field) (b : Bool) : (s.wrB f b).samples = s.samples := rfl
@[simp] theorem State.wrB_bridge (s : State) (f : Field) (b : Bool) : (s.wrB f b).bridge = s.bridge := rfl
@[simp] theorem State.wrB_express (s : State) (f : Field) (b : Bool) : (s.wrB f b).express = s.express := rfl
@[simp] theorem State.wrB_win (s : State) (f : Field) (b : Bool) : (s.wrB f b).win = s.win := rfl
@[simp] theorem State.wrB_usb (s : State) (f : Field) (b : Bool) : (s.wrB f b).usb = s.usb := rfl
@[simp] theorem State.wrB_dsp (s : State) (f : Field) (b : Bool) : (s.wrB f b).dsp = s.dsp := rfl
@[simp] theorem State.wrB_pd (s : State) (f : Field) (b : Bool) : (s.wrB f b).pd = s.pd := rfl
@[simp] theorem State.wrB_power (s : State) (f : Field) (b : Bool) : (s.wrB f b).power = s.power := rfl
@[simp] theorem State.wrB_boot (s : State) (f : Field) (b : Bool) : (s.wrB f b).boot = s.boot := rfl
@[simp] theorem State.wrB_stored (s : State) (f : Field) (b : Bool) : (s.wrB f b).stored = s.stored := rfl
@[simp] theorem State.wrB_log (s : State) (f : Field) (b : Bool) : (s.wrB f b).log = s.log := rfl
@[simp] theorem State.wrB_diag (s : State) (f : Field) (b : Bool) : (s.wrB f b).diag = s.diag := rfl

/-! `bumpBy` -/

@[simp] theorem State.bumpBy_now (s : State) (f : Field) (n : Nat) : (s.bumpBy f n).now = s.now := rfl
@[simp] theorem State.bumpBy_pending (s : State) (f : Field) (n : Nat) : (s.bumpBy f n).pending = s.pending := rfl
@[simp] theorem State.bumpBy_out (s : State) (f : Field) (n : Nat) : (s.bumpBy f n).out = s.out := rfl
@[simp] theorem State.bumpBy_taken (s : State) (f : Field) (n : Nat) : (s.bumpBy f n).taken = s.taken := rfl
@[simp] theorem State.bumpBy_free (s : State) (f : Field) (n : Nat) : (s.bumpBy f n).free = s.free := rfl
@[simp] theorem State.bumpBy_nonces (s : State) (f : Field) (n : Nat) : (s.bumpBy f n).nonces = s.nonces := rfl
@[simp] theorem State.bumpBy_coreOn (s : State) (f : Field) (n : Nat) : (s.bumpBy f n).coreOn = s.coreOn := rfl
@[simp] theorem State.bumpBy_hiLatch (s : State) (f : Field) (n : Nat) : (s.bumpBy f n).hiLatch = s.hiLatch := rfl
@[simp] theorem State.bumpBy_hiHold (s : State) (f : Field) (n : Nat) : (s.bumpBy f n).hiHold = s.hiHold := rfl
@[simp] theorem State.bumpBy_locks (s : State) (f : Field) (n : Nat) : (s.bumpBy f n).locks = s.locks := rfl
@[simp] theorem State.bumpBy_records (s : State) (f : Field) (n : Nat) : (s.bumpBy f n).records = s.records := rfl
@[simp] theorem State.bumpBy_pages (s : State) (f : Field) (n : Nat) : (s.bumpBy f n).pages = s.pages := rfl
@[simp] theorem State.bumpBy_evt (s : State) (f : Field) (n : Nat) : (s.bumpBy f n).evt = s.evt := rfl
@[simp] theorem State.bumpBy_lanes (s : State) (f : Field) (n : Nat) : (s.bumpBy f n).lanes = s.lanes := rfl
@[simp] theorem State.bumpBy_chords (s : State) (f : Field) (n : Nat) : (s.bumpBy f n).chords = s.chords := rfl
@[simp] theorem State.bumpBy_tuns (s : State) (f : Field) (n : Nat) : (s.bumpBy f n).tuns = s.tuns := rfl
@[simp] theorem State.bumpBy_ids (s : State) (f : Field) (n : Nat) : (s.bumpBy f n).ids = s.ids := rfl
@[simp] theorem State.bumpBy_hull (s : State) (f : Field) (n : Nat) : (s.bumpBy f n).hull = s.hull := rfl
@[simp] theorem State.bumpBy_compass (s : State) (f : Field) (n : Nat) : (s.bumpBy f n).compass = s.compass := rfl
@[simp] theorem State.bumpBy_keys (s : State) (f : Field) (n : Nat) : (s.bumpBy f n).keys = s.keys := rfl
@[simp] theorem State.bumpBy_probes (s : State) (f : Field) (n : Nat) : (s.bumpBy f n).probes = s.probes := rfl
@[simp] theorem State.bumpBy_datum (s : State) (f : Field) (n : Nat) : (s.bumpBy f n).datum = s.datum := rfl
@[simp] theorem State.bumpBy_lattice (s : State) (f : Field) (n : Nat) : (s.bumpBy f n).lattice = s.lattice := rfl
@[simp] theorem State.bumpBy_keeper (s : State) (f : Field) (n : Nat) : (s.bumpBy f n).keeper = s.keeper := rfl
@[simp] theorem State.bumpBy_pins (s : State) (f : Field) (n : Nat) : (s.bumpBy f n).pins = s.pins := rfl
@[simp] theorem State.bumpBy_gop (s : State) (f : Field) (n : Nat) : (s.bumpBy f n).gop = s.gop := rfl
@[simp] theorem State.bumpBy_samples (s : State) (f : Field) (n : Nat) : (s.bumpBy f n).samples = s.samples := rfl
@[simp] theorem State.bumpBy_bridge (s : State) (f : Field) (n : Nat) : (s.bumpBy f n).bridge = s.bridge := rfl
@[simp] theorem State.bumpBy_express (s : State) (f : Field) (n : Nat) : (s.bumpBy f n).express = s.express := rfl
@[simp] theorem State.bumpBy_win (s : State) (f : Field) (n : Nat) : (s.bumpBy f n).win = s.win := rfl
@[simp] theorem State.bumpBy_usb (s : State) (f : Field) (n : Nat) : (s.bumpBy f n).usb = s.usb := rfl
@[simp] theorem State.bumpBy_dsp (s : State) (f : Field) (n : Nat) : (s.bumpBy f n).dsp = s.dsp := rfl
@[simp] theorem State.bumpBy_pd (s : State) (f : Field) (n : Nat) : (s.bumpBy f n).pd = s.pd := rfl
@[simp] theorem State.bumpBy_power (s : State) (f : Field) (n : Nat) : (s.bumpBy f n).power = s.power := rfl
@[simp] theorem State.bumpBy_boot (s : State) (f : Field) (n : Nat) : (s.bumpBy f n).boot = s.boot := rfl
@[simp] theorem State.bumpBy_stored (s : State) (f : Field) (n : Nat) : (s.bumpBy f n).stored = s.stored := rfl
@[simp] theorem State.bumpBy_log (s : State) (f : Field) (n : Nat) : (s.bumpBy f n).log = s.log := rfl
@[simp] theorem State.bumpBy_diag (s : State) (f : Field) (n : Nat) : (s.bumpBy f n).diag = s.diag := rfl

/-! `bump` -/

@[simp] theorem State.bump_now (s : State) (f : Field) : (s.bump f).now = s.now := rfl
@[simp] theorem State.bump_pending (s : State) (f : Field) : (s.bump f).pending = s.pending := rfl
@[simp] theorem State.bump_out (s : State) (f : Field) : (s.bump f).out = s.out := rfl
@[simp] theorem State.bump_taken (s : State) (f : Field) : (s.bump f).taken = s.taken := rfl
@[simp] theorem State.bump_free (s : State) (f : Field) : (s.bump f).free = s.free := rfl
@[simp] theorem State.bump_nonces (s : State) (f : Field) : (s.bump f).nonces = s.nonces := rfl
@[simp] theorem State.bump_coreOn (s : State) (f : Field) : (s.bump f).coreOn = s.coreOn := rfl
@[simp] theorem State.bump_hiLatch (s : State) (f : Field) : (s.bump f).hiLatch = s.hiLatch := rfl
@[simp] theorem State.bump_hiHold (s : State) (f : Field) : (s.bump f).hiHold = s.hiHold := rfl
@[simp] theorem State.bump_locks (s : State) (f : Field) : (s.bump f).locks = s.locks := rfl
@[simp] theorem State.bump_records (s : State) (f : Field) : (s.bump f).records = s.records := rfl
@[simp] theorem State.bump_pages (s : State) (f : Field) : (s.bump f).pages = s.pages := rfl
@[simp] theorem State.bump_evt (s : State) (f : Field) : (s.bump f).evt = s.evt := rfl
@[simp] theorem State.bump_lanes (s : State) (f : Field) : (s.bump f).lanes = s.lanes := rfl
@[simp] theorem State.bump_chords (s : State) (f : Field) : (s.bump f).chords = s.chords := rfl
@[simp] theorem State.bump_tuns (s : State) (f : Field) : (s.bump f).tuns = s.tuns := rfl
@[simp] theorem State.bump_ids (s : State) (f : Field) : (s.bump f).ids = s.ids := rfl
@[simp] theorem State.bump_hull (s : State) (f : Field) : (s.bump f).hull = s.hull := rfl
@[simp] theorem State.bump_compass (s : State) (f : Field) : (s.bump f).compass = s.compass := rfl
@[simp] theorem State.bump_keys (s : State) (f : Field) : (s.bump f).keys = s.keys := rfl
@[simp] theorem State.bump_probes (s : State) (f : Field) : (s.bump f).probes = s.probes := rfl
@[simp] theorem State.bump_datum (s : State) (f : Field) : (s.bump f).datum = s.datum := rfl
@[simp] theorem State.bump_lattice (s : State) (f : Field) : (s.bump f).lattice = s.lattice := rfl
@[simp] theorem State.bump_keeper (s : State) (f : Field) : (s.bump f).keeper = s.keeper := rfl
@[simp] theorem State.bump_pins (s : State) (f : Field) : (s.bump f).pins = s.pins := rfl
@[simp] theorem State.bump_gop (s : State) (f : Field) : (s.bump f).gop = s.gop := rfl
@[simp] theorem State.bump_samples (s : State) (f : Field) : (s.bump f).samples = s.samples := rfl
@[simp] theorem State.bump_bridge (s : State) (f : Field) : (s.bump f).bridge = s.bridge := rfl
@[simp] theorem State.bump_express (s : State) (f : Field) : (s.bump f).express = s.express := rfl
@[simp] theorem State.bump_win (s : State) (f : Field) : (s.bump f).win = s.win := rfl
@[simp] theorem State.bump_usb (s : State) (f : Field) : (s.bump f).usb = s.usb := rfl
@[simp] theorem State.bump_dsp (s : State) (f : Field) : (s.bump f).dsp = s.dsp := rfl
@[simp] theorem State.bump_pd (s : State) (f : Field) : (s.bump f).pd = s.pd := rfl
@[simp] theorem State.bump_power (s : State) (f : Field) : (s.bump f).power = s.power := rfl
@[simp] theorem State.bump_boot (s : State) (f : Field) : (s.bump f).boot = s.boot := rfl
@[simp] theorem State.bump_stored (s : State) (f : Field) : (s.bump f).stored = s.stored := rfl
@[simp] theorem State.bump_log (s : State) (f : Field) : (s.bump f).log = s.log := rfl
@[simp] theorem State.bump_diag (s : State) (f : Field) : (s.bump f).diag = s.diag := rfl

/-! `wrapInc` -/

@[simp] theorem State.wrapInc_now (s : State) (f : Field) : (s.wrapInc f).now = s.now := rfl
@[simp] theorem State.wrapInc_pending (s : State) (f : Field) : (s.wrapInc f).pending = s.pending := rfl
@[simp] theorem State.wrapInc_out (s : State) (f : Field) : (s.wrapInc f).out = s.out := rfl
@[simp] theorem State.wrapInc_taken (s : State) (f : Field) : (s.wrapInc f).taken = s.taken := rfl
@[simp] theorem State.wrapInc_free (s : State) (f : Field) : (s.wrapInc f).free = s.free := rfl
@[simp] theorem State.wrapInc_nonces (s : State) (f : Field) : (s.wrapInc f).nonces = s.nonces := rfl
@[simp] theorem State.wrapInc_coreOn (s : State) (f : Field) : (s.wrapInc f).coreOn = s.coreOn := rfl
@[simp] theorem State.wrapInc_hiLatch (s : State) (f : Field) : (s.wrapInc f).hiLatch = s.hiLatch := rfl
@[simp] theorem State.wrapInc_hiHold (s : State) (f : Field) : (s.wrapInc f).hiHold = s.hiHold := rfl
@[simp] theorem State.wrapInc_locks (s : State) (f : Field) : (s.wrapInc f).locks = s.locks := rfl
@[simp] theorem State.wrapInc_records (s : State) (f : Field) : (s.wrapInc f).records = s.records := rfl
@[simp] theorem State.wrapInc_pages (s : State) (f : Field) : (s.wrapInc f).pages = s.pages := rfl
@[simp] theorem State.wrapInc_evt (s : State) (f : Field) : (s.wrapInc f).evt = s.evt := rfl
@[simp] theorem State.wrapInc_lanes (s : State) (f : Field) : (s.wrapInc f).lanes = s.lanes := rfl
@[simp] theorem State.wrapInc_chords (s : State) (f : Field) : (s.wrapInc f).chords = s.chords := rfl
@[simp] theorem State.wrapInc_tuns (s : State) (f : Field) : (s.wrapInc f).tuns = s.tuns := rfl
@[simp] theorem State.wrapInc_ids (s : State) (f : Field) : (s.wrapInc f).ids = s.ids := rfl
@[simp] theorem State.wrapInc_hull (s : State) (f : Field) : (s.wrapInc f).hull = s.hull := rfl
@[simp] theorem State.wrapInc_compass (s : State) (f : Field) : (s.wrapInc f).compass = s.compass := rfl
@[simp] theorem State.wrapInc_keys (s : State) (f : Field) : (s.wrapInc f).keys = s.keys := rfl
@[simp] theorem State.wrapInc_probes (s : State) (f : Field) : (s.wrapInc f).probes = s.probes := rfl
@[simp] theorem State.wrapInc_datum (s : State) (f : Field) : (s.wrapInc f).datum = s.datum := rfl
@[simp] theorem State.wrapInc_lattice (s : State) (f : Field) : (s.wrapInc f).lattice = s.lattice := rfl
@[simp] theorem State.wrapInc_keeper (s : State) (f : Field) : (s.wrapInc f).keeper = s.keeper := rfl
@[simp] theorem State.wrapInc_pins (s : State) (f : Field) : (s.wrapInc f).pins = s.pins := rfl
@[simp] theorem State.wrapInc_gop (s : State) (f : Field) : (s.wrapInc f).gop = s.gop := rfl
@[simp] theorem State.wrapInc_samples (s : State) (f : Field) : (s.wrapInc f).samples = s.samples := rfl
@[simp] theorem State.wrapInc_bridge (s : State) (f : Field) : (s.wrapInc f).bridge = s.bridge := rfl
@[simp] theorem State.wrapInc_express (s : State) (f : Field) : (s.wrapInc f).express = s.express := rfl
@[simp] theorem State.wrapInc_win (s : State) (f : Field) : (s.wrapInc f).win = s.win := rfl
@[simp] theorem State.wrapInc_usb (s : State) (f : Field) : (s.wrapInc f).usb = s.usb := rfl
@[simp] theorem State.wrapInc_dsp (s : State) (f : Field) : (s.wrapInc f).dsp = s.dsp := rfl
@[simp] theorem State.wrapInc_pd (s : State) (f : Field) : (s.wrapInc f).pd = s.pd := rfl
@[simp] theorem State.wrapInc_power (s : State) (f : Field) : (s.wrapInc f).power = s.power := rfl
@[simp] theorem State.wrapInc_boot (s : State) (f : Field) : (s.wrapInc f).boot = s.boot := rfl
@[simp] theorem State.wrapInc_stored (s : State) (f : Field) : (s.wrapInc f).stored = s.stored := rfl
@[simp] theorem State.wrapInc_log (s : State) (f : Field) : (s.wrapInc f).log = s.log := rfl
@[simp] theorem State.wrapInc_diag (s : State) (f : Field) : (s.wrapInc f).diag = s.diag := rfl

/-! `setRec` -/

@[simp] theorem State.setRec_now (s : State) (a b c d e v : Nat) : (s.setRec a b c d e v).now = s.now := rfl
@[simp] theorem State.setRec_pending (s : State) (a b c d e v : Nat) : (s.setRec a b c d e v).pending = s.pending := rfl
@[simp] theorem State.setRec_out (s : State) (a b c d e v : Nat) : (s.setRec a b c d e v).out = s.out := rfl
@[simp] theorem State.setRec_taken (s : State) (a b c d e v : Nat) : (s.setRec a b c d e v).taken = s.taken := rfl
@[simp] theorem State.setRec_free (s : State) (a b c d e v : Nat) : (s.setRec a b c d e v).free = s.free := rfl
@[simp] theorem State.setRec_nonces (s : State) (a b c d e v : Nat) : (s.setRec a b c d e v).nonces = s.nonces := rfl
@[simp] theorem State.setRec_coreOn (s : State) (a b c d e v : Nat) : (s.setRec a b c d e v).coreOn = s.coreOn := rfl
@[simp] theorem State.setRec_regs (s : State) (a b c d e v : Nat) : (s.setRec a b c d e v).regs = s.regs := rfl
@[simp] theorem State.setRec_hiLatch (s : State) (a b c d e v : Nat) : (s.setRec a b c d e v).hiLatch = s.hiLatch := rfl
@[simp] theorem State.setRec_hiHold (s : State) (a b c d e v : Nat) : (s.setRec a b c d e v).hiHold = s.hiHold := rfl
@[simp] theorem State.setRec_locks (s : State) (a b c d e v : Nat) : (s.setRec a b c d e v).locks = s.locks := rfl
@[simp] theorem State.setRec_pages (s : State) (a b c d e v : Nat) : (s.setRec a b c d e v).pages = s.pages := rfl
@[simp] theorem State.setRec_evt (s : State) (a b c d e v : Nat) : (s.setRec a b c d e v).evt = s.evt := rfl
@[simp] theorem State.setRec_lanes (s : State) (a b c d e v : Nat) : (s.setRec a b c d e v).lanes = s.lanes := rfl
@[simp] theorem State.setRec_chords (s : State) (a b c d e v : Nat) : (s.setRec a b c d e v).chords = s.chords := rfl
@[simp] theorem State.setRec_tuns (s : State) (a b c d e v : Nat) : (s.setRec a b c d e v).tuns = s.tuns := rfl
@[simp] theorem State.setRec_ids (s : State) (a b c d e v : Nat) : (s.setRec a b c d e v).ids = s.ids := rfl
@[simp] theorem State.setRec_hull (s : State) (a b c d e v : Nat) : (s.setRec a b c d e v).hull = s.hull := rfl
@[simp] theorem State.setRec_compass (s : State) (a b c d e v : Nat) : (s.setRec a b c d e v).compass = s.compass := rfl
@[simp] theorem State.setRec_keys (s : State) (a b c d e v : Nat) : (s.setRec a b c d e v).keys = s.keys := rfl
@[simp] theorem State.setRec_probes (s : State) (a b c d e v : Nat) : (s.setRec a b c d e v).probes = s.probes := rfl
@[simp] theorem State.setRec_datum (s : State) (a b c d e v : Nat) : (s.setRec a b c d e v).datum = s.datum := rfl
@[simp] theorem State.setRec_lattice (s : State) (a b c d e v : Nat) : (s.setRec a b c d e v).lattice = s.lattice := rfl
@[simp] theorem State.setRec_keeper (s : State) (a b c d e v : Nat) : (s.setRec a b c d e v).keeper = s.keeper := rfl
@[simp] theorem State.setRec_pins (s : State) (a b c d e v : Nat) : (s.setRec a b c d e v).pins = s.pins := rfl
@[simp] theorem State.setRec_gop (s : State) (a b c d e v : Nat) : (s.setRec a b c d e v).gop = s.gop := rfl
@[simp] theorem State.setRec_samples (s : State) (a b c d e v : Nat) : (s.setRec a b c d e v).samples = s.samples := rfl
@[simp] theorem State.setRec_bridge (s : State) (a b c d e v : Nat) : (s.setRec a b c d e v).bridge = s.bridge := rfl
@[simp] theorem State.setRec_express (s : State) (a b c d e v : Nat) : (s.setRec a b c d e v).express = s.express := rfl
@[simp] theorem State.setRec_win (s : State) (a b c d e v : Nat) : (s.setRec a b c d e v).win = s.win := rfl
@[simp] theorem State.setRec_usb (s : State) (a b c d e v : Nat) : (s.setRec a b c d e v).usb = s.usb := rfl
@[simp] theorem State.setRec_dsp (s : State) (a b c d e v : Nat) : (s.setRec a b c d e v).dsp = s.dsp := rfl
@[simp] theorem State.setRec_pd (s : State) (a b c d e v : Nat) : (s.setRec a b c d e v).pd = s.pd := rfl
@[simp] theorem State.setRec_power (s : State) (a b c d e v : Nat) : (s.setRec a b c d e v).power = s.power := rfl
@[simp] theorem State.setRec_boot (s : State) (a b c d e v : Nat) : (s.setRec a b c d e v).boot = s.boot := rfl
@[simp] theorem State.setRec_stored (s : State) (a b c d e v : Nat) : (s.setRec a b c d e v).stored = s.stored := rfl
@[simp] theorem State.setRec_log (s : State) (a b c d e v : Nat) : (s.setRec a b c d e v).log = s.log := rfl
@[simp] theorem State.setRec_diag (s : State) (a b c d e v : Nat) : (s.setRec a b c d e v).diag = s.diag := rfl

/-! `emit` -/

@[simp] theorem State.emit_now (s : State) (e : Emit) : (s.emit e).now = s.now := rfl
@[simp] theorem State.emit_pending (s : State) (e : Emit) : (s.emit e).pending = s.pending := rfl
@[simp] theorem State.emit_taken (s : State) (e : Emit) : (s.emit e).taken = s.taken := rfl
@[simp] theorem State.emit_free (s : State) (e : Emit) : (s.emit e).free = s.free := rfl
@[simp] theorem State.emit_nonces (s : State) (e : Emit) : (s.emit e).nonces = s.nonces := rfl
@[simp] theorem State.emit_coreOn (s : State) (e : Emit) : (s.emit e).coreOn = s.coreOn := rfl
@[simp] theorem State.emit_regs (s : State) (e : Emit) : (s.emit e).regs = s.regs := rfl
@[simp] theorem State.emit_hiLatch (s : State) (e : Emit) : (s.emit e).hiLatch = s.hiLatch := rfl
@[simp] theorem State.emit_hiHold (s : State) (e : Emit) : (s.emit e).hiHold = s.hiHold := rfl
@[simp] theorem State.emit_locks (s : State) (e : Emit) : (s.emit e).locks = s.locks := rfl
@[simp] theorem State.emit_records (s : State) (e : Emit) : (s.emit e).records = s.records := rfl
@[simp] theorem State.emit_pages (s : State) (e : Emit) : (s.emit e).pages = s.pages := rfl
@[simp] theorem State.emit_evt (s : State) (e : Emit) : (s.emit e).evt = s.evt := rfl
@[simp] theorem State.emit_lanes (s : State) (e : Emit) : (s.emit e).lanes = s.lanes := rfl
@[simp] theorem State.emit_chords (s : State) (e : Emit) : (s.emit e).chords = s.chords := rfl
@[simp] theorem State.emit_tuns (s : State) (e : Emit) : (s.emit e).tuns = s.tuns := rfl
@[simp] theorem State.emit_ids (s : State) (e : Emit) : (s.emit e).ids = s.ids := rfl
@[simp] theorem State.emit_hull (s : State) (e : Emit) : (s.emit e).hull = s.hull := rfl
@[simp] theorem State.emit_compass (s : State) (e : Emit) : (s.emit e).compass = s.compass := rfl
@[simp] theorem State.emit_keys (s : State) (e : Emit) : (s.emit e).keys = s.keys := rfl
@[simp] theorem State.emit_probes (s : State) (e : Emit) : (s.emit e).probes = s.probes := rfl
@[simp] theorem State.emit_datum (s : State) (e : Emit) : (s.emit e).datum = s.datum := rfl
@[simp] theorem State.emit_lattice (s : State) (e : Emit) : (s.emit e).lattice = s.lattice := rfl
@[simp] theorem State.emit_keeper (s : State) (e : Emit) : (s.emit e).keeper = s.keeper := rfl
@[simp] theorem State.emit_pins (s : State) (e : Emit) : (s.emit e).pins = s.pins := rfl
@[simp] theorem State.emit_gop (s : State) (e : Emit) : (s.emit e).gop = s.gop := rfl
@[simp] theorem State.emit_samples (s : State) (e : Emit) : (s.emit e).samples = s.samples := rfl
@[simp] theorem State.emit_bridge (s : State) (e : Emit) : (s.emit e).bridge = s.bridge := rfl
@[simp] theorem State.emit_express (s : State) (e : Emit) : (s.emit e).express = s.express := rfl
@[simp] theorem State.emit_win (s : State) (e : Emit) : (s.emit e).win = s.win := rfl
@[simp] theorem State.emit_usb (s : State) (e : Emit) : (s.emit e).usb = s.usb := rfl
@[simp] theorem State.emit_dsp (s : State) (e : Emit) : (s.emit e).dsp = s.dsp := rfl
@[simp] theorem State.emit_pd (s : State) (e : Emit) : (s.emit e).pd = s.pd := rfl
@[simp] theorem State.emit_power (s : State) (e : Emit) : (s.emit e).power = s.power := rfl
@[simp] theorem State.emit_boot (s : State) (e : Emit) : (s.emit e).boot = s.boot := rfl
@[simp] theorem State.emit_stored (s : State) (e : Emit) : (s.emit e).stored = s.stored := rfl
@[simp] theorem State.emit_log (s : State) (e : Emit) : (s.emit e).log = s.log := rfl
@[simp] theorem State.emit_diag (s : State) (e : Emit) : (s.emit e).diag = s.diag := rfl

/-! `drawn` -/

@[simp] theorem State.drawn_now (s : State) : (s.drawn).now = s.now := rfl
@[simp] theorem State.drawn_pending (s : State) : (s.drawn).pending = s.pending := rfl
@[simp] theorem State.drawn_out (s : State) : (s.drawn).out = s.out := rfl
@[simp] theorem State.drawn_taken (s : State) : (s.drawn).taken = s.taken := rfl
@[simp] theorem State.drawn_nonces (s : State) : (s.drawn).nonces = s.nonces := rfl
@[simp] theorem State.drawn_coreOn (s : State) : (s.drawn).coreOn = s.coreOn := rfl
@[simp] theorem State.drawn_regs (s : State) : (s.drawn).regs = s.regs := rfl
@[simp] theorem State.drawn_hiLatch (s : State) : (s.drawn).hiLatch = s.hiLatch := rfl
@[simp] theorem State.drawn_hiHold (s : State) : (s.drawn).hiHold = s.hiHold := rfl
@[simp] theorem State.drawn_locks (s : State) : (s.drawn).locks = s.locks := rfl
@[simp] theorem State.drawn_records (s : State) : (s.drawn).records = s.records := rfl
@[simp] theorem State.drawn_pages (s : State) : (s.drawn).pages = s.pages := rfl
@[simp] theorem State.drawn_evt (s : State) : (s.drawn).evt = s.evt := rfl
@[simp] theorem State.drawn_lanes (s : State) : (s.drawn).lanes = s.lanes := rfl
@[simp] theorem State.drawn_chords (s : State) : (s.drawn).chords = s.chords := rfl
@[simp] theorem State.drawn_tuns (s : State) : (s.drawn).tuns = s.tuns := rfl
@[simp] theorem State.drawn_ids (s : State) : (s.drawn).ids = s.ids := rfl
@[simp] theorem State.drawn_hull (s : State) : (s.drawn).hull = s.hull := rfl
@[simp] theorem State.drawn_compass (s : State) : (s.drawn).compass = s.compass := rfl
@[simp] theorem State.drawn_keys (s : State) : (s.drawn).keys = s.keys := rfl
@[simp] theorem State.drawn_probes (s : State) : (s.drawn).probes = s.probes := rfl
@[simp] theorem State.drawn_datum (s : State) : (s.drawn).datum = s.datum := rfl
@[simp] theorem State.drawn_lattice (s : State) : (s.drawn).lattice = s.lattice := rfl
@[simp] theorem State.drawn_keeper (s : State) : (s.drawn).keeper = s.keeper := rfl
@[simp] theorem State.drawn_pins (s : State) : (s.drawn).pins = s.pins := rfl
@[simp] theorem State.drawn_gop (s : State) : (s.drawn).gop = s.gop := rfl
@[simp] theorem State.drawn_samples (s : State) : (s.drawn).samples = s.samples := rfl
@[simp] theorem State.drawn_bridge (s : State) : (s.drawn).bridge = s.bridge := rfl
@[simp] theorem State.drawn_express (s : State) : (s.drawn).express = s.express := rfl
@[simp] theorem State.drawn_win (s : State) : (s.drawn).win = s.win := rfl
@[simp] theorem State.drawn_usb (s : State) : (s.drawn).usb = s.usb := rfl
@[simp] theorem State.drawn_dsp (s : State) : (s.drawn).dsp = s.dsp := rfl
@[simp] theorem State.drawn_pd (s : State) : (s.drawn).pd = s.pd := rfl
@[simp] theorem State.drawn_power (s : State) : (s.drawn).power = s.power := rfl
@[simp] theorem State.drawn_boot (s : State) : (s.drawn).boot = s.boot := rfl
@[simp] theorem State.drawn_stored (s : State) : (s.drawn).stored = s.stored := rfl
@[simp] theorem State.drawn_log (s : State) : (s.drawn).log = s.log := rfl
@[simp] theorem State.drawn_diag (s : State) : (s.drawn).diag = s.diag := rfl

/-! `onLane` -/

@[simp] theorem State.onLane_now (s : State) (p : Nat) (f : Lane → Lane) : (s.onLane p f).now = s.now := rfl
@[simp] theorem State.onLane_pending (s : State) (p : Nat) (f : Lane → Lane) : (s.onLane p f).pending = s.pending := rfl
@[simp] theorem State.onLane_out (s : State) (p : Nat) (f : Lane → Lane) : (s.onLane p f).out = s.out := rfl
@[simp] theorem State.onLane_taken (s : State) (p : Nat) (f : Lane → Lane) : (s.onLane p f).taken = s.taken := rfl
@[simp] theorem State.onLane_free (s : State) (p : Nat) (f : Lane → Lane) : (s.onLane p f).free = s.free := rfl
@[simp] theorem State.onLane_nonces (s : State) (p : Nat) (f : Lane → Lane) : (s.onLane p f).nonces = s.nonces := rfl
@[simp] theorem State.onLane_coreOn (s : State) (p : Nat) (f : Lane → Lane) : (s.onLane p f).coreOn = s.coreOn := rfl
@[simp] theorem State.onLane_regs (s : State) (p : Nat) (f : Lane → Lane) : (s.onLane p f).regs = s.regs := rfl
@[simp] theorem State.onLane_hiLatch (s : State) (p : Nat) (f : Lane → Lane) : (s.onLane p f).hiLatch = s.hiLatch := rfl
@[simp] theorem State.onLane_hiHold (s : State) (p : Nat) (f : Lane → Lane) : (s.onLane p f).hiHold = s.hiHold := rfl
@[simp] theorem State.onLane_locks (s : State) (p : Nat) (f : Lane → Lane) : (s.onLane p f).locks = s.locks := rfl
@[simp] theorem State.onLane_records (s : State) (p : Nat) (f : Lane → Lane) : (s.onLane p f).records = s.records := rfl
@[simp] theorem State.onLane_pages (s : State) (p : Nat) (f : Lane → Lane) : (s.onLane p f).pages = s.pages := rfl
@[simp] theorem State.onLane_evt (s : State) (p : Nat) (f : Lane → Lane) : (s.onLane p f).evt = s.evt := rfl
@[simp] theorem State.onLane_chords (s : State) (p : Nat) (f : Lane → Lane) : (s.onLane p f).chords = s.chords := rfl
@[simp] theorem State.onLane_tuns (s : State) (p : Nat) (f : Lane → Lane) : (s.onLane p f).tuns = s.tuns := rfl
@[simp] theorem State.onLane_ids (s : State) (p : Nat) (f : Lane → Lane) : (s.onLane p f).ids = s.ids := rfl
@[simp] theorem State.onLane_hull (s : State) (p : Nat) (f : Lane → Lane) : (s.onLane p f).hull = s.hull := rfl
@[simp] theorem State.onLane_compass (s : State) (p : Nat) (f : Lane → Lane) : (s.onLane p f).compass = s.compass := rfl
@[simp] theorem State.onLane_keys (s : State) (p : Nat) (f : Lane → Lane) : (s.onLane p f).keys = s.keys := rfl
@[simp] theorem State.onLane_probes (s : State) (p : Nat) (f : Lane → Lane) : (s.onLane p f).probes = s.probes := rfl
@[simp] theorem State.onLane_datum (s : State) (p : Nat) (f : Lane → Lane) : (s.onLane p f).datum = s.datum := rfl
@[simp] theorem State.onLane_lattice (s : State) (p : Nat) (f : Lane → Lane) : (s.onLane p f).lattice = s.lattice := rfl
@[simp] theorem State.onLane_keeper (s : State) (p : Nat) (f : Lane → Lane) : (s.onLane p f).keeper = s.keeper := rfl
@[simp] theorem State.onLane_pins (s : State) (p : Nat) (f : Lane → Lane) : (s.onLane p f).pins = s.pins := rfl
@[simp] theorem State.onLane_gop (s : State) (p : Nat) (f : Lane → Lane) : (s.onLane p f).gop = s.gop := rfl
@[simp] theorem State.onLane_samples (s : State) (p : Nat) (f : Lane → Lane) : (s.onLane p f).samples = s.samples := rfl
@[simp] theorem State.onLane_bridge (s : State) (p : Nat) (f : Lane → Lane) : (s.onLane p f).bridge = s.bridge := rfl
@[simp] theorem State.onLane_express (s : State) (p : Nat) (f : Lane → Lane) : (s.onLane p f).express = s.express := rfl
@[simp] theorem State.onLane_win (s : State) (p : Nat) (f : Lane → Lane) : (s.onLane p f).win = s.win := rfl
@[simp] theorem State.onLane_usb (s : State) (p : Nat) (f : Lane → Lane) : (s.onLane p f).usb = s.usb := rfl
@[simp] theorem State.onLane_dsp (s : State) (p : Nat) (f : Lane → Lane) : (s.onLane p f).dsp = s.dsp := rfl
@[simp] theorem State.onLane_pd (s : State) (p : Nat) (f : Lane → Lane) : (s.onLane p f).pd = s.pd := rfl
@[simp] theorem State.onLane_power (s : State) (p : Nat) (f : Lane → Lane) : (s.onLane p f).power = s.power := rfl
@[simp] theorem State.onLane_boot (s : State) (p : Nat) (f : Lane → Lane) : (s.onLane p f).boot = s.boot := rfl
@[simp] theorem State.onLane_stored (s : State) (p : Nat) (f : Lane → Lane) : (s.onLane p f).stored = s.stored := rfl
@[simp] theorem State.onLane_log (s : State) (p : Nat) (f : Lane → Lane) : (s.onLane p f).log = s.log := rfl
@[simp] theorem State.onLane_diag (s : State) (p : Nat) (f : Lane → Lane) : (s.onLane p f).diag = s.diag := rfl

/-! `onChord` -/

@[simp] theorem State.onChord_now (s : State) (p : Nat) (f : Chord → Chord) : (s.onChord p f).now = s.now := rfl
@[simp] theorem State.onChord_pending (s : State) (p : Nat) (f : Chord → Chord) : (s.onChord p f).pending = s.pending := rfl
@[simp] theorem State.onChord_out (s : State) (p : Nat) (f : Chord → Chord) : (s.onChord p f).out = s.out := rfl
@[simp] theorem State.onChord_taken (s : State) (p : Nat) (f : Chord → Chord) : (s.onChord p f).taken = s.taken := rfl
@[simp] theorem State.onChord_free (s : State) (p : Nat) (f : Chord → Chord) : (s.onChord p f).free = s.free := rfl
@[simp] theorem State.onChord_nonces (s : State) (p : Nat) (f : Chord → Chord) : (s.onChord p f).nonces = s.nonces := rfl
@[simp] theorem State.onChord_coreOn (s : State) (p : Nat) (f : Chord → Chord) : (s.onChord p f).coreOn = s.coreOn := rfl
@[simp] theorem State.onChord_regs (s : State) (p : Nat) (f : Chord → Chord) : (s.onChord p f).regs = s.regs := rfl
@[simp] theorem State.onChord_hiLatch (s : State) (p : Nat) (f : Chord → Chord) : (s.onChord p f).hiLatch = s.hiLatch := rfl
@[simp] theorem State.onChord_hiHold (s : State) (p : Nat) (f : Chord → Chord) : (s.onChord p f).hiHold = s.hiHold := rfl
@[simp] theorem State.onChord_locks (s : State) (p : Nat) (f : Chord → Chord) : (s.onChord p f).locks = s.locks := rfl
@[simp] theorem State.onChord_records (s : State) (p : Nat) (f : Chord → Chord) : (s.onChord p f).records = s.records := rfl
@[simp] theorem State.onChord_pages (s : State) (p : Nat) (f : Chord → Chord) : (s.onChord p f).pages = s.pages := rfl
@[simp] theorem State.onChord_evt (s : State) (p : Nat) (f : Chord → Chord) : (s.onChord p f).evt = s.evt := rfl
@[simp] theorem State.onChord_lanes (s : State) (p : Nat) (f : Chord → Chord) : (s.onChord p f).lanes = s.lanes := rfl
@[simp] theorem State.onChord_tuns (s : State) (p : Nat) (f : Chord → Chord) : (s.onChord p f).tuns = s.tuns := rfl
@[simp] theorem State.onChord_ids (s : State) (p : Nat) (f : Chord → Chord) : (s.onChord p f).ids = s.ids := rfl
@[simp] theorem State.onChord_hull (s : State) (p : Nat) (f : Chord → Chord) : (s.onChord p f).hull = s.hull := rfl
@[simp] theorem State.onChord_compass (s : State) (p : Nat) (f : Chord → Chord) : (s.onChord p f).compass = s.compass := rfl
@[simp] theorem State.onChord_keys (s : State) (p : Nat) (f : Chord → Chord) : (s.onChord p f).keys = s.keys := rfl
@[simp] theorem State.onChord_probes (s : State) (p : Nat) (f : Chord → Chord) : (s.onChord p f).probes = s.probes := rfl
@[simp] theorem State.onChord_datum (s : State) (p : Nat) (f : Chord → Chord) : (s.onChord p f).datum = s.datum := rfl
@[simp] theorem State.onChord_lattice (s : State) (p : Nat) (f : Chord → Chord) : (s.onChord p f).lattice = s.lattice := rfl
@[simp] theorem State.onChord_keeper (s : State) (p : Nat) (f : Chord → Chord) : (s.onChord p f).keeper = s.keeper := rfl
@[simp] theorem State.onChord_pins (s : State) (p : Nat) (f : Chord → Chord) : (s.onChord p f).pins = s.pins := rfl
@[simp] theorem State.onChord_gop (s : State) (p : Nat) (f : Chord → Chord) : (s.onChord p f).gop = s.gop := rfl
@[simp] theorem State.onChord_samples (s : State) (p : Nat) (f : Chord → Chord) : (s.onChord p f).samples = s.samples := rfl
@[simp] theorem State.onChord_bridge (s : State) (p : Nat) (f : Chord → Chord) : (s.onChord p f).bridge = s.bridge := rfl
@[simp] theorem State.onChord_express (s : State) (p : Nat) (f : Chord → Chord) : (s.onChord p f).express = s.express := rfl
@[simp] theorem State.onChord_win (s : State) (p : Nat) (f : Chord → Chord) : (s.onChord p f).win = s.win := rfl
@[simp] theorem State.onChord_usb (s : State) (p : Nat) (f : Chord → Chord) : (s.onChord p f).usb = s.usb := rfl
@[simp] theorem State.onChord_dsp (s : State) (p : Nat) (f : Chord → Chord) : (s.onChord p f).dsp = s.dsp := rfl
@[simp] theorem State.onChord_pd (s : State) (p : Nat) (f : Chord → Chord) : (s.onChord p f).pd = s.pd := rfl
@[simp] theorem State.onChord_power (s : State) (p : Nat) (f : Chord → Chord) : (s.onChord p f).power = s.power := rfl
@[simp] theorem State.onChord_boot (s : State) (p : Nat) (f : Chord → Chord) : (s.onChord p f).boot = s.boot := rfl
@[simp] theorem State.onChord_stored (s : State) (p : Nat) (f : Chord → Chord) : (s.onChord p f).stored = s.stored := rfl
@[simp] theorem State.onChord_log (s : State) (p : Nat) (f : Chord → Chord) : (s.onChord p f).log = s.log := rfl
@[simp] theorem State.onChord_diag (s : State) (p : Nat) (f : Chord → Chord) : (s.onChord p f).diag = s.diag := rfl

/-! `onTun` -/

@[simp] theorem State.onTun_now (s : State) (t : Nat) (f : Tun → Tun) : (s.onTun t f).now = s.now := rfl
@[simp] theorem State.onTun_pending (s : State) (t : Nat) (f : Tun → Tun) : (s.onTun t f).pending = s.pending := rfl
@[simp] theorem State.onTun_out (s : State) (t : Nat) (f : Tun → Tun) : (s.onTun t f).out = s.out := rfl
@[simp] theorem State.onTun_taken (s : State) (t : Nat) (f : Tun → Tun) : (s.onTun t f).taken = s.taken := rfl
@[simp] theorem State.onTun_free (s : State) (t : Nat) (f : Tun → Tun) : (s.onTun t f).free = s.free := rfl
@[simp] theorem State.onTun_nonces (s : State) (t : Nat) (f : Tun → Tun) : (s.onTun t f).nonces = s.nonces := rfl
@[simp] theorem State.onTun_coreOn (s : State) (t : Nat) (f : Tun → Tun) : (s.onTun t f).coreOn = s.coreOn := rfl
@[simp] theorem State.onTun_regs (s : State) (t : Nat) (f : Tun → Tun) : (s.onTun t f).regs = s.regs := rfl
@[simp] theorem State.onTun_hiLatch (s : State) (t : Nat) (f : Tun → Tun) : (s.onTun t f).hiLatch = s.hiLatch := rfl
@[simp] theorem State.onTun_hiHold (s : State) (t : Nat) (f : Tun → Tun) : (s.onTun t f).hiHold = s.hiHold := rfl
@[simp] theorem State.onTun_locks (s : State) (t : Nat) (f : Tun → Tun) : (s.onTun t f).locks = s.locks := rfl
@[simp] theorem State.onTun_records (s : State) (t : Nat) (f : Tun → Tun) : (s.onTun t f).records = s.records := rfl
@[simp] theorem State.onTun_pages (s : State) (t : Nat) (f : Tun → Tun) : (s.onTun t f).pages = s.pages := rfl
@[simp] theorem State.onTun_evt (s : State) (t : Nat) (f : Tun → Tun) : (s.onTun t f).evt = s.evt := rfl
@[simp] theorem State.onTun_lanes (s : State) (t : Nat) (f : Tun → Tun) : (s.onTun t f).lanes = s.lanes := rfl
@[simp] theorem State.onTun_chords (s : State) (t : Nat) (f : Tun → Tun) : (s.onTun t f).chords = s.chords := rfl
@[simp] theorem State.onTun_ids (s : State) (t : Nat) (f : Tun → Tun) : (s.onTun t f).ids = s.ids := rfl
@[simp] theorem State.onTun_hull (s : State) (t : Nat) (f : Tun → Tun) : (s.onTun t f).hull = s.hull := rfl
@[simp] theorem State.onTun_compass (s : State) (t : Nat) (f : Tun → Tun) : (s.onTun t f).compass = s.compass := rfl
@[simp] theorem State.onTun_keys (s : State) (t : Nat) (f : Tun → Tun) : (s.onTun t f).keys = s.keys := rfl
@[simp] theorem State.onTun_probes (s : State) (t : Nat) (f : Tun → Tun) : (s.onTun t f).probes = s.probes := rfl
@[simp] theorem State.onTun_datum (s : State) (t : Nat) (f : Tun → Tun) : (s.onTun t f).datum = s.datum := rfl
@[simp] theorem State.onTun_lattice (s : State) (t : Nat) (f : Tun → Tun) : (s.onTun t f).lattice = s.lattice := rfl
@[simp] theorem State.onTun_keeper (s : State) (t : Nat) (f : Tun → Tun) : (s.onTun t f).keeper = s.keeper := rfl
@[simp] theorem State.onTun_pins (s : State) (t : Nat) (f : Tun → Tun) : (s.onTun t f).pins = s.pins := rfl
@[simp] theorem State.onTun_gop (s : State) (t : Nat) (f : Tun → Tun) : (s.onTun t f).gop = s.gop := rfl
@[simp] theorem State.onTun_samples (s : State) (t : Nat) (f : Tun → Tun) : (s.onTun t f).samples = s.samples := rfl
@[simp] theorem State.onTun_bridge (s : State) (t : Nat) (f : Tun → Tun) : (s.onTun t f).bridge = s.bridge := rfl
@[simp] theorem State.onTun_express (s : State) (t : Nat) (f : Tun → Tun) : (s.onTun t f).express = s.express := rfl
@[simp] theorem State.onTun_win (s : State) (t : Nat) (f : Tun → Tun) : (s.onTun t f).win = s.win := rfl
@[simp] theorem State.onTun_usb (s : State) (t : Nat) (f : Tun → Tun) : (s.onTun t f).usb = s.usb := rfl
@[simp] theorem State.onTun_dsp (s : State) (t : Nat) (f : Tun → Tun) : (s.onTun t f).dsp = s.dsp := rfl
@[simp] theorem State.onTun_pd (s : State) (t : Nat) (f : Tun → Tun) : (s.onTun t f).pd = s.pd := rfl
@[simp] theorem State.onTun_power (s : State) (t : Nat) (f : Tun → Tun) : (s.onTun t f).power = s.power := rfl
@[simp] theorem State.onTun_boot (s : State) (t : Nat) (f : Tun → Tun) : (s.onTun t f).boot = s.boot := rfl
@[simp] theorem State.onTun_stored (s : State) (t : Nat) (f : Tun → Tun) : (s.onTun t f).stored = s.stored := rfl
@[simp] theorem State.onTun_log (s : State) (t : Nat) (f : Tun → Tun) : (s.onTun t f).log = s.log := rfl
@[simp] theorem State.onTun_diag (s : State) (t : Nat) (f : Tun → Tun) : (s.onTun t f).diag = s.diag := rfl

/-! `onEntry` -/

@[simp] theorem State.onEntry_now (s : State) (t : Nat) (f : Entry → Entry) : (s.onEntry t f).now = s.now := rfl
@[simp] theorem State.onEntry_pending (s : State) (t : Nat) (f : Entry → Entry) : (s.onEntry t f).pending = s.pending := rfl
@[simp] theorem State.onEntry_out (s : State) (t : Nat) (f : Entry → Entry) : (s.onEntry t f).out = s.out := rfl
@[simp] theorem State.onEntry_taken (s : State) (t : Nat) (f : Entry → Entry) : (s.onEntry t f).taken = s.taken := rfl
@[simp] theorem State.onEntry_free (s : State) (t : Nat) (f : Entry → Entry) : (s.onEntry t f).free = s.free := rfl
@[simp] theorem State.onEntry_nonces (s : State) (t : Nat) (f : Entry → Entry) : (s.onEntry t f).nonces = s.nonces := rfl
@[simp] theorem State.onEntry_coreOn (s : State) (t : Nat) (f : Entry → Entry) : (s.onEntry t f).coreOn = s.coreOn := rfl
@[simp] theorem State.onEntry_regs (s : State) (t : Nat) (f : Entry → Entry) : (s.onEntry t f).regs = s.regs := rfl
@[simp] theorem State.onEntry_hiLatch (s : State) (t : Nat) (f : Entry → Entry) : (s.onEntry t f).hiLatch = s.hiLatch := rfl
@[simp] theorem State.onEntry_hiHold (s : State) (t : Nat) (f : Entry → Entry) : (s.onEntry t f).hiHold = s.hiHold := rfl
@[simp] theorem State.onEntry_locks (s : State) (t : Nat) (f : Entry → Entry) : (s.onEntry t f).locks = s.locks := rfl
@[simp] theorem State.onEntry_records (s : State) (t : Nat) (f : Entry → Entry) : (s.onEntry t f).records = s.records := rfl
@[simp] theorem State.onEntry_pages (s : State) (t : Nat) (f : Entry → Entry) : (s.onEntry t f).pages = s.pages := rfl
@[simp] theorem State.onEntry_evt (s : State) (t : Nat) (f : Entry → Entry) : (s.onEntry t f).evt = s.evt := rfl
@[simp] theorem State.onEntry_lanes (s : State) (t : Nat) (f : Entry → Entry) : (s.onEntry t f).lanes = s.lanes := rfl
@[simp] theorem State.onEntry_chords (s : State) (t : Nat) (f : Entry → Entry) : (s.onEntry t f).chords = s.chords := rfl
@[simp] theorem State.onEntry_ids (s : State) (t : Nat) (f : Entry → Entry) : (s.onEntry t f).ids = s.ids := rfl
@[simp] theorem State.onEntry_hull (s : State) (t : Nat) (f : Entry → Entry) : (s.onEntry t f).hull = s.hull := rfl
@[simp] theorem State.onEntry_compass (s : State) (t : Nat) (f : Entry → Entry) : (s.onEntry t f).compass = s.compass := rfl
@[simp] theorem State.onEntry_keys (s : State) (t : Nat) (f : Entry → Entry) : (s.onEntry t f).keys = s.keys := rfl
@[simp] theorem State.onEntry_probes (s : State) (t : Nat) (f : Entry → Entry) : (s.onEntry t f).probes = s.probes := rfl
@[simp] theorem State.onEntry_datum (s : State) (t : Nat) (f : Entry → Entry) : (s.onEntry t f).datum = s.datum := rfl
@[simp] theorem State.onEntry_lattice (s : State) (t : Nat) (f : Entry → Entry) : (s.onEntry t f).lattice = s.lattice := rfl
@[simp] theorem State.onEntry_keeper (s : State) (t : Nat) (f : Entry → Entry) : (s.onEntry t f).keeper = s.keeper := rfl
@[simp] theorem State.onEntry_pins (s : State) (t : Nat) (f : Entry → Entry) : (s.onEntry t f).pins = s.pins := rfl
@[simp] theorem State.onEntry_gop (s : State) (t : Nat) (f : Entry → Entry) : (s.onEntry t f).gop = s.gop := rfl
@[simp] theorem State.onEntry_samples (s : State) (t : Nat) (f : Entry → Entry) : (s.onEntry t f).samples = s.samples := rfl
@[simp] theorem State.onEntry_bridge (s : State) (t : Nat) (f : Entry → Entry) : (s.onEntry t f).bridge = s.bridge := rfl
@[simp] theorem State.onEntry_express (s : State) (t : Nat) (f : Entry → Entry) : (s.onEntry t f).express = s.express := rfl
@[simp] theorem State.onEntry_win (s : State) (t : Nat) (f : Entry → Entry) : (s.onEntry t f).win = s.win := rfl
@[simp] theorem State.onEntry_usb (s : State) (t : Nat) (f : Entry → Entry) : (s.onEntry t f).usb = s.usb := rfl
@[simp] theorem State.onEntry_dsp (s : State) (t : Nat) (f : Entry → Entry) : (s.onEntry t f).dsp = s.dsp := rfl
@[simp] theorem State.onEntry_pd (s : State) (t : Nat) (f : Entry → Entry) : (s.onEntry t f).pd = s.pd := rfl
@[simp] theorem State.onEntry_power (s : State) (t : Nat) (f : Entry → Entry) : (s.onEntry t f).power = s.power := rfl
@[simp] theorem State.onEntry_boot (s : State) (t : Nat) (f : Entry → Entry) : (s.onEntry t f).boot = s.boot := rfl
@[simp] theorem State.onEntry_stored (s : State) (t : Nat) (f : Entry → Entry) : (s.onEntry t f).stored = s.stored := rfl
@[simp] theorem State.onEntry_log (s : State) (t : Nat) (f : Entry → Entry) : (s.onEntry t f).log = s.log := rfl
@[simp] theorem State.onEntry_diag (s : State) (t : Nat) (f : Entry → Entry) : (s.onEntry t f).diag = s.diag := rfl

/-! `logEvent` -/

@[simp] theorem State.logEvent_now (s : State) (e : LogEntry) : (s.logEvent e).now = s.now := by unfold State.logEvent; split <;> rfl
@[simp] theorem State.logEvent_pending (s : State) (e : LogEntry) : (s.logEvent e).pending = s.pending := by unfold State.logEvent; split <;> rfl
@[simp] theorem State.logEvent_out (s : State) (e : LogEntry) : (s.logEvent e).out = s.out := by unfold State.logEvent; split <;> rfl
@[simp] theorem State.logEvent_taken (s : State) (e : LogEntry) : (s.logEvent e).taken = s.taken := by unfold State.logEvent; split <;> rfl
@[simp] theorem State.logEvent_free (s : State) (e : LogEntry) : (s.logEvent e).free = s.free := by unfold State.logEvent; split <;> rfl
@[simp] theorem State.logEvent_nonces (s : State) (e : LogEntry) : (s.logEvent e).nonces = s.nonces := by unfold State.logEvent; split <;> rfl
@[simp] theorem State.logEvent_coreOn (s : State) (e : LogEntry) : (s.logEvent e).coreOn = s.coreOn := by unfold State.logEvent; split <;> rfl
@[simp] theorem State.logEvent_hiLatch (s : State) (e : LogEntry) : (s.logEvent e).hiLatch = s.hiLatch := by unfold State.logEvent; split <;> rfl
@[simp] theorem State.logEvent_hiHold (s : State) (e : LogEntry) : (s.logEvent e).hiHold = s.hiHold := by unfold State.logEvent; split <;> rfl
@[simp] theorem State.logEvent_locks (s : State) (e : LogEntry) : (s.logEvent e).locks = s.locks := by unfold State.logEvent; split <;> rfl
@[simp] theorem State.logEvent_records (s : State) (e : LogEntry) : (s.logEvent e).records = s.records := by unfold State.logEvent; split <;> rfl
@[simp] theorem State.logEvent_pages (s : State) (e : LogEntry) : (s.logEvent e).pages = s.pages := by unfold State.logEvent; split <;> rfl
@[simp] theorem State.logEvent_lanes (s : State) (e : LogEntry) : (s.logEvent e).lanes = s.lanes := by unfold State.logEvent; split <;> rfl
@[simp] theorem State.logEvent_chords (s : State) (e : LogEntry) : (s.logEvent e).chords = s.chords := by unfold State.logEvent; split <;> rfl
@[simp] theorem State.logEvent_tuns (s : State) (e : LogEntry) : (s.logEvent e).tuns = s.tuns := by unfold State.logEvent; split <;> rfl
@[simp] theorem State.logEvent_ids (s : State) (e : LogEntry) : (s.logEvent e).ids = s.ids := by unfold State.logEvent; split <;> rfl
@[simp] theorem State.logEvent_hull (s : State) (e : LogEntry) : (s.logEvent e).hull = s.hull := by unfold State.logEvent; split <;> rfl
@[simp] theorem State.logEvent_compass (s : State) (e : LogEntry) : (s.logEvent e).compass = s.compass := by unfold State.logEvent; split <;> rfl
@[simp] theorem State.logEvent_keys (s : State) (e : LogEntry) : (s.logEvent e).keys = s.keys := by unfold State.logEvent; split <;> rfl
@[simp] theorem State.logEvent_probes (s : State) (e : LogEntry) : (s.logEvent e).probes = s.probes := by unfold State.logEvent; split <;> rfl
@[simp] theorem State.logEvent_datum (s : State) (e : LogEntry) : (s.logEvent e).datum = s.datum := by unfold State.logEvent; split <;> rfl
@[simp] theorem State.logEvent_lattice (s : State) (e : LogEntry) : (s.logEvent e).lattice = s.lattice := by unfold State.logEvent; split <;> rfl
@[simp] theorem State.logEvent_keeper (s : State) (e : LogEntry) : (s.logEvent e).keeper = s.keeper := by unfold State.logEvent; split <;> rfl
@[simp] theorem State.logEvent_pins (s : State) (e : LogEntry) : (s.logEvent e).pins = s.pins := by unfold State.logEvent; split <;> rfl
@[simp] theorem State.logEvent_gop (s : State) (e : LogEntry) : (s.logEvent e).gop = s.gop := by unfold State.logEvent; split <;> rfl
@[simp] theorem State.logEvent_samples (s : State) (e : LogEntry) : (s.logEvent e).samples = s.samples := by unfold State.logEvent; split <;> rfl
@[simp] theorem State.logEvent_bridge (s : State) (e : LogEntry) : (s.logEvent e).bridge = s.bridge := by unfold State.logEvent; split <;> rfl
@[simp] theorem State.logEvent_express (s : State) (e : LogEntry) : (s.logEvent e).express = s.express := by unfold State.logEvent; split <;> rfl
@[simp] theorem State.logEvent_win (s : State) (e : LogEntry) : (s.logEvent e).win = s.win := by unfold State.logEvent; split <;> rfl
@[simp] theorem State.logEvent_usb (s : State) (e : LogEntry) : (s.logEvent e).usb = s.usb := by unfold State.logEvent; split <;> rfl
@[simp] theorem State.logEvent_dsp (s : State) (e : LogEntry) : (s.logEvent e).dsp = s.dsp := by unfold State.logEvent; split <;> rfl
@[simp] theorem State.logEvent_pd (s : State) (e : LogEntry) : (s.logEvent e).pd = s.pd := by unfold State.logEvent; split <;> rfl
@[simp] theorem State.logEvent_power (s : State) (e : LogEntry) : (s.logEvent e).power = s.power := by unfold State.logEvent; split <;> rfl
@[simp] theorem State.logEvent_boot (s : State) (e : LogEntry) : (s.logEvent e).boot = s.boot := by unfold State.logEvent; split <;> rfl
@[simp] theorem State.logEvent_stored (s : State) (e : LogEntry) : (s.logEvent e).stored = s.stored := by unfold State.logEvent; split <;> rfl
@[simp] theorem State.logEvent_log (s : State) (e : LogEntry) : (s.logEvent e).log = s.log := by unfold State.logEvent; split <;> rfl
@[simp] theorem State.logEvent_diag (s : State) (e : LogEntry) : (s.logEvent e).diag = s.diag := by unfold State.logEvent; split <;> rfl

/-! `pageEvent` -/

@[simp] theorem State.pageEvent_now (s : State) (a : Nat) (m : BitVec 32) (x y : Bool) (t : Nat) : (s.pageEvent a m x y t).now = s.now := by unfold State.pageEvent; simp only []; split_ifs <;> simp
@[simp] theorem State.pageEvent_pending (s : State) (a : Nat) (m : BitVec 32) (x y : Bool) (t : Nat) : (s.pageEvent a m x y t).pending = s.pending := by unfold State.pageEvent; simp only []; split_ifs <;> simp
@[simp] theorem State.pageEvent_out (s : State) (a : Nat) (m : BitVec 32) (x y : Bool) (t : Nat) : (s.pageEvent a m x y t).out = s.out := by unfold State.pageEvent; simp only []; split_ifs <;> simp
@[simp] theorem State.pageEvent_taken (s : State) (a : Nat) (m : BitVec 32) (x y : Bool) (t : Nat) : (s.pageEvent a m x y t).taken = s.taken := by unfold State.pageEvent; simp only []; split_ifs <;> simp
@[simp] theorem State.pageEvent_free (s : State) (a : Nat) (m : BitVec 32) (x y : Bool) (t : Nat) : (s.pageEvent a m x y t).free = s.free := by unfold State.pageEvent; simp only []; split_ifs <;> simp
@[simp] theorem State.pageEvent_nonces (s : State) (a : Nat) (m : BitVec 32) (x y : Bool) (t : Nat) : (s.pageEvent a m x y t).nonces = s.nonces := by unfold State.pageEvent; simp only []; split_ifs <;> simp
@[simp] theorem State.pageEvent_coreOn (s : State) (a : Nat) (m : BitVec 32) (x y : Bool) (t : Nat) : (s.pageEvent a m x y t).coreOn = s.coreOn := by unfold State.pageEvent; simp only []; split_ifs <;> simp
@[simp] theorem State.pageEvent_hiLatch (s : State) (a : Nat) (m : BitVec 32) (x y : Bool) (t : Nat) : (s.pageEvent a m x y t).hiLatch = s.hiLatch := by unfold State.pageEvent; simp only []; split_ifs <;> simp
@[simp] theorem State.pageEvent_hiHold (s : State) (a : Nat) (m : BitVec 32) (x y : Bool) (t : Nat) : (s.pageEvent a m x y t).hiHold = s.hiHold := by unfold State.pageEvent; simp only []; split_ifs <;> simp
@[simp] theorem State.pageEvent_locks (s : State) (a : Nat) (m : BitVec 32) (x y : Bool) (t : Nat) : (s.pageEvent a m x y t).locks = s.locks := by unfold State.pageEvent; simp only []; split_ifs <;> simp
@[simp] theorem State.pageEvent_records (s : State) (a : Nat) (m : BitVec 32) (x y : Bool) (t : Nat) : (s.pageEvent a m x y t).records = s.records := by unfold State.pageEvent; simp only []; split_ifs <;> simp
@[simp] theorem State.pageEvent_lanes (s : State) (a : Nat) (m : BitVec 32) (x y : Bool) (t : Nat) : (s.pageEvent a m x y t).lanes = s.lanes := by unfold State.pageEvent; simp only []; split_ifs <;> simp
@[simp] theorem State.pageEvent_chords (s : State) (a : Nat) (m : BitVec 32) (x y : Bool) (t : Nat) : (s.pageEvent a m x y t).chords = s.chords := by unfold State.pageEvent; simp only []; split_ifs <;> simp
@[simp] theorem State.pageEvent_tuns (s : State) (a : Nat) (m : BitVec 32) (x y : Bool) (t : Nat) : (s.pageEvent a m x y t).tuns = s.tuns := by unfold State.pageEvent; simp only []; split_ifs <;> simp
@[simp] theorem State.pageEvent_ids (s : State) (a : Nat) (m : BitVec 32) (x y : Bool) (t : Nat) : (s.pageEvent a m x y t).ids = s.ids := by unfold State.pageEvent; simp only []; split_ifs <;> simp
@[simp] theorem State.pageEvent_hull (s : State) (a : Nat) (m : BitVec 32) (x y : Bool) (t : Nat) : (s.pageEvent a m x y t).hull = s.hull := by unfold State.pageEvent; simp only []; split_ifs <;> simp
@[simp] theorem State.pageEvent_compass (s : State) (a : Nat) (m : BitVec 32) (x y : Bool) (t : Nat) : (s.pageEvent a m x y t).compass = s.compass := by unfold State.pageEvent; simp only []; split_ifs <;> simp
@[simp] theorem State.pageEvent_keys (s : State) (a : Nat) (m : BitVec 32) (x y : Bool) (t : Nat) : (s.pageEvent a m x y t).keys = s.keys := by unfold State.pageEvent; simp only []; split_ifs <;> simp
@[simp] theorem State.pageEvent_probes (s : State) (a : Nat) (m : BitVec 32) (x y : Bool) (t : Nat) : (s.pageEvent a m x y t).probes = s.probes := by unfold State.pageEvent; simp only []; split_ifs <;> simp
@[simp] theorem State.pageEvent_datum (s : State) (a : Nat) (m : BitVec 32) (x y : Bool) (t : Nat) : (s.pageEvent a m x y t).datum = s.datum := by unfold State.pageEvent; simp only []; split_ifs <;> simp
@[simp] theorem State.pageEvent_lattice (s : State) (a : Nat) (m : BitVec 32) (x y : Bool) (t : Nat) : (s.pageEvent a m x y t).lattice = s.lattice := by unfold State.pageEvent; simp only []; split_ifs <;> simp
@[simp] theorem State.pageEvent_keeper (s : State) (a : Nat) (m : BitVec 32) (x y : Bool) (t : Nat) : (s.pageEvent a m x y t).keeper = s.keeper := by unfold State.pageEvent; simp only []; split_ifs <;> simp
@[simp] theorem State.pageEvent_pins (s : State) (a : Nat) (m : BitVec 32) (x y : Bool) (t : Nat) : (s.pageEvent a m x y t).pins = s.pins := by unfold State.pageEvent; simp only []; split_ifs <;> simp
@[simp] theorem State.pageEvent_gop (s : State) (a : Nat) (m : BitVec 32) (x y : Bool) (t : Nat) : (s.pageEvent a m x y t).gop = s.gop := by unfold State.pageEvent; simp only []; split_ifs <;> simp
@[simp] theorem State.pageEvent_samples (s : State) (a : Nat) (m : BitVec 32) (x y : Bool) (t : Nat) : (s.pageEvent a m x y t).samples = s.samples := by unfold State.pageEvent; simp only []; split_ifs <;> simp
@[simp] theorem State.pageEvent_bridge (s : State) (a : Nat) (m : BitVec 32) (x y : Bool) (t : Nat) : (s.pageEvent a m x y t).bridge = s.bridge := by unfold State.pageEvent; simp only []; split_ifs <;> simp
@[simp] theorem State.pageEvent_express (s : State) (a : Nat) (m : BitVec 32) (x y : Bool) (t : Nat) : (s.pageEvent a m x y t).express = s.express := by unfold State.pageEvent; simp only []; split_ifs <;> simp
@[simp] theorem State.pageEvent_win (s : State) (a : Nat) (m : BitVec 32) (x y : Bool) (t : Nat) : (s.pageEvent a m x y t).win = s.win := by unfold State.pageEvent; simp only []; split_ifs <;> simp
@[simp] theorem State.pageEvent_usb (s : State) (a : Nat) (m : BitVec 32) (x y : Bool) (t : Nat) : (s.pageEvent a m x y t).usb = s.usb := by unfold State.pageEvent; simp only []; split_ifs <;> simp
@[simp] theorem State.pageEvent_dsp (s : State) (a : Nat) (m : BitVec 32) (x y : Bool) (t : Nat) : (s.pageEvent a m x y t).dsp = s.dsp := by unfold State.pageEvent; simp only []; split_ifs <;> simp
@[simp] theorem State.pageEvent_pd (s : State) (a : Nat) (m : BitVec 32) (x y : Bool) (t : Nat) : (s.pageEvent a m x y t).pd = s.pd := by unfold State.pageEvent; simp only []; split_ifs <;> simp
@[simp] theorem State.pageEvent_power (s : State) (a : Nat) (m : BitVec 32) (x y : Bool) (t : Nat) : (s.pageEvent a m x y t).power = s.power := by unfold State.pageEvent; simp only []; split_ifs <;> simp
@[simp] theorem State.pageEvent_boot (s : State) (a : Nat) (m : BitVec 32) (x y : Bool) (t : Nat) : (s.pageEvent a m x y t).boot = s.boot := by unfold State.pageEvent; simp only []; split_ifs <;> simp
@[simp] theorem State.pageEvent_stored (s : State) (a : Nat) (m : BitVec 32) (x y : Bool) (t : Nat) : (s.pageEvent a m x y t).stored = s.stored := by unfold State.pageEvent; simp only []; split_ifs <;> simp
@[simp] theorem State.pageEvent_log (s : State) (a : Nat) (m : BitVec 32) (x y : Bool) (t : Nat) : (s.pageEvent a m x y t).log = s.log := by unfold State.pageEvent; simp only []; split_ifs <;> simp
@[simp] theorem State.pageEvent_diag (s : State) (a : Nat) (m : BitVec 32) (x y : Bool) (t : Nat) : (s.pageEvent a m x y t).diag = s.diag := by unfold State.pageEvent; simp only []; split_ifs <;> simp

/-! `ev` -/

@[simp] theorem State.ev_now (s : State) (a : Nat) (l : List Nat) : (s.ev a l).now = s.now := by unfold State.ev; simp
@[simp] theorem State.ev_pending (s : State) (a : Nat) (l : List Nat) : (s.ev a l).pending = s.pending := by unfold State.ev; simp
@[simp] theorem State.ev_out (s : State) (a : Nat) (l : List Nat) : (s.ev a l).out = s.out := by unfold State.ev; simp
@[simp] theorem State.ev_taken (s : State) (a : Nat) (l : List Nat) : (s.ev a l).taken = s.taken := by unfold State.ev; simp
@[simp] theorem State.ev_free (s : State) (a : Nat) (l : List Nat) : (s.ev a l).free = s.free := by unfold State.ev; simp
@[simp] theorem State.ev_nonces (s : State) (a : Nat) (l : List Nat) : (s.ev a l).nonces = s.nonces := by unfold State.ev; simp
@[simp] theorem State.ev_coreOn (s : State) (a : Nat) (l : List Nat) : (s.ev a l).coreOn = s.coreOn := by unfold State.ev; simp
@[simp] theorem State.ev_hiLatch (s : State) (a : Nat) (l : List Nat) : (s.ev a l).hiLatch = s.hiLatch := by unfold State.ev; simp
@[simp] theorem State.ev_hiHold (s : State) (a : Nat) (l : List Nat) : (s.ev a l).hiHold = s.hiHold := by unfold State.ev; simp
@[simp] theorem State.ev_locks (s : State) (a : Nat) (l : List Nat) : (s.ev a l).locks = s.locks := by unfold State.ev; simp
@[simp] theorem State.ev_records (s : State) (a : Nat) (l : List Nat) : (s.ev a l).records = s.records := by unfold State.ev; simp
@[simp] theorem State.ev_lanes (s : State) (a : Nat) (l : List Nat) : (s.ev a l).lanes = s.lanes := by unfold State.ev; simp
@[simp] theorem State.ev_chords (s : State) (a : Nat) (l : List Nat) : (s.ev a l).chords = s.chords := by unfold State.ev; simp
@[simp] theorem State.ev_tuns (s : State) (a : Nat) (l : List Nat) : (s.ev a l).tuns = s.tuns := by unfold State.ev; simp
@[simp] theorem State.ev_ids (s : State) (a : Nat) (l : List Nat) : (s.ev a l).ids = s.ids := by unfold State.ev; simp
@[simp] theorem State.ev_hull (s : State) (a : Nat) (l : List Nat) : (s.ev a l).hull = s.hull := by unfold State.ev; simp
@[simp] theorem State.ev_compass (s : State) (a : Nat) (l : List Nat) : (s.ev a l).compass = s.compass := by unfold State.ev; simp
@[simp] theorem State.ev_keys (s : State) (a : Nat) (l : List Nat) : (s.ev a l).keys = s.keys := by unfold State.ev; simp
@[simp] theorem State.ev_probes (s : State) (a : Nat) (l : List Nat) : (s.ev a l).probes = s.probes := by unfold State.ev; simp
@[simp] theorem State.ev_datum (s : State) (a : Nat) (l : List Nat) : (s.ev a l).datum = s.datum := by unfold State.ev; simp
@[simp] theorem State.ev_lattice (s : State) (a : Nat) (l : List Nat) : (s.ev a l).lattice = s.lattice := by unfold State.ev; simp
@[simp] theorem State.ev_keeper (s : State) (a : Nat) (l : List Nat) : (s.ev a l).keeper = s.keeper := by unfold State.ev; simp
@[simp] theorem State.ev_pins (s : State) (a : Nat) (l : List Nat) : (s.ev a l).pins = s.pins := by unfold State.ev; simp
@[simp] theorem State.ev_gop (s : State) (a : Nat) (l : List Nat) : (s.ev a l).gop = s.gop := by unfold State.ev; simp
@[simp] theorem State.ev_samples (s : State) (a : Nat) (l : List Nat) : (s.ev a l).samples = s.samples := by unfold State.ev; simp
@[simp] theorem State.ev_bridge (s : State) (a : Nat) (l : List Nat) : (s.ev a l).bridge = s.bridge := by unfold State.ev; simp
@[simp] theorem State.ev_express (s : State) (a : Nat) (l : List Nat) : (s.ev a l).express = s.express := by unfold State.ev; simp
@[simp] theorem State.ev_win (s : State) (a : Nat) (l : List Nat) : (s.ev a l).win = s.win := by unfold State.ev; simp
@[simp] theorem State.ev_usb (s : State) (a : Nat) (l : List Nat) : (s.ev a l).usb = s.usb := by unfold State.ev; simp
@[simp] theorem State.ev_dsp (s : State) (a : Nat) (l : List Nat) : (s.ev a l).dsp = s.dsp := by unfold State.ev; simp
@[simp] theorem State.ev_pd (s : State) (a : Nat) (l : List Nat) : (s.ev a l).pd = s.pd := by unfold State.ev; simp
@[simp] theorem State.ev_power (s : State) (a : Nat) (l : List Nat) : (s.ev a l).power = s.power := by unfold State.ev; simp
@[simp] theorem State.ev_boot (s : State) (a : Nat) (l : List Nat) : (s.ev a l).boot = s.boot := by unfold State.ev; simp
@[simp] theorem State.ev_stored (s : State) (a : Nat) (l : List Nat) : (s.ev a l).stored = s.stored := by unfold State.ev; simp
@[simp] theorem State.ev_log (s : State) (a : Nat) (l : List Nat) : (s.ev a l).log = s.log := by unfold State.ev; simp
@[simp] theorem State.ev_diag (s : State) (a : Nat) (l : List Nat) : (s.ev a l).diag = s.diag := by unfold State.ev; simp

/-! `captureRaw` -/

@[simp] theorem State.captureRaw_now (s : State) (a : Nat) (c : BitVec 40) : (s.captureRaw a c).now = s.now := rfl
@[simp] theorem State.captureRaw_pending (s : State) (a : Nat) (c : BitVec 40) : (s.captureRaw a c).pending = s.pending := rfl
@[simp] theorem State.captureRaw_out (s : State) (a : Nat) (c : BitVec 40) : (s.captureRaw a c).out = s.out := rfl
@[simp] theorem State.captureRaw_taken (s : State) (a : Nat) (c : BitVec 40) : (s.captureRaw a c).taken = s.taken := rfl
@[simp] theorem State.captureRaw_free (s : State) (a : Nat) (c : BitVec 40) : (s.captureRaw a c).free = s.free := rfl
@[simp] theorem State.captureRaw_nonces (s : State) (a : Nat) (c : BitVec 40) : (s.captureRaw a c).nonces = s.nonces := rfl
@[simp] theorem State.captureRaw_coreOn (s : State) (a : Nat) (c : BitVec 40) : (s.captureRaw a c).coreOn = s.coreOn := rfl
@[simp] theorem State.captureRaw_regs (s : State) (a : Nat) (c : BitVec 40) : (s.captureRaw a c).regs = s.regs := rfl
@[simp] theorem State.captureRaw_hiLatch (s : State) (a : Nat) (c : BitVec 40) : (s.captureRaw a c).hiLatch = s.hiLatch := rfl
@[simp] theorem State.captureRaw_hiHold (s : State) (a : Nat) (c : BitVec 40) : (s.captureRaw a c).hiHold = s.hiHold := rfl
@[simp] theorem State.captureRaw_locks (s : State) (a : Nat) (c : BitVec 40) : (s.captureRaw a c).locks = s.locks := rfl
@[simp] theorem State.captureRaw_records (s : State) (a : Nat) (c : BitVec 40) : (s.captureRaw a c).records = s.records := rfl
@[simp] theorem State.captureRaw_evt (s : State) (a : Nat) (c : BitVec 40) : (s.captureRaw a c).evt = s.evt := rfl
@[simp] theorem State.captureRaw_lanes (s : State) (a : Nat) (c : BitVec 40) : (s.captureRaw a c).lanes = s.lanes := rfl
@[simp] theorem State.captureRaw_chords (s : State) (a : Nat) (c : BitVec 40) : (s.captureRaw a c).chords = s.chords := rfl
@[simp] theorem State.captureRaw_tuns (s : State) (a : Nat) (c : BitVec 40) : (s.captureRaw a c).tuns = s.tuns := rfl
@[simp] theorem State.captureRaw_ids (s : State) (a : Nat) (c : BitVec 40) : (s.captureRaw a c).ids = s.ids := rfl
@[simp] theorem State.captureRaw_hull (s : State) (a : Nat) (c : BitVec 40) : (s.captureRaw a c).hull = s.hull := rfl
@[simp] theorem State.captureRaw_compass (s : State) (a : Nat) (c : BitVec 40) : (s.captureRaw a c).compass = s.compass := rfl
@[simp] theorem State.captureRaw_keys (s : State) (a : Nat) (c : BitVec 40) : (s.captureRaw a c).keys = s.keys := rfl
@[simp] theorem State.captureRaw_probes (s : State) (a : Nat) (c : BitVec 40) : (s.captureRaw a c).probes = s.probes := rfl
@[simp] theorem State.captureRaw_datum (s : State) (a : Nat) (c : BitVec 40) : (s.captureRaw a c).datum = s.datum := rfl
@[simp] theorem State.captureRaw_lattice (s : State) (a : Nat) (c : BitVec 40) : (s.captureRaw a c).lattice = s.lattice := rfl
@[simp] theorem State.captureRaw_keeper (s : State) (a : Nat) (c : BitVec 40) : (s.captureRaw a c).keeper = s.keeper := rfl
@[simp] theorem State.captureRaw_pins (s : State) (a : Nat) (c : BitVec 40) : (s.captureRaw a c).pins = s.pins := rfl
@[simp] theorem State.captureRaw_gop (s : State) (a : Nat) (c : BitVec 40) : (s.captureRaw a c).gop = s.gop := rfl
@[simp] theorem State.captureRaw_samples (s : State) (a : Nat) (c : BitVec 40) : (s.captureRaw a c).samples = s.samples := rfl
@[simp] theorem State.captureRaw_bridge (s : State) (a : Nat) (c : BitVec 40) : (s.captureRaw a c).bridge = s.bridge := rfl
@[simp] theorem State.captureRaw_express (s : State) (a : Nat) (c : BitVec 40) : (s.captureRaw a c).express = s.express := rfl
@[simp] theorem State.captureRaw_win (s : State) (a : Nat) (c : BitVec 40) : (s.captureRaw a c).win = s.win := rfl
@[simp] theorem State.captureRaw_usb (s : State) (a : Nat) (c : BitVec 40) : (s.captureRaw a c).usb = s.usb := rfl
@[simp] theorem State.captureRaw_dsp (s : State) (a : Nat) (c : BitVec 40) : (s.captureRaw a c).dsp = s.dsp := rfl
@[simp] theorem State.captureRaw_pd (s : State) (a : Nat) (c : BitVec 40) : (s.captureRaw a c).pd = s.pd := rfl
@[simp] theorem State.captureRaw_power (s : State) (a : Nat) (c : BitVec 40) : (s.captureRaw a c).power = s.power := rfl
@[simp] theorem State.captureRaw_boot (s : State) (a : Nat) (c : BitVec 40) : (s.captureRaw a c).boot = s.boot := rfl
@[simp] theorem State.captureRaw_stored (s : State) (a : Nat) (c : BitVec 40) : (s.captureRaw a c).stored = s.stored := rfl
@[simp] theorem State.captureRaw_log (s : State) (a : Nat) (c : BitVec 40) : (s.captureRaw a c).log = s.log := rfl
@[simp] theorem State.captureRaw_diag (s : State) (a : Nat) (c : BitVec 40) : (s.captureRaw a c).diag = s.diag := rfl

/-! `capture` -/

@[simp] theorem State.capture_now (s : State) (a b c d e : Nat) : (s.capture a b c d e).now = s.now := rfl
@[simp] theorem State.capture_pending (s : State) (a b c d e : Nat) : (s.capture a b c d e).pending = s.pending := rfl
@[simp] theorem State.capture_out (s : State) (a b c d e : Nat) : (s.capture a b c d e).out = s.out := rfl
@[simp] theorem State.capture_taken (s : State) (a b c d e : Nat) : (s.capture a b c d e).taken = s.taken := rfl
@[simp] theorem State.capture_free (s : State) (a b c d e : Nat) : (s.capture a b c d e).free = s.free := rfl
@[simp] theorem State.capture_nonces (s : State) (a b c d e : Nat) : (s.capture a b c d e).nonces = s.nonces := rfl
@[simp] theorem State.capture_coreOn (s : State) (a b c d e : Nat) : (s.capture a b c d e).coreOn = s.coreOn := rfl
@[simp] theorem State.capture_regs (s : State) (a b c d e : Nat) : (s.capture a b c d e).regs = s.regs := rfl
@[simp] theorem State.capture_hiLatch (s : State) (a b c d e : Nat) : (s.capture a b c d e).hiLatch = s.hiLatch := rfl
@[simp] theorem State.capture_hiHold (s : State) (a b c d e : Nat) : (s.capture a b c d e).hiHold = s.hiHold := rfl
@[simp] theorem State.capture_locks (s : State) (a b c d e : Nat) : (s.capture a b c d e).locks = s.locks := rfl
@[simp] theorem State.capture_records (s : State) (a b c d e : Nat) : (s.capture a b c d e).records = s.records := rfl
@[simp] theorem State.capture_evt (s : State) (a b c d e : Nat) : (s.capture a b c d e).evt = s.evt := rfl
@[simp] theorem State.capture_lanes (s : State) (a b c d e : Nat) : (s.capture a b c d e).lanes = s.lanes := rfl
@[simp] theorem State.capture_chords (s : State) (a b c d e : Nat) : (s.capture a b c d e).chords = s.chords := rfl
@[simp] theorem State.capture_tuns (s : State) (a b c d e : Nat) : (s.capture a b c d e).tuns = s.tuns := rfl
@[simp] theorem State.capture_ids (s : State) (a b c d e : Nat) : (s.capture a b c d e).ids = s.ids := rfl
@[simp] theorem State.capture_hull (s : State) (a b c d e : Nat) : (s.capture a b c d e).hull = s.hull := rfl
@[simp] theorem State.capture_compass (s : State) (a b c d e : Nat) : (s.capture a b c d e).compass = s.compass := rfl
@[simp] theorem State.capture_keys (s : State) (a b c d e : Nat) : (s.capture a b c d e).keys = s.keys := rfl
@[simp] theorem State.capture_probes (s : State) (a b c d e : Nat) : (s.capture a b c d e).probes = s.probes := rfl
@[simp] theorem State.capture_datum (s : State) (a b c d e : Nat) : (s.capture a b c d e).datum = s.datum := rfl
@[simp] theorem State.capture_lattice (s : State) (a b c d e : Nat) : (s.capture a b c d e).lattice = s.lattice := rfl
@[simp] theorem State.capture_keeper (s : State) (a b c d e : Nat) : (s.capture a b c d e).keeper = s.keeper := rfl
@[simp] theorem State.capture_pins (s : State) (a b c d e : Nat) : (s.capture a b c d e).pins = s.pins := rfl
@[simp] theorem State.capture_gop (s : State) (a b c d e : Nat) : (s.capture a b c d e).gop = s.gop := rfl
@[simp] theorem State.capture_samples (s : State) (a b c d e : Nat) : (s.capture a b c d e).samples = s.samples := rfl
@[simp] theorem State.capture_bridge (s : State) (a b c d e : Nat) : (s.capture a b c d e).bridge = s.bridge := rfl
@[simp] theorem State.capture_express (s : State) (a b c d e : Nat) : (s.capture a b c d e).express = s.express := rfl
@[simp] theorem State.capture_win (s : State) (a b c d e : Nat) : (s.capture a b c d e).win = s.win := rfl
@[simp] theorem State.capture_usb (s : State) (a b c d e : Nat) : (s.capture a b c d e).usb = s.usb := rfl
@[simp] theorem State.capture_dsp (s : State) (a b c d e : Nat) : (s.capture a b c d e).dsp = s.dsp := rfl
@[simp] theorem State.capture_pd (s : State) (a b c d e : Nat) : (s.capture a b c d e).pd = s.pd := rfl
@[simp] theorem State.capture_power (s : State) (a b c d e : Nat) : (s.capture a b c d e).power = s.power := rfl
@[simp] theorem State.capture_boot (s : State) (a b c d e : Nat) : (s.capture a b c d e).boot = s.boot := rfl
@[simp] theorem State.capture_stored (s : State) (a b c d e : Nat) : (s.capture a b c d e).stored = s.stored := rfl
@[simp] theorem State.capture_log (s : State) (a b c d e : Nat) : (s.capture a b c d e).log = s.log := rfl
@[simp] theorem State.capture_diag (s : State) (a b c d e : Nat) : (s.capture a b c d e).diag = s.diag := rfl

/-! `evNew` -/

@[simp] theorem State.evNew_now (s : State) (a : Nat) (l : List Nat) : (s.evNew a l).now = s.now := by unfold State.evNew; simp
@[simp] theorem State.evNew_pending (s : State) (a : Nat) (l : List Nat) : (s.evNew a l).pending = s.pending := by unfold State.evNew; simp
@[simp] theorem State.evNew_out (s : State) (a : Nat) (l : List Nat) : (s.evNew a l).out = s.out := by unfold State.evNew; simp
@[simp] theorem State.evNew_taken (s : State) (a : Nat) (l : List Nat) : (s.evNew a l).taken = s.taken := by unfold State.evNew; simp
@[simp] theorem State.evNew_free (s : State) (a : Nat) (l : List Nat) : (s.evNew a l).free = s.free := by unfold State.evNew; simp
@[simp] theorem State.evNew_nonces (s : State) (a : Nat) (l : List Nat) : (s.evNew a l).nonces = s.nonces := by unfold State.evNew; simp
@[simp] theorem State.evNew_coreOn (s : State) (a : Nat) (l : List Nat) : (s.evNew a l).coreOn = s.coreOn := by unfold State.evNew; simp
@[simp] theorem State.evNew_hiLatch (s : State) (a : Nat) (l : List Nat) : (s.evNew a l).hiLatch = s.hiLatch := by unfold State.evNew; simp
@[simp] theorem State.evNew_hiHold (s : State) (a : Nat) (l : List Nat) : (s.evNew a l).hiHold = s.hiHold := by unfold State.evNew; simp
@[simp] theorem State.evNew_locks (s : State) (a : Nat) (l : List Nat) : (s.evNew a l).locks = s.locks := by unfold State.evNew; simp
@[simp] theorem State.evNew_records (s : State) (a : Nat) (l : List Nat) : (s.evNew a l).records = s.records := by unfold State.evNew; simp
@[simp] theorem State.evNew_lanes (s : State) (a : Nat) (l : List Nat) : (s.evNew a l).lanes = s.lanes := by unfold State.evNew; simp
@[simp] theorem State.evNew_chords (s : State) (a : Nat) (l : List Nat) : (s.evNew a l).chords = s.chords := by unfold State.evNew; simp
@[simp] theorem State.evNew_tuns (s : State) (a : Nat) (l : List Nat) : (s.evNew a l).tuns = s.tuns := by unfold State.evNew; simp
@[simp] theorem State.evNew_ids (s : State) (a : Nat) (l : List Nat) : (s.evNew a l).ids = s.ids := by unfold State.evNew; simp
@[simp] theorem State.evNew_hull (s : State) (a : Nat) (l : List Nat) : (s.evNew a l).hull = s.hull := by unfold State.evNew; simp
@[simp] theorem State.evNew_compass (s : State) (a : Nat) (l : List Nat) : (s.evNew a l).compass = s.compass := by unfold State.evNew; simp
@[simp] theorem State.evNew_keys (s : State) (a : Nat) (l : List Nat) : (s.evNew a l).keys = s.keys := by unfold State.evNew; simp
@[simp] theorem State.evNew_probes (s : State) (a : Nat) (l : List Nat) : (s.evNew a l).probes = s.probes := by unfold State.evNew; simp
@[simp] theorem State.evNew_datum (s : State) (a : Nat) (l : List Nat) : (s.evNew a l).datum = s.datum := by unfold State.evNew; simp
@[simp] theorem State.evNew_lattice (s : State) (a : Nat) (l : List Nat) : (s.evNew a l).lattice = s.lattice := by unfold State.evNew; simp
@[simp] theorem State.evNew_keeper (s : State) (a : Nat) (l : List Nat) : (s.evNew a l).keeper = s.keeper := by unfold State.evNew; simp
@[simp] theorem State.evNew_pins (s : State) (a : Nat) (l : List Nat) : (s.evNew a l).pins = s.pins := by unfold State.evNew; simp
@[simp] theorem State.evNew_gop (s : State) (a : Nat) (l : List Nat) : (s.evNew a l).gop = s.gop := by unfold State.evNew; simp
@[simp] theorem State.evNew_samples (s : State) (a : Nat) (l : List Nat) : (s.evNew a l).samples = s.samples := by unfold State.evNew; simp
@[simp] theorem State.evNew_bridge (s : State) (a : Nat) (l : List Nat) : (s.evNew a l).bridge = s.bridge := by unfold State.evNew; simp
@[simp] theorem State.evNew_express (s : State) (a : Nat) (l : List Nat) : (s.evNew a l).express = s.express := by unfold State.evNew; simp
@[simp] theorem State.evNew_win (s : State) (a : Nat) (l : List Nat) : (s.evNew a l).win = s.win := by unfold State.evNew; simp
@[simp] theorem State.evNew_usb (s : State) (a : Nat) (l : List Nat) : (s.evNew a l).usb = s.usb := by unfold State.evNew; simp
@[simp] theorem State.evNew_dsp (s : State) (a : Nat) (l : List Nat) : (s.evNew a l).dsp = s.dsp := by unfold State.evNew; simp
@[simp] theorem State.evNew_pd (s : State) (a : Nat) (l : List Nat) : (s.evNew a l).pd = s.pd := by unfold State.evNew; simp
@[simp] theorem State.evNew_power (s : State) (a : Nat) (l : List Nat) : (s.evNew a l).power = s.power := by unfold State.evNew; simp
@[simp] theorem State.evNew_boot (s : State) (a : Nat) (l : List Nat) : (s.evNew a l).boot = s.boot := by unfold State.evNew; simp
@[simp] theorem State.evNew_stored (s : State) (a : Nat) (l : List Nat) : (s.evNew a l).stored = s.stored := by unfold State.evNew; simp
@[simp] theorem State.evNew_log (s : State) (a : Nat) (l : List Nat) : (s.evNew a l).log = s.log := by unfold State.evNew; simp
@[simp] theorem State.evNew_diag (s : State) (a : Nat) (l : List Nat) : (s.evNew a l).diag = s.diag := by unfold State.evNew; simp

/-! `life` -/

@[simp] theorem State.life_now (s : State) (i : Nat) : (s.life i).now = s.now := by unfold State.life; simp only []; split_ifs <;> simp
@[simp] theorem State.life_pending (s : State) (i : Nat) : (s.life i).pending = s.pending := by unfold State.life; simp only []; split_ifs <;> simp
@[simp] theorem State.life_out (s : State) (i : Nat) : (s.life i).out = s.out := by unfold State.life; simp only []; split_ifs <;> simp
@[simp] theorem State.life_taken (s : State) (i : Nat) : (s.life i).taken = s.taken := by unfold State.life; simp only []; split_ifs <;> simp
@[simp] theorem State.life_free (s : State) (i : Nat) : (s.life i).free = s.free := by unfold State.life; simp only []; split_ifs <;> simp
@[simp] theorem State.life_nonces (s : State) (i : Nat) : (s.life i).nonces = s.nonces := by unfold State.life; simp only []; split_ifs <;> simp
@[simp] theorem State.life_coreOn (s : State) (i : Nat) : (s.life i).coreOn = s.coreOn := by unfold State.life; simp only []; split_ifs <;> simp
@[simp] theorem State.life_hiLatch (s : State) (i : Nat) : (s.life i).hiLatch = s.hiLatch := by unfold State.life; simp only []; split_ifs <;> simp
@[simp] theorem State.life_hiHold (s : State) (i : Nat) : (s.life i).hiHold = s.hiHold := by unfold State.life; simp only []; split_ifs <;> simp
@[simp] theorem State.life_locks (s : State) (i : Nat) : (s.life i).locks = s.locks := by unfold State.life; simp only []; split_ifs <;> simp
@[simp] theorem State.life_records (s : State) (i : Nat) : (s.life i).records = s.records := by unfold State.life; simp only []; split_ifs <;> simp
@[simp] theorem State.life_lanes (s : State) (i : Nat) : (s.life i).lanes = s.lanes := by unfold State.life; simp only []; split_ifs <;> simp
@[simp] theorem State.life_chords (s : State) (i : Nat) : (s.life i).chords = s.chords := by unfold State.life; simp only []; split_ifs <;> simp
@[simp] theorem State.life_tuns (s : State) (i : Nat) : (s.life i).tuns = s.tuns := by unfold State.life; simp only []; split_ifs <;> simp
@[simp] theorem State.life_ids (s : State) (i : Nat) : (s.life i).ids = s.ids := by unfold State.life; simp only []; split_ifs <;> simp
@[simp] theorem State.life_hull (s : State) (i : Nat) : (s.life i).hull = s.hull := by unfold State.life; simp only []; split_ifs <;> simp
@[simp] theorem State.life_compass (s : State) (i : Nat) : (s.life i).compass = s.compass := by unfold State.life; simp only []; split_ifs <;> simp
@[simp] theorem State.life_keys (s : State) (i : Nat) : (s.life i).keys = s.keys := by unfold State.life; simp only []; split_ifs <;> simp
@[simp] theorem State.life_probes (s : State) (i : Nat) : (s.life i).probes = s.probes := by unfold State.life; simp only []; split_ifs <;> simp
@[simp] theorem State.life_datum (s : State) (i : Nat) : (s.life i).datum = s.datum := by unfold State.life; simp only []; split_ifs <;> simp
@[simp] theorem State.life_lattice (s : State) (i : Nat) : (s.life i).lattice = s.lattice := by unfold State.life; simp only []; split_ifs <;> simp
@[simp] theorem State.life_keeper (s : State) (i : Nat) : (s.life i).keeper = s.keeper := by unfold State.life; simp only []; split_ifs <;> simp
@[simp] theorem State.life_pins (s : State) (i : Nat) : (s.life i).pins = s.pins := by unfold State.life; simp only []; split_ifs <;> simp
@[simp] theorem State.life_gop (s : State) (i : Nat) : (s.life i).gop = s.gop := by unfold State.life; simp only []; split_ifs <;> simp
@[simp] theorem State.life_samples (s : State) (i : Nat) : (s.life i).samples = s.samples := by unfold State.life; simp only []; split_ifs <;> simp
@[simp] theorem State.life_bridge (s : State) (i : Nat) : (s.life i).bridge = s.bridge := by unfold State.life; simp only []; split_ifs <;> simp
@[simp] theorem State.life_express (s : State) (i : Nat) : (s.life i).express = s.express := by unfold State.life; simp only []; split_ifs <;> simp
@[simp] theorem State.life_win (s : State) (i : Nat) : (s.life i).win = s.win := by unfold State.life; simp only []; split_ifs <;> simp
@[simp] theorem State.life_usb (s : State) (i : Nat) : (s.life i).usb = s.usb := by unfold State.life; simp only []; split_ifs <;> simp
@[simp] theorem State.life_dsp (s : State) (i : Nat) : (s.life i).dsp = s.dsp := by unfold State.life; simp only []; split_ifs <;> simp
@[simp] theorem State.life_pd (s : State) (i : Nat) : (s.life i).pd = s.pd := by unfold State.life; simp only []; split_ifs <;> simp
@[simp] theorem State.life_power (s : State) (i : Nat) : (s.life i).power = s.power := by unfold State.life; simp only []; split_ifs <;> simp
@[simp] theorem State.life_boot (s : State) (i : Nat) : (s.life i).boot = s.boot := by unfold State.life; simp only []; split_ifs <;> simp
@[simp] theorem State.life_stored (s : State) (i : Nat) : (s.life i).stored = s.stored := by unfold State.life; simp only []; split_ifs <;> simp
@[simp] theorem State.life_diag (s : State) (i : Nat) : (s.life i).diag = s.diag := by unfold State.life; simp only []; split_ifs <;> simp

/-! `ringPut` -/

@[simp] theorem State.ringPut_now (s : State) (e : List Nat) : (s.ringPut e).now = s.now := by unfold State.ringPut; split_ifs <;> rfl
@[simp] theorem State.ringPut_pending (s : State) (e : List Nat) : (s.ringPut e).pending = s.pending := by unfold State.ringPut; split_ifs <;> rfl
@[simp] theorem State.ringPut_out (s : State) (e : List Nat) : (s.ringPut e).out = s.out := by unfold State.ringPut; split_ifs <;> rfl
@[simp] theorem State.ringPut_taken (s : State) (e : List Nat) : (s.ringPut e).taken = s.taken := by unfold State.ringPut; split_ifs <;> rfl
@[simp] theorem State.ringPut_free (s : State) (e : List Nat) : (s.ringPut e).free = s.free := by unfold State.ringPut; split_ifs <;> rfl
@[simp] theorem State.ringPut_nonces (s : State) (e : List Nat) : (s.ringPut e).nonces = s.nonces := by unfold State.ringPut; split_ifs <;> rfl
@[simp] theorem State.ringPut_coreOn (s : State) (e : List Nat) : (s.ringPut e).coreOn = s.coreOn := by unfold State.ringPut; split_ifs <;> rfl
@[simp] theorem State.ringPut_hiLatch (s : State) (e : List Nat) : (s.ringPut e).hiLatch = s.hiLatch := by unfold State.ringPut; split_ifs <;> rfl
@[simp] theorem State.ringPut_hiHold (s : State) (e : List Nat) : (s.ringPut e).hiHold = s.hiHold := by unfold State.ringPut; split_ifs <;> rfl
@[simp] theorem State.ringPut_locks (s : State) (e : List Nat) : (s.ringPut e).locks = s.locks := by unfold State.ringPut; split_ifs <;> rfl
@[simp] theorem State.ringPut_records (s : State) (e : List Nat) : (s.ringPut e).records = s.records := by unfold State.ringPut; split_ifs <;> rfl
@[simp] theorem State.ringPut_pages (s : State) (e : List Nat) : (s.ringPut e).pages = s.pages := by unfold State.ringPut; split_ifs <;> rfl
@[simp] theorem State.ringPut_evt (s : State) (e : List Nat) : (s.ringPut e).evt = s.evt := by unfold State.ringPut; split_ifs <;> rfl
@[simp] theorem State.ringPut_lanes (s : State) (e : List Nat) : (s.ringPut e).lanes = s.lanes := by unfold State.ringPut; split_ifs <;> rfl
@[simp] theorem State.ringPut_chords (s : State) (e : List Nat) : (s.ringPut e).chords = s.chords := by unfold State.ringPut; split_ifs <;> rfl
@[simp] theorem State.ringPut_tuns (s : State) (e : List Nat) : (s.ringPut e).tuns = s.tuns := by unfold State.ringPut; split_ifs <;> rfl
@[simp] theorem State.ringPut_ids (s : State) (e : List Nat) : (s.ringPut e).ids = s.ids := by unfold State.ringPut; split_ifs <;> rfl
@[simp] theorem State.ringPut_hull (s : State) (e : List Nat) : (s.ringPut e).hull = s.hull := by unfold State.ringPut; split_ifs <;> rfl
@[simp] theorem State.ringPut_compass (s : State) (e : List Nat) : (s.ringPut e).compass = s.compass := by unfold State.ringPut; split_ifs <;> rfl
@[simp] theorem State.ringPut_keys (s : State) (e : List Nat) : (s.ringPut e).keys = s.keys := by unfold State.ringPut; split_ifs <;> rfl
@[simp] theorem State.ringPut_probes (s : State) (e : List Nat) : (s.ringPut e).probes = s.probes := by unfold State.ringPut; split_ifs <;> rfl
@[simp] theorem State.ringPut_datum (s : State) (e : List Nat) : (s.ringPut e).datum = s.datum := by unfold State.ringPut; split_ifs <;> rfl
@[simp] theorem State.ringPut_lattice (s : State) (e : List Nat) : (s.ringPut e).lattice = s.lattice := by unfold State.ringPut; split_ifs <;> rfl
@[simp] theorem State.ringPut_keeper (s : State) (e : List Nat) : (s.ringPut e).keeper = s.keeper := by unfold State.ringPut; split_ifs <;> rfl
@[simp] theorem State.ringPut_pins (s : State) (e : List Nat) : (s.ringPut e).pins = s.pins := by unfold State.ringPut; split_ifs <;> rfl
@[simp] theorem State.ringPut_gop (s : State) (e : List Nat) : (s.ringPut e).gop = s.gop := by unfold State.ringPut; split_ifs <;> rfl
@[simp] theorem State.ringPut_samples (s : State) (e : List Nat) : (s.ringPut e).samples = s.samples := by unfold State.ringPut; split_ifs <;> rfl
@[simp] theorem State.ringPut_bridge (s : State) (e : List Nat) : (s.ringPut e).bridge = s.bridge := by unfold State.ringPut; split_ifs <;> rfl
@[simp] theorem State.ringPut_express (s : State) (e : List Nat) : (s.ringPut e).express = s.express := by unfold State.ringPut; split_ifs <;> rfl
@[simp] theorem State.ringPut_win (s : State) (e : List Nat) : (s.ringPut e).win = s.win := by unfold State.ringPut; split_ifs <;> rfl
@[simp] theorem State.ringPut_usb (s : State) (e : List Nat) : (s.ringPut e).usb = s.usb := by unfold State.ringPut; split_ifs <;> rfl
@[simp] theorem State.ringPut_dsp (s : State) (e : List Nat) : (s.ringPut e).dsp = s.dsp := by unfold State.ringPut; split_ifs <;> rfl
@[simp] theorem State.ringPut_pd (s : State) (e : List Nat) : (s.ringPut e).pd = s.pd := by unfold State.ringPut; split_ifs <;> rfl
@[simp] theorem State.ringPut_power (s : State) (e : List Nat) : (s.ringPut e).power = s.power := by unfold State.ringPut; split_ifs <;> rfl
@[simp] theorem State.ringPut_boot (s : State) (e : List Nat) : (s.ringPut e).boot = s.boot := by unfold State.ringPut; split_ifs <;> rfl
@[simp] theorem State.ringPut_stored (s : State) (e : List Nat) : (s.ringPut e).stored = s.stored := by unfold State.ringPut; split_ifs <;> rfl
@[simp] theorem State.ringPut_diag (s : State) (e : List Nat) : (s.ringPut e).diag = s.diag := by unfold State.ringPut; split_ifs <;> rfl

/-! `ring` -/

@[simp] theorem State.ring_now (s : State) (a b c d e : Nat) : (s.ring a b c d e).now = s.now := by unfold State.ring; simp only []; split_ifs <;> simp
@[simp] theorem State.ring_pending (s : State) (a b c d e : Nat) : (s.ring a b c d e).pending = s.pending := by unfold State.ring; simp only []; split_ifs <;> simp
@[simp] theorem State.ring_out (s : State) (a b c d e : Nat) : (s.ring a b c d e).out = s.out := by unfold State.ring; simp only []; split_ifs <;> simp
@[simp] theorem State.ring_taken (s : State) (a b c d e : Nat) : (s.ring a b c d e).taken = s.taken := by unfold State.ring; simp only []; split_ifs <;> simp
@[simp] theorem State.ring_free (s : State) (a b c d e : Nat) : (s.ring a b c d e).free = s.free := by unfold State.ring; simp only []; split_ifs <;> simp
@[simp] theorem State.ring_nonces (s : State) (a b c d e : Nat) : (s.ring a b c d e).nonces = s.nonces := by unfold State.ring; simp only []; split_ifs <;> simp
@[simp] theorem State.ring_coreOn (s : State) (a b c d e : Nat) : (s.ring a b c d e).coreOn = s.coreOn := by unfold State.ring; simp only []; split_ifs <;> simp
@[simp] theorem State.ring_hiLatch (s : State) (a b c d e : Nat) : (s.ring a b c d e).hiLatch = s.hiLatch := by unfold State.ring; simp only []; split_ifs <;> simp
@[simp] theorem State.ring_hiHold (s : State) (a b c d e : Nat) : (s.ring a b c d e).hiHold = s.hiHold := by unfold State.ring; simp only []; split_ifs <;> simp
@[simp] theorem State.ring_locks (s : State) (a b c d e : Nat) : (s.ring a b c d e).locks = s.locks := by unfold State.ring; simp only []; split_ifs <;> simp
@[simp] theorem State.ring_records (s : State) (a b c d e : Nat) : (s.ring a b c d e).records = s.records := by unfold State.ring; simp only []; split_ifs <;> simp
@[simp] theorem State.ring_pages (s : State) (a b c d e : Nat) : (s.ring a b c d e).pages = s.pages := by unfold State.ring; simp only []; split_ifs <;> simp
@[simp] theorem State.ring_evt (s : State) (a b c d e : Nat) : (s.ring a b c d e).evt = s.evt := by unfold State.ring; simp only []; split_ifs <;> simp
@[simp] theorem State.ring_lanes (s : State) (a b c d e : Nat) : (s.ring a b c d e).lanes = s.lanes := by unfold State.ring; simp only []; split_ifs <;> simp
@[simp] theorem State.ring_chords (s : State) (a b c d e : Nat) : (s.ring a b c d e).chords = s.chords := by unfold State.ring; simp only []; split_ifs <;> simp
@[simp] theorem State.ring_tuns (s : State) (a b c d e : Nat) : (s.ring a b c d e).tuns = s.tuns := by unfold State.ring; simp only []; split_ifs <;> simp
@[simp] theorem State.ring_ids (s : State) (a b c d e : Nat) : (s.ring a b c d e).ids = s.ids := by unfold State.ring; simp only []; split_ifs <;> simp
@[simp] theorem State.ring_hull (s : State) (a b c d e : Nat) : (s.ring a b c d e).hull = s.hull := by unfold State.ring; simp only []; split_ifs <;> simp
@[simp] theorem State.ring_compass (s : State) (a b c d e : Nat) : (s.ring a b c d e).compass = s.compass := by unfold State.ring; simp only []; split_ifs <;> simp
@[simp] theorem State.ring_keys (s : State) (a b c d e : Nat) : (s.ring a b c d e).keys = s.keys := by unfold State.ring; simp only []; split_ifs <;> simp
@[simp] theorem State.ring_probes (s : State) (a b c d e : Nat) : (s.ring a b c d e).probes = s.probes := by unfold State.ring; simp only []; split_ifs <;> simp
@[simp] theorem State.ring_datum (s : State) (a b c d e : Nat) : (s.ring a b c d e).datum = s.datum := by unfold State.ring; simp only []; split_ifs <;> simp
@[simp] theorem State.ring_lattice (s : State) (a b c d e : Nat) : (s.ring a b c d e).lattice = s.lattice := by unfold State.ring; simp only []; split_ifs <;> simp
@[simp] theorem State.ring_keeper (s : State) (a b c d e : Nat) : (s.ring a b c d e).keeper = s.keeper := by unfold State.ring; simp only []; split_ifs <;> simp
@[simp] theorem State.ring_pins (s : State) (a b c d e : Nat) : (s.ring a b c d e).pins = s.pins := by unfold State.ring; simp only []; split_ifs <;> simp
@[simp] theorem State.ring_gop (s : State) (a b c d e : Nat) : (s.ring a b c d e).gop = s.gop := by unfold State.ring; simp only []; split_ifs <;> simp
@[simp] theorem State.ring_samples (s : State) (a b c d e : Nat) : (s.ring a b c d e).samples = s.samples := by unfold State.ring; simp only []; split_ifs <;> simp
@[simp] theorem State.ring_bridge (s : State) (a b c d e : Nat) : (s.ring a b c d e).bridge = s.bridge := by unfold State.ring; simp only []; split_ifs <;> simp
@[simp] theorem State.ring_express (s : State) (a b c d e : Nat) : (s.ring a b c d e).express = s.express := by unfold State.ring; simp only []; split_ifs <;> simp
@[simp] theorem State.ring_win (s : State) (a b c d e : Nat) : (s.ring a b c d e).win = s.win := by unfold State.ring; simp only []; split_ifs <;> simp
@[simp] theorem State.ring_usb (s : State) (a b c d e : Nat) : (s.ring a b c d e).usb = s.usb := by unfold State.ring; simp only []; split_ifs <;> simp
@[simp] theorem State.ring_dsp (s : State) (a b c d e : Nat) : (s.ring a b c d e).dsp = s.dsp := by unfold State.ring; simp only []; split_ifs <;> simp
@[simp] theorem State.ring_pd (s : State) (a b c d e : Nat) : (s.ring a b c d e).pd = s.pd := by unfold State.ring; simp only []; split_ifs <;> simp
@[simp] theorem State.ring_power (s : State) (a b c d e : Nat) : (s.ring a b c d e).power = s.power := by unfold State.ring; simp only []; split_ifs <;> simp
@[simp] theorem State.ring_boot (s : State) (a b c d e : Nat) : (s.ring a b c d e).boot = s.boot := by unfold State.ring; simp only []; split_ifs <;> simp
@[simp] theorem State.ring_stored (s : State) (a b c d e : Nat) : (s.ring a b c d e).stored = s.stored := by unfold State.ring; simp only []; split_ifs <;> simp
@[simp] theorem State.ring_diag (s : State) (a b c d e : Nat) : (s.ring a b c d e).diag = s.diag := by unfold State.ring; simp only []; split_ifs <;> simp

/-! `settleVec` -/

@[simp] theorem State.settleVec_now (s : State) (n : Nat) : (s.settleVec n).now = s.now := by unfold State.settleVec; simp only []; split_ifs <;> rfl
@[simp] theorem State.settleVec_pending (s : State) (n : Nat) : (s.settleVec n).pending = s.pending := by unfold State.settleVec; simp only []; split_ifs <;> rfl
@[simp] theorem State.settleVec_taken (s : State) (n : Nat) : (s.settleVec n).taken = s.taken := by unfold State.settleVec; simp only []; split_ifs <;> rfl
@[simp] theorem State.settleVec_free (s : State) (n : Nat) : (s.settleVec n).free = s.free := by unfold State.settleVec; simp only []; split_ifs <;> rfl
@[simp] theorem State.settleVec_nonces (s : State) (n : Nat) : (s.settleVec n).nonces = s.nonces := by unfold State.settleVec; simp only []; split_ifs <;> rfl
@[simp] theorem State.settleVec_coreOn (s : State) (n : Nat) : (s.settleVec n).coreOn = s.coreOn := by unfold State.settleVec; simp only []; split_ifs <;> rfl
@[simp] theorem State.settleVec_regs (s : State) (n : Nat) : (s.settleVec n).regs = s.regs := by unfold State.settleVec; simp only []; split_ifs <;> rfl
@[simp] theorem State.settleVec_hiLatch (s : State) (n : Nat) : (s.settleVec n).hiLatch = s.hiLatch := by unfold State.settleVec; simp only []; split_ifs <;> rfl
@[simp] theorem State.settleVec_hiHold (s : State) (n : Nat) : (s.settleVec n).hiHold = s.hiHold := by unfold State.settleVec; simp only []; split_ifs <;> rfl
@[simp] theorem State.settleVec_locks (s : State) (n : Nat) : (s.settleVec n).locks = s.locks := by unfold State.settleVec; simp only []; split_ifs <;> rfl
@[simp] theorem State.settleVec_records (s : State) (n : Nat) : (s.settleVec n).records = s.records := by unfold State.settleVec; simp only []; split_ifs <;> rfl
@[simp] theorem State.settleVec_pages (s : State) (n : Nat) : (s.settleVec n).pages = s.pages := by unfold State.settleVec; simp only []; split_ifs <;> rfl
@[simp] theorem State.settleVec_lanes (s : State) (n : Nat) : (s.settleVec n).lanes = s.lanes := by unfold State.settleVec; simp only []; split_ifs <;> rfl
@[simp] theorem State.settleVec_chords (s : State) (n : Nat) : (s.settleVec n).chords = s.chords := by unfold State.settleVec; simp only []; split_ifs <;> rfl
@[simp] theorem State.settleVec_tuns (s : State) (n : Nat) : (s.settleVec n).tuns = s.tuns := by unfold State.settleVec; simp only []; split_ifs <;> rfl
@[simp] theorem State.settleVec_ids (s : State) (n : Nat) : (s.settleVec n).ids = s.ids := by unfold State.settleVec; simp only []; split_ifs <;> rfl
@[simp] theorem State.settleVec_hull (s : State) (n : Nat) : (s.settleVec n).hull = s.hull := by unfold State.settleVec; simp only []; split_ifs <;> rfl
@[simp] theorem State.settleVec_compass (s : State) (n : Nat) : (s.settleVec n).compass = s.compass := by unfold State.settleVec; simp only []; split_ifs <;> rfl
@[simp] theorem State.settleVec_keys (s : State) (n : Nat) : (s.settleVec n).keys = s.keys := by unfold State.settleVec; simp only []; split_ifs <;> rfl
@[simp] theorem State.settleVec_probes (s : State) (n : Nat) : (s.settleVec n).probes = s.probes := by unfold State.settleVec; simp only []; split_ifs <;> rfl
@[simp] theorem State.settleVec_datum (s : State) (n : Nat) : (s.settleVec n).datum = s.datum := by unfold State.settleVec; simp only []; split_ifs <;> rfl
@[simp] theorem State.settleVec_lattice (s : State) (n : Nat) : (s.settleVec n).lattice = s.lattice := by unfold State.settleVec; simp only []; split_ifs <;> rfl
@[simp] theorem State.settleVec_keeper (s : State) (n : Nat) : (s.settleVec n).keeper = s.keeper := by unfold State.settleVec; simp only []; split_ifs <;> rfl
@[simp] theorem State.settleVec_pins (s : State) (n : Nat) : (s.settleVec n).pins = s.pins := by unfold State.settleVec; simp only []; split_ifs <;> rfl
@[simp] theorem State.settleVec_gop (s : State) (n : Nat) : (s.settleVec n).gop = s.gop := by unfold State.settleVec; simp only []; split_ifs <;> rfl
@[simp] theorem State.settleVec_samples (s : State) (n : Nat) : (s.settleVec n).samples = s.samples := by unfold State.settleVec; simp only []; split_ifs <;> rfl
@[simp] theorem State.settleVec_bridge (s : State) (n : Nat) : (s.settleVec n).bridge = s.bridge := by unfold State.settleVec; simp only []; split_ifs <;> rfl
@[simp] theorem State.settleVec_express (s : State) (n : Nat) : (s.settleVec n).express = s.express := by unfold State.settleVec; simp only []; split_ifs <;> rfl
@[simp] theorem State.settleVec_win (s : State) (n : Nat) : (s.settleVec n).win = s.win := by unfold State.settleVec; simp only []; split_ifs <;> rfl
@[simp] theorem State.settleVec_usb (s : State) (n : Nat) : (s.settleVec n).usb = s.usb := by unfold State.settleVec; simp only []; split_ifs <;> rfl
@[simp] theorem State.settleVec_dsp (s : State) (n : Nat) : (s.settleVec n).dsp = s.dsp := by unfold State.settleVec; simp only []; split_ifs <;> rfl
@[simp] theorem State.settleVec_pd (s : State) (n : Nat) : (s.settleVec n).pd = s.pd := by unfold State.settleVec; simp only []; split_ifs <;> rfl
@[simp] theorem State.settleVec_power (s : State) (n : Nat) : (s.settleVec n).power = s.power := by unfold State.settleVec; simp only []; split_ifs <;> rfl
@[simp] theorem State.settleVec_boot (s : State) (n : Nat) : (s.settleVec n).boot = s.boot := by unfold State.settleVec; simp only []; split_ifs <;> rfl
@[simp] theorem State.settleVec_stored (s : State) (n : Nat) : (s.settleVec n).stored = s.stored := by unfold State.settleVec; simp only []; split_ifs <;> rfl
@[simp] theorem State.settleVec_log (s : State) (n : Nat) : (s.settleVec n).log = s.log := by unfold State.settleVec; simp only []; split_ifs <;> rfl
@[simp] theorem State.settleVec_diag (s : State) (n : Nat) : (s.settleVec n).diag = s.diag := by unfold State.settleVec; simp only []; split_ifs <;> rfl

/-! `settle` -/

@[simp] theorem State.settle_now (s : State) : (s.settle).now = s.now := settle_keeps (fun s => s.now) (fun n s => s.settleVec_now n) s
@[simp] theorem State.settle_pending (s : State) : (s.settle).pending = s.pending := settle_keeps (fun s => s.pending) (fun n s => s.settleVec_pending n) s
@[simp] theorem State.settle_taken (s : State) : (s.settle).taken = s.taken := settle_keeps (fun s => s.taken) (fun n s => s.settleVec_taken n) s
@[simp] theorem State.settle_free (s : State) : (s.settle).free = s.free := settle_keeps (fun s => s.free) (fun n s => s.settleVec_free n) s
@[simp] theorem State.settle_nonces (s : State) : (s.settle).nonces = s.nonces := settle_keeps (fun s => s.nonces) (fun n s => s.settleVec_nonces n) s
@[simp] theorem State.settle_coreOn (s : State) : (s.settle).coreOn = s.coreOn := settle_keeps (fun s => s.coreOn) (fun n s => s.settleVec_coreOn n) s
@[simp] theorem State.settle_regs (s : State) : (s.settle).regs = s.regs := settle_keeps (fun s => s.regs) (fun n s => s.settleVec_regs n) s
@[simp] theorem State.settle_hiLatch (s : State) : (s.settle).hiLatch = s.hiLatch := settle_keeps (fun s => s.hiLatch) (fun n s => s.settleVec_hiLatch n) s
@[simp] theorem State.settle_hiHold (s : State) : (s.settle).hiHold = s.hiHold := settle_keeps (fun s => s.hiHold) (fun n s => s.settleVec_hiHold n) s
@[simp] theorem State.settle_locks (s : State) : (s.settle).locks = s.locks := settle_keeps (fun s => s.locks) (fun n s => s.settleVec_locks n) s
@[simp] theorem State.settle_records (s : State) : (s.settle).records = s.records := settle_keeps (fun s => s.records) (fun n s => s.settleVec_records n) s
@[simp] theorem State.settle_pages (s : State) : (s.settle).pages = s.pages := settle_keeps (fun s => s.pages) (fun n s => s.settleVec_pages n) s
@[simp] theorem State.settle_lanes (s : State) : (s.settle).lanes = s.lanes := settle_keeps (fun s => s.lanes) (fun n s => s.settleVec_lanes n) s
@[simp] theorem State.settle_chords (s : State) : (s.settle).chords = s.chords := settle_keeps (fun s => s.chords) (fun n s => s.settleVec_chords n) s
@[simp] theorem State.settle_tuns (s : State) : (s.settle).tuns = s.tuns := settle_keeps (fun s => s.tuns) (fun n s => s.settleVec_tuns n) s
@[simp] theorem State.settle_ids (s : State) : (s.settle).ids = s.ids := settle_keeps (fun s => s.ids) (fun n s => s.settleVec_ids n) s
@[simp] theorem State.settle_hull (s : State) : (s.settle).hull = s.hull := settle_keeps (fun s => s.hull) (fun n s => s.settleVec_hull n) s
@[simp] theorem State.settle_compass (s : State) : (s.settle).compass = s.compass := settle_keeps (fun s => s.compass) (fun n s => s.settleVec_compass n) s
@[simp] theorem State.settle_keys (s : State) : (s.settle).keys = s.keys := settle_keeps (fun s => s.keys) (fun n s => s.settleVec_keys n) s
@[simp] theorem State.settle_probes (s : State) : (s.settle).probes = s.probes := settle_keeps (fun s => s.probes) (fun n s => s.settleVec_probes n) s
@[simp] theorem State.settle_datum (s : State) : (s.settle).datum = s.datum := settle_keeps (fun s => s.datum) (fun n s => s.settleVec_datum n) s
@[simp] theorem State.settle_lattice (s : State) : (s.settle).lattice = s.lattice := settle_keeps (fun s => s.lattice) (fun n s => s.settleVec_lattice n) s
@[simp] theorem State.settle_keeper (s : State) : (s.settle).keeper = s.keeper := settle_keeps (fun s => s.keeper) (fun n s => s.settleVec_keeper n) s
@[simp] theorem State.settle_pins (s : State) : (s.settle).pins = s.pins := settle_keeps (fun s => s.pins) (fun n s => s.settleVec_pins n) s
@[simp] theorem State.settle_gop (s : State) : (s.settle).gop = s.gop := settle_keeps (fun s => s.gop) (fun n s => s.settleVec_gop n) s
@[simp] theorem State.settle_samples (s : State) : (s.settle).samples = s.samples := settle_keeps (fun s => s.samples) (fun n s => s.settleVec_samples n) s
@[simp] theorem State.settle_bridge (s : State) : (s.settle).bridge = s.bridge := settle_keeps (fun s => s.bridge) (fun n s => s.settleVec_bridge n) s
@[simp] theorem State.settle_express (s : State) : (s.settle).express = s.express := settle_keeps (fun s => s.express) (fun n s => s.settleVec_express n) s
@[simp] theorem State.settle_win (s : State) : (s.settle).win = s.win := settle_keeps (fun s => s.win) (fun n s => s.settleVec_win n) s
@[simp] theorem State.settle_usb (s : State) : (s.settle).usb = s.usb := settle_keeps (fun s => s.usb) (fun n s => s.settleVec_usb n) s
@[simp] theorem State.settle_dsp (s : State) : (s.settle).dsp = s.dsp := settle_keeps (fun s => s.dsp) (fun n s => s.settleVec_dsp n) s
@[simp] theorem State.settle_pd (s : State) : (s.settle).pd = s.pd := settle_keeps (fun s => s.pd) (fun n s => s.settleVec_pd n) s
@[simp] theorem State.settle_power (s : State) : (s.settle).power = s.power := settle_keeps (fun s => s.power) (fun n s => s.settleVec_power n) s
@[simp] theorem State.settle_boot (s : State) : (s.settle).boot = s.boot := settle_keeps (fun s => s.boot) (fun n s => s.settleVec_boot n) s
@[simp] theorem State.settle_stored (s : State) : (s.settle).stored = s.stored := settle_keeps (fun s => s.stored) (fun n s => s.settleVec_stored n) s
@[simp] theorem State.settle_log (s : State) : (s.settle).log = s.log := settle_keeps (fun s => s.log) (fun n s => s.settleVec_log n) s
@[simp] theorem State.settle_diag (s : State) : (s.settle).diag = s.diag := settle_keeps (fun s => s.diag) (fun n s => s.settleVec_diag n) s

/-- Two states are equal when every field is. -/
theorem State.eq_of {a b : State} (h0 : a.now = b.now) (h1 : a.pending = b.pending) (h2 : a.out = b.out) (h3 : a.taken = b.taken)
    (h4 : a.free = b.free) (h5 : a.nonces = b.nonces) (h6 : a.coreOn = b.coreOn) (h7 : a.regs = b.regs) (h8 : a.hiLatch = b.hiLatch)
    (h9 : a.hiHold = b.hiHold) (h10 : a.locks = b.locks) (h11 : a.records = b.records) (h12 : a.pages = b.pages) (h13 : a.evt = b.evt)
    (h14 : a.lanes = b.lanes) (h15 : a.chords = b.chords) (h16 : a.tuns = b.tuns) (h17 : a.ids = b.ids) (h18 : a.hull = b.hull) (h19 :
    a.compass = b.compass) (h20 : a.keys = b.keys) (h21 : a.probes = b.probes) (h22 : a.datum = b.datum) (h23 : a.lattice = b.lattice)
    (h24 : a.keeper = b.keeper) (h25 : a.pins = b.pins) (h26 : a.gop = b.gop) (h27 : a.samples = b.samples) (h28 : a.bridge =
    b.bridge) (h29 : a.express = b.express) (h30 : a.win = b.win) (h31 : a.usb = b.usb) (h32 : a.dsp = b.dsp) (h33 : a.pd = b.pd) (h34
    : a.power = b.power) (h35 : a.boot = b.boot) (h36 : a.stored = b.stored) (h37 : a.log = b.log) (h38 : a.diag = b.diag) : a = b :=
    by
  cases a; cases b; simp_all

end Sys2Proof.Machine
end

