-- ==== Sys2Proof/Laws/Ops.lean ====
section
/-!
SUPPORT. What each shared operation does: registers, events, the event unit's evaluation.
-/
namespace Sys2Proof.Machine

/-! ## Registers -/

/-- A field reads as the register file says. -/
theorem State.rd_of_regs {s t : State} (h : t.regs = s.regs) (f : Field) : t.rd f = s.rd f := by unfold State.rd; rw [h]

/-- A field just written reads as the value written, reduced to its width. -/
@[simp] theorem State.rd_wr_same (s : State) (f : Field) (v : Nat) : (s.wr f v).rd f = v % 2 ^ f.width := by
  unfold State.rd State.wr
  simp only [Map.get_set_same]
  split_ifs with h <;> simp [h]

/-- Writing a field leaves every other field alone. -/
theorem State.rd_wr_other (s : State) {f g : Field} (v : Nat) (h : g.key ≠ f.key) : (s.wr f v).rd g = s.rd g := by
  unfold State.rd State.wr
  simp only [Map.get_set_other _ _ h]

/-- A count reads one higher until it saturates. -/
@[simp] theorem State.rd_bump_same (s : State) (f : Field) : (s.bump f).rd f = satAdd f.width (s.rd f) 1 % 2 ^ f.width := s.rd_wr_same f _
theorem State.rd_bump_other (s : State) {f g : Field} (h : g.key ≠ f.key) : (s.bump f).rd g = s.rd g := s.rd_wr_other _ h
theorem State.rd_wrB_other (s : State) {f g : Field} (b : Bool) (h : g.key ≠ f.key) : (s.wrB f b).rd g = s.rd g := s.rd_wr_other _ h
@[simp] theorem State.rd_emit (s : State) (e : Emit) (f : Field) : (s.emit e).rd f = s.rd f := rfl
@[simp] theorem State.rd_drawn (s : State) (f : Field) : s.drawn.rd f = s.rd f := rfl
@[simp] theorem State.rd_setRec (s : State) (a b c d e v : Nat) (f : Field) : (s.setRec a b c d e v).rd f = s.rd f := rfl
@[simp] theorem State.rd_onLane (s : State) (p : Nat) (g : Lane → Lane) (f : Field) : (s.onLane p g).rd f = s.rd f := rfl
@[simp] theorem State.rd_onChord (s : State) (p : Nat) (g : Chord → Chord) (f : Field) : (s.onChord p g).rd f = s.rd f := rfl
@[simp] theorem State.rd_onTun (s : State) (t : Nat) (g : Tun → Tun) (f : Field) : (s.onTun t g).rd f = s.rd f := rfl
@[simp] theorem State.rd_onEntry (s : State) (t : Nat) (g : Entry → Entry) (f : Field) : (s.onEntry t g).rd f = s.rd f := rfl
@[simp] theorem State.rd_settle (s : State) (f : Field) : s.settle.rd f = s.rd f := State.rd_of_regs (by simp) f
@[simp] theorem State.rd_capture (s : State) (a b c d e : Nat) (f : Field) : (s.capture a b c d e).rd f = s.rd f := rfl
@[simp] theorem State.rd_captureRaw (s : State) (a : Nat) (c : BitVec 40) (f : Field) : (s.captureRaw a c).rd f = s.rd f :=
  State.rd_of_regs (by simp) f

theorem State.rd_logEvent (s : State) (e : LogEntry) {f : Field} (h : f.key ≠ EVT_LOG_STAT_OVF.key) : (s.logEvent e).rd f = s.rd f := by
  unfold State.logEvent
  split_ifs
  · rfl
  · exact State.rd_bump_other _ h

theorem State.rd_pageEvent (s : State) (a : Nat) (m : BitVec 32) (x y : Bool) (t : Nat) {f : Field} (h : f.key ≠ EVT_LOG_STAT_OVF.key) :
    (s.pageEvent a m x y t).rd f = s.rd f := by
  unfold State.pageEvent
  simp only []
  split_ifs
  all_goals first | exact State.rd_logEvent _ _ h | rfl

/-- An event changes no register field but the count of events not logged. -/
theorem State.rd_ev (s : State) (a : Nat) (l : List Nat) {f : Field} (h : f.key ≠ EVT_LOG_STAT_OVF.key) : (s.ev a l).rd f = s.rd f :=
  State.rd_pageEvent _ _ _ _ _ _ h

theorem State.rd_evNew (s : State) (a : Nat) (l : List Nat) {f : Field} (h : f.key ≠ EVT_LOG_STAT_OVF.key) : (s.evNew a l).rd f = s.rd f :=
  State.rd_ev _ _ _ h

theorem State.rd_life (s : State) (i : Nat) {f : Field} (h : f.key ≠ EVT_LOG_STAT_OVF.key) : (s.life i).rd f = s.rd f := by
  unfold State.life
  simp only []
  split_ifs
  all_goals first | rfl | exact State.rd_ev _ _ _ h

theorem State.rd_ringPut (s : State) (e : List Nat) {f : Field} (h : f.key ≠ LOG_RING_STAT_WRAPS.key) : (s.ringPut e).rd f = s.rd f := by
  unfold State.ringPut
  split_ifs
  · rfl
  · exact State.rd_bump_other _ h

theorem State.rd_ring (s : State) (a b c d e : Nat) {f : Field} (h : f.key ≠ LOG_RING_STAT_WRAPS.key) :
    (s.ring a b c d e).rd f = s.rd f := by
  unfold State.ring
  simp only []
  split_ifs
  all_goals first | exact State.rd_ringPut _ _ h | rfl

/-! ## Sub-states -/

@[simp] theorem State.lane_onLane_same (s : State) (p : Nat) (f : Lane → Lane) : (s.onLane p f).lane p = f (s.lane p) := Map.get_upd_same _ _ _
theorem State.lane_onLane_other (s : State) {p q : Nat} (f : Lane → Lane) (h : q ≠ p) : (s.onLane p f).lane q = s.lane q :=
  Map.get_upd_other _ _ h
@[simp] theorem State.chord_onChord_same (s : State) (p : Nat) (f : Chord → Chord) : (s.onChord p f).chord p = f (s.chord p) :=
  Map.get_upd_same _ _ _
theorem State.chord_onChord_other (s : State) {p q : Nat} (f : Chord → Chord) (h : q ≠ p) : (s.onChord p f).chord q = s.chord q :=
  Map.get_upd_other _ _ h
@[simp] theorem State.tun_onTun_same (s : State) (t : Nat) (f : Tun → Tun) : (s.onTun t f).tun t = f (s.tun t) := Map.get_upd_same _ _ _
theorem State.tun_onTun_other (s : State) {t u : Nat} (f : Tun → Tun) (h : u ≠ t) : (s.onTun t f).tun u = s.tun u := Map.get_upd_other _ _ h
theorem State.lane_of {s t : State} (h : t.lanes = s.lanes) (p : Nat) : t.lane p = s.lane p := by unfold State.lane; rw [h]
theorem State.chord_of {s t : State} (h : t.chords = s.chords) (p : Nat) : t.chord p = s.chord p := by unfold State.chord; rw [h]
theorem State.tun_of {s t : State} (h : t.tuns = s.tuns) (p : Nat) : t.tun p = s.tun p := by unfold State.tun; rw [h]

/-! ## Events -/

@[simp] theorem State.logEvent_next (s : State) (e : LogEntry) : (s.logEvent e).evt.next = s.evt.next := by
  unfold State.logEvent; split_ifs <;> rfl

@[simp] theorem State.logEvent_arm (s : State) (e : LogEntry) : (s.logEvent e).evt.arm = s.evt.arm := by
  unfold State.logEvent; split_ifs <;> rfl

/-- R551: an event sets its bits in the page's EV_STAT. -/
theorem State.pageEvent_stat (s : State) (a : Nat) (m : BitVec 32) (x y : Bool) (t : Nat) (h : s.coreOn = true ∨ powerPage a = true) :
    ((s.pageEvent a m x y t).pages.get a).stat = (s.pages.get a).stat ||| m := by
  unfold State.pageEvent
  simp only []
  split_ifs
  all_goals simp_all

/-- R551: an event counts once in its cycle. -/
theorem State.pageEvent_count (s : State) (a : Nat) (m : BitVec 32) (x y : Bool) (t : Nat) (h : s.coreOn = true ∨ powerPage a = true) :
    ((s.pageEvent a m x y t).pages.get a).count =
      if s.sameEvent a (s.pages.get a) then (s.pages.get a).count else (s.pages.get a).count + 1 := by
  unfold State.pageEvent
  simp only []
  split_ifs
  all_goals simp_all

/-- R551: an event changes no other page. -/
theorem State.pageEvent_other (s : State) {a b : Nat} (m : BitVec 32) (x y : Bool) (t : Nat) (h : b ≠ a) :
    (s.pageEvent a m x y t).pages.get b = s.pages.get b := by
  unfold State.pageEvent
  simp only []
  split_ifs
  all_goals simp [Map.get_set_other _ _ h]

/-- R551: a hardware set of bits of a page. -/
theorem State.ev_stat (s : State) (a : Nat) (l : List Nat) (h : s.coreOn = true ∨ powerPage a = true) :
    ((s.ev a l).pages.get a).stat = (s.pages.get a).stat ||| (evMask l &&& pageCap a) := State.pageEvent_stat _ _ _ _ _ _ h

theorem State.ev_count (s : State) (a : Nat) (l : List Nat) (h : s.coreOn = true ∨ powerPage a = true) :
    ((s.ev a l).pages.get a).count = if s.sameEvent a (s.pages.get a) then (s.pages.get a).count else (s.pages.get a).count + 1 :=
  State.pageEvent_count _ _ _ _ _ _ h

theorem State.ev_other (s : State) {a b : Nat} (l : List Nat) (h : b ≠ a) : (s.ev a l).pages.get b = s.pages.get b :=
  State.pageEvent_other _ _ _ _ _ h

/-- R557: an event of a core die that runs takes the next sequence number, once in its cycle. -/
theorem State.pageEvent_next (s : State) (a : Nat) (m : BitVec 32) (x y : Bool) (t : Nat) (h : s.coreOn = true) :
    (s.pageEvent a m x y t).evt.next = if s.sameEvent a (s.pages.get a) then s.evt.next else s.evt.next + 1 := by
  unfold State.pageEvent
  simp only []
  split_ifs
  all_goals simp_all

theorem State.ev_next (s : State) (a : Nat) (l : List Nat) (h : s.coreOn = true) :
    (s.ev a l).evt.next = if s.sameEvent a (s.pages.get a) then s.evt.next else s.evt.next + 1 :=
  State.pageEvent_next _ _ _ _ _ _ h

/-! ## The event unit's evaluation (R554, R556) -/

/-- The evaluation changes nothing but the event unit and the record of what is sent. -/
theorem State.settle_shape (s : State) : s.settle = { s with evt := s.settle.evt, out := s.settle.out } := by
  apply State.eq_of <;> simp

theorem State.level_of {s t : State} (h : t.pages = s.pages) (n : Nat) : t.level n = s.level n := by unfold State.level; rw [h]

/-- What the evaluation of one vector does to ARM. -/
theorem State.settleVec_arm (s : State) (n : Nat) :
    (s.settleVec n).evt.arm = if s.level n && s.evt.arm.getLsbD n && s.rdB EVT_STAT_MSIX_READY then s.evt.arm &&& ~~~(1#64 <<< n) else s.evt.arm := by
  unfold State.settleVec
  simp only []
  split_ifs <;> rfl

end Sys2Proof.Machine
end

