-- ==== Sys2Proof/Laws/Settle.lean ====
section
/-!
SUPPORT. What the event unit's evaluation does to the event unit, and that it leaves the event unit settled (R554, R556).
-/
namespace Sys2Proof.Machine

@[simp] theorem settleVec_next (s : State) (n : Nat) : (s.settleVec n).evt.next = s.evt.next := by
  unfold State.settleVec; simp only []; split_ifs <;> rfl
@[simp] theorem settleVec_evtLog (s : State) (n : Nat) : (s.settleVec n).evt.log = s.evt.log := by
  unfold State.settleVec; simp only []; split_ifs <;> rfl
@[simp] theorem settleVec_evtOut (s : State) (n : Nat) : (s.settleVec n).evt.out = s.evt.out := by
  unfold State.settleVec; simp only []; split_ifs <;> rfl
@[simp] theorem settleVec_msix (s : State) (n : Nat) : (s.settleVec n).evt.msix = s.evt.msix := by
  unfold State.settleVec; simp only []; split_ifs <;> rfl
@[simp] theorem settleVec_pba1 (s : State) (n : Nat) : (s.settleVec n).evt.pba1 = s.evt.pba1 := by
  unfold State.settleVec; simp only []; split_ifs <;> rfl
@[simp] theorem settleVec_pba2 (s : State) (n : Nat) : (s.settleVec n).evt.pba2 = s.evt.pba2 := by
  unfold State.settleVec; simp only []; split_ifs <;> rfl

@[simp] theorem State.settle_next (s : State) : s.settle.evt.next = s.evt.next := settle_keeps (fun s => s.evt.next) (fun n s => settleVec_next s n) s
@[simp] theorem State.settle_evtLog (s : State) : s.settle.evt.log = s.evt.log := settle_keeps (fun s => s.evt.log) (fun n s => settleVec_evtLog s n) s
@[simp] theorem State.settle_evtOut (s : State) : s.settle.evt.out = s.evt.out := settle_keeps (fun s => s.evt.out) (fun n s => settleVec_evtOut s n) s
@[simp] theorem State.settle_msix (s : State) : s.settle.evt.msix = s.evt.msix := settle_keeps (fun s => s.evt.msix) (fun n s => settleVec_msix s n) s
@[simp] theorem State.settle_pba1 (s : State) : s.settle.evt.pba1 = s.evt.pba1 := settle_keeps (fun s => s.evt.pba1) (fun n s => settleVec_pba1 s n) s
@[simp] theorem State.settle_pba2 (s : State) : s.settle.evt.pba2 = s.evt.pba2 := settle_keeps (fun s => s.evt.pba2) (fun n s => settleVec_pba2 s n) s

/-- The evaluation of a vector sends at most one message, behind what was sent before. -/
theorem settleVec_out (s : State) (n : Nat) : s.out <+: (s.settleVec n).out := by
  unfold State.settleVec
  simp only []
  split_ifs
  all_goals first | exact List.prefix_refl _ | exact List.prefix_append _ _

/-- Nothing that was sent is taken back. -/
theorem State.settle_out (s : State) : s.out <+: s.settle.out := by
  have key : ∀ (l : List Nat) (u : State), u.out <+: (u.each l State.settleVec).out := by
    intro l
    induction l with
    | nil => intro u; exact List.prefix_refl _
    | cons n l ih => intro u; exact (settleVec_out u n).trans (ih _)
  unfold State.settle
  split_ifs
  · exact key _ _
  · exact List.prefix_refl _

theorem State.mem_settle_out {s : State} {e : Emit} (h : e ∈ s.out) : e ∈ s.settle.out := s.settle_out.subset h

/-- Without MSIX_READY the evaluation leaves ARM alone. -/
theorem State.settle_arm_off (s : State) (h : s.rdB EVT_STAT_MSIX_READY = false) : s.settle.evt.arm = s.evt.arm := by
  have key : ∀ (l : List Nat) (u : State), u.rdB EVT_STAT_MSIX_READY = false → (u.each l State.settleVec).evt.arm = u.evt.arm := by
    intro l
    induction l with
    | nil => intro u _; rfl
    | cons n l ih =>
      intro u hu
      rw [State.each_cons, ih]
      · rw [State.settleVec_arm]; simp [hu]
      · unfold State.rdB; rw [State.rd_of_regs (s := u) (by simp)]; exact hu
  unfold State.settle
  split_ifs
  · exact key _ _ h
  · rfl

/-- A vector's own ARM bit and pending bit after its evaluation. -/
theorem settleVec_own (s : State) (n : Nat) (hn : n < 64) :
    ((s.settleVec n).level n = true → (s.settleVec n).rdB EVT_STAT_MSIX_READY = true → (s.settleVec n).evt.arm.getLsbD n = false) ∧
    ((s.settleVec n).level n = false → (s.settleVec n).evt.pba0.getLsbD n = false) := by
  have hl : (s.settleVec n).level n = s.level n := State.level_of (by simp) n
  have hr : (s.settleVec n).rdB EVT_STAT_MSIX_READY = s.rdB EVT_STAT_MSIX_READY := by
    unfold State.rdB; rw [State.rd_of_regs (s := s) (by simp)]
  rw [hl, hr]
  constructor
  · intro h1 h2
    rw [State.settleVec_arm]
    by_cases h3 : s.evt.arm.getLsbD n = true
    · simp [h1, h2, h3, hn]
    · simp [h1, h2, h3]
  · intro h1
    unfold State.settleVec
    simp [h1, hn]

/-- The evaluation of a vector leaves the bits of the others alone. -/
theorem settleVec_others (s : State) {n m : Nat} (hm : m < 64) (h : m ≠ n) :
    (s.settleVec n).evt.arm.getLsbD m = s.evt.arm.getLsbD m ∧ (s.settleVec n).evt.pba0.getLsbD m = s.evt.pba0.getLsbD m := by
  have hb : (1#64 <<< n).getLsbD m = false := by
    simp only [BitVec.getLsbD_shiftLeft, BitVec.getLsbD_one]
    rcases Nat.lt_or_ge m n with h1 | h1
    · simp [h1]
    · have : m - n ≠ 0 := by omega
      simp [this]
  constructor
  · rw [State.settleVec_arm]
    split_ifs
    · rw [BitVec.getLsbD_and, BitVec.getLsbD_not, hb]; simp [hm]
    · rfl
  · unfold State.settleVec
    simp only []
    split_ifs
    all_goals first
      | rfl
      | (show (s.evt.pba0 ||| 1#64 <<< n).getLsbD m = _
         rw [BitVec.getLsbD_or, hb]; simp)
      | (show (s.evt.pba0 &&& ~~~(1#64 <<< n)).getLsbD m = _
         rw [BitVec.getLsbD_and, BitVec.getLsbD_not, hb]; simp [hm])

/-- R556: after the evaluation the event unit is settled. -/
theorem State.settle_settled (s : State) : s.settle.settled := by
  have key : ∀ (l : List Nat) (u : State), l.Nodup → (∀ n ∈ l, n < 64) → ∀ n ∈ l,
      ((u.each l State.settleVec).level n = true → (u.each l State.settleVec).rdB EVT_STAT_MSIX_READY = true →
        (u.each l State.settleVec).evt.arm.getLsbD n = false) ∧
      ((u.each l State.settleVec).level n = false → (u.each l State.settleVec).evt.pba0.getLsbD n = false) := by
    intro l
    induction l with
    | nil => intro _ _ _ n hn; simp at hn
    | cons a l ih =>
      intro u hd h64 n hn
      have hd' := List.nodup_cons.1 hd
      rw [State.each_cons]
      rcases List.mem_cons.1 hn with rfl | hn
      · have h0 := settleVec_own u n (h64 n (by simp))
        have hk : ∀ (l : List Nat) (w : State), n ∉ l → (w.each l State.settleVec).evt.arm.getLsbD n = w.evt.arm.getLsbD n ∧
            (w.each l State.settleVec).evt.pba0.getLsbD n = w.evt.pba0.getLsbD n := by
          intro l
          induction l with
          | nil => intro w _; exact ⟨rfl, rfl⟩
          | cons b l ih2 =>
            intro w hb
            rw [State.each_cons]
            have h1 := ih2 (w.settleVec b) (fun x => hb (List.mem_cons_of_mem _ x))
            have h2 := settleVec_others w (n := b) (m := n) (h64 n (by simp)) (fun e => hb (e ▸ List.mem_cons_self))
            exact ⟨h1.1.trans h2.1, h1.2.trans h2.2⟩
        have h1 := hk l (u.settleVec n) hd'.1
        have hl : ((u.settleVec n).each l State.settleVec).level n = (u.settleVec n).level n :=
          State.level_of (each_keeps l State.settleVec (fun s => s.pages) (fun n s => s.settleVec_pages n) _) n
        have hr : ((u.settleVec n).each l State.settleVec).rdB EVT_STAT_MSIX_READY = (u.settleVec n).rdB EVT_STAT_MSIX_READY := by
          unfold State.rdB
          rw [State.rd_of_regs (each_keeps l State.settleVec (fun s => s.regs) (fun n s => s.settleVec_regs n) _)]
        rw [hl, hr, h1.1, h1.2]
        exact h0
      · exact ih (u.settleVec a) hd'.2 (fun m hm => h64 m (List.mem_cons_of_mem _ hm)) n hn
  intro n hn
  unfold State.settle
  split_ifs with h
  · exact key _ _ List.nodup_range (fun m hm => by simpa using hm) n (by simpa using hn)
  · simp only [Bool.or_eq_true, decide_eq_true_eq, not_or, ne_eq, not_not, Bool.not_eq_true] at h
    refine ⟨fun _ h2 => ?_, fun _ => ?_⟩
    · rw [h.1] at h2; exact absurd h2 (by simp)
    · rw [h.2]; simp

/-! ## The words of the statements -/

@[simp] theorem State.raised_settle (s t : State) (p : Nat) (l : List Nat) : s.raised t.settle p l ↔ s.raised t p l := by
  unfold State.raised; simp

@[simp] theorem State.regsBut_settle (s t : State) (l : List Field) : s.regsBut t.settle l ↔ s.regsBut t l := by
  unfold State.regsBut; simp

/-- An event raises its bits (R551). -/
theorem State.raised_ev (s : State) (p : Nat) (l : List Nat) (h : s.coreOn = true ∨ powerPage p = true)
    (hm : evMask l &&& pageCap p = evMask l) : s.raised (s.ev p l) p l :=
  ⟨(s.ev_stat p l h).trans (by rw [hm]), s.ev_count p l h⟩

/-- An event behind a change that leaves the pages alone. -/
theorem State.raised_ev_of {s u : State} (p : Nat) (l : List Nat) (hp : u.pages = s.pages) (hn : u.now = s.now) (h : u.coreOn = true ∨ powerPage p = true)
    (hm : evMask l &&& pageCap p = evMask l) : s.raised (u.ev p l) p l := by
  have := u.raised_ev p l h hm
  unfold State.raised State.sameEvent at *
  rw [← hp, ← hn]; exact this

/-- A count that saturates fits its width. -/
theorem mod_satAdd (n v d : Nat) : satAdd n v d % 2 ^ n = satAdd n v d := by
  unfold satAdd; apply Nat.mod_eq_of_lt; have := Nat.two_pow_pos n; omega

end Sys2Proof.Machine
end

