-- ==== Sys2Proof/Laws/Sub.lean ====
section
/-!
SUPPORT. What each shared operation leaves alone of a lane pair, of Chord of a port and of a tunnel.
-/
namespace Sys2Proof.Machine

@[simp] theorem State.lane_wr (s : State) (f : Field) (v : Nat) (p : Nat) : (s.wr f v).lane p = s.lane p := State.lane_of (by simp) p
@[simp] theorem State.lane_wrB (s : State) (f : Field) (v : Bool) (p : Nat) : (s.wrB f v).lane p = s.lane p := State.lane_of (by simp) p
@[simp] theorem State.lane_bumpBy (s : State) (f : Field) (v : Nat) (p : Nat) : (s.bumpBy f v).lane p = s.lane p := State.lane_of (by simp) p
@[simp] theorem State.lane_bump (s : State) (f : Field) (p : Nat) : (s.bump f).lane p = s.lane p := State.lane_of (by simp) p
@[simp] theorem State.lane_wrapInc (s : State) (f : Field) (p : Nat) : (s.wrapInc f).lane p = s.lane p := State.lane_of (by simp) p
@[simp] theorem State.lane_setRec (s : State) (a b c d e v : Nat) (p : Nat) : (s.setRec a b c d e v).lane p = s.lane p := State.lane_of (by simp) p
@[simp] theorem State.lane_emit (s : State) (e : Emit) (p : Nat) : (s.emit e).lane p = s.lane p := State.lane_of (by simp) p
@[simp] theorem State.lane_drawn (s : State) (p : Nat) : (s.drawn).lane p = s.lane p := State.lane_of (by simp) p
@[simp] theorem State.lane_ev (s : State) (a : Nat) (l : List Nat) (p : Nat) : (s.ev a l).lane p = s.lane p := State.lane_of (by simp) p
@[simp] theorem State.lane_pageEvent (s : State) (a : Nat) (m : BitVec 32) (x y : Bool) (n : Nat) (p : Nat) : (s.pageEvent a m x y n).lane p = s.lane p := State.lane_of (by simp) p
@[simp] theorem State.lane_capture (s : State) (a b c d e : Nat) (p : Nat) : (s.capture a b c d e).lane p = s.lane p := State.lane_of (by simp) p
@[simp] theorem State.lane_captureRaw (s : State) (a : Nat) (c : BitVec 40) (p : Nat) : (s.captureRaw a c).lane p = s.lane p := State.lane_of (by simp) p
@[simp] theorem State.lane_life (s : State) (i : Nat) (p : Nat) : (s.life i).lane p = s.lane p := State.lane_of (by simp) p
@[simp] theorem State.lane_ring (s : State) (a b c d e : Nat) (p : Nat) : (s.ring a b c d e).lane p = s.lane p := State.lane_of (by simp) p
@[simp] theorem State.lane_evNew (s : State) (a : Nat) (l : List Nat) (p : Nat) : (s.evNew a l).lane p = s.lane p := State.lane_of (by simp) p
@[simp] theorem State.lane_settle (s : State) (p : Nat) : (s.settle).lane p = s.lane p := State.lane_of (by simp) p
@[simp] theorem State.lane_onChord (s : State) (q : Nat) (g : Chord → Chord) (p : Nat) : (s.onChord q g).lane p = s.lane p := State.lane_of (by simp) p
@[simp] theorem State.lane_onTun (s : State) (q : Nat) (g : Tun → Tun) (p : Nat) : (s.onTun q g).lane p = s.lane p := State.lane_of (by simp) p
@[simp] theorem State.lane_onEntry (s : State) (q : Nat) (g : Entry → Entry) (p : Nat) : (s.onEntry q g).lane p = s.lane p := State.lane_of (by simp) p

@[simp] theorem State.chord_wr (s : State) (f : Field) (v : Nat) (p : Nat) : (s.wr f v).chord p = s.chord p := State.chord_of (by simp) p
@[simp] theorem State.chord_wrB (s : State) (f : Field) (v : Bool) (p : Nat) : (s.wrB f v).chord p = s.chord p := State.chord_of (by simp) p
@[simp] theorem State.chord_bumpBy (s : State) (f : Field) (v : Nat) (p : Nat) : (s.bumpBy f v).chord p = s.chord p := State.chord_of (by simp) p
@[simp] theorem State.chord_bump (s : State) (f : Field) (p : Nat) : (s.bump f).chord p = s.chord p := State.chord_of (by simp) p
@[simp] theorem State.chord_wrapInc (s : State) (f : Field) (p : Nat) : (s.wrapInc f).chord p = s.chord p := State.chord_of (by simp) p
@[simp] theorem State.chord_setRec (s : State) (a b c d e v : Nat) (p : Nat) : (s.setRec a b c d e v).chord p = s.chord p := State.chord_of (by simp) p
@[simp] theorem State.chord_emit (s : State) (e : Emit) (p : Nat) : (s.emit e).chord p = s.chord p := State.chord_of (by simp) p
@[simp] theorem State.chord_drawn (s : State) (p : Nat) : (s.drawn).chord p = s.chord p := State.chord_of (by simp) p
@[simp] theorem State.chord_ev (s : State) (a : Nat) (l : List Nat) (p : Nat) : (s.ev a l).chord p = s.chord p := State.chord_of (by simp) p
@[simp] theorem State.chord_pageEvent (s : State) (a : Nat) (m : BitVec 32) (x y : Bool) (n : Nat) (p : Nat) : (s.pageEvent a m x y n).chord p = s.chord p := State.chord_of (by simp) p
@[simp] theorem State.chord_capture (s : State) (a b c d e : Nat) (p : Nat) : (s.capture a b c d e).chord p = s.chord p := State.chord_of (by simp) p
@[simp] theorem State.chord_captureRaw (s : State) (a : Nat) (c : BitVec 40) (p : Nat) : (s.captureRaw a c).chord p = s.chord p := State.chord_of (by simp) p
@[simp] theorem State.chord_life (s : State) (i : Nat) (p : Nat) : (s.life i).chord p = s.chord p := State.chord_of (by simp) p
@[simp] theorem State.chord_ring (s : State) (a b c d e : Nat) (p : Nat) : (s.ring a b c d e).chord p = s.chord p := State.chord_of (by simp) p
@[simp] theorem State.chord_evNew (s : State) (a : Nat) (l : List Nat) (p : Nat) : (s.evNew a l).chord p = s.chord p := State.chord_of (by simp) p
@[simp] theorem State.chord_settle (s : State) (p : Nat) : (s.settle).chord p = s.chord p := State.chord_of (by simp) p
@[simp] theorem State.chord_onLane (s : State) (q : Nat) (g : Lane → Lane) (p : Nat) : (s.onLane q g).chord p = s.chord p := State.chord_of (by simp) p
@[simp] theorem State.chord_onTun (s : State) (q : Nat) (g : Tun → Tun) (p : Nat) : (s.onTun q g).chord p = s.chord p := State.chord_of (by simp) p
@[simp] theorem State.chord_onEntry (s : State) (q : Nat) (g : Entry → Entry) (p : Nat) : (s.onEntry q g).chord p = s.chord p := State.chord_of (by simp) p

@[simp] theorem State.tun_wr (s : State) (f : Field) (v : Nat) (p : Nat) : (s.wr f v).tun p = s.tun p := State.tun_of (by simp) p
@[simp] theorem State.tun_wrB (s : State) (f : Field) (v : Bool) (p : Nat) : (s.wrB f v).tun p = s.tun p := State.tun_of (by simp) p
@[simp] theorem State.tun_bumpBy (s : State) (f : Field) (v : Nat) (p : Nat) : (s.bumpBy f v).tun p = s.tun p := State.tun_of (by simp) p
@[simp] theorem State.tun_bump (s : State) (f : Field) (p : Nat) : (s.bump f).tun p = s.tun p := State.tun_of (by simp) p
@[simp] theorem State.tun_wrapInc (s : State) (f : Field) (p : Nat) : (s.wrapInc f).tun p = s.tun p := State.tun_of (by simp) p
@[simp] theorem State.tun_setRec (s : State) (a b c d e v : Nat) (p : Nat) : (s.setRec a b c d e v).tun p = s.tun p := State.tun_of (by simp) p
@[simp] theorem State.tun_emit (s : State) (e : Emit) (p : Nat) : (s.emit e).tun p = s.tun p := State.tun_of (by simp) p
@[simp] theorem State.tun_drawn (s : State) (p : Nat) : (s.drawn).tun p = s.tun p := State.tun_of (by simp) p
@[simp] theorem State.tun_ev (s : State) (a : Nat) (l : List Nat) (p : Nat) : (s.ev a l).tun p = s.tun p := State.tun_of (by simp) p
@[simp] theorem State.tun_pageEvent (s : State) (a : Nat) (m : BitVec 32) (x y : Bool) (n : Nat) (p : Nat) : (s.pageEvent a m x y n).tun p = s.tun p := State.tun_of (by simp) p
@[simp] theorem State.tun_capture (s : State) (a b c d e : Nat) (p : Nat) : (s.capture a b c d e).tun p = s.tun p := State.tun_of (by simp) p
@[simp] theorem State.tun_captureRaw (s : State) (a : Nat) (c : BitVec 40) (p : Nat) : (s.captureRaw a c).tun p = s.tun p := State.tun_of (by simp) p
@[simp] theorem State.tun_life (s : State) (i : Nat) (p : Nat) : (s.life i).tun p = s.tun p := State.tun_of (by simp) p
@[simp] theorem State.tun_ring (s : State) (a b c d e : Nat) (p : Nat) : (s.ring a b c d e).tun p = s.tun p := State.tun_of (by simp) p
@[simp] theorem State.tun_evNew (s : State) (a : Nat) (l : List Nat) (p : Nat) : (s.evNew a l).tun p = s.tun p := State.tun_of (by simp) p
@[simp] theorem State.tun_settle (s : State) (p : Nat) : (s.settle).tun p = s.tun p := State.tun_of (by simp) p
@[simp] theorem State.tun_onLane (s : State) (q : Nat) (g : Lane → Lane) (p : Nat) : (s.onLane q g).tun p = s.tun p := State.tun_of (by simp) p
@[simp] theorem State.tun_onChord (s : State) (q : Nat) (g : Chord → Chord) (p : Nat) : (s.onChord q g).tun p = s.tun p := State.tun_of (by simp) p

@[simp] theorem State.ls_settle (s : State) (p : Nat) : s.settle.ls p = s.ls p := s.rd_settle _
@[simp] theorem State.ls_emit (s : State) (e : Emit) (p : Nat) : (s.emit e).ls p = s.ls p := rfl
@[simp] theorem State.ls_onLane (s : State) (q : Nat) (g : Lane → Lane) (p : Nat) : (s.onLane q g).ls p = s.ls p := rfl
@[simp] theorem State.ls_onChord (s : State) (q : Nat) (g : Chord → Chord) (p : Nat) : (s.onChord q g).ls p = s.ls p := rfl

end Sys2Proof.Machine
end

