-- ==== Sys2Proof/WellFormed.lean ====
section
/-!
DEFINITION. Well-formed commands: operands that the bus, the lane or the frame that carries them can show.
-/
namespace Sys2Proof

/-- R8: an aligned 32-bit access. -/
def RegAt.aligned : RegAt → Bool
  | .page _ off => off.toNat % 4 = 0
  | .f1 off => off.toNat % 4 = 0
  | .f2 off => off.toNat % 4 = 0

/-- Octets. -/
def octetsOk (l : List Nat) : Bool := l.all (· < 256)

/-- The content of a frame. -/
def Body.ok : Body → Bool
  | .octets l => octetsOk l
  | .sv f => f.asdus ≠ [] && f.asdus.all (fun a => octetsOk a.svId && a.smpCnt < 65536)
  | .goose f => octetsOk f.gocbRef && octetsOk f.datSet && octetsOk f.goId

/-- An Ethernet frame: PCP, VID, EtherType and content. -/
def Frame.ok (f : Frame) : Bool := f.tag.all (fun t => t.1 < 8 && t.2 < 4096) && f.etherType < 65536 && f.body.ok

/-- R492: what the controller measures has 10 bits for a voltage. -/
def FeedMeas.ok (m : FeedMeas) : Bool := m.vin < 1024 && m.fbus < 1024

/-- A USB transaction: 7-bit address, 4-bit endpoint, a transfer type, at most 1024 bytes. -/
def UsbTok.ok (k : UsbTok) : Bool :=
  k.addr < 128 && k.ep < 16 && k.kind < 4 && octetsOk k.bytes && k.bytes.length ≤ 1024 && k.maxLen ≤ 1024

/-- Main stream attributes: 24-bit M and N, 16-bit geometry. -/
def DpMsa.ok (m : DpMsa) : Bool :=
  m.mvid < 2 ^ 24 && m.nvid < 2 ^ 24 &&
  [m.htotal, m.vtotal, m.hstart, m.vstart, m.hsync, m.vsync, m.hwidth, m.vheight].all (· < 65536) && m.misc0 < 256 && m.misc1 < 256

/-- A PTP message: a 16-bit sequence number. -/
def PtpMsg.ok : PtpMsg → Bool
  | .sync n _ _ _ => n < 65536
  | .followUp n _ _ => n < 65536
  | .pdelayReq n => n < 65536
  | .pdelayResp n _ _ _ => n < 65536
  | .pdelayFollowUp n _ _ => n < 65536
  | .announce _ => true
  | .other => true

/-- R432: four arguments and at most 512 input bytes. -/
def KeyReq.ok : KeyReq → Bool
  | .mailbox => true
  | .sequencer a b => a.length ≤ 4 && b.length ≤ 512
  | .maint a b => a.length ≤ 4 && b.length ≤ 512

/-- R276: the comparison points are 1–7. -/
def mismatchWf (m : Mismatch) : Bool := m.point ≠ 0

/-- R172: a message has 1 to 65 535 content words. -/
def msgOk (l : List Word) : Bool := l ≠ [] && l.length ≤ 65535

/-- A well-formed command. -/
def Instr.wf : Instr → Bool
  | .registerWrite _ r _ => r.aligned
  | .misalignedAccess _ _ _ => true
  | .loReadLatch r => r.aligned
  | .hiWriteHold _ off _ => off.toNat % 4 = 0
  | .loWriteCommit _ off _ => off.toNat % 4 = 0
  | .pageLock _ => true
  | .codeGroupRx _ _ _ => true
  | .skipSend _ => true
  | .signalEnergyDetect _ => true
  | .wakeBurstDetect _ => true
  | .trainEntry _ => true
  | .trainWordRx _ _ _ _ _ => true
  | .presetEvalExpiry _ _ => true
  | .alignWordRx _ _ _ skew => -4096 ≤ skew && skew ≤ 4096
  | .lastSend _ => true
  | .trainDeadlineExpiry _ => true
  | .coldRetryExpiry _ => true
  | .capsRx _ _ _ => true
  | .configTimeout _ => true
  | .blockLockLoss _ _ => true
  | .badWordBurst _ _ => true
  | .retrainDeadlineExpiry _ => true
  | .forceRetrain _ => true
  | .forceCold _ => true
  | .laneEnable _ _ => true
  | .loopWrite _ _ => true
  | .laneErrRead _ => true
  | .sendBurst _ => true
  | .wakeBurstRepeat _ => true
  | .enterRx _ _ => true
  | .enterSend _ _ => true
  | .idleAcceptRx _ _ => true
  | .enterAnswerTimeout _ => true
  | .linkWake _ => true
  | .wakeWordRx _ _ => true
  | .wordFrameRx _ => true
  | .flitRx _ => true
  | .ackSend _ => true
  | .nakRepeat _ => true
  | .ackRx _ _ => true
  | .nakRx _ _ bad corr _ => bad.all (· < 64) && corr < 65536
  | .replayTimerExpiry _ bad corr _ => bad.all (· < 64) && corr < 65536
  | .replayEnd _ => true
  | .creditSend _ _ _ => true
  | .creditRepeat _ => true
  | .creditRx _ _ => true
  | .expressCopyRx _ _ => true
  | .expressCopyWaitExpiry _ => true
  | .expressEntryStale _ => true
  | .pointSend _ => true
  | .pointRepeat _ => true
  | .pointRx _ _ => true
  | .linkDown _ => true
  | .linkResume _ => true
  | .graceExpiry _ => true
  | .flushNow _ => true
  | .epochNow _ => true
  | .epochRx _ _ => true
  | .announceRepeat _ => true
  | .epochKeyDerived _ => true
  | .epochTimeout _ => true
  | .revokeGraceExpiry _ => true
  | .flitHullCross _ _ => true
  | .tunRead => true
  | .tunWrite => true
  | .tunReserve => true
  | .tunOpen => true
  | .tunClose => true
  | .tunRelease => true
  | .tunReopen => true
  | .entryAckRx _ msg => msgOk msg
  | .tunOpenAckRx _ msg => msgOk msg
  | .tunOpenNakRx _ msg => msgOk msg
  | .tunCloseAckRx _ msg => msgOk msg
  | .pendingTunMsgSend _ => true
  | .openingTimeout _ => true
  | .closingDiscard _ => true
  | .closingTimeout _ => true
  | .entryWriteResend _ => true
  | .entryAckTimeout _ => true
  | .autoReopen _ => true
  | .entryWriteRx _ msg => msgOk msg
  | .hubAssignRx _ msg => msgOk msg
  | .dockReqRx _ msg => msgOk msg
  | .dockGrantRx _ msg => msgOk msg
  | .dockDenyRx _ msg => msgOk msg
  | .dockReqTimeout _ => true
  | .dockReleaseRx _ msg => msgOk msg
  | .adapterFlitRx _ => true
  | .reasmTimeout _ => true
  | .migrateRx _ _ msg => msgOk msg
  | .moveBackStart => true
  | .moveBackDrained _ => true
  | .migrateDoneRx _ _ msg => msgOk msg
  | .migrateIngressSwitch _ => true
  | .moveBackAbandon _ => true
  | .moveBackRetry _ => true
  | .probeExchangeStart _ => true
  | .probeReqRx _ _ _ _ => true
  | .probeRespRx _ _ _ => true
  | .timeWordRx _ _ => true
  | .timeWordsTimeout _ => true
  | .measurementLoss => true
  | .sourceLoss => true
  | .sourceChange => true
  | .stepNow => true
  | .ptpMessageRx _ _ m => m.ok
  | .ppsInputEdge _ => true
  | .ppsInputLoss => true
  | .timeDsSend _ => true
  | .timeDsRx msg => msgOk msg
  | .timeStatusSend => true
  | .timeStatusRx _ msg => msgOk msg
  | .timeStatusStale _ => true
  | .latticeTick m => m.all mismatchWf
  | .latCommit => true
  | .latticeMarkRepeat => true
  | .latticeMarkRx _ _ => true
  | .latticePeriodChange => true
  | .keeperHandoff => true
  | .keeperRestore => true
  | .eventPinEdge _ _ => true
  | .evpTsPop => true
  | .snapshot => true
  | .snapshotRecordRx _ msg _ => msgOk msg
  | .snapshotRecordTimeout => true
  | .snapshotReleaseRx => true
  | .treeReset _ => true
  | .treeResetHoldExpiry => true
  | .samplePartRx => true
  | .compositeEmit _ => true
  | .svFrameSend _ => true
  | .svFrameRx => true
  | .smpRead => true
  | .smpWrite => true
  | .expressFlitRx _ m => m.all mismatchWf
  | .expressQ0Start _ => true
  | .forceMismatch => true
  | .restore => true
  | .restoreSelftestDone _ => true
  | .restoreHandback _ => true
  | .extraCheckpoint => true
  | .expressRepeat _ => true
  | .heartbeat _ => true
  | .expressDeferredSend _ => true
  | .pinPulseEnd _ => true
  | .supervisionLoss _ => true
  | .expRead => true
  | .expWrite => true
  | .expQmaxRead => true
  | .compassSelect _ => true
  | .bucketFill => true
  | .etokRefill => true
  | .queueShaperWrite _ _ _ => true
  | .gateEntryAdvance _ => true
  | .gclCommit _ => true
  | .gclCancel _ => true
  | .gclAdminWrite _ _ _ => true
  | .gclEnable _ _ => true
  | .cmpQdepthRead _ => true
  | .cmpQdelayMaxRead _ => true
  | .polRead => true
  | .polWrite => true
  | .frameTunnelRx _ f => f.ok
  | .stationFrameRx _ f _ _ _ => f.ok
  | .tunnelFrameSend _ => true
  | .stationFrameTx _ => true
  | .macAgeExpiry => true
  | .dupEntryExpiry => true
  | .lanFail _ => true
  | .supervisionFrameSend => true
  | .stationLinkUp _ => true
  | .stationLinkDown _ _ => true
  | .sfpI2cCmd _ _ => true
  | .sfpI2cDone _ _ _ => true
  | .gooseFrameRx => true
  | .gooseTalExpiry _ => true
  | .gooseRetransmit _ => true
  | .frmRead => true
  | .frmWrite => true
  | .pcieLinkUp speed width => 1 ≤ speed.val && 1 ≤ width.val
  | .pcieLinkDown => true
  | .hotReset => true
  | .configRequest _ _ _ _ _ => true
  | .hostRead _ _ len _ _ _ => len.val ≠ 0
  | .hostWrite _ _ data _ _ => data ≠ [] && data.length ≤ 1024
  | .heldRequestResume _ => true
  | .readRspRx _ msg _ => msgOk msg
  | .writeErrRx _ msg => msgOk msg
  | .hostReadTimeout => true
  | .hostReadHoldLimit => true
  | .prefetchAgeExpiry => true
  | .intPoll _ => true
  | .intPollTimeout _ => true
  | .intRspRx _ msg => msgOk msg
  | .rwriteRx _ msg => msgOk msg
  | .reverseWriteUpstream => true
  | .rwAckSend _ => true
  | .winRead => true
  | .winWrite => true
  | .pfRestore => true
  | .usbTokenRx k => k.ok
  | .resultRx _ msg => msgOk msg
  | .xferTimeout _ _ => true
  | .portStatRx _ msg => msgOk msg
  | .usbWakeRx _ msg => msgOk msg
  | .periodicInRx _ msg => msgOk msg
  | .isoIdleTimeout _ _ _ => true
  | .usbSofRx _ _ => true
  | .usbBusReset => true
  | .usbSuspend => true
  | .usbResume => true
  | .usbConnect _ => true
  | .usbVbusChange _ => true
  | .dpLinkTrain _ _ _ _ _ => true
  | .dpMsaRx _ m => m.ok
  | .dpLineRx _ _ _ => true
  | .dpSdpRx _ _ _ => true
  | .auxRequest _ _ _ _ data => data.length ≤ 16
  | .auxRspRx _ msg => msgOk msg
  | .auxTimeout _ => true
  | .displayStatusRx _ msg => msgOk msg
  | .hpdIrqPulseEnd _ => true
  | .primaryChange _ => true
  | .hpdHoldEnd _ => true
  | .getInfo r => r.ok
  | .generate r _ => r.ok
  | .derive r _ => r.ok
  | .importKey r _ => r.ok
  | .exportKey r => r.ok
  | .revoke r _ => r.ok
  | .erase r _ => r.ok
  | .attest r => r.ok
  | .provision r _ => r.ok
  | .lcChallenge r => r.ok
  | .lcAdvance r _ => r.ok
  | .linkMap r => r.ok
  | .wakeSrc r => r.ok
  | .keyScrub _ _ _ => true
  | .tangentBandEntry _ _ => true
  | .tangentBandExit _ => true
  | .drpToggle _ => true
  | .attachDebounce _ _ => true
  | .detach _ => true
  | .guardExpiry _ => true
  | .tanMsgSend _ _ => true
  | .tanAckRx _ _ => true
  | .helloSend _ => true
  | .helloRx _ msg _ => msgOk msg
  | .offerRx _ msg _ => msgOk msg
  | .requestRx _ msg _ => msgOk msg
  | .acceptRx _ msg _ => msgOk msg
  | .tanRejectRx _ msg _ => msgOk msg
  | .readyRx _ msg _ => msgOk msg
  | .prSwapRx _ msg _ => msgOk msg
  | .getOfferRx _ msg _ => msgOk msg
  | .hardResetRx _ => true
  | .tanResendTimeout _ => true
  | .tanReplyTimeout _ => true
  | .mainRampDone _ _ => true
  | .mainOffDone _ _ => true
  | .readyTimeout _ => true
  | .swapTimeout _ => true
  | .hardResetExpiry _ => true
  | .transitionLoss _ => true
  | .railFault _ _ => true
  | .portFastTrip _ _ _ => true
  | .contactShort _ => true
  | .faultRetryExpiry _ => true
  | .tanHardResetCmd _ => true
  | .clearFault _ => true
  | .reoffer _ => true
  | .tanPortEnable _ _ _ => true
  | .feedQualify _ m => m.ok
  | .feedVinLoss _ m => m.ok
  | .feedOn _ m => m.ok
  | .feedStartTimeout _ m => m.ok
  | .feedCbTrip _ m => m.ok
  | .feedFastTrip _ m => m.ok
  | .feedOv _ m => m.ok
  | .feedOvRecover _ m => m.ok
  | .feedReverse _ m => m.ok
  | .feedReverseClear _ m => m.ok
  | .pgUp _ m => m.ok
  | .pgDown _ m => m.ok
  | .feedWarnAssert _ => true
  | .feedWarnDeassert _ => true
  | .feedWarnRepeat => true
  | .feedEnable _ _ => true
  | .feedThrWrite _ => true
  | .feedBusMinRead => true
  | .sleepRequest _ => true
  | .sleepDrainTimeout => true
  | .wakeSource srcs => srcs.all (fun x => 1 ≤ x.1.val)
  | .wakeTimer => true
  | .perfWrite _ => true
  | .perfLevelSwitch => true
  | .pllLock => true
  | .pllLoss => true
  | .governorPeriod _ _ => true
  | .thermCrit _ => true
  | .thermalShutdown => true
  | .pwrThermWrite _ => true
  | .powerOnReset _ => true
  | .coreRailStart => true
  | .resetNAssert => true
  | .perstAssert => true
  | .rstCmd _ => true
  | .sequencerWatchdog => true
  | .coreVoltageMonitor _ => true
  | .clockMonitor _ => true
  | .fullResetRelease => true
  | .cfgTunnelOpen => true
  | .restoreLateTimer => true
  | .hostWatchdog => true
  | .watchdogFeed _ => true
  | .cfgBegin => true
  | .cfgWdata _ => true
  | .cfgCommit _ => true
  | .evForce _ _ => true
  | .evEnWrite _ _ => true
  | .evtArmWrite _ _ => true
  | .msixUnmask func vec => (func.val < 2 || vec.val = 0)
  | .errCaptClear _ => true
  | .evtLogPop => true
  | .maintFrame _ _ _ => true
  | .roleSetWrite _ => true
  | .logMinute _ => true
  | .logIntervalCommit => true
  | .commit => true
  | .logCommitDone _ => true
  | .ringClear _ _ => true
  | .mbistSpill => true
  | .mramScan => true
  | .diagTestDone _ _ _ => true
  | .patCheck _ => true
  | .patClear => true
  | .patSyncLoss _ _ => true
  | .mramRefresh _ _ => true
  | .sfpSidebandChange _ _ => true
  | .sofLost => true
  | .emulatedPortTiming _ _ => true
  | .powerLoss => true
  | .vmonIo => true
  | .feedCbLimit _ m => m.ok

end Sys2Proof
end

