-- ==== Sys2Proof/Tests/Slice0.lean ====
section
/-!
SUPPORT. Tests: ill-formed commands are refused by the checks of WellFormed; the spec's worked examples; and for every statement of the
certificate that supposes something, a theorem `wit_…` that shows concrete states and operands which meet what each of its clauses
supposes, at boundary values of their ranges.
-/
namespace Sys2Proof.Tests

-- One theorem after the other: each waits for the kernel, and the package as one text would start a thread for each.
set_option Elab.async false

open Sys2Proof.Machine

/-! ## Ill-formed commands -/

/-- R8: a register access of 32 bits lies at a multiple of 4; the forms of the command that have an address. -/
theorem test_wf_aligned :
    (Instr.registerWrite .host (.page 0x010 0x009) 0).wf = false ∧ (Instr.registerWrite .host (.f1 0x1002) 0).wf = false ∧
    (Instr.registerWrite .host (.f2 0x3) 0).wf = false ∧ (Instr.registerWrite .host (.page 0x010 0x008) 0).wf = true ∧
    (Instr.loReadLatch (.page 0x0C0 0x041)).wf = false ∧ (Instr.hiWriteHold 0x0C0 0x05E 0).wf = false ∧
    (Instr.loWriteCommit 0x0C0 0x05A 0).wf = false := by decide

theorem test_wf_skew : (Instr.alignWordRx 3 false 0 4097).wf = false ∧ (Instr.alignWordRx 3 false 0 (-4097)).wf = false ∧
    (Instr.alignWordRx 3 false 0 (-4096)).wf = true := by decide

theorem test_wf_replay_errors : (Instr.nakRx 3 0 [64] 0 false).wf = false ∧ (Instr.nakRx 3 0 [63] 65536 false).wf = false ∧
    (Instr.replayTimerExpiry 3 [64] 0 false).wf = false ∧ (Instr.replayTimerExpiry 3 [63] 65535 false).wf = true := by decide

/-- R172: a message has at least one content word. -/
theorem test_wf_message : (Instr.entryAckRx 3 []).wf = false ∧ (Instr.offerRx 3 [] false).wf = false ∧ (Instr.entryAckRx 3 [0]).wf = true ∧
    msgOk [] = false := by decide

theorem test_wf_ptp : (Instr.ptpMessageRx 3 0 (.sync 65536 false 0 0)).wf = false ∧ (Instr.ptpMessageRx 3 0 (.pdelayReq 65535)).wf = true ∧
    PtpMsg.ok (.followUp 65536 0 0) = false ∧ PtpMsg.ok (.pdelayResp 65536 false 0 0) = false ∧
        PtpMsg.ok (.pdelayFollowUp 65536 0 0) = false := by
  decide

theorem test_wf_frame :
    (Instr.frameTunnelRx 0x600 ⟨0, 0, some (8, 1), 0x88B8, .octets [], none⟩).wf = false ∧
    (Instr.frameTunnelRx 0x600 ⟨0, 0, some (7, 4096), 0x88B8, .octets [], none⟩).wf = false ∧
    (Instr.stationFrameRx 0 ⟨0, 0, none, 65536, .octets [], none⟩ false 0 false).wf = false ∧
    (Instr.frameTunnelRx 0x600 ⟨0, 0, none, 0x88B8, .octets [256], none⟩).wf = false ∧
    (Instr.frameTunnelRx 0x600 ⟨0, 0, none, 0x88BA, .sv ⟨0, false, [], none⟩, none⟩).wf = false ∧
    (Instr.frameTunnelRx 0x600 ⟨0, 0, some (7, 4095), 0x88B8, .octets [255], none⟩).wf = true := by decide

theorem test_wf_host : (Instr.pcieLinkUp 0 1).wf = false ∧ (Instr.pcieLinkUp 1 0).wf = false ∧ (Instr.hostRead true 0 0 0 0 0).wf = false ∧
    (Instr.hostWrite true 0 [] 0 0).wf = false ∧ (Instr.pcieLinkUp 4 16).wf = true := by decide

theorem test_wf_usb : (Instr.usbTokenRx ⟨.inn, 128, 0, 0, [], none, 0, 0⟩).wf = false ∧ (Instr.usbTokenRx ⟨.inn, 0, 16, 0, [], none, 0,
    0⟩).wf = false ∧
    (Instr.usbTokenRx ⟨.inn, 0, 0, 4, [], none, 0, 0⟩).wf = false ∧ (Instr.usbTokenRx ⟨.out, 0, 0, 0, [256], none, 0, 0⟩).wf = false ∧
    (Instr.usbTokenRx ⟨.inn, 127, 15, 3, [255], none, 0, 1025⟩).wf = false ∧ (Instr.usbTokenRx ⟨.inn, 127, 15, 3, [255], none, 0,
        1024⟩).wf = true := by
  decide

theorem test_wf_aux : (Instr.auxRequest 0 9 0 16 (List.replicate 17 0)).wf = false ∧
    (Instr.auxRequest 0 9 0 16 (List.replicate 16 0)).wf = true := by
  decide

/-- R432: four arguments, 512 input bytes. -/
theorem test_wf_key : (Instr.generate (.sequencer [0, 0, 0, 0, 0] []) 0).wf = false ∧ (Instr.getInfo (.maint [0, 0, 0, 0, 0] [])).wf = false ∧
    (Instr.generate (.sequencer [0, 0, 0, 0] []) 0).wf = true := by decide
theorem test_wf_key_input : (Instr.derive (.sequencer [] (List.replicate 513 0)) 0).wf = false := by decide +kernel

theorem test_wf_power : (Instr.feedOn 0 ⟨1024, 0, 0⟩).wf = false ∧ (Instr.feedOn 0 ⟨1023, 1024, 0⟩).wf = false ∧
    (Instr.wakeSource [(0, 3)]).wf = false ∧ (Instr.msixUnmask 2 1).wf = false ∧ (Instr.msixUnmask 2 0).wf = true := by decide

def aMsa : DpMsa :=
  { mvid := 1485, nvid := 1620, htotal := 2200, vtotal := 1125, hstart := 0, vstart := 0, hsync := 0, vsync := 0, hwidth := 1920,
    vheight := 1080, misc0 := 0, misc1 := 0, bpp := 24, dsc := false }
theorem test_wf_msa : (Instr.dpMsaRx 0 { aMsa with mvid := 2 ^ 24 }).wf = false ∧ (Instr.dpMsaRx 0 { aMsa with htotal := 65536 }).wf = false ∧
    (Instr.dpMsaRx 0 { aMsa with misc1 := 256 }).wf = false ∧ (Instr.dpMsaRx 0 aMsa).wf = true := by decide

/-! ## The machine as a block -/

/-- The opcode table gives no row bits: no word spells a command, and `withFetchWord` leaves a state as it is. -/
theorem test_no_word_spells : decodeTableWord 8 0xFF = none ∧ State.reset.withFetchWord 32 7 = State.reset := ⟨rfl, rfl⟩

theorem test_reset_queue_empty : State.reset.pending = [] ∧ State.reset.boot.seen = [1] ∧ State.reset.boot.dieOn = true := by decide

/-! ## The spec's worked examples -/

/-- The example after R40: the payload 0x12_3456_789A has parity 0xB, and its data code group is 0x2B12_3456_789A. -/
theorem test_parity_example : parity 0x123456789A#40 = 0xB ∧ codeGroup 2 0x123456789A#40 = 0x2B123456789A#46 := by decide

/-- The example of credit that has wrapped: 13 units are left, and after the CREDIT word with LIMIT 0x0015 21 are. -/
theorem test_credit_example : modSub 16 0x0005 0xFFF8 = 13 ∧ modSub 16 0x0015 0x0000 = 21 ∧ dataCredits 30 = 8 := by decide

/-- The example after R109: 2580 ns for a measured RTT of 1040 ns, the minimum of 800 ns for 30 ns. -/
theorem test_replay_timer_example : timerUnits 1040 = 258 ∧ timerUnits 30 = 80 := by decide

/-- The example after R174: 1000 content words travel in 34 flits, the last of 11 words. -/
theorem test_message_example :
    (messageFlits 0x600 4 20 [3] (List.replicate 1001 0)).length = 34 ∧
    (messageFlits 0x600 4 20 [3] (List.replicate 1001 0)).map (fun f => f.payload.length) = List.replicate 33 30 ++ [11] ∧
    (messageFlits 0x600 4 20 [3] (List.replicate 1001 0)).map (·.last) = List.replicate 33 false ++ [true] := by decide +kernel

/-- The example of a current that leaves the format: −2 000 000 000 mA saturates at −2^35, 123 456.789 01 A publishes in mA. -/
theorem test_units_example : fromInt32 0 (-2000000000) = (-34359738368, true) ∧ toInt32 0 12345678901 = (123456789, false) := by decide

/-- The example after R463: an OFFER lasts 291.2 µs, an ACK 220.8 µs. -/
theorem test_offer_time_example : tanNs 1 = 291200 ∧ tanNs 0 = 220800 := by decide

/-- The example of the energy governor: 4200 tokens/µs at 97 °C, none at 101 °C. -/
theorem test_energy_example : (State.reset.wr PWR_BUDGET_W 25).energy 2340 3000 97 = 4200 ∧
    (State.reset.wr PWR_BUDGET_W 25).energy 2340 3000 101 = 0 := by
  decide

/-- The example of a receiver of express flits that holds LAST_ESN 0x3E: 0x40 is new, the resent 0x3F late, a second 0x40 a duplicate. -/
theorem test_express_example :
    let g : XGroup := { XGroup.init with last := some 0x3E, seen := [(0x3E, false)] }
    let g1 := g.accept 0x40 false 1
    g.verdict 0x40 false = 1 ∧ g1.verdict 0x3F false = 3 ∧ (g1.accept 0x3F false 3).verdict 0x40 false = 0 := by decide

/-- The example after R414: 1920 × 1080 at 60 Hz with 24 bits per pixel reserves 823 units (HBR: 270 MHz symbols). -/
theorem test_reservation_example : dspReserve { aMsa with mvid := 11, nvid := 20, vtotal := 1125, htotal := 2200 } 2 = 823 := by decide

/-! ## What the statements suppose is met -/

/-- A base with the core die on. -/
def wOn (b : State) : State := { b with coreOn := true, power := { b.power with asleep := 0 } }
/-- A port in a link state. -/
def wLink (p st : Nat) (b : State) : State := (wOn b).wr (LANE_STAT_STATE p) st
/-- The power die on as well. -/
def wDie (b : State) : State := { b with boot := { b.boot with dieOn := true } }

namespace Register

def wIdle (b : State) : State := { b with coreOn := false, pending := [] }
def wHold (b : State) : State := { wOn b with hiHold := b.hiHold.set (0x0C0 * 4096 + 0x05C) (some 0x1FFFF) }
def wRole (b : State) : State := { (List.range 18).foldl (fun (s : State) p => s.wr (LANE_CTL_ENABLE p) 0) (wOn b) with locks := b.locks.set 0 0 }
def wSame (b : State) : State := { wOn b with pages := (wOn b).pages.upd 0x033 (fun h => { h with evAt := some b.now, captAt := some b.now, full := true, captNow := 77 }), evt := { b.evt with sentAt := b.now, sentNow := 5 } }
def wQuiet2 (b : State) : State := (wOn b).wr EVT_STAT_MSIX_READY 0
def lgE : LogEntry := { seq := 0x123456789A, time := 5, page := 0x0F0, bits := 1, forced := false, power := false, fresh := true }
def wLog (b : State) : State := { wOn b with evt := { b.evt with log := lgE :: b.evt.log } }
def wLost (b : State) : State := { wLog b with evt := { (wLog b).evt with lost := [lgE, lgE], lostAt := b.now } }
def wMaint (b : State) : State := let s := (wOn b).wr CHIP_STRAP_STRAPS 2
  { s with boot := { s.boot with dieOn := true }, power := { s.power with asleep := 0, asked := 0 } }

/-- What `EmptyQueueIdles` supposes is met, clause by clause. -/
theorem wit_EmptyQueueIdles :
    ∃ s : State, s.pending = [] ∧ s.coreOn = false :=
  ⟨(wIdle State.reset), by decide +kernel⟩

/-- What `RegisterWriteByAccessType` supposes is met, clause by clause. -/
theorem wit_RegisterWriteByAccessType :
    (∃ (s : State) (_m : RegMaster) (b : Block) (page : BitVec 10) (off : BitVec 12) (v : Reg), (b, page) ∈ [(Block.hull, 0x070#10), (.pcie,
        0x0F1#10), (.wint, 0x0F2#10), (.per, 0x100#10)] ∧ s.coreOn = true ∧ off.toNat % 4 = 0 ∧ ((off.toNat = 0x008 ∧
        bitOf v.toNat 31 = false ∨ 0x040 ≤ off.toNat ∧ off.toNat ≠ 0x048))) ∧
    (∃ (s : State) (_m : RegMaster) (b : Block) (page : BitVec 10) (off : BitVec 12) (v : Reg), (b, page) ∈ [(Block.hull, 0x070#10), (.pcie,
        0x0F1#10), (.wint, 0x0F2#10), (.per, 0x100#10)] ∧ s.coreOn = true ∧ off.toNat % 4 = 0 ∧ ((off.toNat = 0x008 ∧
        bitOf v.toNat 31 = false ∨ 0x040 ≤ off.toNat ∧ off.toNat ≠ 0x048))) :=
  ⟨⟨(wOn State.reset), .host, .hull, 0x070, 0x040, 0xFFFFFFFF, by decide +kernel⟩,
   ⟨(wOn State.reset), .host, .per, 0x100, 0x008, 0x7FFFFFFF, by decide +kernel⟩⟩

/-- What `RegisterAccessRows` supposes is met, clause by clause. -/
theorem wit_RegisterAccessRows :
    (∃ (s : State) (_isRead : Bool) (_page : BitVec 10) (_off : BitVec 12), s.coreOn = true) ∧
    (∃ (s : State) (page : BitVec 10), s.coreOn = true ∧ (blockOf page.toNat).isSome = true) ∧
    (∃ (s : State) (_v : Reg), s.coreOn = true) ∧
    (∃ (s : State) (h : Nat) (_v : Reg), s.coreOn = true ∧ s.hiHold.get (0x0C0 * 4096 + 0x05C) = some h) ∧
    (∃ (s : State) (page : BitVec 10), s.coreOn = true ∧ (blockOf page.toNat).isSome = true) ∧
    (∃ (s : State) (_v : BitVec 2), s.coreOn = true ∧ s.locked 0x000 = false ∧ ((∀ p : Fin 18, s.rd (LANE_CTL_ENABLE p) = 0))) :=
  ⟨⟨(wOn State.reset), true, 0, 3, by decide +kernel⟩,
   ⟨(wOn State.reset), 0x033, by decide +kernel⟩,
   ⟨(wOn State.reset), 0xFFFFFFFF, by decide +kernel⟩,
   ⟨(wHold State.reset), 0x1FFFF, 7, by decide +kernel⟩,
   ⟨(wOn State.reset), 0x110, by decide +kernel⟩,
   ⟨(wRole State.reset), 1, by decide +kernel⟩⟩

/-- What `EventUnitRows` supposes is met, clause by clause. -/
theorem wit_EventUnitRows :
    (∃ (s : State) (page : BitVec 10) (v : Reg), s.coreOn = true ∧ v &&& pageCap page.toNat ≠ 0#32) ∧
    (∃ (s : State) (page : BitVec 10) (v : Reg), s.coreOn = true ∧ v &&& pageCap page.toNat ≠ 0#32) ∧
    (∃ (s : State) (page : BitVec 10) (_v : Reg), s.coreOn = true ∧ (blockOf page.toNat).isSome = true) ∧
    (∃ (s : State) (_hi : Bool) (_v : Reg), s.coreOn = true ∧ s.rdB EVT_STAT_MSIX_READY = false) ∧
    (∃ (s : State) (_hi : Bool) (_v : Reg), s.coreOn = true ∧ s.rdB EVT_STAT_MSIX_READY = false) ∧
    (∃ (s : State) (func : Fin 3) (vec : Fin 64), s.coreOn = true ∧ ((func.val < 2 ∨ vec = 0))) ∧
    (∃ (s : State) (_page : BitVec 10), s.coreOn = true) ∧
    (∃ (s : State) (_page : BitVec 10), s.coreOn = true) ∧
    (∃ (s : State) (e : LogEntry) (l : List LogEntry), s.coreOn = true ∧ s.evt.log = e :: l) ∧
    (∃ (s : State) (e : LogEntry) (l : List LogEntry), s.coreOn = true ∧ s.evt.log = e :: l) ∧
    (∃ (s : State) (bytes : List (BitVec 8)) (extra : Fin 8) (page off : Nat), s.boot.dieOn = true ∧ s.coreOn = true ∧ s.power.asleep = 0 ∧
        s.power.asked = 0 ∧ bitOf (s.rd CHIP_STRAP_STRAPS) 1 = true ∧ maintCmd (bytes.map (·.toNat)) extra.val = some (.read page off)) ∧
    (∃ (s : State) (bytes : List (BitVec 8)) (extra : Fin 8), s.boot.dieOn = true ∧ s.coreOn = true ∧ s.power.asleep = 0 ∧ s.power.asked = 0 ∧
        bitOf (s.rd CHIP_STRAP_STRAPS) 1 = true ∧ maintCmd (bytes.map (·.toNat)) extra.val = none) ∧
    (∃ s : State, s.coreOn = true) ∧
    (∃ s : State, s.coreOn = true) ∧
    (∃ s : State, s.coreOn = true) :=
  ⟨⟨(wOn State.reset), 0x033, 1, by decide +kernel⟩,
   ⟨(wSame State.reset), 0x033, 1, by decide +kernel⟩,
   ⟨(wOn State.reset), 0x033, 0xFFFFFFFF, by decide +kernel⟩,
   ⟨((wSame State.reset).wr EVT_STAT_MSIX_READY 0), false, 0x80000001, by decide +kernel⟩,
   ⟨(wQuiet2 State.reset), true, 0x80000001, by decide +kernel⟩,
   ⟨(wOn State.reset), 1, 63, by decide +kernel⟩,
   ⟨(wSame State.reset), 0x033, by decide +kernel⟩,
   ⟨(wOn State.reset), 0x0F0, by decide +kernel⟩,
   ⟨(wLost State.reset), lgE, State.reset.evt.log, by decide +kernel⟩,
   ⟨(wLog State.reset), lgE, State.reset.evt.log, by decide +kernel⟩,
   ⟨(wMaint State.reset), [0x0B, 0, 0, 0, 0, 0, 0, 0, 0], 0, 0, 0, by decide +kernel⟩,
   ⟨(wMaint State.reset), [], 3, by decide +kernel⟩,
   ⟨(wOn State.reset), by decide +kernel⟩,
   ⟨(wOn State.reset), by decide +kernel⟩,
   ⟨(wOn State.reset), by decide +kernel⟩⟩


end Register

namespace Lane

def wRx (b : State) : State := (wLink 3 3 b).onLane 3 (fun l => { l with pair1 := { l.pair1 with descrambling := true, inverted := false } })
def wSkip (b : State) : State := let s := (wLink 3 3 b).onLane 3 (fun l => { l with skipAt := 5 })
  { s with now := 7, compass := { s.compass with queues := s.compass.queues.set (qKey 3 0) [] } }
def trW : Word := ctlWord 0x02 [(33, 1, 1), (0, 17, 0x1A5A5)]
def wLock (b : State) : State := (wLink 3 1 b).onLane 3 (fun l => { l with phase := .lock, pair0 := { l.pair0 with locked := false } })
def wAlign (b : State) : State := { (wLink 3 1 b).onLane 3 (fun l => { l with phase := .align, lastSent := false, dskRcvd := true, lastRcvd := false, alignAt := 0 }) with now := 1000 + b.now }
def wCaps (b : State) : State := (wLink 3 2 b).onLane 3 (fun l => { l with phase := .config, capsRx := [] })
def wDown (b : State) : State := { (wLink 3 8 b).onLane 3 (fun l => { l with phase := .idle, resumed := false, retryAt := some 9 }) with now := 9 }
def wTan (b : State) : State := let s := wLink 3 0 b
  { s with pd := { s.pd with tans := s.pd.tans.upd 3 (fun x => { x with signalled := true }) } }
def wEval (b : State) : State := { (wLink 3 1 b).onLane 3 (fun l => { l with phase := .equalise, evalUntil := some 9, sweepStage := 6 }) with now := 9 }
def wDead (ph : Phase) (b : State) : State := { (wLink 3 1 b).onLane 3 (fun l => { l with phase := ph, deadline := some 9 }) with now := 10 }
def wZeros (b : State) : State := (wLink 3 3 b).onLane 3 (fun l => { l with pair1 := { l.pair1 with zeros := List.replicate 8 true } })
def wBad (b : State) : State := (wLink 3 3 b).onLane 3 (fun l => { l with pair1 := { l.pair1 with badAt := List.replicate 32 b.now } })
def wRt (b : State) : State := { ((wLink 3 4 b).onLane 3 (fun l => { l with phase := .rtLock, deadline := some 9 })).onChord 3 (fun c => { c with graceMs := 50 }) with now := 10 }
def wDis (b : State) : State := { (wLink 3 9 b).wr (LANE_CTL_ENABLE 3) 0 with locks := b.locks.set 0x13 0 }
def wBurst (b : State) : State := { (wLink 3 0 b).onLane 3 (fun l => { l with burstAt := some 9, bursts := 59, pair0 := {}, pair1 := {} }) with now := 9 }
def entW (n acc : Nat) : Word := ctlWord 0x00 [(31, 3, n), (30, 1, acc)]
def wRest (b : State) : State := { ((wLink 3 3 b).onLane 3 (fun l => { l with asked := none })).onChord 3 (fun c => { c with replay := [], xReplay := [], points := [] }) with now := b.now }
def wAsked (b : State) : State := { (wLink 3 3 b).onLane 3 (fun l => { l with asked := some 2, askUntil := some 9 }) with now := 10 }
def wDoze (b : State) : State := (wLink 3 5 b).onLane 3 (fun l => { l with viaRetrain := false, coldAfter := false })

/-- What `LaneReceiveRows` supposes is met, clause by clause. -/
theorem wit_LaneReceiveRows :
    (∃ (s : State) (p : Fin 18) (pair : Bool) (cg : BitVec 46), s.coreOn = true ∧ s.ls p = LS_ACTIVE ∧
        ((s.lane p).pair pair).descrambling = true ∧ ((s.lane p).pair pair).inverted = false ∧ fld cg 44 2 = 0) ∧
    (∃ (s : State) (p : Fin 18) (pair : Bool) (cg : BitVec 46), s.coreOn = true ∧ s.ls p = LS_ACTIVE ∧
        ((s.lane p).pair pair).descrambling = true ∧ ((s.lane p).pair pair).inverted = false ∧ fld cg 44 2 = 2 ∧
        (scramble ((s.lane p).pair pair).lfsr (fld cg 0 44)).1 / 2 ^ 40 = parity (BitVec.ofNat 40 (scramble ((s.lane p).pair pair).lfsr (fld cg 0 44)).1)) ∧
    (∃ (s : State) (p : Fin 18), s.coreOn = true ∧ s.ls p = LS_ACTIVE ∧ (s.lane p).skipAt ≤ s.now ∧ s.compass.queues.get (qKey p 0) = []) ∧
    (∃ (s : State) (p : Fin 18) (pair : Bool) (w : Word) (_slot : Nat), s.coreOn = true ∧ s.ls p ≠ LS_ACTIVE ∧ (s.lane p).phase = .lock ∧
        ((s.lane p).pair (!pair)).locked = false ∧ fld w 34 6 = 0x02 ∧ fld w 0 17 = 0x1A5A5) ∧
    (∃ (s : State) (p : Fin 18) (_pair : Bool) (w : Word) (skew : Int), s.coreOn = true ∧ (s.lane p).phase = .align ∧
        (s.lane p).lastSent = false ∧ fld w 34 6 = 0x08 ∧ -64 ≤ skew ∧ skew ≤ 64) ∧
    (∃ (s : State) (p : Fin 18), s.coreOn = true ∧ (s.lane p).phase = .align ∧ (s.lane p).dskRcvd = true ∧ (s.lane p).lastSent = false ∧
        (s.lane p).lastRcvd = false ∧ (s.lane p).alignAt + 7 * 64 ≤ s.now) ∧
    (∃ (s : State) (p : Fin 18) (w : Word), s.coreOn = true ∧ (s.lane p).phase = .config ∧ (s.lane p).capsRx = [] ∧ fld w 34 6 = 0x03 ∧
        fld w 30 4 ≠ 15) ∧
    (∃ (s : State) (_p : Fin 18), s.coreOn = true) :=
  ⟨⟨(wRx State.reset), 3, true, 5, by decide +kernel⟩,
   ⟨((wRx State.reset).onLane 3 (fun l => { l with pair1 := { l.pair1 with lfsr := 0 } })), 3, true, (2 * 2^44), by decide +kernel⟩,
   ⟨(wSkip State.reset), 3, by decide +kernel⟩,
   ⟨(wLock State.reset), 3, true, trW, 16, by decide +kernel⟩,
   ⟨(wAlign State.reset), 3, true, (ctlWord 8 [(31, 1, 1), (0, 31, 77)]), (-64), by decide +kernel⟩,
   ⟨(wAlign State.reset), 3, by decide +kernel⟩,
   ⟨(wCaps State.reset), 3, (ctlWord 3 [(30, 4, 14), (0, 30, 9)]), by decide +kernel⟩,
   ⟨(wOn State.reset), 3, by decide +kernel⟩⟩

/-- What `LaneAttemptRows` supposes is met, clause by clause. -/
theorem wit_LaneAttemptRows :
    (∃ (s : State) (p : Fin 18), s.coreOn = true ∧ ((s.ls p = LS_DETECT ∨ s.ls p = LS_DORMANT))) ∧
    (∃ (s : State) (p : Fin 18), s.coreOn = true ∧ ((s.ls p = LS_DETECT ∨ s.ls p = LS_DORMANT)) ∧ s.boot.dieOn = true) ∧
    (∃ (s : State) (p : Fin 18), s.coreOn = true ∧ s.ls p = LS_DOWN ∧ (s.lane p).phase = .idle ∧ (s.lane p).resumed = false) ∧
    (∃ (s : State) (p : Fin 18), s.coreOn = true ∧ s.ls p = LS_DETECT ∧ s.tangentAttached p = true) ∧
    (∃ (s : State) (p : Fin 18) (d : Nat), s.coreOn = true ∧ ((s.ls p = LS_DETECT ∨ s.ls p = LS_DOWN)) ∧ (s.lane p).phase = .idle ∧
        (s.lane p).resumed = false ∧ (s.lane p).retryAt = some d ∧ d ≤ s.now) ∧
    (∃ (s : State) (p : Fin 18), s.coreOn = true ∧ ((s.ls p = LS_DOWN ∨ s.ls p = LS_TRAIN ∨ s.ls p = LS_CONFIG))) ∧
    (∃ (s : State) (p : Fin 18) (_margin d : Nat), s.coreOn = true ∧ (s.lane p).phase = .equalise ∧ (s.lane p).evalUntil = some d ∧ d ≤ s.now ∧
        (s.lane p).sweepStage < 7) ∧
    (∃ (s : State) (p : Fin 18) (d : Nat), s.coreOn = true ∧ (s.lane p).deadline = some d ∧ d < s.now ∧
        ((s.lane p).phase = .lock ∨ (s.lane p).phase = .equalise ∨ (s.lane p).phase = .align) ∧ (s.lane p).unanswered = false) ∧
    (∃ (s : State) (p : Fin 18) (d : Nat), s.coreOn = true ∧ (s.lane p).deadline = some d ∧ d < s.now ∧ (s.lane p).phase = .config) :=
  ⟨⟨(wDie (wLink 3 0 State.reset)), 3, by decide +kernel⟩,
   ⟨(wDie (wLink 3 0 State.reset)), 3, by decide +kernel⟩,
   ⟨(wDown State.reset), 3, by decide +kernel⟩,
   ⟨(wTan State.reset), 3, by decide +kernel⟩,
   ⟨(wDown State.reset), 3, 9, by decide +kernel⟩,
   ⟨(wLink 3 2 State.reset), 3, by decide +kernel⟩,
   ⟨(wEval State.reset), 3, 5, 9, by decide +kernel⟩,
   ⟨(wDead .align State.reset), 3, 9, by decide +kernel⟩,
   ⟨(wDead .config State.reset), 3, 9, by decide +kernel⟩⟩

/-- What `LaneRetrainRows` supposes is met, clause by clause. -/
theorem wit_LaneRetrainRows :
    (∃ (s : State) (p : Fin 18), s.coreOn = true ∧ s.ls p = LS_ACTIVE) ∧
    (∃ (s : State) (p : Fin 18) (pair : Bool), s.coreOn = true ∧ s.ls p = LS_ACTIVE ∧ 8 ≤ (((s.lane p).pair pair).zeros.filter id).length) ∧
    (∃ (s : State) (p : Fin 18) (pair : Bool), s.coreOn = true ∧ s.ls p = LS_ACTIVE ∧
        32 ≤ (((s.lane p).pair pair).badAt.filter (fun t => s.now ≤ t + 1000)).length) ∧
    (∃ (s : State) (p : Fin 18) (d : Nat), s.coreOn = true ∧ s.ls p = LS_RETRAIN ∧ (s.lane p).deadline = some d ∧ d < s.now ∧
        (s.chord p).graceMs ≠ 0) :=
  ⟨⟨(wLink 3 3 State.reset), 3, by decide +kernel⟩,
   ⟨(wZeros State.reset), 3, true, by decide +kernel⟩,
   ⟨(wBad State.reset), 3, true, by decide +kernel⟩,
   ⟨(wRt State.reset), 3, 9, by decide +kernel⟩⟩

/-- What `LanePowerRows` supposes is met, clause by clause. -/
theorem wit_LanePowerRows :
    (∃ (s : State) (p : Fin 18) (_v : BitVec 2), s.coreOn = true ∧ s.locked (lanePage p) = false ∧ s.ls p = LS_DISABLED) ∧
    (∃ (s : State) (p : Fin 18) (v : BitVec 2), s.coreOn = true ∧ s.locked (lanePage p) = false ∧ s.ls p = LS_DISABLED ∧ v ≠ 0 ∧
        s.rd (LANE_CTL_ENABLE p) = 0) ∧
    (∃ (s : State) (p : Fin 18) (_v : BitVec 2), s.coreOn = true ∧ s.locked (lanePage p) = false ∧ s.ls p = LS_DISABLED) ∧
    (∃ (s : State) (p : Fin 18), s.coreOn = true ∧ ((s.ls p = LS_DETECT ∨ s.ls p = LS_DORMANT))) ∧
    (∃ (s : State) (p : Fin 18) (d : Nat), s.coreOn = true ∧ (s.lane p).burstAt = some d ∧ d ≤ s.now ∧ (s.lane p).pair0.hits = 0 ∧
        (s.lane p).pair1.hits = 0 ∧ s.ls p ≠ LS_ACTIVE ∧ (s.lane p).bursts < 60) ∧
    (∃ (s : State) (p : Fin 18) (w : Word), s.coreOn = true ∧ s.ls p = LS_ACTIVE ∧ (s.lane p).asked = none ∧ fld w 34 6 = 0 ∧ fld w 31 3 ≠ 0 ∧
        s.mayRest p (fld w 31 3) = true) ∧
    (∃ (s : State) (p : Fin 18) (w : Word), s.coreOn = true ∧ s.ls p = LS_ACTIVE ∧ (s.lane p).asked = none ∧ fld w 34 6 = 0 ∧ fld w 31 3 ≠ 0 ∧
        s.mayRest p (fld w 31 3) = false) ∧
    (∃ (s : State) (p : Fin 18) (code : BitVec 3), s.coreOn = true ∧ s.mayRest p code.toNat = true ∧ (s.lane p).asked = none) ∧
    (∃ (s : State) (p : Fin 18) (w : Word) (n : Nat), s.coreOn = true ∧ (s.lane p).asked = some n ∧ fld w 34 6 = 0 ∧ fld w 31 3 = n ∧
        fld w 30 1 = 1 ∧ s.ls p = LS_ACTIVE) ∧
    (∃ (s : State) (p : Fin 18) (d : Nat), s.coreOn = true ∧ (s.lane p).askUntil = some d ∧ d < s.now) ∧
    (∃ (s : State) (p : Fin 18) (_w : Word), s.coreOn = true ∧ s.ls p = LS_DOZE ∧ (s.lane p).viaRetrain = false) ∧
    (∃ (s : State) (p : Fin 18) (w : Word), s.coreOn = true ∧ s.ls p = LS_DOZE ∧ (s.lane p).viaRetrain = false ∧ fld w 34 6 = 0x0A ∧
        (s.lane p).coldAfter = false ∧ (s.chord p).replay = []) :=
  ⟨⟨(wDis State.reset), 3, 2, by decide +kernel⟩,
   ⟨(wDis State.reset), 3, 2, by decide +kernel⟩,
   ⟨((wDis State.reset).wr (LANE_CTL_ENABLE 17) 0 |>.wr (LANE_STAT_STATE 17) 9), 17, 3, by decide +kernel⟩,
   ⟨(wLink 3 7 State.reset), 3, by decide +kernel⟩,
   ⟨(wBurst State.reset), 3, 9, by decide +kernel⟩,
   ⟨(wRest State.reset), 3, (entW 1 0), by decide +kernel⟩,
   ⟨((wRest State.reset).wr (LANE_CTL_MAX_LP 3) 0), 3, (entW 1 0), by decide +kernel⟩,
   ⟨(wRest State.reset), 3, 1, by decide +kernel⟩,
   ⟨(wAsked State.reset), 3, (entW 2 1), 2, by decide +kernel⟩,
   ⟨(wAsked State.reset), 3, 9, by decide +kernel⟩,
   ⟨(wDoze State.reset), 3, 0, by decide +kernel⟩,
   ⟨((wDoze State.reset).onChord 3 (fun c => { c with replay := [] })), 3, (ctlWord 0x0A []), by decide +kernel⟩⟩


end Lane

namespace Chord

def hdrW : Word := pack [(37, 3, 1), (25, 12, 0x200), (20, 5, 4), (4, 16, 0), (2, 1, 1)]
def wFrame (b : State) : State :=
  ((wLink 3 3 b).onLane 3 (fun l => { l with pair0 := { l.pair0 with laneB := some false, items := [RxItem.data 1#40, RxItem.bad] }, pair1 := { l.pair1 with items := [RxItem.data 2#40] } })).onChord 3 (fun c => { c with void := false, framing := { words := [hdrW] } })
def wFlit (lsn : Nat) (b : State) : State :=
  let s := (wOn b).wr (CHD_STAT_AUTH 3) 0
  let h : Word := pack [(37, 3, 2), (25, 12, 0x200), (20, 5, 1), (4, 16, lsn), (2, 1, 1)]
  s.onChord 3 (fun c => { c with cum := 7, framed := ([h, 5#40, s.trailer 3 false 0 0 0 [h, 5#40]], false) :: c.framed, vc2 := { c.vc2 with myCless := false } })
def wAck (b : State) : State := (wLink 3 3 b).onChord 3 (fun c => { c with ackDue := some 5, points := [] })
def wNak (b : State) : State := ({ wLink 3 3 b with now := b.now + 1 }.wr (CHD_STAT_RX_STATE 3) 1).onChord 3 (fun c => { c with nakAgain := some 0, points := [] })
def rp (n : Nat) : Replay := { lsn := n, vc := 2, tunnel := 0x600, payload := [1#40, 2#40], last := true }
def wHeld (b : State) : State := { wLink 3 3 b with now := b.now + 1 }.onChord 3 (fun c => { c with purge := 4, nextLsn := 7, replay := [rp 5, rp 6], xReplay := [], epForLoss := false, lastOldest := none, timer := some 0 })
def wRep (b : State) : State := (wOn (wHeld b)).wr (CHD_STAT_AUTH 3) 0 |>.wr (CHD_STAT_TX_STATE 3) 0
def wReplay (b : State) : State := ((wOn b).wr (CHD_STAT_TX_STATE 3) 1).onChord 3 (fun c => { c with epForLoss := false })
def ackW (lsn : Nat) : Word := ctlWord 4 [(18,16,lsn),(10,8,3)]
def wCred (b : State) : State := (wLink 3 3 b).onChord 3 (fun c => { c with points := [], creditRepeat := some 0, vc2 := { c.vc2 with myCless := false, freedH := 2, freedD := 9, limH := 65535, limD := 10, cless := false, ccH := 65530, ccD := 3, clH := 5, clD := 20 } })
def credW (data lim : Nat) : Word := ctlWord 0x06 [(31, 3, 2), (30, 1, data), (14, 16, lim)]
def wCopy (b : State) : State := ((wLink 3 3 b).wr (CHD_STAT_AUTH 3) 0).onLane 3 (fun l => { l with pair1 := { l.pair1 with runs := [], express := [some (pack [(9, 8, 0)]), some 5#40, some (~~~5#40)] } }) |>.onChord 3 (fun c => { c with xWait := [], xAcc := [], xCum := 255 })
def wWait (b : State) : State := { (wOn b).wr (CHD_STAT_XNAK 3) 0 with now := 30 + b.now }.onChord 3 (fun c => { c with xWait := (true, false, 0) :: c.xWait })
def wStale (b : State) : State := { (wOn b).onChord 3 (fun c => { c with xReplay := [{ xsn := 3, words := [1#40, 2#40, 3#40], firstAt := 0 }, { xsn := 4, words := [1#40, 2#40, 3#40], firstAt := 1000000000 }, { xsn := 5, words := [1#40, 2#40, 3#40], firstAt := 0 }] }) with now := 1000000000 }
def pnt : Point := { type := 1, oh := true, origin := 3, arg := 5 }
def wPoint (b : State) : State := (wLink 3 3 b).onChord 3 (fun c => { c with points := pnt :: c.points, pointSent := [0, 1], psn := 15 })
def wPrep (n : Nat) (b : State) : State := (wLink 3 3 b).onChord 3 (fun c => { c with pointReps := [{ word := 5#40, due := 0, left := n }] })
def pntW (t arg : Nat) : Word := ctlWord 7 [(30, 4, t), (26, 4, 9), (0, 19, arg)]
def wQuiet (b : State) : State := (wHeld b).onChord 3 (fun c => { c with pointSeen := [] })
def wMark (b : State) : State := let s := ((wOn (wLink 16 3 b)).wr CHIP_STAT_ROLE 1).wr (LANE_STAT_PARTNER_KIND 16) 2
  { s.onChord 16 (fun c => { c with pointSeen := [] }) with lattice := { b.lattice with stageS := none } }

/-- What `ChordFlitRows` supposes is met, clause by clause. -/
theorem wit_ChordFlitRows :
    (∃ (s : State) (p : Fin 18) (x y : Word) (a b : List RxItem), s.coreOn = true ∧ s.active p = true ∧ (s.lane p).pair0.laneB = some false ∧
        (s.lane p).pair0.items = .data x :: a ∧ (s.lane p).pair1.items = .data y :: b ∧ (s.chord p).void = false ∧
        flitComplete ((s.chord p).framing.words ++ [x]) = false ∧ flitComplete ((s.chord p).framing.words ++ [x, y]) = false) ∧
    (∃ (s : State) (p : Fin 18) (ws : List Word) (rest : List (List Word × Bool)), s.coreOn = true ∧ (s.chord p).framed = (ws, false) :: rest ∧
        s.rdB (CHD_STAT_AUTH p) = false ∧ 1 ≤ fld (ws.headD 0) 37 3 ∧ fld (ws.headD 0) 37 3 ≤ 5 ∧ 1 ≤ fld (ws.headD 0) 20 5 ∧
        fld (ws.headD 0) 20 5 ≤ 30 ∧ ws.getLastD 0 = s.trailer p false 0 0 0 ws.dropLast ∧
        modSub 16 (fld (ws.headD 0) 4 16) ((s.chord p).cum + 1) = 0 ∧ ((s.chord p).cred (fld (ws.headD 0) 37 3)).myCless = false) ∧
    (∃ (s : State) (p : Fin 18) (ws : List Word) (rest : List (List Word × Bool)), s.coreOn = true ∧ (s.chord p).framed = (ws, false) :: rest ∧
        s.rdB (CHD_STAT_AUTH p) = false ∧ 1 ≤ fld (ws.headD 0) 37 3 ∧ fld (ws.headD 0) 37 3 ≤ 5 ∧ 1 ≤ fld (ws.headD 0) 20 5 ∧
        fld (ws.headD 0) 20 5 ≤ 30 ∧ ws.getLastD 0 = s.trailer p false 0 0 0 ws.dropLast ∧
        32768 ≤ modSub 16 (fld (ws.headD 0) 4 16) ((s.chord p).cum + 1)) ∧
    (∃ (s : State) (p : Fin 18), s.coreOn = true ∧ s.active p = true ∧ (s.chord p).ackDue ≠ none ∧ (s.chord p).points = []) ∧
    (∃ (s : State) (p : Fin 18) (d : Nat), s.coreOn = true ∧ s.active p = true ∧ s.rd (CHD_STAT_RX_STATE p) = 1 ∧ (s.chord p).nakAgain = some d ∧
        d < s.now ∧ (s.chord p).points = []) ∧
    (∃ (s : State) (p : Fin 18) (w : Word), s.active p = true ∧ fld w 34 6 = 0x04 ∧ (s.chord p).judgeAck (fld w 18 16) = 0 ∧ fld w 9 1 = 0) ∧
    (∃ (s : State) (p : Fin 18) (w : Word), s.active p = true ∧ fld w 34 6 = 0x04 ∧ (s.chord p).judgeAck (fld w 18 16) = 2 ∧ s.coreOn = true) ∧
    (∃ (s : State) (p : Fin 18) (w : Word) (_bad : List Nat) (_corr : Nat) (_h : Bool), s.coreOn = true ∧ s.replayReady p ∧ fld w 34 6 = 0x05 ∧
        fld w 9 1 = 0 ∧ fld w 18 16 = (s.chord p).purge ∧ s.rd (CHD_STAT_TX_STATE p) = TX_SEND) ∧
    (∃ (s : State) (p : Fin 18) (_bad : List Nat) (_corr : Nat) (_h : Bool) (d : Nat), s.coreOn = true ∧ s.replayReady p ∧
        (s.chord p).timer = some d ∧ d < s.now) ∧
    (∃ (s : State) (p : Fin 18), s.coreOn = true ∧ s.rd (CHD_STAT_TX_STATE p) = TX_REPLAY ∧ (s.chord p).epForLoss = false) :=
  ⟨⟨(wFrame State.reset), 3, 1, 2, [.bad], [], by decide +kernel⟩,
   ⟨(wFlit 8 State.reset), 3, (((wFlit 8 State.reset).chord 3).framed.headD ([], true)).1, (State.reset.chord 3).framed, by decide +kernel⟩,
   ⟨(wFlit 7 State.reset), 3, (((wFlit 7 State.reset).chord 3).framed.headD ([], true)).1, (State.reset.chord 3).framed, by decide +kernel⟩,
   ⟨(wAck State.reset), 3, by decide +kernel⟩,
   ⟨(wNak State.reset), 3, 0, by decide +kernel⟩,
   ⟨(wHeld State.reset), 3, (ackW 5), by decide +kernel⟩,
   ⟨(wOn (wHeld State.reset)), 3, (ackW 9), by decide +kernel⟩,
   ⟨(wRep State.reset), 3, (ctlWord 5 [(18,16,4)]), [], 0, false, (by unfold State.replayReady; decide +kernel)⟩,
   ⟨(wRep State.reset), 3, [], 0, false, 0, (by unfold State.replayReady; decide +kernel)⟩,
   ⟨(wReplay State.reset), 3, by decide +kernel⟩⟩

/-- What `ChordCreditRows` supposes is met, clause by clause. -/
theorem wit_ChordCreditRows :
    (∃ (s : State) (p : Fin 18) (vc : Fin 5), s.coreOn = true ∧ s.active p = true ∧ ((s.chord p).cred (vc + 1)).myCless = false ∧
        (s.chord p).points = [] ∧ ((s.chord p).cred (vc + 1)).freedH ≠ 0) ∧
    (∃ (s : State) (p : Fin 18) (vc : Fin 5), s.coreOn = true ∧ s.active p = true ∧ ((s.chord p).cred (vc + 1)).myCless = false ∧
        (s.chord p).points = [] ∧ ((s.chord p).cred (vc + 1)).freedD ≠ 0) ∧
    (∃ (s : State) (p : Fin 18) (d : Nat), s.coreOn = true ∧ s.active p = true ∧ (s.chord p).creditRepeat = some d ∧ d ≤ s.now ∧
        (s.chord p).points = []) ∧
    (∃ (s : State) (p : Fin 18) (w : Word), s.active p = true ∧ fld w 34 6 = 0x06 ∧ 1 ≤ fld w 31 3 ∧ fld w 31 3 ≤ 5 ∧
        ((s.chord p).cred (fld w 31 3)).cless = false ∧ fld w 30 1 = 0 ∧ modSub 16 (fld w 14 16) ((s.chord p).cred (fld w 31 3)).ccH ≤ 32767 ∧
        modSub 16 (fld w 14 16) ((s.chord p).cred (fld w 31 3)).clH ≤ 32767) ∧
    (∃ (s : State) (p : Fin 18) (w : Word), s.active p = true ∧ fld w 34 6 = 0x06 ∧ 1 ≤ fld w 31 3 ∧ fld w 31 3 ≤ 5 ∧
        ((s.chord p).cred (fld w 31 3)).cless = false ∧ fld w 30 1 = 1 ∧ modSub 16 (fld w 14 16) ((s.chord p).cred (fld w 31 3)).ccD ≤ 32767 ∧
        modSub 16 (fld w 14 16) ((s.chord p).cred (fld w 31 3)).clD ≤ 32767) ∧
    (∃ (s : State) (p : Fin 18) (w : Word), s.active p = true ∧ fld w 34 6 = 0x06 ∧ 1 ≤ fld w 31 3 ∧ fld w 31 3 ≤ 5 ∧
        ((s.chord p).cred (fld w 31 3)).cless = false ∧ fld w 30 1 = 0 ∧ 32767 < modSub 16 (fld w 14 16) ((s.chord p).cred (fld w 31 3)).clH ∧
        s.coreOn = true) ∧
    (∃ (s : State) (p : Fin 18) (pair : Bool) (a b c : Word), s.coreOn = true ∧ s.active p = true ∧ s.rdB (CHD_STAT_AUTH p) = false ∧
        ((s.lane p).pair pair).runs = [] ∧ ((s.lane p).pair pair).express = [some a, some b, some c] ∧ c = ~~~b ∧ fld a 37 3 = 0 ∧
        (s.chord p).xWait = [] ∧ (s.chord p).xAcc = [] ∧ modSub 8 (fld a 9 8) (s.chord p).xCum = 1 ∧ (s.chord p).xCum < 256) ∧
    (∃ (s : State) (p : Fin 18) (n : Nat), s.coreOn = true ∧ ((s.chord p).xWait.filter (fun x => x.2.2 < s.now && !x.2.1)).length = n + 1 ∧
        s.rdB (CHD_STAT_XNAK p) = false) ∧
    (∃ (s : State) (p : Fin 18) (n : Nat), s.coreOn = true ∧
        ((s.chord p).xReplay.filter (fun e => e.firstAt + 1000 * max 1 (s.rd (CHD_XCTL_MAX_AGE p)) < s.now)).length = n + 1) :=
  ⟨⟨(wCred State.reset), 3, 1, by decide +kernel⟩,
   ⟨(wCred State.reset), 3, 1, by decide +kernel⟩,
   ⟨(wCred State.reset), 3, 0, by decide +kernel⟩,
   ⟨(wCred State.reset), 3, (credW 0 7), by decide +kernel⟩,
   ⟨(wCred State.reset), 3, (credW 1 32770), by decide +kernel⟩,
   ⟨(wOn (wCred State.reset)), 3, (credW 0 4), by decide +kernel⟩,
   ⟨(wCopy State.reset), 3, true, (pack [(9, 8, 0)]), 5, (~~~5), by decide +kernel⟩,
   ⟨(wWait State.reset), 3, (((wWait State.reset).chord 3).xWait.filter (fun x => x.2.2 < State.reset.now && !x.2.1)).length.pred,
       by decide +kernel⟩,
   ⟨(wStale State.reset), 3, 1, by decide +kernel⟩⟩

/-- What `PointRows` supposes is met, clause by clause. -/
theorem wit_PointRows :
    (∃ (s : State) (p : Fin 18) (m : Point) (rest : List Point), s.coreOn = true ∧ (s.chord p).points = m :: rest ∧ s.ls p = LS_ACTIVE ∧
        ((s.chord p).pointSent.filter (fun t => s.now < t + 1000)).length < 8) ∧
    (∃ (s : State) (p : Fin 18), s.coreOn = true ∧ s.active p = true) ∧
    (∃ (s : State) (p : Fin 18), s.coreOn = true ∧ s.active p = true) ∧
    (∃ (s : State) (p : Fin 18) (w : Word), s.coreOn = true ∧ s.active p = true ∧ fld w 34 6 = 0x07 ∧ (fld w 30 4 = 0 ∨ 7 ≤ fld w 30 4)) ∧
    (∃ (s : State) (p : Fin 18) (w : Word), s.coreOn = true ∧ s.active p = true ∧ fld w 34 6 = 0x07 ∧ fld w 30 4 = 3 ∧
        bitsOf (fld w 0 19) 17 2 = 2 ∧ (s.chord p).pointSeen = [] ∧ (s.chord p).replay ≠ []) ∧
    (∃ (s : State) (p : Fin 18) (w : Word), s.active p = true ∧ s.coreOn = true ∧ fld w 34 6 = 0x07 ∧ fld w 30 4 = 2 ∧
        (s.chord p).pointSeen = [] ∧ s.fromRoot p = true ∧ latticeOk (bitsOf (fld w 0 19) 15 4) (bitsOf (fld w 0 19) 11 4) = true ∧
        s.lattice.stageS = none) ∧
    (∃ (s : State) (p : Fin 18) (w : Word), s.active p = true ∧ s.coreOn = true ∧ fld w 34 6 = 0x07 ∧ fld w 30 4 = 2 ∧
        (s.chord p).pointSeen = [] ∧ s.fromRoot p = true ∧ latticeOk (bitsOf (fld w 0 19) 15 4) (bitsOf (fld w 0 19) 11 4) = false) :=
  ⟨⟨(wPoint State.reset), 3, pnt, (State.reset.chord 3).points, by decide +kernel⟩,
   ⟨(wPrep 2 State.reset), 3, by decide +kernel⟩,
   ⟨(wPrep 1 State.reset), 3, by decide +kernel⟩,
   ⟨(wLink 3 3 State.reset), 3, (pntW 7 0), by decide +kernel⟩,
   ⟨(wQuiet State.reset), 3, (pntW 3 (2 * 2 ^ 17)), by decide +kernel⟩,
   ⟨(wMark State.reset), 16, (pntW 2 (4 * 2 ^ 15 + 4 * 2 ^ 11 + 5)), by decide +kernel⟩,
   ⟨(wMark State.reset), 16, (pntW 2 (15 * 2 ^ 15 + 15 * 2 ^ 11)), by decide +kernel⟩⟩


end Chord

namespace Link

def wDownNew (b : State) : State := (wLink 3 8 b).onChord 3 (fun c => { c with downDone := false, points := [{ type := 1, oh := true, origin := 3, arg := 5 }], graceMs := 50 })
def wUp (b : State) : State := (wLink 3 3 b).onChord 3 (fun c => { c with graceMs := 50 })
def wRes (b : State) : State := (wLink 3 8 b).onLane 3 (fun l => { l with resumed := true })
def wResSame (b : State) : State := let s := (wRes b).onLane 3 (fun l => { l with lastKind := some (capsKind l.caps), lastTag := capsTag l.caps })
  s.onChord 3 (fun c => { c with settings := (s.newChord 3).settings })
def wGrace (b : State) : State := { ((wLink 3 8 b).onChord 3 (fun c => { c with graceAt := some 9 })).onLane 3 (fun l => { l with resumed := false }) with now := 10 }
def wRevoked (b : State) : State := { (wLink 3 3 b).onChord 3 (fun c => { c with revoked := true, revokeAt := some 9 }) with now := 10 }
def wAuth (b : State) : State :=
  let s := (((((wLink 3 3 b).wr (CHD_STAT_AUTH 3) 1).wr (CHD_STAT_EPOCH_TX 3) 254).wr (CHD_STAT_EPOCH_RX 3) 255).wr (KEY_LINKMAP_SLOT 0) (5 * 2 ^ 24)).wr KEY_STAT_LC 2
  { s.onChord 3 (fun c => { c with epTx := .none, epRx := .none }) with
    keys := { b.keys with slots := b.keys.slots.set 5 { st := .key, c0 := { w1 := 0x0FFFC000 } } } }
def epW (ph e : Nat) : Word := ctlWord 0x09 [(32, 2, ph), (24, 8, e)]
def wEpRx (x : EpochPhase) (b : State) : State := (wAuth b).onChord 3 (fun c => { c with epRx := x })
def wAnn (b : State) : State := { (wAuth b).onChord 3 (fun c => { c with epTx := .announced, points := [], epRepeat := some 9, epDeadline := some 9, epForLoss := false, revoked := false }) with now := 10 }
def flt (eg : Nat) : HFlit := { tunnel := 0x600, vc := 4, payload := [1#40, 2#40], last := true, inPort := 5, todo := [eg] }
def wCross (eg : Nat) (b : State) : State :=
  let s := (wOn b).onTun 0x600 (fun x => { x with pruned := 0, stopAt := none, e := { x.e with state := .opened, mig := 0, vc := 4, inPort := 5, destMask := 2 ^ eg, queue := 20 } })
  let s := s.onChord 4 (fun c => { c with vc4 := { c.vc4 with cless := true } })
  { s with hull := { s.hull with ingress := [flt eg] }, power := { s.power with asleep := 0 } }
def msgH : Word := pack [(16, 24, 0), (0, 16, 2)]
def mflt : HFlit := { tunnel := 0x600, vc := 4, payload := [msgH, 7#40, 8#40], last := true, inPort := 5, todo := [] }
def wMsg (b : State) : State :=
  let s := (wOn b).onTun 0x600 (fun x => { x with rx := {}, e := { x.e with maxMsg := 2, keyed := false, msnIn := 0xFFFFFF } })
  { s with hull := { s.hull with adapters := (20, mflt) :: s.hull.adapters } }
def wOpenMsg (b : State) : State := { (wOn b).onTun 0x600 (fun x => { x with rx := { isOpen := true, startAt := 5 } }) with now := 1000006 }

/-- What `LinkLossRows` supposes is met, clause by clause. -/
theorem wit_LinkLossRows :
    (∃ (s : State) (p : Fin 18), s.coreOn = true ∧ s.ls p = LS_DOWN ∧ (s.chord p).downDone = false) ∧
    (∃ (s : State) (p : Fin 18), s.coreOn = true ∧ s.ls p = LS_ACTIVE ∧ (s.chord p).graceMs ≠ 0) ∧
    (∃ (s : State) (p : Fin 18), s.coreOn = true ∧ s.ls p = LS_DOWN ∧ (s.lane p).resumed = true) ∧
    (∃ (s : State) (p : Fin 18), s.coreOn = true ∧ s.ls p = LS_DOWN ∧ (s.lane p).resumed = true) ∧
    (∃ (s : State) (p : Fin 18) (d : Nat), s.coreOn = true ∧ s.ls p = LS_DOWN ∧ (s.chord p).graceAt = some d ∧ d < s.now ∧
        (s.lane p).resumed = false) ∧
    (∃ (s : State) (p : Fin 18), s.coreOn = true ∧ s.ls p = LS_DOWN) ∧
    (∃ (s : State) (p : Fin 18) (d : Nat), s.coreOn = true ∧ (s.chord p).revoked = true ∧ (s.chord p).revokeAt = some d ∧ d < s.now) :=
  ⟨⟨(wDownNew State.reset), 3, by decide +kernel⟩,
   ⟨(wUp State.reset), 3, by decide +kernel⟩,
   ⟨(wRes State.reset), 3, by decide +kernel⟩,
   ⟨(wResSame State.reset), 3, by decide +kernel⟩,
   ⟨(wGrace State.reset), 3, 9, by decide +kernel⟩,
   ⟨(wGrace State.reset), 3, by decide +kernel⟩,
   ⟨(wRevoked State.reset), 3, 9, by decide +kernel⟩⟩

/-- What `EpochRows` supposes is met, clause by clause. -/
theorem wit_EpochRows :
    (∃ (s : State) (p : Fin 18), s.coreOn = true ∧ s.active p = true ∧ s.rdB (CHD_STAT_AUTH p) = true ∧ (s.chord p).epTx = .none ∧
        s.useRefusal (s.linkSlot p) 3 masterChord = none ∧ s.rd (CHD_STAT_EPOCH_TX p) ≠ 255) ∧
    (∃ (s : State) (p : Fin 18) (w : Word), s.coreOn = true ∧ s.active p = true ∧ s.rdB (CHD_STAT_AUTH p) = true ∧ fld w 34 6 = 0x09 ∧
        fld w 24 8 = (s.rd (CHD_STAT_EPOCH_RX p) + 1) % 256 ∧ fld w 32 2 = 1 ∧ (s.chord p).epRx ≠ .ready) ∧
    (∃ (s : State) (p : Fin 18) (w : Word), s.coreOn = true ∧ s.active p = true ∧ s.rdB (CHD_STAT_AUTH p) = true ∧ fld w 34 6 = 0x09 ∧
        fld w 24 8 = (s.rd (CHD_STAT_EPOCH_RX p) + 1) % 256 ∧ fld w 32 2 = 1 ∧ (s.chord p).epRx = .ready) ∧
    (∃ (s : State) (p : Fin 18) (w : Word), s.coreOn = true ∧ s.active p = true ∧ s.rdB (CHD_STAT_AUTH p) = true ∧ fld w 34 6 = 0x09 ∧
        fld w 24 8 = (s.rd (CHD_STAT_EPOCH_RX p) + 1) % 256 ∧ fld w 32 2 = 3 ∧ (s.chord p).epRx = .ready) ∧
    (∃ (s : State) (p : Fin 18) (d : Nat), s.coreOn = true ∧ s.active p = true ∧ (s.chord p).epTx = .announced ∧ (s.chord p).epRepeat = some d ∧
        d < s.now ∧ (s.chord p).points = []) ∧
    (∃ (s : State) (p : Fin 18), s.coreOn = true ∧ s.active p = true ∧ (s.chord p).epRx = .announced ∧
        s.useRefusal (s.linkSlot p) 3 masterChord = none) ∧
    (∃ (s : State) (p : Fin 18) (d : Nat), s.coreOn = true ∧ (s.chord p).epTx = .announced ∧ (s.chord p).epDeadline = some d ∧ d < s.now ∧
        (s.chord p).epForLoss = false ∧ (s.chord p).revoked = false) :=
  ⟨⟨(wAuth State.reset), 3, by decide +kernel⟩,
   ⟨(wEpRx .none State.reset), 3, (epW 1 0), by decide +kernel⟩,
   ⟨(wEpRx .ready State.reset), 3, (epW 1 0), by decide +kernel⟩,
   ⟨(wEpRx .ready State.reset), 3, (epW 3 0), by decide +kernel⟩,
   ⟨(wAnn State.reset), 3, 9, by decide +kernel⟩,
   ⟨(wEpRx .announced State.reset), 3, by decide +kernel⟩,
   ⟨(wAnn State.reset), 3, 9, by decide +kernel⟩⟩

/-- What `HullRows` supposes is met, clause by clause. -/
theorem wit_HullRows :
    (∃ (s : State) (egress : Fin 25) (i : Nat) (f : HFlit), s.running = true ∧ s.grant egress = some (i, f) ∧ (s.tun f.tunnel).e.state = .opened ∧
        bitOf (s.tun f.tunnel).pruned egress = false ∧ f.stomp = false ∧ 18 ≤ egress.val) ∧
    (∃ (s : State) (egress : Fin 25) (i : Nat) (f : HFlit), s.running = true ∧ s.grant egress = some (i, f) ∧ (s.tun f.tunnel).e.state = .opened ∧
        bitOf (s.tun f.tunnel).pruned egress = false ∧ f.stomp = false) ∧
    (∃ (s : State) (egress : Fin 25) (i : Nat) (f : HFlit), s.running = true ∧ s.grant egress = some (i, f) ∧ (s.tun f.tunnel).e.state = .opened ∧
        bitOf (s.tun f.tunnel).pruned egress = false ∧ f.stomp = false ∧ egress.val < 18 ∧ 2 ≤ f.vc) ∧
    (∃ (s : State) (port : Fin 25) (f : HFlit) (rest : List (Nat × HFlit)) (h : Word) (l : List Word), s.running = true ∧
        takePort port s.hull.adapters = some (f, rest) ∧ 2 ≤ f.vc ∧ (s.tun f.tunnel).rx = {} ∧ f.poison = false ∧ f.last = true ∧
        f.payload = h :: l ∧ fld h 0 16 = l.length ∧ l ≠ [] ∧ l.length ≤ 29 ∧
        (((s.tun f.tunnel).e.maxMsg = 0 ∨ l.length ≤ (s.tun f.tunnel).e.maxMsg)) ∧ (s.tun f.tunnel).e.keyed = false ∧
        fld h 16 24 = ((s.tun f.tunnel).e.msnIn + 1) % 2 ^ 24) ∧
    (∃ (s : State) (n : BitVec 12), s.running = true ∧ (s.tun n.toNat).rx.isOpen = true ∧ (s.tun n.toNat).rx.startAt + 1000000 < s.now) :=
  ⟨⟨(wCross 20 State.reset), 20, 0, (flt 20), by decide +kernel⟩,
   ⟨(wCross 20 State.reset), 20, 0, (flt 20), by decide +kernel⟩,
   ⟨(wCross 4 State.reset), 4, 0, (flt 4), by decide +kernel⟩,
   ⟨(wMsg State.reset), 20, mflt, State.reset.hull.adapters, msgH, [7, 8], by decide +kernel⟩,
   ⟨(wOpenMsg State.reset), 0x600, by decide +kernel⟩⟩


end Link

namespace Tunnel

/-- TUN_CMD ready for tunnel `n` with an entry. -/
def wTun (n : Nat) (f : Tun → Tun) (b : State) : State := (((wOn b).wr CHIP_STAT_ROLE 0 |>.wr TUN_CMD_BUSY 0).wr TUN_SEL_TUNNEL n).onTun n f
def ent : Entry := { kind := 5, vc := 4, inPort := 20, queue := 20, destMask := 2 ^ 3 }
def wWrite (st : TunState) (b : State) : State :=
  ((wTun 0x600 (fun x => { x with e := { x.e with state := st } }) b).wr (LANE_CTL_ENABLE 3) 1).each (List.range 8) (fun i s => s.wr (TUN_DATA_WORD i) (nth ent.words i))
def wNoIds (b : State) : State := { b with ids := { b.ids with hubOf := [], docks := [] } }
def wEnt (st : TunState) (b : State) : State := (wTun 0x600 (fun x => { x with e := { ent with state := st, gen := 255 } }) (wNoIds b)).wr (LANE_CTL_ENABLE 3) 1
def wSat (b : State) : State := (wTun 0x200 (fun x => { x with e := { kind := 4, vc := 1, inPort := 4, queue := 1, destMask := 2 ^ 3, rate := 6001, state := .reserved } }) (wNoIds b)).wr (LANE_CTL_ENABLE 3) 1 |>.wr (LANE_CTL_ENABLE 4) 1 |>.wr PWR_STAT_CLK_SRC 1
def wFar (st : TunState) (b : State) : State :=
  let s := ({ wTun 0x600 (fun x => { x with e := { ent with state := st, gen := 255, auto := true } }) b with ids := { b.ids with hubOf := [(3, 5)], docks := [(0, 3, 9)] } }).wr (LANE_CTL_ENABLE 3) 1
  s.onTun (ctrlTun 5) (fun x => { x with e := { state := .opened, vc := 2, inPort := 24, destMask := 8 } })
def wRoot (r : Nat) (b : State) : State := (wOn b).wr CHIP_STAT_ROLE r
def wAckT (st : TunState) (leaves docks : List Nat) (b : State) : State :=
  { (wRoot 0 b).onTun 0x600 (fun x => { x with leaves := leaves, docks := docks, since := 0, writeAt := 0, resent := false, e := { ent with state := st, inPort := 20 } }) with now := b.now + 10000001 }
def wHeldMsg (b : State) : State :=
  let s := { wRoot 0 b with tuns := Map.empty }
  (s.onTun 0x600 (fun x => { x with heldMsgs := [9, 4], e := { ent with state := .closing } })).onTun (mgmtTun 9) (fun x => { x with e := { state := .opened, vc := 2, inPort := 24, destMask := 8 } })
def wResend (b : State) : State := (wAckT .opening [5] [] b).onTun (ctrlTun 5) (fun x => { x with e := { state := .opened, vc := 2, inPort := 24, destMask := 8 } })
def wAuto (b : State) : State := (((wLink 3 3 (wRoot 0 (wNoIds b))).wr TUN_CTL_AUTO_REOPEN 1).wr PWR_STAT_CLK_SRC 1).onTun 0x600 (fun x => { x with refused := false, e := { ent with state := .failed, auto := true } })
def wLeaf (b : State) : State := (wRoot 1 b).wr CHIP_STAT_HUB 5 |>.wr (LANE_CTL_ENABLE 3) 1
def entMsg (st : TunState) : List Word := ctrlWord 5 0 0 0x600 0 :: entryWords { ent with state := st }.words
def wCarry (b : State) : State := { (wLeaf (wLink 17 8 b)) with ids := { b.ids with carry := some 17 } }
def wFreeIds (b : State) : State := { wRoot 0 b with ids := {} }
def wFullIds (b : State) : State := { wRoot 0 b with ids := { docks := (List.range 64).map (fun i => (i % 16, i / 16 + 20, i)) } }
def wAskC (b : State) : State := { (wLeaf (wLink 4 2 b)).onLane 4 (fun l => { l with phase := .config, caps := [(0, 7)], seenRcvd := false }) with ids := { b.ids with asked := [(4, 9)] } }
def wDock (b : State) : State := { wRoot 0 b with ids := { b.ids with docks := (5, 4, 63) :: b.ids.docks, dockPins := [] } }
def wPair (b : State) : State :=
  let s := { wRoot 0 b with ids := { b.ids with hubOf := [(3, 5), (4, 5)] }, tuns := Map.empty }
  s.onTun 0x600 (fun _ => { e := { ent with state := .opened, inPort := 3, destMask := 2 ^ 20, altPort := 4 } })
def wApex (b : State) : State :=
  let s := (wLeaf (wLink 16 3 (wLink 17 3 b))).onLane 16 (fun l => { l with activeAt := 0 })
  { s with now := 1000000, ids := { b.ids with carry := some 17 }, tuns := Map.empty }.onTun 0x600 (fun _ => { e := { ent with state := .opened, inPort := 17, altPort := 16 } })
def wStop (held : Bool) (b : State) : State :=
  let s := (wApex b).onTun 0x600 (fun x => { x with stopAt := some 7, retryAt := some 9 })
  let s := s.onChord 17 (fun c => { c with replay := if held then [{ lsn := 0, vc := 4, tunnel := 0x600, payload := [1#40], last := true }] else [] })
  { s with compass := { s.compass with queues := Map.empty }, now := 100008 }
def wDone (b : State) : State := (wPair b).onTun 0x600 (fun x => { x with e := { x.e with mig := 0 }, stopAt := none })
def wMig (b : State) : State := { wPair b with hull := {} }.onTun 0x600 (fun x => { x with e := { x.e with mig := 2 }, doneRcvd := true })

/-- What `TunnelCommandRows` supposes is met, clause by clause. -/
theorem wit_TunnelCommandRows :
    (∃ s : State, s.running = true ∧ s.rdB TUN_CMD_BUSY = false) ∧
    (∃ (s : State) (n : Nat), s.tunReady n ∧ ((s.tun n).e.state = .free ∨ (s.tun n).e.state = .reserved) ∧
        s.fieldsOk n { Entry.ofWords ((List.range 8).map (fun i => s.rd (TUN_DATA_WORD i))) with state := (s.tun n).e.state, mig := (s.tun n).e.mig, msnOut := (s.tun n).e.msnOut, msnIn := (s.tun n).e.msnIn, gen := (s.tun n).e.gen, cause := (s.tun n).e.cause, msgLost := (s.tun n).e.msgLost } false = true) ∧
    (∃ (s : State) (n : Nat), s.tunReady n ∧ (s.tun n).e.state = .opened) ∧
    (∃ (s : State) (n : Nat), s.tunReady n ∧ (s.tun n).e.state = .free) ∧
    (∃ (s : State) (n : Nat), s.tunReady n ∧ (s.tun n).e.state = .reserved ∧ s.openOk n = true ∧ s.alone n ∧ s.openStatus n = 0) ∧
    (∃ (s : State) (n : Nat), s.tunReady n ∧ (s.tun n).e.state = .reserved) ∧
    (∃ (s : State) (n : Nat), s.tunReady n ∧ (s.tun n).e.state = .reserved ∧ s.openOk n = true ∧ s.leavesUp (s.tun n).e = true ∧ (¬ s.alone n) ∧
        s.openStatus n = 0) ∧
    (∃ (s : State) (n : Nat), s.tunReady n ∧ (s.tun n).e.state = .reserved ∧ s.openOk n = true ∧ s.leavesUp (s.tun n).e = true ∧
        s.openStatus n = 2) ∧
    (∃ (s : State) (n : Nat), s.tunReady n ∧ (s.tun n).e.state.charged = true ∧ s.alone n) ∧
    (∃ (s : State) (n : Nat), s.tunReady n ∧ (s.tun n).e.state.charged = true ∧ (¬ s.alone n)) ∧
    (∃ (s : State) (n : Nat), s.tunReady n ∧ (s.tun n).e.state.charged = true ∧ (¬ s.alone n)) ∧
    (∃ (s : State) (n : Nat), s.tunReady n ∧ (s.tun n).e.state = .failed ∧ s.keyOk n = true ∧ s.openStatus n = 0 ∧ (¬ s.alone n) ∧
        s.leavesUp (s.tun n).e = true) ∧
    (∃ (s : State) (n : Nat), s.tunReady n ∧ (s.tun n).e.state = .failed ∧ s.keyOk n = true ∧ s.openStatus n = 0 ∧ s.alone n) ∧
    (∃ s : State, s.running = true ∧ s.rdB TUN_CMD_BUSY = false ∧ protectedTun (s.rd TUN_SEL_TUNNEL) = true) :=
  ⟨⟨(wTun 0x600 id State.reset), by decide +kernel⟩,
   ⟨(wWrite .reserved State.reset), 0x600, (by unfold State.tunReady; decide +kernel)⟩,
   ⟨(wWrite .opened State.reset), 0x600, (by unfold State.tunReady; decide +kernel)⟩,
   ⟨(wWrite .free State.reset), 0x600, (by unfold State.tunReady; decide +kernel)⟩,
   ⟨(wEnt .reserved State.reset), 0x600, (by unfold State.tunReady; unfold State.alone; decide +kernel)⟩,
   ⟨(wEnt .reserved State.reset), 0x600, (by unfold State.tunReady; decide +kernel)⟩,
   ⟨(wFar .reserved State.reset), 0x600, (by unfold State.tunReady; unfold State.alone; decide +kernel)⟩,
   ⟨(wSat State.reset), 0x200, (by unfold State.tunReady; decide +kernel)⟩,
   ⟨(wEnt .opened State.reset), 0x600, (by unfold State.tunReady; unfold State.alone; decide +kernel)⟩,
   ⟨(wFar .opened State.reset), 0x600, (by unfold State.tunReady; unfold State.alone; decide +kernel)⟩,
   ⟨(wFar .held State.reset), 0x600, (by unfold State.tunReady; unfold State.alone; decide +kernel)⟩,
   ⟨(wFar .failed State.reset), 0x600, (by unfold State.tunReady; unfold State.alone; decide +kernel)⟩,
   ⟨(wEnt .failed State.reset), 0x600, (by unfold State.tunReady; unfold State.alone; decide +kernel)⟩,
   ⟨(wTun 0x041 id State.reset), by decide +kernel⟩⟩

/-- What `TunnelAckRows` supposes is met, clause by clause. -/
theorem wit_TunnelAckRows :
    (∃ (s : State) (hub : Fin 17) (msg : List Word), s.running = true ∧ s.isRoot = true ∧ cType msg = 6 ∧ (s.tun (cTun msg)).e.state = .opening ∧
        hub.val ∈ (s.tun (cTun msg)).leaves ∧ cArg msg % 8 = 0 ∧ (s.tun (cTun msg)).leaves.filter (· ≠ hub.val) = [] ∧
        (s.tun (cTun msg)).docks = []) ∧
    (∃ (s : State) (hub : Fin 17) (msg : List Word), s.running = true ∧ s.isRoot = true ∧ cType msg = 6 ∧ (s.tun (cTun msg)).e.state = .opening ∧
        hub.val ∈ (s.tun (cTun msg)).leaves ∧ cArg msg % 8 = 0 ∧ (s.tun (cTun msg)).leaves.filter (· ≠ hub.val) ≠ []) ∧
    (∃ (s : State) (hub : Fin 17) (msg : List Word), s.running = true ∧ s.isRoot = true ∧ cType msg = 6 ∧ (s.tun (cTun msg)).e.state = .opening ∧
        hub.val ∈ (s.tun (cTun msg)).leaves ∧ cArg msg % 8 = 0 ∧ (s.tun (cTun msg)).leaves.filter (· ≠ hub.val) = [] ∧
        (s.tun (cTun msg)).docks ≠ []) ∧
    (∃ (s : State) (hub : Fin 17) (msg : List Word), s.running = true ∧ s.isRoot = true ∧ cType msg = 6 ∧ (s.tun (cTun msg)).e.state = .opening ∧
        hub.val ∈ (s.tun (cTun msg)).leaves ∧ cArg msg % 8 ≠ 0) ∧
    (∃ (s : State) (dock : Fin 64) (msg : List Word), s.running = true ∧ dock.val ∈ (s.tun (fld (msg.headD 0) 20 12)).docks ∧
        (s.tun (fld (msg.headD 0) 20 12)).e.state = .opening ∧ fld (msg.headD 0) 32 8 = 0x12 ∧ (s.tun (fld (msg.headD 0) 20 12)).leaves = [] ∧
        (s.tun (fld (msg.headD 0) 20 12)).docks.filter (· ≠ dock.val) = []) ∧
    (∃ (s : State) (dock : Fin 64) (msg : List Word), s.running = true ∧ dock.val ∈ (s.tun (fld (msg.headD 0) 20 12)).docks ∧
        (s.tun (fld (msg.headD 0) 20 12)).e.state = .opening ∧ fld (msg.headD 0) 32 8 = 0x12 ∧
        (s.tun (fld (msg.headD 0) 20 12)).docks.filter (· ≠ dock.val) ≠ []) ∧
    (∃ (s : State) (dock : Fin 64) (msg : List Word), s.running = true ∧ dock.val ∈ (s.tun (fld (msg.headD 0) 20 12)).docks ∧
        (s.tun (fld (msg.headD 0) 20 12)).e.state = .closing ∧ fld (msg.headD 0) 32 8 = 0x14) ∧
    (∃ (s : State) (dock : Fin 64) (msg : List Word), s.running = true ∧ dock.val ∈ (s.tun (fld (msg.headD 0) 20 12)).docks ∧
        (s.tun (fld (msg.headD 0) 20 12)).e.state = .opening ∧ fld (msg.headD 0) 32 8 = 0x13) ∧
    (∃ (s : State) (dock : Fin 64) (msg : List Word), s.running = true ∧ dock.val ∈ (s.tun (fld (msg.headD 0) 20 12)).docks ∧
        (s.tun (fld (msg.headD 0) 20 12)).e.state = .closing ∧ fld (msg.headD 0) 32 8 = 0x14) ∧
    (∃ (s : State) (dock : Fin 64), s.running = true ∧ (s.tun (mgmtTun dock)).e.state = .opened ∧ (s.tun (mgmtTun dock)).e.keyed = false) ∧
    (∃ (s : State) (dock : Fin 64) (n : Nat) (ds : List Nat), s.running = true ∧ (s.tun (mgmtTun dock)).e.state = .opened ∧
        (s.tun (mgmtTun dock)).e.keyed = false ∧ s.route (s.tun (mgmtTun dock)).e 24 = some ds ∧ (s.tun n).e.state = .closing ∧ n ≠ mgmtTun dock ∧
        s.tunIds.filter (fun t => (s.tun t).heldMsgs.contains dock.val) = [n]) ∧
    (∃ (s : State) (n : BitVec 12), s.running = true ∧ (s.tun n.toNat).e.state = .opening ∧ (s.tun n.toNat).since + 10000000 < s.now) ∧
    (∃ (s : State) (n : BitVec 12), s.running = true ∧ (s.tun n.toNat).e.state = .closing ∧ (s.tun n.toNat).since + 1000000 ≤ s.now) ∧
    (∃ (s : State) (n : BitVec 12), s.running = true ∧ (s.tun n.toNat).e.state = .closing ∧ (s.tun n.toNat).since + 10000000 < s.now) ∧
    (∃ (s : State) (n : BitVec 12), s.running = true ∧ (s.tun n.toNat).e.state = .opening ∧ (s.tun n.toNat).leaves ≠ [] ∧
        (s.tun n.toNat).resent = false ∧ (s.tun n.toNat).writeAt + 1000000 < s.now) ∧
    (∃ (s : State) (n : BitVec 12) (h : Nat) (ds : List Nat), s.running = true ∧ (s.tun n.toNat).e.state = .opening ∧
        (s.tun n.toNat).leaves = [h] ∧ (s.tun n.toNat).resent = false ∧ (s.tun n.toNat).writeAt + 1000000 < s.now ∧ n.toNat ≠ ctrlTun h ∧
        (s.tun (ctrlTun h)).e.state = .opened ∧ (s.tun (ctrlTun h)).e.keyed = false ∧ s.route (s.tun (ctrlTun h)).e 24 = some ds) ∧
    (∃ (s : State) (n : BitVec 12), s.running = true ∧ s.isRoot = true ∧ (s.tun n.toNat).e.state = .opening ∧ ((s.tun n.toNat).leaves ≠ [] ∧
        (s.tun n.toNat).writeAt + 2000000 < s.now ∨ s.leavesUp (s.tun n.toNat).e = false)) ∧
    (∃ (s : State) (n : BitVec 12), s.running = true ∧ (s.tun n.toNat).e.state = .failed ∧ (s.tun n.toNat).e.auto = true ∧
        s.rdB TUN_CTL_AUTO_REOPEN = true ∧ s.isRoot = true ∧ protectedTun n.toNat = false ∧ (s.tun n.toNat).refused = false ∧
        s.pathActive (s.tun n.toNat).e = true ∧ s.leavesUp (s.tun n.toNat).e = true ∧ s.openStatus n.toNat = 0 ∧ s.rdB PWR_STAT_CLK_SRC = true ∧
        s.alone n.toNat) ∧
    (∃ (s : State) (n : BitVec 12), s.running = true ∧ (s.tun n.toNat).e.state = .failed ∧ (s.tun n.toNat).e.auto = true ∧
        s.rdB TUN_CTL_AUTO_REOPEN = true ∧ s.isRoot = true ∧ protectedTun n.toNat = false ∧ (s.tun n.toNat).refused = false ∧
        s.pathActive (s.tun n.toNat).e = true ∧ s.leavesUp (s.tun n.toNat).e = true ∧ s.openStatus n.toNat = 0 ∧ s.rdB PWR_STAT_CLK_SRC = true ∧
        (¬ s.alone n.toNat)) :=
  ⟨⟨(wAckT .opening [5] [] State.reset), 5, [ctrlWord 6 0 0 0x600 0], by decide +kernel⟩,
   ⟨(wAckT .opening [5, 7] [] State.reset), 5, [ctrlWord 6 0 0 0x600 0], by decide +kernel⟩,
   ⟨(wAckT .opening [5, 5] [9, 3] State.reset), 5, [ctrlWord 6 0 0 0x600 0], by decide +kernel⟩,
   ⟨(wAckT .opening [5] [] State.reset), 5, [ctrlWord 6 0 0 0x600 7], by decide +kernel⟩,
   ⟨(wAckT .opening [] [9] State.reset), 9, [pack [(32, 8, 0x12), (20, 12, 0x600)]], by decide +kernel⟩,
   ⟨(wAckT .opening [] [9, 3] State.reset), 9, [pack [(32, 8, 0x12), (20, 12, 0x600)]], by decide +kernel⟩,
   ⟨(wAckT .closing [] [9, 3] State.reset), 9, [pack [(32, 8, 0x14), (20, 12, 0x600)]], by decide +kernel⟩,
   ⟨(wAckT .opening [] [9] State.reset), 9, [pack [(32, 8, 0x13), (20, 12, 0x600)]], by decide +kernel⟩,
   ⟨(wAckT .closing [] [9] State.reset), 9, [pack [(32, 8, 0x14), (20, 12, 0x600)]], by decide +kernel⟩,
   ⟨(wHeldMsg State.reset), 9, by decide +kernel⟩,
   ⟨(wHeldMsg State.reset), 9, 0x600, [3], by decide +kernel⟩,
   ⟨(wAckT .opening [] [9] State.reset), 0x600, by decide +kernel⟩,
   ⟨{ wAckT .closing [] [9] State.reset with hull := { State.reset.hull with ingress := { tunnel := 0x600, vc := 4, payload := [], last := true, inPort := 3, todo := [4] } :: State.reset.hull.ingress } }, 0x600, by decide +kernel⟩,
   ⟨{ wAckT .closing [] [9] State.reset with hull := { State.reset.hull with ingress := { tunnel := 0x600, vc := 4, payload := [], last := true, inPort := 3, todo := [4] } :: State.reset.hull.ingress } }, 0x600, by decide +kernel⟩,
   ⟨(wAckT .opening [5, 8] [] State.reset), 0x600, by decide +kernel⟩,
   ⟨(wResend State.reset), 0x600, 5, [3], by decide +kernel⟩,
   ⟨(wAckT .opening [5] [] State.reset), 0x600, by decide +kernel⟩,
   ⟨(wAuto State.reset), 0x600, (by unfold State.alone; decide +kernel)⟩,
   ⟨((wLink 3 3 (wFar .failed State.reset)).wr TUN_CTL_AUTO_REOPEN 1 |>.wr PWR_STAT_CLK_SRC 1 |>.onTun 0x600 (fun x => { x with refused := false })), 0x600, (by unfold State.alone; decide +kernel)⟩⟩

/-- What `IdentityRows` supposes is met, clause by clause. -/
theorem wit_IdentityRows :
    (∃ (s : State) (hub : Fin 17) (msg : List Word), s.running = true ∧ s.isRoot = false ∧ s.hubNo = hub.val ∧ cType msg = 5 ∧ msg.length = 8 ∧
        protectedTun (cTun msg) = false ∧ bitsOf (nth (wordsEntry (msg.drop 1)) 0) 28 4 = 0 ∧
        (Entry.ofWords (wordsEntry (msg.drop 1))).mig ≠ 3) ∧
    (∃ (s : State) (hub : Fin 17) (msg : List Word), s.running = true ∧ s.isRoot = false ∧ s.hubNo = hub.val ∧ cType msg = 5 ∧ msg.length = 8 ∧
        protectedTun (cTun msg) = false ∧ (Entry.ofWords (wordsEntry (msg.drop 1))).state = .opened ∧
        (Entry.ofWords (wordsEntry (msg.drop 1))).mig ≠ 3 ∧ s.fieldsOk (cTun msg) (Entry.ofWords (wordsEntry (msg.drop 1))) true = true ∧
        s.formatOk (cTun msg) (Entry.ofWords (wordsEntry (msg.drop 1))) = true ∧
        (((Entry.ofWords (wordsEntry (msg.drop 1))).vc ≤ 2 → s.onOsc = false)) ∧
        s.admission (cTun msg) (Entry.ofWords (wordsEntry (msg.drop 1))) = 0) ∧
    (∃ (s : State) (hub : Fin 17) (msg : List Word), s.running = true ∧ s.isRoot = false ∧ s.hubNo = hub.val ∧ cType msg = 5 ∧ msg.length = 8 ∧
        protectedTun (cTun msg) = false ∧ (Entry.ofWords (wordsEntry (msg.drop 1))).state = .opened ∧
        (Entry.ofWords (wordsEntry (msg.drop 1))).mig ≠ 3 ∧ s.fieldsOk (cTun msg) (Entry.ofWords (wordsEntry (msg.drop 1))) true = true ∧
        s.formatOk (cTun msg) (Entry.ofWords (wordsEntry (msg.drop 1))) = true ∧
        (((Entry.ofWords (wordsEntry (msg.drop 1))).vc ≤ 2 → s.onOsc = false)) ∧
        s.admission (cTun msg) (Entry.ofWords (wordsEntry (msg.drop 1))) = 0) ∧
    (∃ (s : State) (hub : Fin 17) (msg : List Word), s.running = true ∧ s.isRoot = false ∧ s.hubNo = hub.val ∧ cType msg = 1 ∧
        cArg msg % 32 ≠ s.hubNo ∧ s.ls (s.ids.carry.getD 16) = LS_DOWN) ∧
    (∃ (s : State) (hub : Fin 17) (msg : List Word) (d : Nat), s.running = true ∧ s.isRoot = true ∧ cType msg = 2 ∧
        s.chooseDock hub (cPort msg) = some d) ∧
    (∃ (s : State) (hub : Fin 17) (msg : List Word), s.running = true ∧ s.isRoot = true ∧ cType msg = 2 ∧ s.chooseDock hub (cPort msg) = none) ∧
    (∃ (s : State) (hub : Fin 17) (msg : List Word), s.running = true ∧ s.isRoot = false ∧ s.hubNo = hub.val ∧ cPort msg < 16 ∧ cType msg = 3 ∧
        s.ids.asked.lookup (cPort msg) ≠ some 0 ∧ (s.lane (cPort msg)).phase = .config ∧ (s.lane (cPort msg)).caps ≠ [] ∧
        (s.lane (cPort msg)).seenRcvd = false) ∧
    (∃ (s : State) (hub : Fin 17) (msg : List Word), s.running = true ∧ s.isRoot = false ∧ s.hubNo = hub.val ∧ cPort msg < 16 ∧ cType msg = 3 ∧
        (s.lane (cPort msg)).phase ≠ .config ∧ s.active (cPort msg) = false) ∧
    (∃ (s : State) (hub : Fin 17) (msg : List Word), s.running = true ∧ s.isRoot = false ∧ s.hubNo = hub.val ∧ cPort msg < 16 ∧ cType msg = 4) ∧
    (∃ (s : State) (p : Fin 18) (d : Nat), s.running = true ∧ s.ids.asked.lookup p.val = some d ∧ d < s.now) ∧
    (∃ (s : State) (hub : Fin 17) (msg : List Word), s.running = true ∧ s.isRoot = true ∧ cType msg = 9 ∧ (hub.val, cPort msg,
        cDock msg) ∈ s.ids.docks ∧ (hub.val, cPort msg, cDock msg) ∉ s.ids.dockPins) :=
  ⟨⟨(wLeaf State.reset), 5, (entMsg .free), by decide +kernel⟩,
   ⟨(((wLeaf State.reset).wr PWR_STAT_CLK_SRC 1).onTun 0x600 (fun x => { x with e := { x.e with state := .opened } })), 5, (entMsg .opened),
       by decide +kernel⟩,
   ⟨((wLeaf State.reset).onTun 0x600 (fun x => { x with e := { x.e with state := .free } })), 5, (entMsg .opened), by decide +kernel⟩,
   ⟨(wCarry State.reset), 5, [ctrlWord 1 0 0 0 6], by decide +kernel⟩,
   ⟨(wFreeIds State.reset), 5, [ctrlWord 2 4 0 0 0], 0, by decide +kernel⟩,
   ⟨(wFullIds State.reset), 5, [ctrlWord 2 4 0 0 0], by decide +kernel⟩,
   ⟨(wAskC State.reset), 5, [ctrlWord 3 4 63 0 0], by decide +kernel⟩,
   ⟨((wLeaf (wLink 4 2 State.reset)).onLane 4 (fun l => { l with phase := .idle })), 5, [ctrlWord 3 4 63 0 0], by decide +kernel⟩,
   ⟨(wLeaf (wLink 4 3 State.reset)), 5, [ctrlWord 4 4 63 0 0], by decide +kernel⟩,
   ⟨{ wOn State.reset with ids := { State.reset.ids with asked := [(4, 9), (3, 8)] }, now := 10 }, 4, 9, by decide +kernel⟩,
   ⟨(wDock State.reset), 5, [ctrlWord 9 4 63 0 0], by decide +kernel⟩⟩

/-- What `DualApexRows` supposes is met, clause by clause. -/
theorem wit_DualApexRows :
    (∃ (s : State) (hub : Fin 17) (port : Fin 18) (msg : List Word), s.running = true ∧ s.hubAt port = some hub.val ∧ s.isRoot = true ∧
        cType msg = 7 ∧ (s.tun (cTun msg)).e.altPort = port.val ∧ (s.tun (cTun msg)).e.state ≠ .free ∧ s.tunIds.Nodup ∧
        s.pairTuns (s.pairSide (s.tun (cTun msg)).e) port ≠ []) ∧
    (∃ (s : State) (hub : Fin 17) (port : Fin 18) (msg : List Word), s.running = true ∧ s.hubAt port = some hub.val ∧ s.isRoot = true ∧
        cType msg = 7 ∧ (s.tun (cTun msg)).e.altPort = port.val ∧ (s.tun (cTun msg)).e.state ≠ .free ∧ s.tunIds.Nodup ∧
        s.pairTuns (s.pairSide (s.tun (cTun msg)).e) port ≠ []) ∧
    (∃ s : State, s.running = true ∧ s.isRoot = false ∧ s.ids.carry = some 17 ∧ s.active 16 = true ∧ s.active 17 = true ∧
        (s.lane 16).activeAt + 1000000 ≤ s.now ∧ s.tunIds.Nodup) ∧
    (∃ (s : State) (n : BitVec 12) (a : Nat), s.running = true ∧ (s.tun n.toNat).stopAt = some a ∧ s.holdsOld n.toNat = false ∧
        s.active (s.tun n.toNat).e.altPort = true) ∧
    (∃ (s : State) (hub : Fin 17) (port : Fin 18) (msg : List Word), s.running = true ∧ s.hubAt port = some hub.val ∧ cType msg = 8 ∧
        (s.tun (cTun msg)).e.state = .opened ∧ 2 ≤ (s.tun (cTun msg)).e.vc ∧ (s.tun (cTun msg)).e.altPort = port.val ∧
        (s.tun (cTun msg)).e.mig = 0 ∧ (s.tun (cTun msg)).stopAt = none) ∧
    (∃ (s : State) (n : BitVec 12), s.running = true ∧ (s.tun n.toNat).e.mig = 2 ∧ (s.tun n.toNat).doneRcvd = true ∧ ((∀ f ∈ s.hull.ingress,
        ¬ (f.tunnel = n.toNat ∧ f.inPort = (s.tun n.toNat).e.altPort)))) ∧
    (∃ (s : State) (n : BitVec 12) (a : Nat), s.running = true ∧ (s.tun n.toNat).stopAt = some a ∧ a + 100000 < s.now ∧
        s.holdsOld n.toNat = true) ∧
    (∃ (s : State) (n : BitVec 12) (d : Nat), s.running = true ∧ (s.tun n.toNat).retryAt = some d ∧ d ≤ s.now ∧
        s.active (s.tun n.toNat).e.altPort = true) :=
  ⟨⟨((wPair State.reset).onTun 0x601 (fun _ => { e := { ent with state := .opened, inPort := 3, destMask := 2 ^ 20, altPort := 4 } })), 5, 4,
      [ctrlWord 7 0 0 0x600 0], by decide +kernel⟩,
   ⟨(wPair State.reset), 5, 4, [ctrlWord 7 0 0 0x600 0], by decide +kernel⟩,
   ⟨((wApex State.reset).onTun 0x300 (fun _ => { e := { ent with state := .opened, vc := 1, inPort := 17, altPort := 16 } })),
       by decide +kernel⟩,
   ⟨(wStop false State.reset), 0x600, 7, by decide +kernel⟩,
   ⟨(wDone State.reset), 5, 4, [ctrlWord 8 0 0 0x600 0], by decide +kernel⟩,
   ⟨(wMig State.reset), 0x600, by decide +kernel⟩,
   ⟨(wStop true State.reset), 0x600, 7, by decide +kernel⟩,
   ⟨(wStop true State.reset), 0x600, 9, by decide +kernel⟩⟩


end Tunnel

namespace Time

def wProbe (f : Probe → Probe) (b : State) : State := let s := wLink 3 3 b; { s with probes := s.probes.upd 3 f }
def wRole (r : Nat) (b : State) : State := (wOn b).wr CHIP_STAT_ROLE r
def wApexUp (f : Probe → Probe) (b : State) : State := let s := wRole 1 (wLink 16 3 b); { s with probes := s.probes.upd 16 f }
def prW (k q t : Nat) : Word := ctlWord 0x0B [(32, 2, k), (28, 4, q), (0, 28, t)]
def wAns (r : Option Nat) (b : State) : State := wProbe (fun x => { x with running := true, laneB := true, rxSeq := 7, t1 := b.datum.whole % 2 ^ 40, rttB := r }) b
def ansRtt (b : State) : Nat := modSub 40 (modSub 40 b.datum.whole (b.datum.whole % 2 ^ 40)) 2 ^ 0
def wTimes (b : State) : State := { wApexUp (fun x => { x with timesBy := some 9, rxSeq := 7, times := [(9, 1), (0, 4)] }) b with now := 10 }
def tunUp (n : Nat) (b : State) : State := b.onTun n (fun x => { x with e := { x.e with state := .opened, keyed := false, inPort := 24, destMask := 8 } })
def wDs (b : State) : State := let s := tunUp (timeTun 5) (wRole 0 b); { s with datum := { s.datum with dsSent := s.datum.dsSent.set 5 none, leafAt := s.datum.leafAt.set 5 0 }, now := s.now + 3000000001 }
def wTimesB (b : State) : State := { wApexUp (fun x => { x with timesBy := some 10, rxSeq := 7, times := [(9, 1), (0, 4)] }) b with now := 10 }
def wSt (b : State) : State := let s := tunUp (timeTun 5) ((wRole 1 b).wr CHIP_STAT_HUB 5); { s with datum := { s.datum with stSent := none } }
def wDat (st src : Nat) (b : State) : State := let s := ((wOn b).wr DAT_STAT_STATE st).wr DAT_STAT_SOURCE_ACT src; { s with now := s.datum.measuredAt + s.datum.ppsAt + 80000000000 }
def wStep (b : State) : State := let s := (((wDat 2 0 b).wr DAT_SET_SEC_LO_SEC 0).wr DAT_SET_SEC_HI_SEC 0).wr DAT_SET_NS_NS 5; { s with lattice := { s.lattice with last := some 70 } }.wr LAT_PERIOD_NS 1000
def wStn (b : State) : State := ((wOn b).wr (FRM_SP_CTL_MODE 0) 1).wr DAT_PTP_DOMAIN 3 |>.wr (FRM_SP_CTL_MODE 1) 1
def wEdge (src : Nat) (b : State) : State := (wDat 2 src b).wr (EVP_CFG_FUNC 15) 6 |>.wr (EVP_CFG_EDGE 15) 3
def wPps (b : State) : State := let s := (wDat 2 3 b).wr (EVP_CFG_FUNC 15) 6; { s with datum := { s.datum with ppsLost := false } }
def wKeep (b : State) : State := { wDat 0 2 b with keeper := { t := some 123456, rate := -7, at_ := b.now / 40 * 40 } }
def wTick (b : State) : State := { (wOn b).wr LAT_PERIOD_NS 1000 with datum := { b.datum with t := 5000007 * 2 ^ 48 }, lattice := { b.lattice with last := some 4, stageS := none }, gop := { b.gop with target := none } }
def wNext (a c : Nat) (b : State) : State := (((wRole 0 b).wr LAT_NEXT_A a).wr LAT_NEXT_B c).wr LAT_STAT_PENDING 0
def wStage (b : State) : State := { wRole 0 (wLink 17 3 b) with now := 9, datum := { b.datum with t := 5 * 2 ^ 48 }, lattice := { b.lattice with stageS := some 3, markAt := some 9 } }
def wPer (b : State) : State := { ((wStage b).wr LAT_STAT_A_NEXT 4).wr LAT_STAT_B_NEXT 4 with datum := { b.datum with t := 3000000000 * 2 ^ 48 } }
def wPin (b : State) : State := { ((wOn b).wr (EVP_CFG_FUNC 15) 1).wr (EVP_CFG_EDGE 15) 3 with pins := { b.pins with level := 0x7FFF, fifo := [], edgeAt := Map.empty }, keeper := { b.keeper with cycle := none }, now := 1000 + b.now }
def stm : Stamp := { pin := 3, rise := true, sec := 5, ns := 999999999, keeper := false }
def wGop (b : State) : State := { ((wTick (wRole 0 b)).wr LAT_GOP_BUSY 0).wr LAT_SNAP_IDX_TARGET 5010 with boot := { b.boot with dieOn := true } }
def wHoldE (b : State) : State := { wGop b with gop := { b.gop with resetAt := some 9, askAt := some 9, asked := false, missing := [128, 191] }, now := 10 }

/-- What `TimeExchangeRows` supposes is met, clause by clause. -/
theorem wit_TimeExchangeRows :
    (∃ (s : State) (p : Fin 18), s.coreOn = true ∧ s.active p = true ∧ s.nearRoot p = true ∧ (s.probe p).nextAt ≤ s.now) ∧
    (∃ (s : State) (p : Fin 18) (_laneB : Bool) (w : Word) (_turn : Fin 1001), s.coreOn = true ∧ s.active p = true ∧ s.nearRoot p = false ∧
        fld w 34 6 = 0x0B ∧ fld w 32 2 = 1) ∧
    (∃ (s : State) (p : Fin 18) (laneB : Bool) (w : Word) (rtt _f : Nat), s.coreOn = true ∧ s.active p = true ∧ s.nearRoot p = true ∧
        fld w 34 6 = 0x0B ∧ fld w 32 2 = 2 ∧ (s.probe p).running = true ∧ (s.probe p).laneB = laneB ∧ fld w 28 4 = (s.probe p).rxSeq ∧
        rtt = modSub 40 (modSub 40 s.datum.whole (s.probe p).t1) (fld w 0 28) ∧ (s.probe p).rtt = none) ∧
    (∃ (s : State) (p : Fin 18) (laneB : Bool) (w : Word) (rtt f : Nat), s.coreOn = true ∧ s.active p = true ∧ s.nearRoot p = true ∧
        fld w 34 6 = 0x0B ∧ fld w 32 2 = 2 ∧ (s.probe p).running = true ∧ (s.probe p).laneB = laneB ∧ fld w 28 4 = (s.probe p).rxSeq ∧
        rtt = modSub 40 (modSub 40 s.datum.whole (s.probe p).t1) (fld w 0 28) ∧ (s.probe p).rtt = some f ∧ f + 256 < 16 * rtt) ∧
    (∃ (s : State) (p : Fin 18) (_w : Word) (d : Nat), s.coreOn = true ∧ s.nearRoot p = false ∧ (s.probe p).timesBy = some d ∧ d < s.now) ∧
    (∃ (s : State) (p : Fin 18) (w : Word) (d : Nat), s.coreOn = true ∧ s.nearRoot p = false ∧ (s.probe p).timesBy = some d ∧ s.now ≤ d ∧
        fld w 34 6 = 0x0C ∧ fld w 26 4 = (s.probe p).rxSeq ∧ fld w 30 4 ≤ 9 ∧ (s.probe p).times.length < 9) ∧
    (∃ (s : State) (h : Fin 17) (d : GmData) (ds : List Nat), s.coreOn = true ∧ s.isRoot = true ∧ s.gmNow = some d ∧ s.datum.dsSent.get h = none ∧
        (s.tun (timeTun h)).e.state = .opened ∧ (s.tun (timeTun h)).e.keyed = false ∧ s.route (s.tun (timeTun h)).e 24 = some ds) ∧
    (∃ (s : State) (msg : List Word), s.coreOn = true ∧ s.isRoot = false ∧ msg.length = 10 ∧ fld (msg.getD 0 0) 36 4 = 1) ∧
    (∃ (s : State) (msg : List Word), s.coreOn = true ∧ s.isRoot = false ∧ msg.length ≠ 10) ∧
    (∃ (s : State) (ds : List Nat), s.coreOn = true ∧ s.isRoot = false ∧ s.datum.stSent = none ∧ (s.tun (timeTun s.hubNo)).e.state = .opened ∧
        (s.tun (timeTun s.hubNo)).e.keyed = false ∧ s.route (s.tun (timeTun s.hubNo)).e 24 = some ds) ∧
    (∃ (s : State) (_h : Fin 17) (a _b : Word), s.coreOn = true ∧ s.isRoot = true ∧ fld a 36 4 = 2) ∧
    (∃ (s : State) (h : Fin 17), s.coreOn = true ∧ s.isRoot = true ∧ (s.tun (timeTun h)).e.state ≠ .free ∧
        s.datum.leafAt.get h + 3000000000 < s.now) :=
  ⟨⟨(wProbe (fun x => { x with nextAt := 0, seq := 15 }) State.reset), 3, by decide +kernel⟩,
   ⟨(wApexUp id State.reset), 16, true, (prW 1 7 0), 1000, by decide +kernel⟩,
   ⟨(wAns none State.reset), 3, true, (prW 2 7 2), (2 ^ 40 - 2), 0, by decide +kernel⟩,
   ⟨(wAns (some 5) State.reset), 3, true, (prW 2 7 2), (2 ^ 40 - 2), 5, by decide +kernel⟩,
   ⟨(wTimes State.reset), 16, (ctlWord 0x0C [(30, 4, 9), (26, 4, 7), (0, 26, 77)]), 9, by decide +kernel⟩,
   ⟨(wTimesB State.reset), 16, (ctlWord 0x0C [(30, 4, 9), (26, 4, 7), (0, 26, 77)]), 10, by decide +kernel⟩,
   ⟨(wDs State.reset), 5, ((wDs State.reset).gmNow.getD (State.reset.ownData)), [3], by and_intros <;> first | decide +kernel | rfl⟩,
   ⟨(wRole 1 State.reset), (List.replicate 10 (pack [(36, 4, 1)])), by decide +kernel⟩,
   ⟨(wRole 1 State.reset), [], by decide +kernel⟩,
   ⟨(wSt State.reset), [3], by decide +kernel⟩,
   ⟨(wRole 0 State.reset), 16, (pack [(36, 4, 2), (34, 2, 3), (33, 1, 1), (30, 3, 3)]), (pack [(8, 32, 0xFFFFFFFF)]), by decide +kernel⟩,
   ⟨(wDs State.reset), 5, by decide +kernel⟩⟩

/-- What `DatumRows` supposes is met, clause by clause. -/
theorem wit_DatumRows :
    (∃ s : State, s.coreOn = true ∧ s.datState = 2 ∧ s.source ≠ 0 ∧ s.datum.measuredAt + 8 * s.interval < s.now) ∧
    (∃ s : State, s.coreOn = true ∧ s.source = 3 ∧ ((s.datState = 1 ∨ s.datState = 2))) ∧
    (∃ s : State, s.coreOn = true ∧ s.sourceWanted ≠ s.source) ∧
    (∃ s : State, s.coreOn = true ∧ s.sourceWanted ≠ s.source) ∧
    (∃ (s : State) (v : Nat), s.coreOn = true ∧ ((s.source = 0 ∨ s.source = 2)) ∧
        v = (s.rd DAT_SET_SEC_LO_SEC + s.rd DAT_SET_SEC_HI_SEC * 2 ^ 32) * 1000000000 + s.rd DAT_SET_NS_NS ∧
        ({ s.datum with t := v * 2 ^ 48 }).whole ≤ s.lattice.next * s.period) ∧
    (∃ (s : State) (port : Fin 20) (domain : BitVec 8) (_q : Nat), s.coreOn = true ∧ 18 ≤ port.val ∧ s.stationOn (port - 18) = true ∧
        domain.toNat = s.rd DAT_PTP_DOMAIN) ∧
    (∃ (s : State) (port : Fin 20) (_domain : BitVec 8) (_q : Nat), s.coreOn = true ∧ 18 ≤ port.val ∧ s.stationOn (port - 18) = true) ∧
    (∃ (s : State) (n : Fin 16) (high : Bool) (w : Nat), s.coreOn = true ∧ s.rd (EVP_CFG_FUNC n) = 6 ∧ s.edgeWanted n high = true ∧
        w = s.datum.whole - s.filterNs n ∧ s.source ≠ 2) ∧
    (∃ (s : State) (n : Fin 16) (high : Bool) (w : Nat), s.coreOn = true ∧ s.rd (EVP_CFG_FUNC n) = 6 ∧ s.edgeWanted n high = true ∧
        w = s.datum.whole - s.filterNs n ∧ s.source = 2 ∧ s.datState = 2) ∧
    (∃ (s : State) (n : Fin 16), s.coreOn = true ∧ s.rd (EVP_CFG_FUNC n) = 6 ∧ s.datum.ppsLost = false ∧ s.datum.ppsAt + 1500000000 < s.now ∧
        s.source ≠ 2) ∧
    (∃ s : State, s.coreOn = true) ∧
    (∃ (s : State) (k : Nat), s.coreOn = true ∧ s.keeperTime = some k ∧ s.source ≠ 0) :=
  ⟨⟨(wDat 2 2 State.reset), by decide +kernel⟩,
   ⟨(wDat 1 3 State.reset), by decide +kernel⟩,
   ⟨((wDat 2 3 State.reset).wr DAT_CTL_SOURCE 0), by decide +kernel⟩,
   ⟨((wDat 2 3 State.reset).wr DAT_CTL_SOURCE 1), by decide +kernel⟩,
   ⟨(wStep State.reset), 5, by decide +kernel⟩,
   ⟨(wStn State.reset), 19, 3, 65535, by decide +kernel⟩,
   ⟨(wStn State.reset), 19, 3, 65535, by decide +kernel⟩,
   ⟨(wEdge 3 State.reset), 15, true, ((wEdge 3 State.reset).datum.whole - (wEdge 3 State.reset).filterNs 15), by decide +kernel⟩,
   ⟨(wEdge 2 State.reset), 15, true, ((wEdge 2 State.reset).datum.whole - (wEdge 2 State.reset).filterNs 15), by decide +kernel⟩,
   ⟨(wPps State.reset), 15, by decide +kernel⟩,
   ⟨(wOn State.reset), by decide +kernel⟩,
   ⟨(wKeep State.reset), ((wKeep State.reset).keeperTime.getD 0), by decide +kernel⟩⟩

/-- What `LatticeRows` supposes is met, clause by clause. -/
theorem wit_LatticeRows :
    (∃ s : State, s.coreOn = true ∧ s.lattice.next * s.period ≤ s.datum.whole ∧ s.lattice.stageS = none ∧ s.gop.target = none) ∧
    (∃ s : State, s.coreOn = true ∧ s.isRoot = true ∧ latticeOk (s.rd LAT_NEXT_A) (s.rd LAT_NEXT_B) = true ∧ s.rdB LAT_STAT_PENDING = false) ∧
    (∃ s : State, s.coreOn = true ∧ s.isRoot = true ∧ latticeOk (s.rd LAT_NEXT_A) (s.rd LAT_NEXT_B) = false) ∧
    (∃ (s : State) (b d : Nat), s.coreOn = true ∧ s.lattice.stageS = some b ∧ s.isRoot = true ∧ s.lattice.markAt = some d ∧ d ≤ s.now ∧
        s.datum.whole < b * 1000000000) ∧
    (∃ (s : State) (b : Nat), s.coreOn = true ∧ s.lattice.stageS = some b ∧ b * 1000000000 ≤ s.datum.whole ∧
        latticeOk (s.rd LAT_STAT_A_NEXT) (s.rd LAT_STAT_B_NEXT) = true) ∧
    (∃ (s : State) (n : Fin 16) (high : Bool), s.coreOn = true ∧ s.rd (EVP_CFG_FUNC n) = 1 ∧ bitOf s.pins.level n ≠ high ∧
        s.edgeWanted n high = true ∧ s.pins.fifo.length < 64 ∧ s.pulseShort n = false ∧ s.filterNs n ≤ s.now ∧ ((∀ e u, s.keeper.cycle = some (e,
        u) → edgeBefore (s.now - s.filterNs n) ≠ e))) ∧
    (∃ (s : State) (x : Stamp) (rest : List Stamp), s.coreOn = true ∧ s.pins.fifo = x :: rest) ∧
    (∃ s : State, s.coreOn = true ∧ s.isRoot = true ∧ s.rdB LAT_GOP_BUSY = false ∧
        modSub 19 (s.rd LAT_SNAP_IDX_TARGET % 2 ^ 19) (s.datum.whole / s.period) ≠ 0 ∧
        modSub 19 (s.rd LAT_SNAP_IDX_TARGET % 2 ^ 19) (s.datum.whole / s.period) ≤ 2 ^ 18) ∧
    (∃ s : State, s.coreOn = true ∧ s.isRoot = true ∧ s.rdB LAT_GOP_BUSY = false) ∧
    (∃ (s : State) (d : Nat), s.coreOn = true ∧ s.boot.dieOn = true ∧ s.gop.resetAt = some d ∧ d ≤ s.now) ∧
    (∃ (s : State) (node : Fin 192) (_msg : List Word), s.coreOn = true ∧ node.val ∈ s.gop.missing ∧ s.gop.missing.filter (· ≠ node.val) ≠ []) ∧
    (∃ (s : State) (d : Nat), s.isRoot = true ∧ s.gop.askAt = some d ∧ d < s.now ∧ s.gop.asked = false ∧ s.coreOn = true) ∧
    (∃ s : State, s.isRoot = false ∧ s.coreOn = true) :=
  ⟨⟨(wTick State.reset), by decide +kernel⟩,
   ⟨(wNext 9 4 State.reset), by decide +kernel⟩,
   ⟨(wNext 15 4 State.reset), by decide +kernel⟩,
   ⟨(wStage State.reset), 3, 9, by decide +kernel⟩,
   ⟨(wPer State.reset), 3, by decide +kernel⟩,
   ⟨(wPin State.reset), 15, true, by and_intros <;> first | decide +kernel | rfl | (intro _ _ h; cases h)⟩,
   ⟨{ wOn State.reset with pins := { State.reset.pins with fifo := stm :: State.reset.pins.fifo } }, stm, State.reset.pins.fifo,
       by decide +kernel⟩,
   ⟨(wGop State.reset), by decide +kernel⟩,
   ⟨(wGop State.reset), by decide +kernel⟩,
   ⟨(wHoldE State.reset), 9, by decide +kernel⟩,
   ⟨(wHoldE State.reset), 191, [1], by decide +kernel⟩,
   ⟨(wHoldE State.reset), 9, by decide +kernel⟩,
   ⟨(wRole 1 State.reset), by decide +kernel⟩⟩


end Time

namespace Sample

def noRun : SrcRun := { missing := 0, failed := false }
def wSmp (b : State) : State := { (wOn b).wr LAT_PERIOD_NS 1000 |>.wr SMP_CMD_BUSY 0 with records := Map.empty, locks := Map.empty, samples := {}, lattice := {}, datum := { b.datum with t := 5000000 * 2 ^ 48 }, bridge := {}, hull := {}, tuns := Map.empty }
def wStream (b : State) : State := (wSmp b).setRec 0x0D0 1 5 0 0 (2 ^ 31)
def sWord : Word := sampleWord 1000 0
def sFlit (po : Bool) : HFlit := { tunnel := 0x205, vc := 1, payload := [4999000#40, 0#40, sWord], last := true, poison := po, inPort := 3, todo := [] }
def wPart (po : Bool) (b : State) : State := { wStream b with hull := { adapters := [(17, sFlit false), (18, sFlit po), (18, sFlit true)] } }
def smpTun (n : Nat) (s : State) : State := s.onTun n (fun x => { x with e := { x.e with state := .opened, vc := 1, inPort := 18, destMask := 2 ^ 24, police := false }, pruned := 0 })
def wComp (b : State) : State :=
  let s := (((((wStream b).setRec 0x0D0 3 63 0 0 (2 ^ 31 + 2 * 2 ^ 12)).setRec 0x0D0 3 63 0 1 (0x5FF * 2 ^ 16)).setRec 0x0D0 4 63 15 0 (2 ^ 31 + 5 * 2 ^ 16)).setRec 0x0D0 5 63 0 0 (15 * 2 ^ 27)).setRec 0x0D0 6 63 0 0 (2 ^ 32 - 1)
  smpTun 0x5FF (smpTun 0x205 { s with samples := { parts := [SetPart.mk 5 4990000 0 [sWord]], comps := Map.empty.set 63 { next := some 4990000 } } })
def wSvo (b : State) : State :=
  let s := ((wStream b).setRec 0x0D0 7 255 0 0 (2 ^ 31 + 5 * 2 ^ 21 + 64)).setRec 0x0D0 7 255 0 3 (2 * 2 ^ 8 + 3 * 2 ^ 17)
  smpTun 0x205 ({ s with samples := { parts := [SetPart.mk 5 4990000 0 [sWord]], svouts := Map.empty.set 255 { next := some 4990000 } } }.wr FRM_CTL_RED_MODE 0)
def svoF (b : State) : Frame := (wSvo b).svoFrame 255 [SvAsdu.mk [] ((wSvo b).smpCnt 1 4990000) 0 (wSvo b).smpSynch [(10, 0)]]
def wSvi (b : State) : State :=
  let s := ((wStream b).setRec 0x0D0 9 255 0 0 (2 ^ 31 + 5 * 2 ^ 21 + 3 * 2 ^ 10)).setRec 0x0D0 9 255 0 1 (0x4001 * 2 ^ 16)
  smpTun 0x205 s
def svX : SvAsdu := SvAsdu.mk [] 0 0 2 [(10, 0)]
def svFr : SvFrame := { appid := 0x4001, sim := false, asdus := [svX] }
def svA : Arrival := { portB := true, stamp := 4990000, ok := true, at_ := 0, f := { da := 0, sa := 0, tag := none, etherType := 0x88BA, body := .sv svFr } }
def wIn (s : State) : State := { s with bridge := { s.bridge with forSv := [svA, svA] } }
def wSel (k i e : Nat) (b : State) : State := (((wSvo b).wr SMP_SEL_KIND k).wr SMP_SEL_INDEX i).wr SMP_SEL_ENTRY e
def wDat4 (s : State) : State := (((s.wr (SMP_DATA_WORD 0) 0xFFFFFFFF).wr (SMP_DATA_WORD 1) 0x12345678).wr (SMP_DATA_WORD 2) 3).wr (SMP_DATA_WORD 3) 0x80000000

/-- What `SampleRows` supposes is met, clause by clause. -/
theorem wit_SampleRows :
    (∃ (s : State) (f : HFlit) (rest : List (Nat × HFlit)) (i u part : Nat), s.running = true ∧ takePort 18 s.hull.adapters = some (f, rest) ∧
        f.tunnel = 0x200 + i ∧ f.poison = false ∧ s.streamValid i = true ∧ part = fld (f.payload.getD 1 0) 38 2 ∧
        fld (f.payload.getD 1 0) 0 32 = 0 ∧ fld (f.payload.getD 1 0) 36 2 = partsOf (s.streamN i) - 1 ∧ part < partsOf (s.streamN i) ∧
        f.payload.length = 2 + partChannels (s.streamN i) part ∧ u = s.fullOf (f.payload.getD 0 0).toNat ∧
        s.gridIndex (s.streamK i) u = some (fld (f.payload.getD 1 0) 32 4) ∧ u ≤ s.datum.whole + 1000 ∧ s.emissionBegun i u = false ∧
        ((∀ x ∈ s.accepted i u, x.part ≠ part))) ∧
    (∃ (s : State) (f : HFlit) (rest : List (Nat × HFlit)) (i _u _part : Nat), s.running = true ∧ takePort 18 s.hull.adapters = some (f, rest) ∧
        f.tunnel = 0x200 + i ∧ f.poison = true) ∧
    (∃ (s : State) (c : Fin 64) (u : Nat), s.running = true ∧ (s.samples.comps.get c).next = some u ∧ u + us (s.compDelay c) ≤ s.datum.whole) ∧
    (∃ (s : State) (c : Fin 64) (u : Nat) (w : Word) (ds : List Nat), s.running = true ∧ (s.samples.comps.get c).next = some u ∧
        (s.samples.comps.get c).stop = none ∧ u + us (s.compDelay c) ≤ s.datum.whole ∧ s.compN c = 1 ∧ bitOf (s.smp 5 c 0 0) 21 = false ∧
        s.compSources c = [(bitsOf (s.smp 5 c 0 0) 27 4, 5)] ∧ channelOf (s.sourceParts 5 u) (bitsOf (s.smp 5 c 0 0) 22 5) = some w ∧
        s.hullTakes 18 (s.compOut c) 1 ds) ∧
    (∃ (s : State) (i : Fin 256) (u l : Nat), s.running = true ∧ (s.samples.svouts.get i).next = some u ∧
        l = (s.frameInsts (s.shapeOf (s.svoStream i)).2.1 (s.svoAsdus i) u).getLastD u ∧ l + us (s.svoDelay i) ≤ s.datum.whole ∧
        bitOf (s.recW 0x0E0 6 i 0 0) 31 = false) ∧
    (∃ (s : State) (i : Fin 256) (u ch unit : Nat) (w : Word) (f : Frame), s.running = true ∧ (s.samples.svouts.get i).next = some u ∧
        s.svoAsdus i = 1 ∧ s.svoN i = 1 ∧ ch = s.svoFirst i ∧ unit = (s.shapeOf (s.svoStream i)).2.2 ch ∧ u + us (s.svoDelay i) ≤ s.datum.whole ∧
        channelOf (s.sourceParts (s.svoStream i) u) ch = some w ∧ (toInt32 unit (sampleValue w)).2 = false ∧
        bitOf (s.recW 0x0E0 6 i 0 0) 31 = false ∧ s.redundant = false ∧ s.svoPorts i = 1 ∧ s.bridge.queues = Map.empty ∧
        f = s.svoFrame i [SvAsdu.mk (s.svId i (bitsOf (s.smp 8 i 0 1) 0 7)) (s.smpCnt (s.shapeOf (s.svoStream i)).2.1 u) (s.smp 8 i 0 0) s.smpSynch [((toInt32 unit (sampleValue w)).1, qualOut (sampleQual w))]]) ∧
    (∃ (s : State) (a : Arrival) (rest : List Arrival) (f : SvFrame) (i : Fin 256), s.running = true ∧ s.bridge.forSv = a :: rest ∧
        a.f.body = .sv f ∧ ((∀ j < i.val, s.sviValid j = false ∧ s.samples.sviStop.get j = none ∨ bitsOf (s.smp 9 j 0 1) 16 16 ≠ f.appid)) ∧
        s.sviValid i = true ∧ bitOf (s.sviPorts i) (b2n a.portB) = true ∧ bitsOf (s.smp 9 i 0 1) 16 16 = f.appid ∧
        f.asdus.head?.map (·.svId) = some (s.svId (256 + i) (bitsOf (s.smp 9 i 0 1) 0 7)) ∧ f.sim = false ∧ a.ok = true ∧
        bitOf (s.recW 0x0E0 6 (256 + i) 0 0) 31 = false ∧ s.streamValid (s.sviStream i) = true ∧ ((∀ x ∈ f.asdus, x.confRev = s.smp 9 i 0 2)) ∧
        ((∀ x ∈ f.asdus, x.pairs.length = s.streamN (s.sviStream i) ∧
        x.smpCnt * s.asduPeriod (s.streamK (s.sviStream i)) x.smpCnt a.stamp < s.streamK (s.sviStream i) * 1000000000))) ∧
    (∃ (s : State) (a : Arrival) (rest : List Arrival) (f : SvFrame)
      (i : Fin 256) (x : SvAsdu) (v : Int) (q unit : Nat) (ds : List Nat), s.running = true ∧ s.bridge.forSv = a :: rest ∧ a.f.body = .sv f ∧
          ((∀ j < i.val, s.sviValid j = false ∧ s.samples.sviStop.get j = none)) ∧ s.sviValid i = true ∧
          bitOf (s.sviPorts i) (b2n a.portB) = true ∧ bitsOf (s.smp 9 i 0 1) 16 16 = f.appid ∧ f.asdus = [x] ∧
          x.svId = s.svId (256 + i) (bitsOf (s.smp 9 i 0 1) 0 7) ∧ f.sim = false ∧ a.ok = true ∧ bitOf (s.recW 0x0E0 6 (256 + i) 0 0) 31 = false ∧
          s.streamValid (s.sviStream i) = true ∧ s.streamN (s.sviStream i) = 1 ∧ x.confRev = s.smp 9 i 0 2 ∧ x.pairs = [(v, q)] ∧
          x.smpCnt * s.asduPeriod (s.streamK (s.sviStream i)) x.smpCnt a.stamp < s.streamK (s.sviStream i) * 1000000000 ∧ x.smpSynch = 2 ∧
          unit = s.streamUnit (s.sviStream i) 0 ∧ (fromInt32 unit v).2 = false ∧ s.hullTakes 18 (0x200 + s.sviStream i) 1 ds ∧
          s.hull.adapters = [] ∧ ((∀ c < 64, s.compValid c = false ∧ (s.samples.comps.get c).next = none)) ∧ ((∀ r < 256, s.svoValid r = false ∧
          (s.samples.svouts.get r).next = none))) ∧
    (∃ (s : State) (a : Arrival) (rest : List Arrival) (f : SvFrame)
      (i : Fin 256) (_x : SvAsdu) (_v : Int) (_q _unit : Nat) (_ds : List Nat), s.running = true ∧ s.bridge.forSv = a :: rest ∧ a.f.body = .sv f ∧
          ((∀ i < 256, s.sviValid i = false ∧ s.samples.sviStop.get i = none))) ∧
    (∃ (s : State) (k i e : Nat) (ro : Bool) (m : List Nat), s.running = true ∧ s.rdB SMP_CMD_BUSY = false ∧ s.smpSel = some (k, i, e, ro, m)) ∧
    (∃ (s : State) (_k _i _e : Nat) (_ro : Bool) (_m : List Nat), s.running = true ∧ s.rdB SMP_CMD_BUSY = false ∧ s.smpSel = none) ∧
    (∃ (s : State) (k i e : Nat) (ro : Bool) (m : List Nat), s.running = true ∧ s.rdB SMP_CMD_BUSY = false ∧ s.smpSel = some (k, i, e, ro, m) ∧
        ro = false ∧ s.locked 0x0D0 = false ∧ ((k = 8 ∨ k = 10 ∨ ((k = 4 ∨ k = 5) ∧ s.compValid i = false)))) ∧
    (∃ (s : State) (k i e : Nat) (ro : Bool) (m : List Nat), s.running = true ∧ s.rdB SMP_CMD_BUSY = false ∧ s.smpSel = some (k, i, e, ro, m) ∧
        ro = false ∧ s.locked 0x0D0 = true) ∧
    (∃ (s : State) (k i e : Nat) (ro : Bool) (m : List Nat), s.running = true ∧ s.rdB SMP_CMD_BUSY = false ∧ s.smpSel = some (k, i, e, ro, m) ∧
        ro = true) ∧
    (∃ (s : State) (k i e : Nat) (ro : Bool) (m : List Nat), s.running = true ∧ s.rdB SMP_CMD_BUSY = false ∧ s.smpSel = some (k, i, e, ro, m) ∧
        ro = false ∧ s.locked 0x0D0 = false ∧ ((k = 8 ∨ k = 10 ∨ ((k = 4 ∨ k = 5) ∧ s.compValid i = false)))) ∧
    (∃ (s : State) (k i e : Nat) (ro : Bool) (m : List Nat), s.running = true ∧ s.rdB SMP_CMD_BUSY = false ∧ s.smpSel = some (k, i, e, ro, m) ∧
        ro = false ∧ s.locked 0x0D0 = false ∧ k = 9) :=
  ⟨⟨(wPart false State.reset), (sFlit false), [(17, sFlit false), (18, sFlit true)], 5, 4999000, 0, by decide +kernel⟩,
   ⟨(wPart true State.reset), (sFlit true), [(17, sFlit false), (18, sFlit true)], 5, 4999000, 0, by decide +kernel⟩,
   ⟨(wComp State.reset), 63, 4990000, by decide +kernel⟩,
   ⟨(wComp State.reset), 63, 4990000, sWord, [24], (by unfold State.hullTakes; decide +kernel)⟩,
   ⟨(wSvo State.reset), 255, 4990000, 4990000, by decide +kernel⟩,
   ⟨(wSvo State.reset), 255, 4990000, 0, 0, sWord, (svoF State.reset), by and_intros <;> first | decide +kernel | rfl⟩,
   ⟨(wIn (wSvi State.reset)), svA, [svA], svFr, 255, by decide +kernel⟩,
   ⟨(wIn (wSvi State.reset)), svA, [svA], svFr, 255, svX, 10, 0, 0, [24], (by unfold State.hullTakes; decide +kernel)⟩,
   ⟨(wIn (wStream State.reset)), svA, [svA], svFr, 255, svX, 10, 0, 0, [24], by decide +kernel⟩,
   ⟨(wSel 7 255 9 State.reset), 7, 255, 0, false, [0xFFFFFFC0, 0xFFFFFFFF, 0xFFFFFFFF, 0xFFFFFFF0], by decide +kernel⟩,
   ⟨(wSel 7 256 9 State.reset), 7, 255, 0, false, [], by decide +kernel⟩,
   ⟨(wDat4 (wSel 10 511 3 State.reset)), 10, 511, 3, false, [0xFFFFFFFF, 0xFFFFFFFF, 0xFFFFFFFF, 0xFFFFFFFF], by decide +kernel⟩,
   ⟨({ wDat4 (wSel 10 511 3 State.reset) with locks := Map.empty.set 0x0D0 1 }), 10, 511, 3, false, [0xFFFFFFFF, 0xFFFFFFFF, 0xFFFFFFFF,
       0xFFFFFFFF], by decide +kernel⟩,
   ⟨(wDat4 (wSel 11 511 0 State.reset)), 11, 511, 0, true, [0xFFFFFFFF, 0xFFFFFFFF], by decide +kernel⟩,
   ⟨(wDat4 (wSel 4 60 15 State.reset)), 4, 60, 15, false, [0x83FF0000], by decide +kernel⟩,
   ⟨(wDat4 (wSel 9 255 0 State.reset)), 9, 255, 0, false, [0xFFE00E00, 0xFFFF007F, 0xFFFFFFFF], by decide +kernel⟩⟩


end Sample

namespace Express

def xTun (n inP d : Nat) (s : State) : State := s.onTun n (fun x => { x with e := { x.e with state := .opened, vc := 0, kind := 3, inPort := inP, destMask := 2 ^ d, police := false, adapter := 3 * 2 ^ 8 } })
def wExp (b : State) : State := { (wLink 17 3 (wLink 3 3 b)).wr EXP_STAT_ENGINES 0 |>.wr EXP_CMD_BUSY 0 |>.wr EXP_CTL_POLICY 0 with records := Map.empty, locks := Map.empty, express := {}, chords := Map.empty, tuns := Map.empty, compass := { b.compass with queues := Map.empty, sending := Map.empty }, bridge := {}, power := { b.power with asleep := 0 } }
def xf (esn ev : Nat) : XFlit := { hdr := pack [(25, 12, 0x1FF), (17, 8, esn), (9, 8, 3), (8, 1, 1)], payload := pack [(32, 8, 0x81), (8, 24, ev), (0, 8, 5)] }
def wXin (x : XFlit) (b : State) : State := (xTun 0x1FF 3 17 (wExp b)).onChord 3 (fun c => { c with xIn := [[x.hdr, x.payload], []] })
def wDup (b : State) : State := (wXin (xf 255 7) b).onGroup 0xFF (fun g => { g with last := some 255, seen := [(255, false)], dups := 65535 })
def qx : QFlit := { f := { tunnel := 0x1FF, vc := 0, payload := [(xf 1 1).hdr &&& 0xFFFFFE0080#40, (xf 1 1).payload], last := true, inPort := 19, todo := [], held := false }, at_ := 0 }
def wQ0 (b : State) : State := let s := (wExp b).onChord 17 (fun c => { c with nextXsn := 255 }); { s with compass := { s.compass with queues := Map.empty.set (qKey 17 0) [qx, qx] } }
def qxE (b : State) : XReplay := { xsn := 255, words := [qx.f.payload.getD 0 0 ||| pack [(9, 8, 255)], qx.f.payload.getD 1 0, ~~~(qx.f.payload.getD 1 0)], firstAt := b.now }
def bk : Bank := { index := 1, number := 2, start := 4, groups := Map.empty, sinks := Map.empty, second := false, levels := 0, sent := Map.empty, handoff := [] }
def wCk (b : State) : State := { (wExp b).wr EXP_STAT_CKPT_BANK 0 with express := { b.express with bank0 := some bk, made := 100, mmAt := none, ckpts := 65535, journal := [] } }
def bkN (s : State) : Bank := { index := s.lattice.last.getD 0 % 2 ^ 32, number := (s.express.ckpts + 1) % 2 ^ 16, start := s.express.made, groups := s.express.groups, sinks := s.express.sinks, second := s.rd EXP_STAT_CKPT_BANK = 0, levels := s.pins.driven, sent := s.express.sent, handoff := s.express.handoff }
def srcR : XSource := { esn := 255, evseq := 2 ^ 24 - 1, begun := true, origin := 3, opcode := 255, flags := 0x81, repeats := [4, 5], beatAt := some 6, deferred := some 7, covers := 2, lastStart := some 0 }
def wRep (b : State) : State := { (xTun 0x1FF 19 17 (wExp b)).onGroup 0xFF (fun g => { g with src := srcR }) with now := b.now + 1010 }
def repX : XFlit := { hdr := pack [(25, 12, 0x1FF), (17, 8, 255)], payload := pack [(32, 8, 255), (8, 24, 2 ^ 24 - 1), (0, 8, 0x81 + 64)] }
def wDefd (op : Nat) (b : State) : State := (((wRep b).setRec 0x0D8 2 3 0 0 (op * 2 ^ 15 + op * 2 ^ 7 + 63 * 2)))
def wSink (b : State) : State := { ((wRep b).onSink 15 (fun k => { k with pulseEnd := some 9, on := true })).wr (EVP_CFG_FUNC 15) 9 with pins := { b.pins with driven := 0x8000 } }
def wSup (b : State) : State := ((wSink b).setRec 0x0D8 2 15 0 0 (2 ^ 31 + 0xFF * 2 ^ 23)).onGroup 0xFF (fun g => { g with superAt := some 9 })
def wESel (k i : Nat) (b : State) : State := (((wSup b).wr EXP_SEL_KIND k).wr EXP_SEL_INDEX i).wr (EXP_DATA_WORD 0) 0x7FFFFFFF |>.wr (EXP_DATA_WORD 1) 0xFFFFFFFF

/-- What `ExpressPairRows` supposes is met, clause by clause. -/
theorem wit_ExpressPairRows :
    (∃ (s : State) (p : Fin 18) (x : XFlit) (ws : List Word) (rest : List (List Word)) (d _l : Nat) (_ds : List Nat), s.running = true ∧
        (s.chord p).xIn = ws :: rest ∧ x.hdr = ws.getD 0 0 ∧ x.payload = ws.getD 1 0 ∧ s.engines = 0 ∧ 0x100 ≤ x.tunnel ∧
        s.pairPasses x.tunnel p d ∧ opReserved x.opcode = false ∧ (s.group (groupOf x.tunnel)).last = none) ∧
    (∃ (s : State) (p : Fin 18) (x : XFlit) (ws : List Word) (rest : List (List Word)) (_d l : Nat) (ds : List Nat), s.running = true ∧
        (s.chord p).xIn = ws :: rest ∧ x.hdr = ws.getD 0 0 ∧ x.payload = ws.getD 1 0 ∧ s.engines = 0 ∧ 0x100 ≤ x.tunnel ∧
        (s.tun x.tunnel).e.state = .opened ∧ (s.tun x.tunnel).e.vc = 0 ∧ s.route (s.tun x.tunnel).e p = some ds ∧ opReserved x.opcode = false ∧
        (s.group (groupOf x.tunnel)).last = some l ∧ (s.group (groupOf x.tunnel)).seen = [(l, false)] ∧ x.esn = l ∧ s.express.upset = none ∧
        s.express.due = none ∧ s.express.takeover = none ∧ s.express.force = false) ∧
    (∃ (s : State) (p : Fin 18) (x : QFlit) (rest : List QFlit) (e : XReplay), s.compass.queues.get (qKey p 0) = x :: rest ∧ s.running = true ∧
        s.active p = true ∧ (s.chord p).revoked = false ∧ (s.chord p).quiet = false ∧ s.power.asleep = 0 ∧ (s.chord p).xReplay.length < 64 ∧
        s.compass.sending.get p = none ∧ e.xsn = (s.chord p).nextXsn ∧ e.firstAt = s.now ∧ e.words = [x.f.payload.getD 0 0 ||| pack [(9, 8,
        (s.chord p).nextXsn)], x.f.payload.getD 1 0, ~~~(x.f.payload.getD 1 0)]) ∧
    (∃ s : State, s.running = true ∧ s.compared = true) ∧
    (∃ s : State, s.running = true ∧ s.engines = 2) ∧
    (∃ s : State, s.running = true ∧ s.express.testing = true) ∧
    (∃ s : State, s.running = true ∧ s.express.testing = true) ∧
    (∃ (s : State) (i : Nat), s.running = true ∧ s.express.rerun = some i) ∧
    (∃ (s : State) (i : Nat), s.running = true ∧ s.express.rerun = some i) ∧
    (∃ (s : State) (b c : Bank), s.running = true ∧ s.engines = 0 ∧ s.bankCur = some b ∧ b.start + 96 ≤ s.express.made ∧
        s.express.mmAt ≠ some s.now ∧ s.upsetAt 7 = none ∧
        c = { index := s.lattice.last.getD 0 % 2 ^ 32, number := (s.express.ckpts + 1) % 2 ^ 16, second := s.rd EXP_STAT_CKPT_BANK = 0, start := s.express.made, groups := s.express.groups, sinks := s.express.sinks, levels := s.pins.driven, sent := s.express.sent, handoff := s.express.handoff }) :=
  ⟨⟨(wXin (xf 255 7) State.reset), 3, (xf 255 7), [(xf 255 7).hdr, (xf 255 7).payload], [[]], 17, 255, [17],
      (by unfold State.pairPasses; decide +kernel)⟩,
   ⟨(wDup State.reset), 3, (xf 255 7), [(xf 255 7).hdr, (xf 255 7).payload], [[]], 17, 255, [17], by decide +kernel⟩,
   ⟨(wQ0 State.reset), 17, qx, [qx], (qxE (wQ0 State.reset)), by decide +kernel⟩,
   ⟨(wExp State.reset), by decide +kernel⟩,
   ⟨((wExp State.reset).wr EXP_STAT_ENGINES 2), by decide +kernel⟩,
   ⟨{ (wExp State.reset).wr EXP_STAT_ENGINES 3 with express := { State.reset.express with testing := true } }, by decide +kernel⟩,
   ⟨{ (wExp State.reset).wr EXP_STAT_ENGINES 3 with express := { State.reset.express with testing := true } }, by decide +kernel⟩,
   ⟨({ (wExp State.reset).wr EXP_STAT_ENGINES 3 with express := { State.reset.express with rerun := some 77 } }), 77, by decide +kernel⟩,
   ⟨({ (wExp State.reset).wr EXP_STAT_ENGINES 3 with express := { State.reset.express with rerun := some 77 } }), 77, by decide +kernel⟩,
   ⟨(wCk State.reset), bk, (bkN (wCk State.reset)), by decide +kernel⟩⟩

/-- What `ExpressEndRows` supposes is met, clause by clause. -/
theorem wit_ExpressEndRows :
    (∃ (s : State) (g : Fin 256) (u d : Nat) (rest : List Nat) (x : XFlit) (src : XSource), s.running = true ∧ src = (s.group g).src ∧
        src.repeats = u :: rest ∧ u ≤ s.now ∧ s.spaced g = true ∧ (s.tun (0x100 + g)).e.inPort = 19 ∧ s.engines = 0 ∧
        s.pairPasses (0x100 + g) 19 d ∧ src.esn < 256 ∧ opReserved src.opcode = false ∧ src.opcode < 256 ∧ x.hdr = pack [(25, 12, 0x100 + g.val),
        (17, 8, src.esn)] ∧ x.payload = pack [(32, 8, src.opcode), (8, 24, src.evseq), (0, 8, src.flags + 64)]) ∧
    (∃ (s : State) (g : Fin 256) (u d : Nat) (x : XFlit) (src : XSource), s.running = true ∧ src = (s.group g).src ∧ src.beatAt = some u ∧
        u ≤ s.now ∧ src.begun = true ∧ src.quiet = false ∧ s.spaced g = true ∧ (s.tun (0x100 + g)).e.inPort = 19 ∧ s.engines = 0 ∧
        s.pairPasses (0x100 + g) 19 d ∧ src.esn < 256 ∧ opReserved src.opcode = false ∧ src.opcode < 256 ∧ x.hdr = pack [(25, 12, 0x100 + g.val),
        (17, 8, src.esn)] ∧ x.payload = pack [(32, 8, src.opcode), (8, 24, src.evseq), (0, 8, src.flags + 64)]) ∧
    (∃ (s : State) (g : Fin 256) (u op fl : Nat) (src : XSource), s.running = true ∧ src = (s.group g).src ∧ src.deferred = some u ∧ u ≤ s.now ∧
        s.sourceReady g = true ∧ s.sourceState src.origin = (op, fl) ∧ op ≠ 0) ∧
    (∃ (s : State) (g : Fin 256) (u op fl : Nat) (src : XSource), s.running = true ∧ src = (s.group g).src ∧ src.deferred = some u ∧ u ≤ s.now ∧
        s.sourceReady g = true ∧ s.sourceState src.origin = (op, fl) ∧ op = 0) ∧
    (∃ (s : State) (n : Fin 16) (d : Nat), s.running = true ∧ (s.sink n).pulseEnd = some d ∧ d < s.now ∧ s.pinStamp n = false ∧
        s.express.upset = none) ∧
    (∃ (s : State) (g : Fin 256) (n : Fin 16) (d : Nat), s.running = true ∧ (s.group g).superAt = some d ∧ d < s.now ∧ n.val ∈ s.sinkPins g ∧
        s.pinHold n = false ∧ s.express.upset = none) ∧
    (∃ s : State, s.running = true ∧ s.rdB EXP_CMD_BUSY = false ∧ s.rd EXP_SEL_KIND = 2 ∧ s.rd EXP_SEL_INDEX < 16) ∧
    (∃ s : State, s.running = true ∧ s.rdB EXP_CMD_BUSY = false ∧ s.rd EXP_SEL_KIND = 1) ∧
    (∃ s : State, s.running = true ∧ s.rdB EXP_CMD_BUSY = false ∧ s.rd EXP_SEL_KIND = 2 ∧ s.rd EXP_SEL_INDEX < 16 ∧ s.locked 0x0D8 = false ∧
        bitOf (s.rd (EXP_DATA_WORD 0)) 31 = false) ∧
    (∃ s : State, s.running = true ∧ s.rdB EXP_CMD_BUSY = false ∧ s.rd EXP_SEL_KIND = 2 ∧ s.rd EXP_SEL_INDEX < 16 ∧ s.locked 0x0D8 = true) ∧
    (∃ (s : State) (p : Nat), s.running = true ∧ p = s.rd EXP_QSEL_PORT) :=
  ⟨⟨(wRep State.reset), 255, 4, 17, [5], repX, srcR, (by unfold State.pairPasses; decide +kernel)⟩,
   ⟨(wRep State.reset), 255, 6, 17, repX, srcR, (by unfold State.pairPasses; decide +kernel)⟩,
   ⟨(wDefd 0x80 State.reset), 255, 7, ((wDefd 0x80 State.reset).sourceState 3).1, ((wDefd 0x80 State.reset).sourceState 3).2, srcR,
       by decide +kernel⟩,
   ⟨(wDefd 0 State.reset), 255, 7, ((wDefd 0 State.reset).sourceState 3).1, ((wDefd 0 State.reset).sourceState 3).2, srcR, by decide +kernel⟩,
   ⟨(wSink State.reset), 15, 9, by decide +kernel⟩,
   ⟨(((List.range 15).foldl (fun s n => s.wr (EVP_CFG_FUNC n) 0) (wSup State.reset))), 255, 15, 9, by decide +kernel⟩,
   ⟨(wESel 2 15 State.reset), by decide +kernel⟩,
   ⟨(wESel 1 255 State.reset), by decide +kernel⟩,
   ⟨(wESel 2 15 State.reset), by decide +kernel⟩,
   ⟨{ wESel 2 15 State.reset with locks := Map.empty.set 0x0D8 1 }, by decide +kernel⟩,
   ⟨((wESel 2 15 State.reset).wr EXP_QSEL_PORT 17), 17, by decide +kernel⟩⟩


end Express

namespace Compass

def wCmp (b : State) : State := { (((wLink 17 3 b).wr (CHD_STAT_TX_STATE 17) 0).wr CMP_CTL_ETOK_EN 0).wr (CMP_PORT_CTL_GCL_EN 17) 0 with chords := Map.empty, compass := { filledTo := 3 }, power := { b.power with asleep := 0, stopped := false }, now := b.now + 9, diag := { b.diag with test := 0 }, locks := Map.empty, lattice := {}, tuns := Map.empty }
def qf (n : Nat) : QFlit := { f := { tunnel := n, vc := 5, payload := [1, 2], last := true, inPort := 18, todo := [] }, at_ := 5 }
def wQs (b : State) : State := let s := (wCmp b).wr (CMP_QCFG_SHAPE 17 31) 0; { s with compass := { s.compass with queues := (Map.empty.set (qKey 17 31) [qf 0x700, qf 0x701]) } }
def qfE : Replay := { lsn := 0, vc := 5, tunnel := 0x700, payload := [1, 2], last := true, poison := false, stomp := false }
def wQe (b : State) : State := let s := wQs b; { s with compass := { s.compass with queues := s.compass.queues.set (qKey 17 0) [qf 1] } }
def wBk (b : State) : State := let s := (wCmp b).wr (CMP_QCFG_SHAPE 17 31) 1; { s with datum := { s.datum with t := 70 * 2 ^ 48 }, compass := { s.compass with filledTo := 3, policers := Map.empty.set 0x7FF { w0 := 0x40000005#32, w1 := 0xFFFF0100#32, c := -5 } } }
def wQsel (q : Nat) (b : State) : State := (wBk b).wr (CMP_QSEL_QUEUE 17) q
def wAdm (x : Nat) (b : State) : State := ((((wBk b).wr (gclLen x) 1).wr (gclLog x) 4).wr (gclChange x) ((2 ^ 32 - 1 + 2) % 2 ^ 32) |>.wr (gclPending x) 0 |>.wr LAT_PERIOD_NS 1000).onGcl x (fun g => { g with admin := Map.empty.set 0 0xFFC00004#32 })
def wAdmB (b : State) : State := (wAdm 17 b).onGcl 17 (fun g => { g with oper := [0#32], admin := Map.empty.set 0 0x3FC00004#32 })
def wPol (n : Nat) (w0 : Nat) (b : State) : State := ((((wBk b).wr CMP_POL_CMD_BUSY 0).wr CMP_POL_SEL_TUNNEL n).wr (CMP_POL_DATA_WORD 0) w0).wr (CMP_POL_DATA_WORD 1) 0xFFFF0100 |>.wr (CMP_POL_DATA_WORD 2) 0xFFFFFFFF

/-- What `CompassSendRows` supposes is met, clause by clause. -/
theorem wit_CompassSendRows :
    (∃ (u s : State) (p : Fin 18) (q pass : Nat) (x : QFlit) (e : Replay), u.running = true ∧ s = u.bucketsFirst ∧ s.portFree p = true ∧
        s.compass.queues.get (qKey p 0) = [] ∧ [s.choice p 1, s.choice p 2, s.choice p 3, s.choice p 4, s.choice p 5].findSome? id = some (q,
        pass, x) ∧ s.tokensOn = false ∧ s.compass.deferred.get p = none ∧
        (s.chord p).makeRoom (if s.diag.test = 1 then 0 else (s.chord p).quota) x.f.size = some (s.chord p) ∧
        e = { lsn := (s.chord p).nextLsn, vc := x.f.vc, tunnel := x.f.tunnel, payload := x.f.payload, last := x.f.last, poison := x.f.poison, stomp := x.f.stomp }) ∧
    (∃ (u s : State) (p : Fin 18) (x : QFlit) (rest : List QFlit), u.running = true ∧ s = u.bucketsFirst ∧ s.portFree p = true ∧
        s.compass.queues.get (qKey p 0) = x :: rest ∧ s.compass.sending.get p = none ∧ (s.chord p).xReplay.length < 64) ∧
    (∃ (s : State) (_p : Fin 18) (_q : Fin 32) (n : Nat), s.running = true ∧ n = s.datum.whole / 10 - s.compass.filledTo) ∧
    (∃ s : State, s.running = true ∧ s.compass.etok ≤ s.etokCap ∧ s.compass.etokTo ≤ s.datum.whole / 1000) ∧
    (∃ (s : State) (p : Fin 18) (q : Nat) (_v : Reg), s.running = true ∧ q = s.rd (CMP_QSEL_QUEUE p)) ∧
    (∃ (s : State) (p : Fin 18) (q : Nat) (_v : Reg), s.running = true ∧ q = s.rd (CMP_QSEL_QUEUE p) ∧ 12 ≤ q) ∧
    (∃ (s : State) (p : Fin 18) (q : Nat) (_v : Reg), s.running = true ∧ q = s.rd (CMP_QSEL_QUEUE p) ∧ 12 ≤ q) ∧
    (∃ (s : State) (p : Fin 18) (q : Nat) (_v : Reg), s.running = true ∧ q = s.rd (CMP_QSEL_QUEUE p)) ∧
    (∃ (s : State) (p : Fin 18) (q : Nat), s.running = true ∧ q = s.rd (CMP_QSEL_QUEUE p)) ∧
    (∃ (s : State) (p : Fin 18) (q : Nat), s.running = true ∧ q = s.rd (CMP_QSEL_QUEUE p)) :=
  ⟨⟨(wQs State.reset), (wQs State.reset).bucketsFirst, 17, 31, ((wQs State.reset).bucketsFirst.passOf 17 31 (qf 0x700)), (qf 0x700), qfE,
      by decide +kernel⟩,
   ⟨(wQe State.reset), (wQe State.reset).bucketsFirst, 17, (qf 1), [], by decide +kernel⟩,
   ⟨(wBk State.reset), 17, 31, 4, by decide +kernel⟩,
   ⟨(wBk State.reset), by decide +kernel⟩,
   ⟨(wQsel 12 State.reset), 17, 12, 0xFF01FFFF, by decide +kernel⟩,
   ⟨(wQsel 12 State.reset), 17, 12, 0xFF01FFFF, by decide +kernel⟩,
   ⟨(wQsel 12 State.reset), 17, 12, 0xFF01FFFF, by decide +kernel⟩,
   ⟨(wQsel 11 State.reset), 17, 11, 0xFF01FFFF, by decide +kernel⟩,
   ⟨(wQsel 31 State.reset), 17, 31, by decide +kernel⟩,
   ⟨(wQsel 31 State.reset), 17, 31, by decide +kernel⟩⟩

/-- What `GateAndPolicerRows` supposes is met, clause by clause. -/
theorem wit_GateAndPolicerRows :
    (∃ (s : State) (_x : Fin 18), s.running = true) ∧
    (∃ (s : State) (x : Fin 20) (l : List Reg), s.running = true ∧ l = (List.range (s.rd (gclLen x))).map (fun e => (s.gcl x).admin.get e) ∧
        s.gclStatusOf x = 0 ∧ modSub 32 (s.indexAt s.datum.whole) (s.rd (gclChange x)) ≥ 2 ^ 31) ∧
    (∃ (s : State) (x : Fin 20) (l : List Reg), s.running = true ∧ l = (List.range (s.rd (gclLen x))).map (fun e => (s.gcl x).admin.get e) ∧
        s.gclStatusOf x = 0 ∧ modSub 32 (s.indexAt s.datum.whole) (s.rd (gclChange x)) ≥ 2 ^ 31) ∧
    (∃ (s : State) (x : Fin 20) (l : List Reg), s.running = true ∧ l = (List.range (s.rd (gclLen x))).map (fun e => (s.gcl x).admin.get e) ∧
        s.rdB (gclPending x) = false ∧ s.rd (gclLen x) = 0) ∧
    (∃ (s : State) (x : Fin 20), s.running = true ∧ s.changeNow x = false) ∧
    (∃ (s : State) (x : Fin 20) (i : Fin 258) (_v : Reg), s.running = true ∧ s.rdB (gclPending x) = false ∧ i.val < 256) ∧
    (∃ (s : State) (x : Fin 20) (i : Fin 258) (_v : Reg), s.running = true ∧ s.rdB (gclPending x) = false ∧ i = 256) ∧
    (∃ (s : State) (x : Fin 20) (i : Fin 258) (_v : Reg), s.running = true ∧ s.rdB (gclPending x) = false ∧ i = 257) ∧
    (∃ (s : State) (x : Fin 20) (_i : Fin 258) (_v : Reg), s.running = true ∧ s.rdB (gclPending x) = true ∧ x.val < 18) ∧
    (∃ (s : State) (x : Fin 18), s.running = true ∧ s.locked (gclPage x) = false) ∧
    (∃ (s : State) (x : Fin 20), s.running = true ∧ s.locked (gclPage x) = false) ∧
    (∃ (s : State) (n : Nat), s.running = true ∧ s.rdB CMP_POL_CMD_BUSY = false ∧ n = s.rd CMP_POL_SEL_TUNNEL ∧ n ≠ 0) ∧
    (∃ (s : State) (n : Nat), s.running = true ∧ s.rdB CMP_POL_CMD_BUSY = false ∧ n = s.rd CMP_POL_SEL_TUNNEL ∧ n = 0) ∧
    (∃ (s : State) (n : Nat) (x : Policer), s.running = true ∧ s.rdB CMP_POL_CMD_BUSY = false ∧ n = s.rd CMP_POL_SEL_TUNNEL ∧
        x.w0 = BitVec.ofNat 32 (s.rd (CMP_POL_DATA_WORD 0)) &&& 0xF000FFFF ∧ x.w1 = BitVec.ofNat 32 (s.rd (CMP_POL_DATA_WORD 1)) ∧
        x.w2 = BitVec.ofNat 32 (s.rd (CMP_POL_DATA_WORD 2)) &&& 0x0000FFFF ∧ s.polStatus n x = 0 ∧ x.dropRed = 0 ∧ x.yellow = 0) ∧
    (∃ (s : State) (n : Nat) (x : Policer), s.running = true ∧ s.rdB CMP_POL_CMD_BUSY = false ∧ n = s.rd CMP_POL_SEL_TUNNEL ∧
        x.w0 = BitVec.ofNat 32 (s.rd (CMP_POL_DATA_WORD 0)) &&& 0xF000FFFF ∧ x.w1 = BitVec.ofNat 32 (s.rd (CMP_POL_DATA_WORD 1)) ∧
        x.w2 = BitVec.ofNat 32 (s.rd (CMP_POL_DATA_WORD 2)) &&& 0x0000FFFF ∧ n ≠ 0 ∧ x.mode = 3) :=
  ⟨⟨(wBk State.reset), 17, by decide +kernel⟩,
   ⟨(wAdm 17 State.reset), 17, [0xFFC00004#32], by decide +kernel⟩,
   ⟨((wAdm 19 State.reset).onGcl 19 (fun g => { g with admin := Map.empty.set 0 0x3FC00004#32 })), 19, [0x3FC00004#32], by decide +kernel⟩,
   ⟨((wAdm 19 State.reset).wr (gclLen 19) 0), 19, [], by decide +kernel⟩,
   ⟨(wAdm 19 State.reset), 19, by decide +kernel⟩,
   ⟨(wAdm 19 State.reset), 19, 255, 0xFFFFFFFF, by decide +kernel⟩,
   ⟨(wAdm 19 State.reset), 19, 256, 0xFFFFFFFF, by decide +kernel⟩,
   ⟨(wAdm 0 State.reset), 0, 257, 0xFFFFFFFF, by decide +kernel⟩,
   ⟨((wAdm 17 State.reset).wr (gclPending 17) 1), 17, 257, 0xFFFFFFFF, by decide +kernel⟩,
   ⟨(wAdm 17 State.reset), 17, by decide +kernel⟩,
   ⟨(wAdm 19 State.reset), 19, by decide +kernel⟩,
   ⟨(wPol 0x7FF 0 State.reset), 0x7FF, by decide +kernel⟩,
   ⟨(wPol 0 0 State.reset), 0, by decide +kernel⟩,
   ⟨(wPol 0x7FF 0xBFFF0005 State.reset), 0x7FF, { w0 := 0xB0000005#32, w1 := 0xFFFF0100#32, w2 := 0xFFFF#32 }, by decide +kernel⟩,
   ⟨(wPol 0x7FF 0xFFFF0005 State.reset), 0x7FF, { w0 := 0xF0000005#32, w1 := 0xFFFF0100#32, w2 := 0xFFFF#32 }, by decide +kernel⟩⟩


end Compass

namespace Frames

def frOf (vid : Nat) : Frame := { da := 0x020000000001#48, sa := 0x020000000002#48, tag := some (7, vid), etherType := 0x0800, body := .octets [1, 2, 3] }
def wFrm (b : State) : State := { (wOn b).wr FRM_CTL_RED_MODE 0 |>.wr FRM_CTL_LEARN_EN 0 |>.wr FRM_MAX_MAX_FRAME 0 |>.wr FRM_CMD_BUSY 0 |>.wr (FRM_SP_CTL_MODE 0) 1 |>.wr (FRM_SP_CTL_MODE 1) 2 |>.wr (FRM_SP_CTL_GCL_EN 1) 0 with records := Map.empty, locks := Map.empty, bridge := {}, tuns := Map.empty, hull := {}, express := {}, compass := { b.compass with sending := Map.empty } }
def wBr (b : State) : State :=
  let s := ((((wFrm b).setRec 0x0E0 8 129 0 0 (2 ^ 31 + 0x650 * 2 ^ 16)).setRec 0x0E0 1 4094 4 0 2).setRec 0x0E0 1 4094 0 0 3).setRec 0x0E0 2 3 0 1 0
  let s := s.setRec 0x0E0 2 3 0 0 1 |>.setRec 0x0E0 2 3 0 1 (2 ^ 31 + 4094 * 2 ^ 16 + 0x0200)
  s.onTun 0x650 (fun x => { x with e := { x.e with state := .opened, kind := 5, adapter := 127, inPort := 20, destMask := 2 ^ 3, keyed := false, vc := 4 } })
def wBr2 (b : State) : State := let s := wBr b |>.setRec 0x0E0 2 3 0 2 128 |>.setRec 0x0E0 8 128 0 0 (2 ^ 31 + 0x651 * 2 ^ 16) |>.setRec 0x0E0 1 4094 4 0 3
  s.onTun 0x651 (fun x => { x with e := { x.e with state := .opened, kind := 5, adapter := 126, inPort := 20, destMask := 2 ^ 4, keyed := false, vc := 4 } })
def wLearn (b : State) : State := (wBr b).wr FRM_CTL_LEARN_EN 1
def wWait (b : State) : State := let s := wBr b; { s with bridge := { s.bridge with tunWait := Map.empty.set 129 [frOf 1, frOf 2] } }
def wTx (b : State) : State := let s := (wBr b).wr (FRM_SP_STAT_LINE 1) 7; { s with bridge := { s.bridge with queues := Map.empty.set 15 [frOf 1, frOf 2] } }
def me (n : Nat) : MacEntry := { vid := 1, mac := 5, port := 3, seen := n }
def wAge (b : State) : State := { (wFrm b).wr FRM_AGE_SEC 0 with now := 20000000001, bridge := { macs := [me 10000000000, me 10000000001], dups := [⟨1, 2, 19600000000⟩, ⟨1, 2, 19600000001⟩] } }
def wRed (b : State) : State := { (wFrm b).wr FRM_CTL_RED_MODE 1 with now := b.now + 20000000000 }
def gf : GooseFrame := { appid := 7, gocbRef := [], datSet := [], goId := [], ttl := 3, t := 0, stNum := 2 ^ 32 - 1, sqNum := 5, sim := false, confRev := 9, ndsCom := false, data := [.bool true, .quality 0, .other] }
def gA (g : GooseFrame) : Arrival := { portB := true, stamp := 0, at_ := 2, ok := true, f := { da := 0, sa := 0, tag := none, etherType := 0x88B8, body := .goose g } }
def wGo (b : State) : State :=
  let s := ((((wFrm b).setRec 0x0E0 4 255 0 0 (2 ^ 31 + 3 * 2 ^ 28 + 255 * 2 ^ 20)).setRec 0x0E0 4 255 0 1 (7 * 2 ^ 16)).setRec 0x0E0 4 255 0 3 (0x81 * 2 ^ 24 + 0x80 * 2 ^ 16 + 0x82 * 2 ^ 8)).setRec 0x0E0 4 255 1 0 9 |>.setRec 0x0E0 4 255 1 2 127
  { s with bridge := { forGoose := [gA gf, gA gf], goose := Map.empty.set 255 { liveUntil := some 3 } }, now := b.now + 4 }
def wGr (b : State) : State :=
  let s := (((wFrm b).setRec 0x0E0 4 255 0 0 (3 * 2 ^ 30 + 2 * 2 ^ 28)).setRec 0x0E0 4 255 1 2 (7 * 2 ^ 17 + 4 * 2 ^ 8)).setRec 0x0E0 4 255 1 3 1000 |>.setRec 0x0E0 7 255 0 1 (2 ^ 32 - 1)
  { s with bridge := { goose := Map.empty.set 255 { nextAt := some 3, interval := 600 } }, now := b.now + 4 }
theorem wGr_len (s : State) (r a c d : Nat) : frameLen (s.gooseFrame r a c d) ≤ 1518 := by
  simp [frameLen, State.gooseFrame, bodyLen, bodyBytes]; omega
theorem wGr_takes : (wGr State.reset).stationTakes 1 (bitsOf ((wGr State.reset).gooseW 255 6) 17 3) ((wGr State.reset).gooseFrame 255 0 0 3000) := by
  have h := wGr_len (wGr State.reset) 255 0 0 3000
  have a : (wGr State.reset).stationHeld 1 (bitsOf ((wGr State.reset).gooseW 255 6) 17 3 % 8) = 0 := by decide +kernel
  have c : ((List.range 8).map (fun i => (wGr State.reset).stationHeld 1 i)).sum = 0 := by decide +kernel
  exact ⟨by omega, by omega⟩
def wFs (k i e : Nat) (b : State) : State := ((((wGr b).wr FRM_SEL_KIND k).wr FRM_SEL_INDEX i).wr FRM_SEL_ENTRY e).wr (FRM_DATA_WORD 0) 0xFFFFFFFF

/-- What `FrameBridgeRows` supposes is met, clause by clause. -/
theorem wit_FrameBridgeRows :
    (∃ (s : State) (n : BitVec 12) (f : Frame) (x : Fin 2) (b pcp vid _c : Nat), s.running = true ∧ (s.tun n.toNat).e.kind = 5 ∧
        (s.tun n.toNat).e.state = .opened ∧ (s.tun n.toNat).e.path.contains 20 = true ∧ b = 2 + (s.tun n.toNat).e.adapter % 128 ∧ b < 130 ∧
        s.bportValid b = true ∧ s.bportTun b = n.toNat ∧ f.tag = some (pcp, vid) ∧ 0 < vid ∧ vid < 4095 ∧ frameLen f + 4 ≤ s.maxFrame ∧
        s.member vid b = true ∧ s.filterOf vid f.da = none ∧ s.redundant = false ∧ s.rdB FRM_CTL_LEARN_EN = false ∧ f.etherType ≠ 0x88F7 ∧
        s.destsOf b vid f.da = [x.val] ∧ s.stationTakes x pcp (s.egressForm vid pcp x f)) ∧
    (∃ (s : State) (n : BitVec 12) (f : Frame) (_x : Fin 2) (b pcp vid c : Nat), s.running = true ∧ (s.tun n.toNat).e.kind = 5 ∧
        (s.tun n.toNat).e.state = .opened ∧ (s.tun n.toNat).e.path.contains 20 = true ∧ b = 2 + (s.tun n.toNat).e.adapter % 128 ∧ b < 130 ∧
        s.bportValid b = true ∧ s.bportTun b = n.toNat ∧ f.tag = some (pcp, vid) ∧ 0 < vid ∧ vid < 4095 ∧ frameLen f + 4 ≤ s.maxFrame ∧
        s.member vid b = true ∧ s.filterOf vid f.da = none ∧ s.redundant = false ∧ s.rdB FRM_CTL_LEARN_EN = false ∧ f.etherType ≠ 0x88F7 ∧
        s.destsOf b vid f.da = [c] ∧ 2 ≤ c ∧ s.bportOpen c = true ∧
        ((s.bridge.tunWait.get c).map frameLen).sum + frameLen (s.egressForm vid pcp c f) ≤ 65536) ∧
    (∃ (s : State) (x : Fin 2) (_f : Frame) (_pcp _vid : Nat), s.running = true ∧ s.stationOn x = true ∧ s.rd (FRM_SP_CTL_MODE x) ≠ 3) ∧
    (∃ (s : State) (x : Fin 2) (f : Frame) (pcp vid : Nat), s.running = true ∧ s.stationOn x = true ∧ s.rd (FRM_SP_CTL_MODE x) ≠ 3 ∧
        f.etherType ≠ 0x88F7 ∧ s.redundant = false ∧ f.tag = some (pcp, vid) ∧ 0 < vid ∧ vid < 4095 ∧ frameLen f + 4 ≤ s.maxFrame ∧
        s.member vid x = true ∧ s.filterOf vid f.da = none ∧ s.rdB FRM_CTL_LEARN_EN = true ∧ groupMac f.sa = false ∧
        s.staticPort vid f.sa = none ∧ ((∀ e ∈ s.bridge.macs, ¬(e.vid = vid ∧ e.mac = f.sa))) ∧ s.bridge.macs.length < 2 ^ 14 - 1 ∧
        (s.bridge.macs.filter (fun e => Config.macBucket e.vid e.mac = Config.macBucket vid f.sa)).length < 4) ∧
    (∃ (s : State) (x : Fin 2) (f : Frame) (_pcp _vid : Nat), s.running = true ∧ s.stationOn x = true ∧ s.rd (FRM_SP_CTL_MODE x) ≠ 3 ∧
        f.etherType = 0x88F7 ∧ frameLen f + 4 ≤ s.maxFrame) ∧
    (∃ (s : State) (i : Fin 128) (f : Frame) (rest : List Frame) (n : Nat) (ds : List Nat), s.running = true ∧
        s.bridge.tunWait.get (i + 2) = f :: rest ∧ n = s.bportTun (i + 2) ∧ s.canSend 20 n ds ∧ ((∀ g ∈ s.hull.ingress, g.tunnel ≠ n))) ∧
    (∃ (s : State) (x : Fin 2) (q : Fin 8) (f : Frame) (rest : List Frame), s.running = true ∧ s.stationOn x = true ∧
        bitOf (s.rd (FRM_SP_STAT_LINE x)) 1 = true ∧ ((∀ k ∈ s.compass.sending.get (18 + x), k.until_ ≤ s.now)) ∧
        s.bridge.queues.get (x * 8 + q) = f :: rest ∧ ((∀ r < 8, q.val < r → s.bridge.queues.get (x * 8 + r) = [])) ∧
        s.gateHolds (18 + x) q s.datum.whole (s.datum.whole + lineTime (s.rd (FRM_SP_CTL_MODE x)) (frameLen f)) = true) ∧
    (∃ (s : State) (l : List MacEntry), s.running = true ∧
        l = s.bridge.macs.filter (fun e => s.now ≤ e.seen + min 1000000 (max 10 (s.rd FRM_AGE_SEC)) * 1000000000) ∧ l.length < 2 ^ 14) ∧
    (∃ s : State, s.running = true) ∧
    (∃ (s : State) (x : Fin 2), s.running = true ∧ s.redundant = true ∧ s.bridge.lanFailed.get x = false ∧
        s.bridge.lanAt.get x + 2 * s.lifecheck < s.now) ∧
    (∃ (s : State) (f : Frame) (n : Nat), s.running = true ∧ s.redundant = true ∧ s.bridge.superAt ≤ s.now ∧ f = s.superFrame Config.hubMac ∧
        n = s.bridge.seqs.get Config.hubMac.toNat ∧ s.bridge.proxies.contains Config.hubMac = false) :=
  ⟨⟨(wBr State.reset), 0x650, (frOf 4094), 0, 129, 7, 4094, 0, (by unfold State.stationTakes; decide +kernel)⟩,
   ⟨(wBr2 State.reset), 0x650, (frOf 4094), 0, 129, 7, 4094, 128, by decide +kernel⟩,
   ⟨(wLearn State.reset), 1, (frOf 4094), 7, 4094, by decide +kernel⟩,
   ⟨(wLearn State.reset), 1, (frOf 4094), 7, 4094, by decide +kernel⟩,
   ⟨(wLearn State.reset), 1, { frOf 4094 with etherType := 0x88F7 }, 7, 4094, by decide +kernel⟩,
   ⟨(wWait State.reset), 127, (frOf 1), [frOf 2], 0x650, [3], (by unfold State.canSend; decide +kernel)⟩,
   ⟨(wTx State.reset), 1, 7, (frOf 1), [frOf 2], by decide +kernel⟩,
   ⟨(wAge State.reset), [me 10000000001], by decide +kernel⟩,
   ⟨(wAge State.reset), by decide +kernel⟩,
   ⟨(wRed State.reset), 1, by decide +kernel⟩,
   ⟨(wRed State.reset), ((wRed State.reset).superFrame Config.hubMac), 0, by and_intros <;> first | decide +kernel | rfl⟩⟩

/-- What `StationAndGooseRows` supposes is met, clause by clause. -/
theorem wit_StationAndGooseRows :
    (∃ (s : State) (x : Fin 2), s.running = true ∧ s.rd (FRM_SP_CTL_MODE x) = 3 ∧ bitOf (s.rd (FRM_SP_STAT_LINE x)) 1 = false) ∧
    (∃ (s : State) (x : Fin 2), s.running = true ∧ bitOf (s.rd (FRM_SP_STAT_LINE x)) 1 = true) ∧
    (∃ (s : State) (x : Fin 2) (v : BitVec 3), s.running = true ∧ bitOf (s.rd (FRM_SP_STAT_LINE x)) 6 ≠ v.getLsbD 2) ∧
    (∃ (s : State) (x : Fin 2) (_v : Reg), s.running = true ∧ s.rdB (FRM_SP_I2C_BUSY x) = false) ∧
    (∃ (s : State) (x : Fin 2) (_nack : Bool) (_d : BitVec 8), s.running = true ∧ s.rdB (FRM_SP_I2C_BUSY x) = true) ∧
    (∃ (s : State) (a : Arrival) (rest : List Arrival) (g : GooseFrame) (r : Fin 256) (v : Bool) (op : Nat), s.running = true ∧
        s.bridge.forGoose = a :: rest ∧ a.f.body = .goose g ∧ g.sim = false ∧ a.ok = true ∧
        (List.range 256).filter (fun r => s.gooseFits r a g) = [r.val] ∧ bitOf (s.gooseW r 0) 13 = false ∧
        g.data[bitsOf (s.gooseW r 6) 8 6]? = some (.bool v) ∧ bitsOf (s.gooseW r 6) 0 7 = 127 ∧ g.confRev = s.gooseW r 4 ∧ g.ndsCom = false ∧
        (s.goose r).lastSt ≠ some g.stNum ∧ g.stNum < 2 ^ 32 ∧ g.sqNum < 2 ^ 32 ∧ op = bitsOf (s.gooseW r 3) (if v then 24 else 16) 8 ∧ op ≠ 0 ∧
        a.at_ ≤ s.now) ∧
    (∃ (s : State) (a : Arrival) (rest : List Arrival) (g : GooseFrame) (_r : Fin 256) (_v : Bool) (_op : Nat), s.running = true ∧
        s.bridge.forGoose = a :: rest ∧ a.f.body = .goose g ∧ ((g.sim = true ∨ a.ok = false))) ∧
    (∃ (s : State) (r : Fin 256) (u : Nat), s.running = true ∧ (s.goose r).liveUntil = some u ∧ u < s.now ∧ bitOf (s.gooseW r 0) 31 = true ∧
        bitOf (s.gooseW r 0) 30 = false ∧ (s.goose r).lost = false ∧ s.gooseWaits r u = false) ∧
    (∃ (s : State) (r : Fin 256) (x : Fin 2) (u sq iv : Nat) (f : Frame), s.running = true ∧ (s.goose r).nextAt = some u ∧ u ≤ s.now ∧
        bitOf (s.gooseW r 0) 31 = true ∧ bitOf (s.gooseW r 0) 13 = false ∧ sq = (s.frm 7 r 0 1 + 1) % 2 ^ 32 ∧
        iv = min (2 * (s.goose r).interval) (s.gooseT0 r) ∧ f = s.gooseFrame r (s.frm 7 r 0 0) sq (3 * iv) ∧ s.redundant = false ∧
        bitsOf (s.gooseW r 0) 28 2 = 2 ^ x.val ∧ s.stationTakes x (bitsOf (s.gooseW r 6) 17 3) f) ∧
    (∃ (s : State) (k i e : Nat), s.running = true ∧ s.rdB FRM_CMD_BUSY = false ∧ k = s.rd FRM_SEL_KIND ∧ i = s.rd FRM_SEL_INDEX ∧
        e = s.rd FRM_SEL_ENTRY ∧ frmIndexOk k i e = true) ∧
    (∃ (s : State) (k i e : Nat), s.running = true ∧ s.rdB FRM_CMD_BUSY = false ∧ k = s.rd FRM_SEL_KIND ∧ i = s.rd FRM_SEL_INDEX ∧
        e = s.rd FRM_SEL_ENTRY ∧ frmIndexOk k i e = false) ∧
    (∃ (s : State) (k i e : Nat), s.running = true ∧ s.rdB FRM_CMD_BUSY = false ∧ k = s.rd FRM_SEL_KIND ∧ i = s.rd FRM_SEL_INDEX ∧
        e = s.rd FRM_SEL_ENTRY ∧ frmIndexOk k i e = true ∧ s.locked 0x0E0 = false ∧ ((k = 1 ∨ k = 3 ∨ k = 5 ∨ k = 8))) ∧
    (∃ (s : State) (k i e : Nat), s.running = true ∧ s.rdB FRM_CMD_BUSY = false ∧ k = s.rd FRM_SEL_KIND ∧ i = s.rd FRM_SEL_INDEX ∧
        e = s.rd FRM_SEL_ENTRY ∧ frmIndexOk k i e = true ∧ k ≠ 7 ∧ s.locked 0x0E0 = true) :=
  ⟨⟨((wFrm State.reset).wr (FRM_SP_CTL_MODE 1) 3 |>.wr (FRM_SP_STAT_LINE 1) 0x70), 1, by decide +kernel⟩,
   ⟨((wFrm State.reset).wr (FRM_SP_CTL_MODE 1) 3 |>.wr (FRM_SP_STAT_LINE 1) 0x7F), 1, by decide +kernel⟩,
   ⟨((wFrm State.reset).wr (FRM_SP_STAT_LINE 1) 0x7F), 1, 3, by decide +kernel⟩,
   ⟨((wFrm State.reset).wr (FRM_SP_I2C_BUSY 1) 0), 1, 0xFFFFFFFF, by decide +kernel⟩,
   ⟨((wFrm State.reset).wr (FRM_SP_I2C_BUSY 1) 1), 1, false, 255, by decide +kernel⟩,
   ⟨(wGo State.reset), (gA gf), [gA gf], gf, 255, true, 0x81, by decide +kernel⟩,
   ⟨{ wGo State.reset with bridge := { forGoose := [gA { gf with sim := true }] } }, (gA { gf with sim := true }), [], { gf with sim := true },
       255, true, 0x81, by decide +kernel⟩,
   ⟨{ wGo State.reset with bridge := { (wGo State.reset).bridge with forGoose := [] } }, 255, 3, by decide +kernel⟩,
   ⟨(wGr State.reset), 255, 1, 3, 0, 1000, ((wGr State.reset).gooseFrame 255 0 0 3000),
       by unfold State.stationTakes; and_intros <;> first | decide +kernel | rfl | exact wGr_takes.1 | exact wGr_takes.2⟩,
   ⟨(wFs 4 255 1 State.reset), 4, 255, 1, by decide +kernel⟩,
   ⟨(wFs 4 256 1 State.reset), 4, 256, 1, by decide +kernel⟩,
   ⟨(wFs 8 129 0 State.reset), 8, 129, 0, by decide +kernel⟩,
   ⟨{ wFs 8 129 0 State.reset with locks := Map.empty.set 0x0E0 1 }, 8, 129, 0, by decide +kernel⟩⟩


end Frames

namespace Window

def wHost (b : State) : State := { ((((wOn b).wr WIN_PCIE_STAT_LINK_UP 1).wr CHIP_STAT_ROLE 0).wr WIN_CMD_BUSY 0).wr WIN_STAT_NP_OUT 0 |>.wr EVT_STAT_MSIX_READY 0 with records := Map.empty, locks := Map.empty, win := {}, tuns := Map.empty, hull := {}, now := b.now + 2000000000 }.wr CHIP_STRAP_STRAPS 4
def wTunW (n : Nat) (s : State) : State := s.onTun n (fun x => { x with e := { x.e with state := .opened, keyed := false, kind := 6, inPort := 21, destMask := 2 ^ 3, vc := 5, msnOut := 2 ^ 24 - 1, srcDock := 9 } })
def wWin (b : State) : State := wTunW 0xDFF ((((wHost b).setRec 0x0F0 1 255 0 0 (2 ^ 31 + 12 * 2 ^ 24 + 0xDFF * 2 ^ 12)).setRec 0x0F0 1 255 0 1 1).setRec 0x0F0 1 255 0 2 0xFFFFFFF)
def pfe (n : Nat) : PfEntry := { window := 255, tunnel := 0xDFF, lo := 0, len := 8, tag := 1, filledAt := some n }
def pfh : PfEntry := { window := 255, tunnel := 0xDFF, lo := 0xFFFFFFF000, len := 4096, data := List.range 255, tag := 1, filledAt := some 7 }
def wPf (b : State) : State := let s := (wWin b).setRec 0x0F0 1 255 0 0 (2 ^ 31 + 12 * 2 ^ 24 + 0xDFF * 2 ^ 12 + 2048); { s with win := { s.win with prefetch := [pfh], reqs := [{ window := 255, tunnel := 3, addr := 0, len := 1 }] } }
def wq : WinReq := { write := true, window := 255, tunnel := 0xDFF, addr := 4, len := 2, data := [1, 2, 3, 4, 5, 6, 7, 8] }
def wReq (r : WinReq) (b : State) : State := let s := wWin b; { s with win := { s.win with reqs := [r] } }
def rq : WinReq := { window := 255, tunnel := 0xDFF, addr := 4, len := 2, tag := 255, hostTag := 1023, sent := true, ran := 2000000001, held := 2000000001 }
def rmsg : List Word := [pack [(36, 4, 8), (28, 8, 255)], 0x0102030405#40, 0x0607080000#40]
def wInt (d : Nat) (x : Poll) (b : State) : State := let s := (((wWin b).setRec 0x0F0 3 d 0 0 (2 ^ 31 + 0xDFF * 2 ^ 19 + 2)).setRec 0x0F0 3 d 0 1 0xFFFFFFFC).setRec 0x0F0 3 d 0 2 255; { s with win := { s.win with polls := Map.empty.set d x } }
def wRsp (b : State) : State := let s := wInt 0 { out := some (7, 4) } b; { s with win := { s.win with funcs := Map.empty.set 1 { command := 4, msix := 0x8000 } }, evt := { s.evt with msix := Map.empty.set 64 { (s.evt.msix.get 0) with mask := false } } }
def wRv (v : Bool) (owed : Nat) (b : State) : State := let s := (((wWin b).setRec 0x0F0 2 63 0 0 (b2n v * 2 ^ 31 + 9 * 2 ^ 24 + 12 * 2 ^ 16)).setRec 0x0F0 2 63 0 1 0xFFFFF000).setRec 0x0F0 2 63 0 2 0xFFFFFFFF; { s with win := { s.win with reverse := Map.empty.set 9 { expected := 255, owed := owed, tunnel := 0xDFF }, funcs := Map.empty.set 1 { command := 4 } } }
def rwm (rseq len off : Nat) : List Word := [pack [(36, 4, 11), (28, 8, rseq), (16, 11, len), (12, 4, 3), (8, 4, 12), (0, 6, 63)], pack [(0, 40,
    off)], 0x0102030405#40, 0x0607080000#40]
def wUp (b : State) : State := let s := wRv true 3 b; { s with win := { s.win with upstream := [.write 9 4092 [1, 2, 3, 4] 15 0, .vector 3, .vector 9, .write 4 0 [1] 15 15, .vector 3] } }
def wUp8 (b : State) : State := let s := wRv true 3 b; { s with win := { s.win with upstream := [.write 9 4092 [1, 2, 3, 4, 5, 6, 7, 8] 15 3, .vector 3] } }
def wWs (k i w0 w1 : Nat) (b : State) : State := ((((wUp b).wr WIN_SEL_KIND k).wr WIN_SEL_INDEX i).wr (WIN_DATA_WORD 0) w0).wr (WIN_DATA_WORD 1) w1

/-- What `HostAndWindowRows` supposes is met, clause by clause. -/
theorem wit_HostAndWindowRows :
    (∃ (s : State) (_speed : Fin 5) (_width : Fin 17) (cs cw : Nat), s.running = true ∧ s.isRoot = true ∧
        bitOf (s.rd CHIP_STRAP_STRAPS) 2 = true ∧ cs = speedCap (s.rd WIN_PCIE_CTL_MAX_SPEED) ∧ cw = widthCap (s.rd WIN_PCIE_CTL_MAX_WIDTH)) ∧
    (∃ (s : State) (_speed : Fin 5) (_width : Fin 17) (cs cw : Nat), s.running = true ∧ s.isRoot = true ∧
        bitOf (s.rd CHIP_STRAP_STRAPS) 2 = true ∧ cs = speedCap (s.rd WIN_PCIE_CTL_MAX_SPEED) ∧ cw = widthCap (s.rd WIN_PCIE_CTL_MAX_WIDTH)) ∧
    (∃ s : State, s.running = true ∧ s.hostUp = true) ∧
    (∃ s : State, s.running = true ∧ s.hostUp = true) ∧
    (∃ (s : State) (_f : Fin 3) (_r : CfgReg) (_wr : Bool) (_v : Reg) (_tag : BitVec 10), s.running = true ∧ s.hostUp = true ∧
        s.win.cfgReadyAt ≤ s.now) ∧
    (∃ (s : State) (_f : Fin 3) (_r : CfgReg) (_wr : Bool) (v : Reg) (_tag : BitVec 10), s.running = true ∧ s.hostUp = true ∧
        s.win.cfgReadyAt ≤ s.now ∧ ((v.toNat % 4 = 0 ∨ v.toNat % 4 = 3))) ∧
    (∃ (s : State) (_f : Fin 3) (_r : CfgReg) (_wr : Bool) (_v : Reg) (_tag : BitVec 10), s.running = true ∧ s.hostUp = true ∧
        s.now < s.win.cfgReadyAt) ∧
    (∃ (s : State) (apt : Bool) (o : BitVec 36) (len : Fin 1025) (_fbe _lbe : BitVec 4) (_tag : BitVec 10) (w n a _g : Nat) (e : PfEntry) (_ds : List Nat), s.running = true ∧ s.hostUp = true ∧ s.rd WIN_STAT_NP_OUT < 256 ∧ s.winMatch apt o.toNat = some w ∧ n = s.winTun w ∧ (s.tun n).e.state = .opened ∧ a = (s.winBase w + (o.toNat - s.winOff w)) / 4 * 4 ∧ ((∀ r ∈ s.win.reqs, r.tunnel = n → r.sent = true ∨ r.waits ≠ none)) ∧ s.winPrefetch w = true ∧ s.winFault w = false ∧ s.win.prefetch.find? (fun x => x.tunnel = n && x.lo ≤ a && a + max 1 len.val * 4 ≤ x.lo + x.len) = some e ∧ e.filledAt.isSome = true) ∧
    (∃ (s : State) (apt : Bool) (o : BitVec 36) (_len : Fin 1025) (_fbe _lbe : BitVec 4) (_tag : BitVec 10) (w n a g : Nat) (_e : PfEntry) (ds : List Nat), s.running = true ∧ s.hostUp = true ∧ s.rd WIN_STAT_NP_OUT < 256 ∧ s.winMatch apt o.toNat = some w ∧ n = s.winTun w ∧ s.canSend 21 n ds ∧ a = (s.winBase w + (o.toNat - s.winOff w)) / 4 * 4 ∧ ((∀ r ∈ s.win.reqs, r.tunnel = n → r.sent = true ∨ r.waits ≠ none)) ∧ s.winPrefetch w = false ∧ s.freeTag = some g) ∧
    (∃ (s : State) (apt : Bool) (o : BitVec 36) (_len : Fin 1025) (_fbe _lbe : BitVec 4) (_tag : BitVec 10) (_w _n _a _g : Nat) (_e : PfEntry) (_ds : List Nat), s.running = true ∧ s.hostUp = true ∧ s.rd WIN_STAT_NP_OUT < 256 ∧ s.winMatch apt o.toNat = none) ∧
    (∃ (s : State) (apt : Bool) (o : BitVec 36) (data : List Reg) (_fbe _lbe : BitVec 4) (w n a : Nat) (ds : List Nat), s.running = true ∧
        s.hostUp = true ∧ data ≠ [] ∧ s.winMatch apt o.toNat = some w ∧ n = s.winTun w ∧ s.canSend 21 n ds ∧
        a = (s.winBase w + (o.toNat - s.winOff w)) / 4 * 4 ∧ ((∀ r ∈ s.win.reqs, r.tunnel = n → r.sent = true ∨ r.waits ≠ none)) ∧
        ((∀ e ∈ s.win.prefetch, e.tunnel = n → e.lo < a + data.length * 4 → e.lo + e.len ≤ a))) ∧
    (∃ (s : State) (apt : Bool) (o : BitVec 36) (data : List Reg) (_fbe _lbe : BitVec 4) (_w _n _a : Nat) (_ds : List Nat), s.running = true ∧
        s.hostUp = true ∧ data ≠ [] ∧ s.winMatch apt o.toNat = none) ∧
    (∃ (s : State) (n : BitVec 12) (r : WinReq) (_g : Nat) (ds : List Nat), s.running = true ∧
        s.win.reqs.filter (fun x => x.tunnel = n.toNat && !x.sent && x.waits.isNone) = [r] ∧ s.canSend 21 n.toNat ds ∧ r.write = true ∧
        ((∀ e ∈ s.win.prefetch, e.tunnel = n.toNat → e.lo < r.addr + r.len * 4 → e.lo + e.len ≤ r.addr))) ∧
    (∃ (s : State) (n : BitVec 12) (r : WinReq) (g : Nat) (ds : List Nat), s.running = true ∧
        s.win.reqs.filter (fun x => x.tunnel = n.toNat && !x.sent && x.waits.isNone) = [r] ∧ s.canSend 21 n.toNat ds ∧ r.write = false ∧
        s.winPrefetch r.window = false ∧ s.freeTag = some g) ∧
    (∃ (s : State) (n : BitVec 12) (msg : List Word) (r : WinReq), s.running = true ∧ fld (msg.getD 0 0) 36 4 = 8 ∧
        s.win.reqs.find? (fun r => !r.write && r.sent && r.tag = fld (msg.getD 0 0) 28 8 && r.tunnel = n.toNat) = some r ∧ r.spec = false ∧
        r.silent = false ∧ fld (msg.getD 0 0) 24 4 = 0) ∧
    (∃ (s : State) (n : BitVec 12) (msg : List Word) (r : WinReq), s.running = true ∧ fld (msg.getD 0 0) 36 4 = 8 ∧
        s.win.reqs.find? (fun r => !r.write && r.sent && r.tag = fld (msg.getD 0 0) 28 8 && r.tunnel = n.toNat) = some r ∧ r.spec = false ∧
        r.silent = false) ∧
    (∃ (s : State) (n : BitVec 12) (msg : List Word) (r : WinReq), s.running = true ∧ fld (msg.getD 0 0) 36 4 = 8 ∧
        s.win.reqs.find? (fun r => !r.write && r.sent && r.tag = fld (msg.getD 0 0) 28 8 && r.tunnel = n.toNat) = none) ∧
    (∃ (s : State) (n : BitVec 12) (msg : List Word) (a : Nat) (o : Option Nat), s.running = true ∧ fld (msg.getD 0 0) 36 4 = 9 ∧
        a = (msg.getD 1 0).toNat ∧
        o = (List.range 256).find? (fun w => s.winValid w && s.winTun w = n.toNat && s.winBase w ≤ a && a < s.winBase w + 2 ^ s.winSize w)) ∧
    (∃ (s : State) (n : BitVec 12) (msg : List Word) (a : Nat) (o : Option Nat), s.running = true ∧ fld (msg.getD 0 0) 36 4 = 9 ∧
        a = (msg.getD 1 0).toNat ∧
        o = (List.range 256).find? (fun w => s.winValid w && s.winTun w = n.toNat && s.winBase w ≤ a && a < s.winBase w + 2 ^ s.winSize w)) ∧
    (∃ (s : State) (r : WinReq), s.running = true ∧ r.write = false ∧ r.spec = false ∧ r.silent = false ∧
        s.win.reqs.filter (fun x => !x.write && s.rdTimeout < x.ran) = [r]) ∧
    (∃ (s : State) (r : WinReq), s.running = true ∧ r.write = false ∧ r.spec = false ∧ r.silent = false ∧
        s.win.reqs.filter (fun x => s.pathGrace x.tunnel < x.held) = [r]) ∧
    (∃ (s : State), s.running = true) :=
  ⟨⟨(((wHost State.reset).wr WIN_PCIE_STAT_LINK_UP 0).wr WIN_PCIE_CTL_MAX_WIDTH 3 |>.wr WIN_PCIE_CTL_MAX_SPEED 2), 4, 16, 2, 8,
      by decide +kernel⟩,
   ⟨((wHost State.reset).wr WIN_PCIE_CTL_MAX_WIDTH 2 |>.wr WIN_PCIE_CTL_MAX_SPEED 0), 0, 0, 4, 2, by decide +kernel⟩,
   ⟨(wHost State.reset), by decide +kernel⟩,
   ⟨(wHost State.reset), by decide +kernel⟩,
   ⟨(wHost State.reset), 2, .command, true, 7, 1023, by decide +kernel⟩,
   ⟨(wHost State.reset), 2, .command, true, 7, 1023, by decide +kernel⟩,
   ⟨{ wHost State.reset with win := { cfgReadyAt := State.reset.now + 3000000000 } }, 2, .command, true, 7, 1023, by decide +kernel⟩,
   ⟨(wPf State.reset), false, 4104, 8, 15, 15, 1023, 255, 0xDFF, 0xFFFFFFF008, 0, pfh, [3], by decide +kernel⟩,
   ⟨(wWin State.reset), false, 8191, 1024, 15, 15, 1023, 255, 0xDFF, 0xFFFFFFFFFC, 0, (pfe 0), [3], (by unfold State.canSend; decide +kernel)⟩,
   ⟨(wWin State.reset), false, 8192, 0, 15, 15, 1023, 255, 0xDFF, 0, 0, (pfe 0), [3], by decide +kernel⟩,
   ⟨(wWin State.reset), false, 8191, [0xFFFFFFFF], 15, 0, 255, 0xDFF, 0xFFFFFFFFFC, [3], (by unfold State.canSend; decide +kernel)⟩,
   ⟨(wWin State.reset), true, 8191, [0xFFFFFFFF], 15, 0, 255, 0xDFF, 0xFFFFFFFFFC, [3], by decide +kernel⟩,
   ⟨(wReq wq State.reset), 0xDFF, wq, 0, [3], (by unfold State.canSend; decide +kernel)⟩,
   ⟨(wReq { wq with write := false } State.reset), 0xDFF, { wq with write := false }, 0, [3], (by unfold State.canSend; decide +kernel)⟩,
   ⟨(wReq rq State.reset), 0xDFF, rmsg, rq, by decide +kernel⟩,
   ⟨(wReq rq State.reset), 0xDFF, rmsg, rq, by decide +kernel⟩,
   ⟨(wWin State.reset), 0xDFF, rmsg, rq, by decide +kernel⟩,
   ⟨(wHost State.reset), 0xDFF, [pack [(36, 4, 9)], 0xFF00000001#40], 0xFF00000001, none, by decide +kernel⟩,
   ⟨(wWin State.reset), 0xDFF, [pack [(36, 4, 9)], 0xFFFFFFFFFF#40], 0xFFFFFFFFFF, (some 255), by decide +kernel⟩,
   ⟨({ wReq rq State.reset with chords := Map.empty }), rq, by decide +kernel⟩,
   ⟨({ wReq rq State.reset with chords := Map.empty }), rq, by decide +kernel⟩,
   ⟨{ (wHost State.reset).wr WIN_TIMING_PF_AGE 0 with now := 2000, win := { prefetch := [pfe 1000, pfe 999] } }, by decide +kernel⟩⟩

/-- What `InterruptAndReverseRows` supposes is met, clause by clause. -/
theorem wit_InterruptAndReverseRows :
    (∃ (s : State) (d : Fin 64) (ds : List Nat) (x : Poll), s.running = true ∧ s.isRoot = true ∧ s.intValid d = true ∧ x = s.win.polls.get d ∧
        x.nextAt ≤ s.now ∧ x.out = none ∧ s.canSend 21 (s.intTun d) ds) ∧
    (∃ (s : State) (d : Fin 64) (_ds : List Nat) (x : Poll), s.running = true ∧ s.isRoot = true ∧ s.intValid d = true ∧ x = s.win.polls.get d ∧
        x.nextAt ≤ s.now ∧ x.out ≠ none) ∧
    (∃ (s : State) (d : Fin 64) (x : Nat × Nat), s.running = true ∧ (s.win.polls.get d).out = some x ∧ x.2 + s.rdTimeout < s.now) ∧
    (∃ (s : State) (n : BitVec 12) (msg : List Word) (tag : Nat) (d : Fin 64) (o : Option Nat), s.running = true ∧ fld (msg.getD 0 0) 36 4 = 10 ∧
        tag = fld (msg.getD 0 0) 28 8 ∧
        o = (List.range 64).find? (fun d => s.intValid d && s.intTun d = n.toNat && ((s.win.polls.get d).out).map (·.1) = some tag) ∧
        o = some d.val) ∧
    (∃ (s : State) (n : BitVec 12) (msg : List Word) (tag : Nat) (d : Fin 64) (o : Option Nat), s.running = true ∧ fld (msg.getD 0 0) 36 4 = 10 ∧
        tag = fld (msg.getD 0 0) 28 8 ∧
        o = (List.range 64).find? (fun d => s.intValid d && s.intTun d = n.toNat && ((s.win.polls.get d).out).map (·.1) = some tag) ∧ o = none) ∧
    (∃ (s : State) (n : BitVec 12) (msg : List Word) (d rseq idx len off : Nat) (_ds : List Nat), s.running = true ∧
        fld (msg.getD 0 0) 36 4 = 11 ∧ d = (s.tun n.toNat).e.srcDock ∧ rseq = fld (msg.getD 0 0) 28 8 ∧ len = fld (msg.getD 0 0) 16 11 ∧
        idx = fld (msg.getD 0 0) 0 6 ∧ off = (msg.getD 1 0).toNat ∧ rseq = (s.win.reverse.get d).expected ∧ bitOf (s.rwinW idx 0) 31 = true ∧
        bitsOf (s.rwinW idx 0) 24 6 = d ∧ off + len * 4 ≤ 2 ^ bitsOf (s.rwinW idx 0) 16 6 ∧ s.hostUp = true ∧ s.busMaster 1 = true ∧
        s.backOff d (len * 4) = none ∧ (s.win.reverse.get d).owed < 15) ∧
    (∃ (s : State) (n : BitVec 12) (msg : List Word) (d rseq idx len off : Nat) (ds : List Nat), s.running = true ∧ fld (msg.getD 0 0) 36 4 = 11 ∧
        d = (s.tun n.toNat).e.srcDock ∧ rseq = fld (msg.getD 0 0) 28 8 ∧ len = fld (msg.getD 0 0) 16 11 ∧ idx = fld (msg.getD 0 0) 0 6 ∧
        off = (msg.getD 1 0).toNat ∧ rseq = (s.win.reverse.get d).expected ∧ bitOf (s.rwinW idx 0) 31 = false ∧ s.canSend 21 n.toNat ds) ∧
    (∃ (s : State) (n : BitVec 12) (msg : List Word) (d rseq idx len off : Nat) (_ds : List Nat), s.running = true ∧
        fld (msg.getD 0 0) 36 4 = 11 ∧ d = (s.tun n.toNat).e.srcDock ∧ rseq = fld (msg.getD 0 0) 28 8 ∧ len = fld (msg.getD 0 0) 16 11 ∧
        idx = fld (msg.getD 0 0) 0 6 ∧ off = (msg.getD 1 0).toNat ∧ 1 ≤ modSub 8 rseq (s.win.reverse.get d).expected ∧
        modSub 8 rseq (s.win.reverse.get d).expected < 128) ∧
    (∃ (s : State) (d a fbe lbe n : Nat) (b : List Nat) (rest : List Upstream), s.running = true ∧ s.hostUp = true ∧ s.busMaster 1 = true ∧
        s.win.upstream = .write d a b fbe lbe :: rest ∧ n = min s.win.maxPayload (4096 - a % 4096) ∧ b.length ≤ n) ∧
    (∃ (s : State) (d a fbe lbe n : Nat) (b : List Nat) (rest : List Upstream), s.running = true ∧ s.hostUp = true ∧ s.busMaster 1 = true ∧
        s.win.upstream = .write d a b fbe lbe :: rest ∧ n = min s.win.maxPayload (4096 - a % 4096) ∧ n < b.length) ∧
    (∃ (s : State) (d : Fin 64) (r : Reverse) (ds : List Nat), s.running = true ∧ r = s.win.reverse.get d ∧ r.owed ≠ 0 ∧
        s.canSend 21 r.tunnel ds) ∧
    (∃ (s : State) (k i : Nat), s.running = true ∧ s.rdB WIN_CMD_BUSY = false ∧ k = s.rd WIN_SEL_KIND ∧ i = s.rd WIN_SEL_INDEX ∧
        winIndexOk k i = true) ∧
    (∃ (s : State) (k i : Nat), s.running = true ∧ s.rdB WIN_CMD_BUSY = false ∧ k = s.rd WIN_SEL_KIND ∧ i = s.rd WIN_SEL_INDEX ∧
        winIndexOk k i = false) ∧
    (∃ (s : State) (k i : Nat), s.running = true ∧ s.rdB WIN_CMD_BUSY = false ∧ k = s.rd WIN_SEL_KIND ∧ i = s.rd WIN_SEL_INDEX ∧ k = 3 ∧ i < 64 ∧
        s.locked 0x0F0 = false ∧ s.intOk (s.rd (WIN_DATA_WORD 0)) (s.rd (WIN_DATA_WORD 1)) = true) ∧
    (∃ (s : State) (k i : Nat), s.running = true ∧ s.rdB WIN_CMD_BUSY = false ∧ k = s.rd WIN_SEL_KIND ∧ i = s.rd WIN_SEL_INDEX ∧
        winIndexOk k i = true ∧ s.locked 0x0F0 = true) ∧
    (∃ (s : State) (k i : Nat), s.running = true ∧ s.rdB WIN_CMD_BUSY = false ∧ k = s.rd WIN_SEL_KIND ∧ i = s.rd WIN_SEL_INDEX ∧ k = 1 ∧ i < 256 ∧
        s.locked 0x0F0 = false ∧ bitOf (s.winW i 0) 31 = true ∧ bitOf (s.rd (WIN_DATA_WORD 0)) 31 = true) ∧
    (∃ (s : State) (k i : Nat), s.running = true ∧ s.rdB WIN_CMD_BUSY = false ∧ k = s.rd WIN_SEL_KIND ∧ i = s.rd WIN_SEL_INDEX ∧ k = 2 ∧ i < 64 ∧
        s.locked 0x0F0 = false ∧ bitOf (s.recW 0x0F0 2 i 0 0) 31 = false ∧
        rwindowOk (s.rd (WIN_DATA_WORD 0)) (s.rd (WIN_DATA_WORD 1)) (s.rd (WIN_DATA_WORD 2)) = true) ∧
    (∃ (s : State) (i : Nat), s.running = true ∧ s.rdB WIN_CMD_BUSY = false ∧ s.rd WIN_SEL_KIND = 1 ∧ i = s.rd WIN_SEL_INDEX ∧ i < 256 ∧
        s.win.faultAt.get i ≠ some s.now) :=
  ⟨⟨(wInt 63 { count := 255, ack := some 7 } State.reset), 63, [3], { count := 255, ack := some 7 }, (by unfold State.canSend; decide +kernel)⟩,
   ⟨(wInt 63 { count := 255, out := some (7, 4) } State.reset), 63, [3], { count := 255, out := some (7, 4) }, by decide +kernel⟩,
   ⟨(wInt 63 { count := 255, out := some (7, 4) } State.reset), 63, (7, 4), by decide +kernel⟩,
   ⟨((wRsp State.reset).wr (WIN_INT_PEND_PEND 0) 5), 0xDFF, [pack [(36, 4, 10), (28, 8, 7)], 0x0080000002#40], 7, 0, (some 0),
       by decide +kernel⟩,
   ⟨(wRsp State.reset), 0xDFF, [pack [(36, 4, 10), (28, 8, 8)], 0x0080000002#40], 8, 0, none, by decide +kernel⟩,
   ⟨(wRv true 14 State.reset), 0xDFF, (rwm 255 2 4088), 9, 255, 63, 2, 4088, [3], by decide +kernel⟩,
   ⟨(wRv false 14 State.reset), 0xDFF, (rwm 255 2 4088), 9, 255, 63, 2, 4088, [3], (by unfold State.canSend; decide +kernel)⟩,
   ⟨(wRv true 14 State.reset), 0xDFF, (rwm 126 2 4088), 9, 126, 63, 2, 4088, [3], by decide +kernel⟩,
   ⟨(wUp State.reset), 9, 4092, 15, 0, 4, [1, 2, 3, 4], [.vector 3, .vector 9, .write 4 0 [1] 15 15, .vector 3], by decide +kernel⟩,
   ⟨(wUp8 State.reset), 9, 4092, 15, 3, 4, [1, 2, 3, 4, 5, 6, 7, 8], [.vector 3], by decide +kernel⟩,
   ⟨(wRv true 3 State.reset), 9, { expected := 255, owed := 3, tunnel := 0xDFF }, [3], (by unfold State.canSend; decide +kernel)⟩,
   ⟨(wWs 1 255 0 0 State.reset), 1, 255, by decide +kernel⟩,
   ⟨(wWs 2 64 0 0 State.reset), 2, 64, by decide +kernel⟩,
   ⟨(wWs 3 63 (0xDFF * 2 ^ 19 + 10000) 4 State.reset), 3, 63, by decide +kernel⟩,
   ⟨{ wWs 3 63 (0xDFF * 2 ^ 19 + 10000) 4 State.reset with locks := Map.empty.set 0x0F0 1 }, 3, 63, by decide +kernel⟩,
   ⟨(wWs 1 255 (2 ^ 31) 4 State.reset), 1, 255, by decide +kernel⟩,
   ⟨((wWs 2 63 (2 ^ 31 + 13 * 2 ^ 16) 0xFFFFE000 State.reset).setRec 0x0F0 2 63 0 0 0), 2, 63, by decide +kernel⟩,
   ⟨((wWs 1 255 (2 ^ 31) 4 State.reset).setRec 0x0F0 1 255 0 0 0xFFFFFFFF), 255, by decide +kernel⟩⟩


end Window

namespace Usb

def wUsb (b : State) : State := { ((((wOn b).wr CHIP_STAT_ROLE 0).wr PER_USB_CTL_CONNECT 1).wr CHIP_STRAP_STRAPS 4).wr PER_USB_STAT_SUSPENDED 0 with usb := { vbus := true }, tuns := Map.empty, hull := {}, ids := { b.ids with docks := [], hubOf := [] }, locks := Map.empty, now := 1000000000 }
def tokA : UsbTok := { pid := .inn, addr := 127, ep := 15, kind := 2, bytes := [1, 2, 3] }
def setTok : UsbTok := { pid := .setup, addr := 0, ep := 0, kind := 0, bytes := [0, 9, 1, 0, 0, 0, 0, 0] }
def uTun (d : Nat) (s : State) : State := [asyncTun d,
    periodicTun d].foldl (fun s n => s.onTun n (fun x => { x with e := { x.e with state := .opened, keyed := false, inPort := 22, destMask := 8, msnOut := 2 ^ 24 - 1 } })) s
def wDev (e : UsbEp) (inn : Bool) (b : State) : State := let s := (uTun 63 (wUsb b)).wr (PER_PORT_STATE 255) 4; { s with usb := { s.usb with binds := [(127, devTarget 63 3)], hubs := Map.empty.set 95 { seen := true, nports := 4 }, ports := Map.empty.set (vKey 0 15) { st := 4 }, eps := Map.empty.set (epKey (devTarget 63 3) 15 2 inn) e } }
def wDv (e : UsbEp) (inn : Bool) (b : State) : State := let s := wDev e inn b; { s with ids := { s.ids with docks := [(0, 15, 63)] } }
def uxf : UsbXfer := { dock := 63, port := 3, tag := 255, ep := 5, due := 9 }
def wXf (b : State) : State := let s := wDev {} true b; { s.wr (PER_PORT_EPOCH 255) 9 with usb := { s.usb with xfers := [uxf], eps := Map.empty.set 5 { tag := some 255 } } }
def resM : List Word := [pack [(36, 4, 2), (34, 2, 3), (30, 4, 9), (22, 8, 255)], pack [(0, 11, 3)], 0x0102030000#40]
def isoE : UsbIso := { dock := 63, port := 3, addr := 127, ep := 15, inter := true, period := 15, last := 0 }
def wIso (l : List UsbIso) (b : State) : State := let s := wXf b; { s with usb := { s.usb with isos := l }, now := 40000000000 }
def perM : List Word := [pack [(36, 4, 10), (34, 2, 3), (30, 4, 9), (15, 7, 127), (11, 4, 15), (8, 3, 1)], pack [(11, 14, 16383), (0, 11, 3)],
    0x0102030000#40]
def psM (op st : Nat) : List Word := [pack [(36, 4, op), (34, 2, 3), (19, 3, st), (17, 2, 3), (13, 2, 3)]]
def wRes (b : State) : State := let s := wXf b; { s with usb := { s.usb with resumeBy := s.now + 1 } }
def wWk (b : State) : State := let s := (wXf b).wr PER_USB_STAT_SUSPENDED 1; { s with usb := { s.usb with hubs := (Map.empty.set 0 { wake := true }).set 95 { wake := true } }, ids := { s.ids with docks := [] } }
def wWk2 (b : State) : State := let s := wWk b; { s with ids := { b.ids with docks := [(0, 15, 63)], hubOf := [] }, usb := { s.usb with suspAt := s.now } }
def wWk3 (b : State) : State := let s := ((wWk b).wr PER_USB_STAT_SUSPENDED 0).wr (PER_PORT_STATE 255) 5; { s with usb := { s.usb with ports := Map.empty.set (vKey 95 3) { alone := true } } }
def wDock (b : State) : State := let s := wDev {} true b; { s with usb := { s.usb with hubs := Map.empty.set 95 { seen := true, nports := 4 } }, ids := { s.ids with docks := [(0, 15, 63)] }, datum := { s.datum with t := 0xABCDEF0123 * 2 ^ 48 } }
def vpE (st nxt : Nat) : VPort := { st := st, wait := some 9, next := nxt, change := 3, alone := true }
def wEm (st nxt : Nat) (b : State) : State := let s := wUsb b; { s with usb := { s.usb with ports := Map.empty.set (vKey 16 15) (vpE st nxt) } }
def wEmc (b : State) : State := let s := uTun 63 (wEm 0 1 b); { s with ids := { s.ids with docks := [(16, 15, 63)] }, usb := { s.usb with hubs := Map.empty.set 95 { seen := true } } }

/-- What `UsbTokenRows` supposes is met, clause by clause. -/
theorem wit_UsbTokenRows :
    (∃ (u s : State) (k : UsbTok), u.running = true ∧ s = u.usbSync ∧ s.usbOn = true ∧ s.rdB PER_USB_STAT_SUSPENDED = false ∧ k.addr = 0 ∧
        (s.vhub 0).addr = 0 ∧ k.pid = .setup ∧ k.bytes = [0, 9, 1, 0, 0, 0, 0, 0]) ∧
    (∃ (u s : State) (k : UsbTok), u.running = true ∧ s = u.usbSync ∧ s.usbOn = true ∧ s.rdB PER_USB_STAT_SUSPENDED = false ∧ k.addr ≠ 0 ∧
        s.usb.binds.lookup k.addr = none) ∧
    (∃ (u s : State) (k : UsbTok) (d : Fin 64) (port : Fin 4) (key g : Nat) (ds : List Nat) (e : UsbEp), u.running = true ∧ s = u.usbSync ∧
        s.usbOn = true ∧ s.rdB PER_USB_STAT_SUSPENDED = false ∧ s.vreached (32 + d) = true ∧ k.addr ≠ 0 ∧
        s.usb.binds.lookup k.addr = some (devTarget d port) ∧ s.vstate (32 + d) port = 4 ∧ s.canSend 22 (asyncTun d) ds ∧
        (s.tun (periodicTun d)).e.state = .opened ∧ k.split = none ∧ k.kind = 2 ∧ s.freeXfer d = some g ∧ e = s.uep key ∧ k.pid = .inn ∧
        key = epKey (devTarget d port) k.ep 2 true ∧ e.stallNext = false ∧ e.tag = none ∧ e.result = none) ∧
    (∃ (u s : State) (k : UsbTok) (d : Fin 64) (port : Fin 4) (key g : Nat) (ds : List Nat) (e : UsbEp), u.running = true ∧ s = u.usbSync ∧
        s.usbOn = true ∧ s.rdB PER_USB_STAT_SUSPENDED = false ∧ s.vreached (32 + d) = true ∧ k.addr ≠ 0 ∧
        s.usb.binds.lookup k.addr = some (devTarget d port) ∧ s.vstate (32 + d) port = 4 ∧ s.canSend 22 (asyncTun d) ds ∧
        (s.tun (periodicTun d)).e.state = .opened ∧ k.split = none ∧ k.kind = 2 ∧ s.freeXfer d = some g ∧ e = s.uep key ∧ k.pid = .inn ∧
        key = epKey (devTarget d port) k.ep 2 true ∧ e.stallNext = false ∧ e.tag = none ∧ e.isIn = true ∧ e.result = some (0, k.bytes)) ∧
    (∃ (u s : State) (k : UsbTok) (d : Fin 64) (port : Fin 4) (key g : Nat) (ds : List Nat) (e : UsbEp), u.running = true ∧ s = u.usbSync ∧
        s.usbOn = true ∧ s.rdB PER_USB_STAT_SUSPENDED = false ∧ s.vreached (32 + d) = true ∧ k.addr ≠ 0 ∧
        s.usb.binds.lookup k.addr = some (devTarget d port) ∧ s.vstate (32 + d) port = 4 ∧ s.canSend 22 (asyncTun d) ds ∧
        (s.tun (periodicTun d)).e.state = .opened ∧ k.split = none ∧ k.kind = 2 ∧ s.freeXfer d = some g ∧ e = s.uep key ∧ k.pid = .out ∧
        key = epKey (devTarget d port) k.ep 2 false ∧ e.stallNext = true) ∧
    (∃ (s : State) (d : Fin 64) (x : UsbXfer) (o : Option UsbXfer) (msg : List Word) (w : Word) (e : UsbEp) (st n : Nat), s.running = true ∧
        s.isRoot = true ∧ w = msg.getD 0 0 ∧ fld w 36 4 = 2 ∧ n = fld (msg.getD 1 0) 0 11 ∧
        o = s.usb.xfers.find? (fun x => x.dock = d.val && x.port = fld w 34 2 && x.tag = fld w 22 8) ∧ o = some x ∧
        s.epoch d (fld w 34 2) = fld w 30 4 ∧ e = s.uep x.ep ∧ st = min 3 (fld w 19 3) ∧ ((st = 2 → e.isIn = true))) ∧
    (∃ (s : State) (d : Fin 64) (x : UsbXfer) (o : Option UsbXfer) (msg : List Word) (w : Word) (_e : UsbEp) (_st n : Nat), s.running = true ∧
        s.isRoot = true ∧ w = msg.getD 0 0 ∧ fld w 36 4 = 2 ∧ n = fld (msg.getD 1 0) 0 11 ∧
        o = s.usb.xfers.find? (fun x => x.dock = d.val && x.port = fld w 34 2 && x.tag = fld w 22 8) ∧ o = none) ∧
    (∃ (s : State) (d : Fin 64) (tag : BitVec 8) (x : UsbXfer), s.running = true ∧
        s.usb.xfers.find? (fun y => y.dock = d.val && y.tag = tag.toNat) = some x ∧ x.due < s.now) ∧
    (∃ (s : State) (d : Fin 64) (i : UsbIso) (o : Option UsbIso) (msg : List Word) (w : Word) (r : Nat × Nat × List Nat), s.running = true ∧
        s.isRoot = true ∧ w = msg.getD 0 0 ∧ fld w 36 4 = 10 ∧ s.epoch d (fld w 34 2) = fld w 30 4 ∧
        o = s.usb.isos.find? (fun i => i.dock = d.val && i.port = fld w 34 2 && i.addr = fld w 15 7 && i.ep = fld w 11 4) ∧ o = some i ∧
        r = (fld (msg.getD 1 0) 11 14, fld w 8 3, unpackBytes (msg.drop 2) (fld (msg.getD 1 0) 0 11))) ∧
    (∃ (s : State) (d : Fin 64) (i : UsbIso) (o : Option UsbIso) (msg : List Word) (w : Word) (_r : Nat × Nat × List Nat), s.running = true ∧
        s.isRoot = true ∧ w = msg.getD 0 0 ∧ fld w 36 4 = 10 ∧ s.epoch d (fld w 34 2) = fld w 30 4 ∧
        o = s.usb.isos.find? (fun i => i.dock = d.val && i.port = fld w 34 2 && i.addr = fld w 15 7 && i.ep = fld w 11 4) ∧ o = none) ∧
    (∃ (s : State) (i : UsbIso) (d : Fin 64) (port : Fin 4) (ep : Fin 16) (ds : List Nat), s.running = true ∧
        s.usb.isos.find? (fun i => i.dock = d.val && i.port = port.val && i.ep = ep.val && i.last + 8 * 2 ^ i.period * 125000 < s.now) = some i ∧
        s.canSend 22 (asyncTun d) ds) :=
  ⟨⟨(wUsb State.reset), (wUsb State.reset).usbSync, setTok, by decide +kernel⟩,
   ⟨(wUsb State.reset), (wUsb State.reset).usbSync, tokA, by decide +kernel⟩,
   ⟨(wDv { toggle := true } true State.reset), (wDv { toggle := true } true State.reset).usbSync, tokA, 63, 3,
       (epKey (devTarget 63 3) 15 2 true), 0, [3], { toggle := true }, (by unfold State.canSend; decide +kernel)⟩,
   ⟨(wDv { toggle := true, isIn := true, result := some (0, [1, 2, 3]) } true State.reset),
       (wDv { toggle := true, isIn := true, result := some (0, [1, 2, 3]) } true State.reset).usbSync, tokA, 63, 3,
       (epKey (devTarget 63 3) 15 2 true), 0, [3], { toggle := true, isIn := true, result := some (0, [1, 2, 3]) },
       (by unfold State.canSend; decide +kernel)⟩,
   ⟨(wDv { stallNext := true, tag := some 3 } false State.reset), (wDv { stallNext := true, tag := some 3 } false State.reset).usbSync,
       { tokA with pid := .out }, 63, 3, (epKey (devTarget 63 3) 15 2 false), 0, [3], { stallNext := true, tag := some 3 },
       (by unfold State.canSend; decide +kernel)⟩,
   ⟨(wXf State.reset), 63, uxf, (some uxf), resM, (resM.getD 0 0), { tag := some 255 }, 0, 3, by decide +kernel⟩,
   ⟨(wDev {} true State.reset), 63, uxf, none, resM, (resM.getD 0 0), {}, 0, 3, by decide +kernel⟩,
   ⟨(wXf State.reset), 63, 255, uxf, by decide +kernel⟩,
   ⟨(wIso [isoE] State.reset), 63, isoE, (some isoE), perM, (perM.getD 0 0), (16383, 1, [1, 2, 3]), by decide +kernel⟩,
   ⟨(wIso [] State.reset), 63, isoE, none, perM, (perM.getD 0 0), (16383, 1, [1, 2, 3]), by decide +kernel⟩,
   ⟨(wIso [isoE] State.reset), isoE, 63, 3, 15, [3], (by unfold State.canSend; decide +kernel)⟩⟩

/-- What `UsbPortRows` supposes is met, clause by clause. -/
theorem wit_UsbPortRows :
    (∃ (s : State) (d : Fin 64) (port : Fin 4) (msg : List Word) (w : Word) (_ds : List Nat), s.running = true ∧ s.isRoot = true ∧
        w = msg.getD 0 0 ∧ fld w 34 2 = port ∧ s.usbDocks.contains d = true ∧ fld w 36 4 = 4 ∧ s.vstate (32 + d) port = 1 ∧ fld w 19 3 = 2 ∧
        fld w 16 1 = 0) ∧
    (∃ (s : State) (_d : Fin 64) (port : Fin 4) (msg : List Word) (w : Word) (_ds : List Nat), s.running = true ∧ s.isRoot = true ∧
        w = msg.getD 0 0 ∧ fld w 34 2 = port ∧ fld w 36 4 = 5 ∧ s.now < s.usb.resumeBy) ∧
    (∃ (s : State) (d : Fin 64) (port : Fin 4) (msg : List Word) (w : Word) (_ds : List Nat), s.running = true ∧ s.isRoot = true ∧
        w = msg.getD 0 0 ∧ fld w 34 2 = port ∧ fld w 36 4 = 5 ∧ s.usb.resumeBy ≤ s.now ∧ s.rdB PER_USB_STAT_SUSPENDED = true ∧
        s.wakePath d = true ∧ s.usb.wakeAt = none ∧ ((s.vstate (32 + d) port = 5 → (s.vport (32 + d) port).alone = false)) ∧
        s.usb.suspAt + 5000000 ≤ s.now) ∧
    (∃ (s : State) (d : Fin 64) (port : Fin 4) (msg : List Word) (w : Word) (_ds : List Nat), s.running = true ∧ s.isRoot = true ∧
        w = msg.getD 0 0 ∧ fld w 34 2 = port ∧ fld w 36 4 = 5 ∧ s.usb.resumeBy ≤ s.now ∧ s.rdB PER_USB_STAT_SUSPENDED = true ∧
        s.wakePath d = true ∧ s.usb.wakeAt = none ∧ ((s.vstate (32 + d) port = 5 → (s.vport (32 + d) port).alone = false)) ∧
        s.now < s.usb.suspAt + 5000000) ∧
    (∃ (s : State) (d : Fin 64) (port : Fin 4) (msg : List Word) (w : Word) (ds : List Nat), s.running = true ∧ s.isRoot = true ∧
        w = msg.getD 0 0 ∧ fld w 34 2 = port ∧ fld w 36 4 = 5 ∧ s.usb.resumeBy ≤ s.now ∧ s.rdB PER_USB_STAT_SUSPENDED = false ∧
        s.vstate (32 + d) port = 5 ∧ (s.vport (32 + d) port).alone = true ∧ (s.vhub (32 + d)).wake = true ∧ s.canSend 22 (asyncTun d) ds) ∧
    (∃ (s : State) (_d : Nat) (_frame : BitVec 11) (_micro : Fin 8) (_ds : List Nat), s.running = true ∧ s.usbOn = true) ∧
    (∃ (s : State) (d : Nat) (_frame : BitVec 11) (_micro : Fin 8) (ds : List Nat), s.running = true ∧ s.usbOn = true ∧ s.vdocks = [d] ∧
        s.canSend 22 (periodicTun d) ds) ∧
    (∃ s : State, s.running = true ∧ s.usbOn = true ∧ s.rdB PER_USB_STAT_SUSPENDED = false ∧ s.usb.sofAt + s.sofSpan < s.now) ∧
    (∃ s : State, s.running = true ∧ s.usbOn = true) ∧
    (∃ s : State, s.running = true ∧ s.usbOn = true ∧ s.rdB PER_USB_STAT_SUSPENDED = false) ∧
    (∃ s : State, s.running = true ∧ s.usbOn = true ∧ s.rdB PER_USB_STAT_SUSPENDED = true) ∧
    (∃ (s : State) (d : Nat) (ds : List Nat), s.running = true ∧ s.usbOn = true ∧ s.usbDocks = [d] ∧ s.canSend 22 (asyncTun d) ds ∧
        s.rdB PER_USB_STAT_SUSPENDED = false) ∧
    (∃ (s : State) (d : Nat) (ds : List Nat), s.running = true ∧ s.usbOn = true ∧ s.usbDocks = [d] ∧ s.canSend 22 (asyncTun d) ds ∧
        s.rdB PER_USB_STAT_SUSPENDED = true ∧ s.usb.wakeAt = none ∧ s.usb.kUntil ≤ s.now) ∧
    (∃ s : State, s.running = true ∧ s.isRoot = true ∧ bitOf (s.rd CHIP_STRAP_STRAPS) 2 = true ∧ s.locked 0x101 = false ∧ s.usb.vbus = true ∧
        s.rdB PER_USB_CTL_CONNECT = false) ∧
    (∃ s : State, s.running = true ∧ s.isRoot = true ∧ bitOf (s.rd CHIP_STRAP_STRAPS) 2 = true ∧ s.locked 0x101 = false ∧ s.usb.vbus = false ∧
        s.rdB PER_USB_CTL_CONNECT = true) ∧
    (∃ s : State, s.running = true ∧ s.isRoot = true ∧ bitOf (s.rd CHIP_STRAP_STRAPS) 2 = true ∧ s.locked 0x101 = false ∧ s.usb.vbus = true ∧
        s.rdB PER_USB_CTL_CONNECT = true) ∧
    (∃ (s : State) (h : Fin 17) (port : Fin 16) (d c : Nat) (x : VPort), s.running = true ∧ x = s.vport h port ∧ x.wait = some d ∧ d ≤ s.now ∧
        x.st = 3 ∧ x.next = 4 ∧ ((∀ c ∈ s.vchildren, s.vparent c = some (h.val, port.val) → s.vkept c = true))) ∧
    (∃ (s : State) (h : Fin 17) (port : Fin 16) (d c : Nat) (x : VPort), s.running = true ∧ x = s.vport h port ∧ x.wait = some d ∧ d ≤ s.now ∧
        x.st = 0 ∧ x.next = 1 ∧ ((∀ c ∈ s.vchildren, s.vparent c = some (h.val, port.val) → s.vpresent c = false))) ∧
    (∃ (s : State) (h : Fin 17) (port : Fin 16) (d c : Nat) (x : VPort), s.running = true ∧ x = s.vport h port ∧ x.wait = some d ∧ d ≤ s.now ∧
        x.st = 0 ∧ x.next = 1 ∧ s.usbOn = true ∧ s.vparent c = some (h.val, port.val) ∧ s.vpresent c = true ∧
        (s.vchildren.filter (fun b => s.vparent b = some (h.val, port.val))) = [c]) :=
  ⟨⟨((wXf State.reset).wr (PER_PORT_STATE 255) 1), 63, 3, (psM 4 2), ((psM 4 2).getD 0 0), [3], by decide +kernel⟩,
   ⟨(wRes State.reset), 63, 3, (psM 5 2), ((psM 5 2).getD 0 0), [3], by decide +kernel⟩,
   ⟨{ wWk State.reset with ids := { State.reset.ids with docks := [(0, 15, 63)], hubOf := [] } }, 63, 3, (psM 5 2), ((psM 5 2).getD 0 0), [3],
       by decide +kernel⟩,
   ⟨(wWk2 State.reset), 63, 3, (psM 5 2), ((psM 5 2).getD 0 0), [3], by decide +kernel⟩,
   ⟨(wWk3 State.reset), 63, 3, (psM 5 2), ((psM 5 2).getD 0 0), [3], (by unfold State.canSend; decide +kernel)⟩,
   ⟨(wDock State.reset), 63, 2047, 7, [3], by decide +kernel⟩,
   ⟨(wDock State.reset), 63, 2047, 7, [3], (by unfold State.canSend; decide +kernel)⟩,
   ⟨(wXf State.reset), by decide +kernel⟩,
   ⟨(wXf State.reset), by decide +kernel⟩,
   ⟨(wDock State.reset), by decide +kernel⟩,
   ⟨((wDock State.reset).wr PER_USB_STAT_SUSPENDED 1), by decide +kernel⟩,
   ⟨(wDock State.reset), 63, [3], (by unfold State.canSend; decide +kernel)⟩,
   ⟨((wDock State.reset).wr PER_USB_STAT_SUSPENDED 1), 63, [3], (by unfold State.canSend; decide +kernel)⟩,
   ⟨((wUsb State.reset).wr PER_USB_CTL_CONNECT 0), by decide +kernel⟩,
   ⟨{ wUsb State.reset with usb := { State.reset.usb with vbus := false } }, by decide +kernel⟩,
   ⟨(wUsb State.reset), by decide +kernel⟩,
   ⟨(wEm 3 4 State.reset), 16, 15, 9, 0, (vpE 3 4), by decide +kernel⟩,
   ⟨(wEm 0 1 State.reset), 16, 15, 9, 0, (vpE 0 1), by decide +kernel⟩,
   ⟨(wEmc State.reset), 16, 15, 9, 95, (vpE 0 1), by decide +kernel⟩⟩


end Usb

namespace Display

def wDsp (i : Nat) (x : DspIn) (b : State) : State := { (((((wOn b).wr CHIP_STAT_ROLE 0).wr CHIP_STRAP_STRAPS 4).wr DSP_CTL_EN_A 1).wr DSP_CTL_EN_B 1) with dsp := { ins := Map.empty.set i x }, tuns := Map.empty, hull := {}, now := 1000000000 }
def dTun (n : Nat) (d : Nat) (s : State) : State := s.onTun n (fun x => { x with e := { x.e with state := .opened, keyed := false, inPort := 23, destMask := 2 ^ d, msnOut := 2 ^ 24 - 1 } })
def msa : DpMsa := { mvid := 1000, nvid := 1000, htotal := 2000, vtotal := 1000, hstart := 1, vstart := 1, hsync := 1, vsync := 1, hwidth := 1900, vheight := 900, misc0 := 0, misc1 := 0, bpp := 24, dsc := true }
def wMsa (d : Nat) (b : State) : State := (dTun 0xF01 d (wDsp 1 { hpd := true, frame := 255 } b)).wr (dspState 1) 3 |>.wr (dspRate 1) 4 |>.wr DSP_BUDGET_UNITS 1
def axM : List Word := [pack [(36, 4, 9), (32, 4, 2), (8, 5, 2), (0, 8, 255)], 0x0102000000#40]
def axX : DspIn := { primary := 3, aux := some (9, 0x300, 2, []), tag := 255, auxBy := some 9 }
def stM : List Word := [pack [(36, 4, 10), (35, 1, 1), (34, 1, 0), (33, 1, 1), (32, 1, 1), (16, 16, 65535), (13, 3, 4), (11, 2, 3)]]
def wHpd (x : DspIn) (b : State) : State := (dTun 0xF01 24 (dTun 0xF17 3 (wDsp 1 x b))).wr (dspState 1) 1
def slH : Map Slot5.init := Map.empty.set 3 { hpd := true }
def wPri (b : State) : State := ((wDsp 1 { primary := 0, hpd := true, mir := 2 ^ 15, slots := Map.empty.set 1 { hpd := true } } b).onTun 0xF14 (fun x => { x with e := { x.e with state := .failed } })).wr (dspState 1) 4

/-- What `DisplayRows` supposes is met, clause by clause. -/
theorem wit_DisplayRows :
    (∃ (s : State) (i : Fin 2) (rate : Fin 5) (lanes : Fin 4) (_fec : Bool), s.running = true ∧ s.dspOn i = true ∧ (s.din i).hpd = true ∧
        1 ≤ rate.val ∧ rate.val ≤ (s.din i).maxRate ∧ 1 ≤ lanes.val ∧ lanes.val ≤ (s.din i).maxLanes) ∧
    (∃ (s : State) (i : Fin 2) (_rate : Fin 5) (_lanes : Fin 4) (_fec : Bool), s.running = true ∧ s.dspOn i = true ∧ (s.din i).hpd = true) ∧
    (∃ (s : State) (i : Fin 2) (m : DpMsa) (ds : List Nat) (_p r : Nat), s.running = true ∧ 3 ≤ s.rd (dspState i) ∧ s.rd (dspState i) ≤ 4 ∧
        s.canSend 23 (streamTun i) ds ∧ (s.din i).timing ≠ msaWords m ++ [m.bpp, b2n m.dsc] ∧ m.nvid * m.htotal * m.vtotal ≠ 0 ∧
        r = min 65535 (ceilDiv ((ceilDiv (m.hwidth * m.bpp) 40 + 2) * m.vheight * m.mvid * symbolClock (s.rd (dspRate i)) * 33) (m.nvid * m.htotal * m.vtotal * 30 * 100000)) ∧ ((s.tun (streamTun i)).e.dests.filter (· < 18)).all (fun q => (if (s.tun (streamTun (1 - i))).e.dests.contains q then s.rd (dspRes (1 - i)) else 0) + r ≤ min 4000 (s.rd DSP_BUDGET_UNITS)) = true) ∧
    (∃ (s : State) (i : Fin 2) (m : DpMsa) (ds : List Nat) (p r : Nat), s.running = true ∧ 3 ≤ s.rd (dspState i) ∧ s.rd (dspState i) ≤ 4 ∧
        s.canSend 23 (streamTun i) ds ∧ (s.din i).timing ≠ msaWords m ++ [m.bpp, b2n m.dsc] ∧ m.nvid * m.htotal * m.vtotal ≠ 0 ∧
        r = min 65535 (ceilDiv ((ceilDiv (m.hwidth * m.bpp) 40 + 2) * m.vheight * m.mvid * symbolClock (s.rd (dspRate i)) * 33) (m.nvid * m.htotal * m.vtotal * 30 * 100000)) ∧ p ∈ (s.tun (streamTun i)).e.dests ∧ p < 18 ∧ min 4000 (s.rd DSP_BUDGET_UNITS) < r) ∧
    (∃ (s : State) (i : Fin 2) (_line : BitVec 13) (_bytes : List (BitVec 8)) (ds : List Nat), s.running = true ∧ s.canSend 23 (streamTun i) ds ∧
        s.rd (dspState i) = 4 ∧ s.withinBudget i = true) ∧
    (∃ (s : State) (i : Fin 2) (_line : BitVec 13) (_bytes : List (BitVec 8)) (ds : List Nat), s.running = true ∧ s.canSend 23 (streamTun i) ds ∧
        s.rd (dspState i) = 4) ∧
    (∃ (s : State) (i : Fin 2) (_line : BitVec 13) (_bytes : List (BitVec 8)) (ds : List Nat), s.running = true ∧ s.canSend 23 (streamTun i) ds ∧
        s.rd (dspState i) = 5) ∧
    (∃ (s : State) (i : Fin 2) (cmd : BitVec 4) (addr : BitVec 20) (_len : Fin 17) (_data : List (BitVec 8)) (_ds : List Nat)
      (_r : Nat × List Nat), s.running = true ∧ s.dspOn i = true ∧ cmd = 9 ∧ ownAux 9 addr.toNat = true) ∧
    (∃ (s : State) (i : Fin 2) (cmd : BitVec 4) (addr : BitVec 20) (_len : Fin 17) (data : List (BitVec 8)) (_ds : List Nat)
      (_r : Nat × List Nat), s.running = true ∧ s.dspOn i = true ∧ cmd = 8 ∧ data = [7] ∧ 0x100 ≤ addr.toNat ∧ addr.toNat < 0x200) ∧
    (∃ (s : State) (i : Fin 2) (cmd : BitVec 4) (addr : BitVec 20) (len : Fin 17) (data : List (BitVec 8)) (ds : List Nat)
      (_r : Nat × List Nat), s.running = true ∧ s.dspOn i = true ∧ ownAux cmd.toNat addr.toNat = false ∧ (s.din i).aux ≠ some (cmd.toNat,
          addr.toNat, len.val, data.map BitVec.toNat) ∧ s.canSend 23 (slotTun i (s.din i).primary) ds) ∧
    (∃ (s : State) (i : Fin 2) (cmd : BitVec 4) (addr : BitVec 20) (len : Fin 17) (data : List (BitVec 8)) (_ds : List Nat)
      (r : Nat × List Nat), s.running = true ∧ s.dspOn i = true ∧ ownAux cmd.toNat addr.toNat = false ∧ (s.din i).aux = some (cmd.toNat,
          addr.toNat, len.val, data.map BitVec.toNat) ∧ (s.din i).reply = some r) ∧
    (∃ (s : State) (i : Fin 2) (m : Fin 4) (msg : List Word) (_d : Nat), s.running = true ∧ (s.din i).reply = none ∧ m.val = (s.din i).primary ∧
        (s.din i).aux ≠ none ∧ fld (msg.getD 0 0) 36 4 = 9 ∧ fld (msg.getD 0 0) 0 8 = (s.din i).tag) ∧
    (∃ (s : State) (i : Fin 2) (_m : Fin 4) (_msg : List Word) (d : Nat), s.running = true ∧ (s.din i).reply = none ∧ (s.din i).auxBy = some d ∧
        d < s.now) ∧
    (∃ (s : State) (i : Fin 2) (m : Fin 4) (msg : List Word) (_d : Nat), s.running = true ∧ (s.din i).reply = none ∧ m.val = (s.din i).primary ∧
        (s.din i).aux ≠ none ∧ fld (msg.getD 0 0) 36 4 = 9 ∧ fld (msg.getD 0 0) 0 8 = (s.din i).tag) ∧
    (∃ (s : State) (i : Fin 2) (_m : Fin 4) (msg : List Word) (w : Word), s.running = true ∧ w = msg.getD 0 0 ∧ fld w 36 4 = 10 ∧ fld w 33 1 = 1 ∧
        ((fld w 32 1 = 1 ∨ s.rdB (dspDsc i) = false))) ∧
    (∃ (s : State) (i : Fin 2) (d : Nat), s.running = true ∧ s.dspOn i = true ∧ s.rd (dspState i) = 2 ∧ s.openOrHeld (streamTun i) = true ∧
        s.openOrHeld (slotTun i (s.din i).primary) = true ∧ ((s.din i).slots.get (s.din i).primary).hpd = true ∧ (s.din i).hpd = false ∧
        (s.din i).pulseBy = some d ∧ d ≤ s.now ∧ (s.din i).holdBy = none) ∧
    (∃ (s : State) (i : Fin 2) (d : Nat), s.running = true ∧ s.dspOn i = true ∧ s.rd (dspState i) = 2 ∧ s.openOrHeld (streamTun i) = true ∧
        s.openOrHeld (slotTun i (s.din i).primary) = true ∧ ((s.din i).slots.get (s.din i).primary).hpd = true ∧ (s.din i).hpd = false ∧
        (s.din i).holdBy = some d ∧ d ≤ s.now ∧ (s.din i).pulseBy = none) ∧
    (∃ (s : State) (i : Fin 2) (m : Nat), s.running = true ∧ s.dspOn i = true ∧
        (((s.tun (slotTun i (s.din i).primary)).e.state = .failed ∨ ∃ u ∈ ((s.din i).slots.get (s.din i).primary).badAt,
        u + 1000000000 < s.now)) ∧
        (List.range 4).find? (fun m => m ≠ (s.din i).primary && (s.din i).slotValid m && ((s.din i).slots.get m).hpd) = some m ∧
        (s.din i).hpd = true ∧ s.rd (dspState i) = 4) :=
  ⟨⟨(wDsp 1 { hpd := true, cfg := 4 * 2 ^ 8 + 3 * 16 } State.reset), 1, 4, 3, true, by decide +kernel⟩,
   ⟨(wDsp 1 { hpd := true, cfg := 4 * 2 ^ 8 + 3 * 16 } State.reset), 1, 4, 3, true, by decide +kernel⟩,
   ⟨(wMsa 24 State.reset), 1, msa, [24], 3, (min 65535 (dspReserve msa 4)), (by unfold State.canSend; decide +kernel)⟩,
   ⟨(wMsa 17 State.reset), 1, msa, [17], 17, (min 65535 (dspReserve msa 4)), (by unfold State.canSend; decide +kernel)⟩,
   ⟨((wMsa 24 State.reset).wr (dspState 1) 4), 1, 8191, [1, 2, 255], [24], (by unfold State.canSend; decide +kernel)⟩,
   ⟨((wMsa 24 State.reset).wr (dspState 1) 4), 1, 8191, [1, 2, 255], [24], (by unfold State.canSend; decide +kernel)⟩,
   ⟨((wMsa 24 State.reset).wr (dspState 1) 5), 1, 8191, [1, 2, 255], [24], (by unfold State.canSend; decide +kernel)⟩,
   ⟨(wMsa 24 State.reset), 1, 9, 0x021, 16, [], [3], (0, []), by decide +kernel⟩,
   ⟨(wMsa 24 State.reset), 1, 8, 0x1FF, 1, [7], [3], (0, []), by decide +kernel⟩,
   ⟨(dTun 0xF17 3 (wDsp 1 { primary := 3, tag := 255 } State.reset)), 1, 9, 0x300, 16, [7], [3], (0, []),
       (by unfold State.canSend; decide +kernel)⟩,
   ⟨(wDsp 1 { aux := some (9, 0x300, 16, [7]), reply := some (0, [9]) } State.reset), 1, 9, 0x300, 16, [7], [3], (0, [9]), by decide +kernel⟩,
   ⟨(wDsp 1 axX State.reset), 1, 3, axM, 9, by decide +kernel⟩,
   ⟨(wDsp 1 axX State.reset), 1, 3, axM, 9, by decide +kernel⟩,
   ⟨(wDsp 0 axX State.reset), 0, 3, axM, 9, by decide +kernel⟩,
   ⟨(wHpd { primary := 3 } State.reset), 1, 3, stM, (stM.getD 0 0), by decide +kernel⟩,
   ⟨((wHpd { primary := 3, slots := slH, pulseBy := some 9 } State.reset).wr (dspState 1) 2), 1, 9, by decide +kernel⟩,
   ⟨((wHpd { primary := 3, slots := slH, holdBy := some 9 } State.reset).wr (dspState 1) 2), 1, 9, by decide +kernel⟩,
   ⟨(wPri State.reset), 1, 1, by decide +kernel⟩⟩


end Display

namespace Keys

def wKey (lc : Nat) (b : State) : State := { ((wOn b).wr KEY_STAT_LC lc).wr FEED_STAT_WARN 0 with keys := {}, tuns := Map.empty, chords := Map.empty }
def wSlot (lc : Nat) (k : Nat) (x : Slot) (b : State) : State := (wKey lc b).onSlot k (fun _ => x)
def w1Of (purpose : Nat) : Reg := BitVec.ofNat 32 (packNat [(30, 2, 1), (26, 4, purpose), (23, 3, 7), (17, 6, 63)])
def sk (purpose exp gen : Nat) : Slot := { c0 := { gen := gen, w1 := w1Of purpose ||| BitVec.ofNat 32 (exp * 2 ^ 14), w2 := 0xFF000000#32, keyId := 0xABCD1234#32, key := 77, commit := gen }, use1 := false, st := .key }
def wMb (a0 a1 : Nat) (s : State) : State := s.onKeys (fun k => { k with args := (Map.empty.set 0 (BitVec.ofNat 32 a0)).set 1 (BitVec.ofNat 32 a1) })

/-- What `KeySlotRows` supposes is met, clause by clause. -/
theorem wit_KeySlotRows :
    (∃ (s : State) (k : Nat), s.running = true ∧ s.lc ≤ 4 ∧ k = (s.keys.args.get 0).toNat ∧ k ≤ 255 ∧ (s.slot k).st ≠ .bad) ∧
    (∃ (s : State) (k : Nat), s.running = true ∧ s.lc ≤ 4 ∧ k = (s.keys.args.get 0).toNat ∧ 255 < k) ∧
    (∃ (s : State) (k : Fin 256) (w _id _x : Reg) (fails : Fin 3), s.keyReady ∧ fails.val ≤ 1 ∧ s.slot k = Slot.init ∧
        badWord1 w.toNat = false) ∧
    (∃ (s : State) (k : Fin 256) (w _id : Reg) (input label ctx : List Nat) (b : List (BitVec 8)) (fails : Fin 3), s.keyReady ∧ fails.val ≤ 1 ∧
        s.slot k = Slot.init ∧ badWord1 w.toNat = false ∧ input = b.map BitVec.toNat ∧ deriveInput input = some (label, ctx) ∧
        reservedLabel label = false) ∧
    (∃ (s : State) (kek k : Fin 256) (b : List (BitVec 8)) (fails : Fin 3), s.keyReady ∧ fails.val ≤ 1 ∧ s.slot k = Slot.init ∧ b.length = 48 ∧
        s.useRefusal kek 2 masterSequencer = none) ∧
    (∃ (s : State) (kek k : Nat) (c : SlotCopy), s.running = true ∧ s.lc ∈ [1, 2, 3] ∧ kek = (s.keys.args.get 0).toNat ∧ kek ≤ 255 ∧
        k = (s.keys.args.get 1).toNat ∧ k ≤ 255 ∧ (s.slot kek).st ≠ .bad ∧ (s.slot k).st = .key ∧ c = (s.slot k).inUse ∧ c.purpose ≠ 6 ∧
        s.useRefusal kek 2 masterMailbox = none ∧ c.exportable = true) ∧
    (∃ (s : State) (kek k : Nat) (c : SlotCopy), s.running = true ∧ s.lc ∈ [1, 2, 3] ∧ kek = (s.keys.args.get 0).toNat ∧ kek ≤ 255 ∧
        k = (s.keys.args.get 1).toNat ∧ k ≤ 255 ∧ (s.slot kek).st ≠ .bad ∧ (s.slot k).st = .key ∧ c = (s.slot k).inUse ∧ c.purpose ≠ 6 ∧
        s.useRefusal kek 2 masterMailbox = none ∧ c.exportable = false) ∧
    (∃ (s : State) (k : Fin 256) (fails : Fin 3), s.running = true ∧ s.lc ∈ [1, 2, 3] ∧ (s.slot k).st = .key ∧ (s.slot k).exhausted = false ∧
        s.rdB FEED_STAT_WARN = false ∧ fails.val ≤ 1) ∧
    (∃ (s : State) (k : Fin 256) (_fails : Fin 3), s.running = true ∧ s.lc ∈ [1, 2, 3] ∧ (s.slot k).st = .key ∧ (s.slot k).exhausted = false ∧
        s.rdB FEED_STAT_WARN = true) ∧
    (∃ (s : State) (k : Fin 256) (fails : Fin 3), s.keyReady ∧ (s.slot k).st = .revoked ∧ fails.val ≤ 1) ∧
    (∃ (s : State) (k : Fin 256) (fails : Fin 3), s.keyReady ∧ (s.slot k).st = .revoked ∧ fails = 2) :=
  ⟨⟨(wMb 255 0 (wSlot 4 255 (sk 3 1 9) State.reset)), 255, by decide +kernel⟩,
   ⟨(wMb 256 0 (wSlot 4 255 (sk 3 1 9) State.reset)), 256, by decide +kernel⟩,
   ⟨(wKey 1 State.reset), 255, 0x04000000#32, 0xFFFFFFFF#32, 0#32, 1, (by unfold State.keyReady; decide +kernel)⟩,
   ⟨(wKey 3 State.reset), 255, 0x1FFFC000#32, 0xFFFFFFFF#32, [1, 0, 1, 65, 66], [65], [66], [1, 0, 1, 65, 66], 0,
       (by unfold State.keyReady; decide +kernel)⟩,
   ⟨(wSlot 2 7 (sk 2 1 9) State.reset), 7, 255, (List.replicate 48 1), 0, (by unfold State.keyReady; decide +kernel)⟩,
   ⟨(wMb 7 8 ((wSlot 2 7 (sk 2 1 9) State.reset).onSlot 8 (fun _ => sk 3 1 9))), 7, 8, (sk 3 1 9).c0, by decide +kernel⟩,
   ⟨(wMb 7 8 ((wSlot 2 7 (sk 2 1 9) State.reset).onSlot 8 (fun _ => sk 3 0 9))), 7, 8, (sk 3 0 9).c0, by decide +kernel⟩,
   ⟨(wSlot 3 255 (sk 3 1 9) State.reset), 255, 1, by decide +kernel⟩,
   ⟨((wSlot 3 255 (sk 3 1 9) State.reset).wr FEED_STAT_WARN 1), 255, 1, by decide +kernel⟩,
   ⟨(wSlot 3 255 { sk 3 1 9 with st := .revoked } State.reset), 255, 1, (by unfold State.keyReady; decide +kernel)⟩,
   ⟨(wSlot 3 255 { sk 3 1 9 with st := .revoked } State.reset), 255, 2, (by unfold State.keyReady; decide +kernel)⟩⟩

/-- What `LifeCycleRows` supposes is met, clause by clause. -/
theorem wit_LifeCycleRows :
    (∃ (s : State) (input : List Nat), s.running = true ∧ s.lc ∈ [1, 2, 3] ∧ s.keys.inLen = 32 ∧ (s.slot 0).st ≠ .bad ∧
        input = (List.range 32).map (fun i => s.keys.inBytes.get i) ∧ s.useRefusal 0 6 masterMailbox = none) ∧
    (∃ (s : State) (fails : Fin 3), s.running = true ∧ s.lc = 0 ∧ s.rdB FEED_STAT_WARN = false ∧ fails.val ≤ 1 ∧ s.slot 0 = Slot.init) ∧
    (∃ s : State, s.running = true ∧ s.lc = 2) ∧
    (∃ (s : State) (fails : Fin 3), s.keyReady ∧ fails.val ≤ 1 ∧ s.lc = 1) ∧
    (∃ (s : State) (fails : Fin 3), s.keyReady ∧ fails.val ≤ 1) ∧
    (∃ (s : State) (fails : Fin 3), s.keyReady ∧ fails.val ≤ 1 ∧ s.lc = 1) ∧
    (∃ (s : State) (fails : Fin 3), s.keyReady ∧ fails.val ≤ 1 ∧ s.lc = 3) ∧
    (∃ (s : State) (b : List (BitVec 8)) (_fails : Fin 3), s.running = true ∧ s.lc = 2 ∧ s.keys.challenge = none ∧ b.length = 128) ∧
    (∃ (s : State) (_p : Fin 18) (k : Fin 256), s.running = true ∧ s.lc ∈ [1, 2, 3] ∧ (s.slot k).st ≠ .bad) ∧
    (∃ s : State, s.running = true ∧ s.lc ≤ 4) ∧
    (∃ (s : State) (_lost : List (Fin 256 × Bool)) (_lcLost : List Bool) (_cache : Bool), s.running = true ∧ s.keys.scrubAt ≤ s.now) ∧
    (∃ s : State, s.running = true ∧ s.keys.scrubAt ≤ s.now ∧ s.keys.lc0.good = s.keys.lc1.good ∧
        (s.keys.slots.keys.all (fun k => (s.slot k).st = .bad || ((s.slot k).c0.valid k 0 && (s.slot k).c1.valid k 1) || ((s.slot k).c0.erased && (s.slot k).c1.erased))) = true) :=
  ⟨⟨((wSlot 3 0 (sk 6 0 9) State.reset).onKeys (fun k => { k with inLen := 32 })), (List.replicate 32 0), by decide +kernel⟩,
   ⟨(wKey 0 State.reset), 1, by decide +kernel⟩,
   ⟨(wKey 2 State.reset), by decide +kernel⟩,
   ⟨(wKey 1 State.reset), 1, (by unfold State.keyReady; decide +kernel)⟩,
   ⟨(wKey 1 State.reset), 1, (by unfold State.keyReady; decide +kernel)⟩,
   ⟨((wSlot 1 7 (sk 2 1 9) State.reset).onSlot 8 (fun _ => { sk 3 1 9 with st := .bad })), 1, (by unfold State.keyReady; decide +kernel)⟩,
   ⟨(wKey 3 State.reset), 0, (by unfold State.keyReady; decide +kernel)⟩,
   ⟨(wKey 2 State.reset), (List.replicate 128 255), 2, by decide +kernel⟩,
   ⟨(wKey 1 State.reset), 17, 254, by decide +kernel⟩,
   ⟨(wKey 0 State.reset), by decide +kernel⟩,
   ⟨{ (wSlot 2 255 (sk 3 1 9) State.reset).wr KEY_SCRUB_PASSES 65535 with now := State.reset.now + 86400000000000 }, [(255, false), (3, true)],
       [true, false], true, by decide +kernel⟩,
   ⟨{ (wKey 1 State.reset).wr KEY_SCRUB_PASSES 65535 with now := State.reset.now + 86400000000000 }, by decide +kernel⟩⟩


end Keys

namespace Tangent

def wTan (p ps cs src : Nat) (x : TanPort) (b : State) : State :=
  let s := (((wOn b).wr (TAN_PORT_STAT_PSTATE p) ps).wr (TAN_PORT_STAT_CSTATE p) cs).wr (TAN_PORT_STAT_MAIN_SRC p) src
  ({ s with boot := { s.boot with dieOn := true }, locks := Map.empty }).onTan p (fun _ => x)
def wFeed (b : State) : State := { b with pd := { b.pd with feeds := b.pd.feeds.set 0 { pg := true, st := .on } } }.wr CHIP_STRAP_STRAPS 0
def tm (type id n arg : Nat) (ds : List Word) : List Word := withCrc (pack [(36, 4, type), (33, 3, id), (30, 3, n), (0, 27, arg)] :: ds)
def tO (type : Nat) : TanOut := { m := { type := type }, id := 7, sends := 1, sentAt := 5 }

/-- What `TangentAttachRows` supposes is met, clause by clause. -/
theorem wit_TangentAttachRows :
    (∃ (s : State) (p : Fin 18) (_t2 : Bool), s.boot.dieOn = true ∧ s.ps p = PS_UNATTACHED) ∧
    (∃ (s : State) (p : Fin 18) (_t2 : Bool), s.boot.dieOn = true ∧ s.ps p = PS_ATTACH_WAIT) ∧
    (∃ (s : State) (p : Fin 18), s.boot.dieOn = true ∧ s.ps p = PS_UNATTACHED ∧ s.rd (TAN_PORT_CTL_ROLE p) = 2 ∧ s.feedPg = true ∧
        ((s.tan p).toggleAt = none ∨ (s.tan p).toggleAt = some s.now)) ∧
    (∃ (s : State) (p : Fin 18) (_ohms : Nat), s.boot.dieOn = true ∧ s.coreOn = true ∧ s.ps p = PS_ATTACH_WAIT ∧
        (s.tan p).bandAt + 10000000 ≤ s.now) ∧
    (∃ (s : State) (p : Fin 18) (_ohms : Nat), s.boot.dieOn = true ∧ s.coreOn = true ∧ s.ps p = PS_ATTACH_WAIT ∧
        (s.tan p).bandAt + 10000000 ≤ s.now) ∧
    (∃ (s : State) (p : Fin 18) (_ohms : Nat), s.boot.dieOn = true ∧ s.coreOn = false ∧ s.ps p = PS_ATTACH_WAIT ∧
        (s.tan p).bandAt + 10000000 ≤ s.now) ∧
    (∃ (s : State) (p : Fin 18), s.boot.dieOn = true ∧ s.joined p = true ∧ ((s.cs p = CS_HARD_RESET → (s.tan p).resetRcvd = false))) ∧
    (∃ (s : State) (p : Fin 18), s.boot.dieOn = true ∧ s.joined p = true ∧ ((s.cs p = CS_HARD_RESET → (s.tan p).resetRcvd = false))) ∧
    (∃ (s : State) (p : Fin 18), s.boot.dieOn = true ∧ s.joined p = true ∧ ((s.cs p = CS_HARD_RESET → (s.tan p).resetRcvd = false))) ∧
    (∃ (s : State) (p : Fin 18) (d : Nat), s.boot.dieOn = true ∧ s.ps p = PS_GUARD ∧ (s.tan p).waitBy = some d ∧ d ≤ s.now ∧
        (s.tan p).signalled = false) ∧
    (∃ (s : State) (p : Fin 18) (_en : Bool) (_role : BitVec 2), s.boot.dieOn = true ∧ s.coreOn = true ∧ (s.tan p).signalled = false ∧
        s.locked (tanPage p) = false) ∧
    (∃ (s : State) (p : Fin 18) (_en : Bool) (_role : BitVec 2), s.boot.dieOn = true ∧ s.coreOn = true ∧ (s.tan p).signalled = false ∧
        s.locked (tanPage p) = false) ∧
    (∃ (s : State) (p : Fin 18) (_en : Bool) (_role : BitVec 2), s.boot.dieOn = true ∧ s.coreOn = true ∧ (s.tan p).signalled = false ∧
        s.locked (tanPage p) = false) ∧
    (∃ (s : State) (p : Fin 18) (_en : Bool) (_role : BitVec 2), s.boot.dieOn = true ∧ s.coreOn = true ∧ (s.tan p).signalled = false ∧
        s.locked (tanPage p) = true) :=
  ⟨⟨(wTan 17 0 7 0 {} State.reset), 17, true, by decide +kernel⟩,
   ⟨((wTan 17 1 7 0 {} State.reset).wr (TAN_PORT_CTL_ROLE 17) 3), 17, true, by decide +kernel⟩,
   ⟨(wFeed ((wTan 0 0 7 0 {} State.reset).wr (TAN_PORT_CTL_ROLE 0) 2)), 0, by decide +kernel⟩,
   ⟨{ wTan 17 1 7 0 { bandAt := 5, contact := true } State.reset with now := 10000005 }, 17, 10500, by decide +kernel⟩,
   ⟨{ (wTan 17 1 7 0 { ip := false, bandAt := 5 } State.reset).wr TAN_STAT_DB_ACTIVE 0 with now := 10000005, pd := { (wTan 17 1 7 0 { ip := false, bandAt := 5 } State.reset).pd with feeds := Map.empty } }, 17, 4000, by decide +kernel⟩,
   ⟨{ wTan 17 1 7 0 { bandAt := 5, contact := true } State.reset with now := 10000005, coreOn := false }, 17, 10500, by decide +kernel⟩,
   ⟨{ wTan 17 3 5 0 { signalled := true } State.reset with coreOn := false }, 17, by decide +kernel⟩,
   ⟨(wTan 17 2 3 1 {} State.reset), 17, by decide +kernel⟩,
   ⟨((wTan 17 3 5 0 { signalled := true } State.reset).wr (LANE_STAT_STATE 17) 3), 17, by decide +kernel⟩,
   ⟨{ wTan 17 4 7 0 { waitBy := some 100 } State.reset with now := 100 }, 17, 100, by decide +kernel⟩,
   ⟨(wTan 17 3 3 0 {} State.reset), 17, false, 3#2, by decide +kernel⟩,
   ⟨(wTan 17 7 7 0 {} State.reset), 17, true, 2#2, by decide +kernel⟩,
   ⟨(wTan 17 0 7 0 {} State.reset), 17, true, 2#2, by decide +kernel⟩,
   ⟨{ wTan 17 0 7 0 {} State.reset with locks := State.reset.locks.set (tanPage 17) 1 }, 17, true, 2#2, by decide +kernel⟩⟩

/-- What `TangentMessageRows` supposes is met, clause by clause. -/
theorem wit_TangentMessageRows :
    (∃ (s : State) (p : Fin 18) (m : TanMsg) (rest : List TanMsg), s.boot.dieOn = true ∧ s.joined p = true ∧ (s.tan p).out = none ∧
        (s.tan p).phase ≤ 1 ∧ (s.tan p).queue = m :: rest) ∧
    (∃ (s : State) (p : Fin 18) (m : TanMsg) (rest : List TanMsg), s.boot.dieOn = true ∧ s.joined p = true ∧ (s.tan p).out = none ∧
        (s.tan p).phase ≤ 1 ∧ (s.tan p).queue = m :: rest ∧ m.type ≠ 3 ∧ m.type ≠ 7) ∧
    (∃ (s : State) (p : Fin 18) (m : TanMsg) (rest : List TanMsg), s.boot.dieOn = true ∧ s.joined p = true ∧ (s.tan p).out = none ∧
        (s.tan p).phase ≤ 1 ∧ (s.tan p).queue = m :: rest ∧ m = TanMsg.mk 3 0 []) ∧
    (∃ (s : State) (p : Fin 18) (o : TanOut) (id : Fin 8), s.boot.dieOn = true ∧ (s.tan p).out = some o ∧ o.ackAt = none ∧ o.id = id ∧
        (o.m.type = 3 ∨ o.m.type = 4)) ∧
    (∃ (s : State) (p : Fin 18) (o : TanOut) (id : Fin 8), s.boot.dieOn = true ∧ (s.tan p).out = some o ∧ o.ackAt = none ∧ o.id = id ∧
        (o.m.type = 6 ∨ o.m.type = 9)) ∧
    (∃ (s : State) (p : Fin 18) (o : TanOut) (id : Fin 8), s.boot.dieOn = true ∧ (s.tan p).out = some o ∧ o.ackAt = none ∧ o.id = id ∧
        o.m.type = 5 ∧ (s.tan p).swapping = false ∧ (s.tan p).reqI ≠ 0 ∧ s.rd (TAN_PORT_STAT_MAIN_ON p) = 0) ∧
    (∃ (s : State) (p : Fin 18) (o : TanOut), s.boot.dieOn = true ∧ s.joined p = true ∧ (s.tan p).out = some o ∧ o.ackAt = none ∧
        s.cycleOver (some (o.sentAt + (32 + 16 + 44 * (o.m.data.length + 2) + 2) * 1600 + 600000)) = true ∧ o.sends < 3) ∧
    (∃ (s : State) (p : Fin 18) (o : TanOut), s.boot.dieOn = true ∧ s.joined p = true ∧ (s.tan p).out = some o ∧ o.ackAt = none ∧
        s.cycleOver (some (o.sentAt + (32 + 16 + 44 * (o.m.data.length + 2) + 2) * 1600 + 600000)) = true ∧ 3 ≤ o.sends) ∧
    (∃ (s : State) (p : Fin 18) (o : TanOut) (a : Nat), s.boot.dieOn = true ∧ s.joined p = true ∧ (s.tan p).out = some o ∧ o.m.type ≠ 2 ∧
        o.ackAt = some a ∧ s.cycleOver (some (a + 10000000)) = true) ∧
    (∃ (s : State) (p : Fin 18) (d : Nat), s.boot.dieOn = true ∧ s.joined p = true ∧ s.cs p = CS_HELLO ∧ s.mainSrc p = true ∧
        (s.tan p).helloAt = some d ∧ d ≤ s.now ∧ (s.tan p).hellos < 3) ∧
    (∃ (s : State) (p : Fin 18) (d : Nat), s.boot.dieOn = true ∧ s.joined p = true ∧ s.cs p = CS_HELLO ∧ s.mainSrc p = true ∧
        (s.tan p).helloAt = some d ∧ d ≤ s.now ∧ 3 ≤ (s.tan p).hellos ∧ s.cycleOver (some d) = true) ∧
    (∃ (s : State) (p : Fin 18) (_msg : List Word), s.boot.dieOn = true ∧ s.joined p = true) ∧
    (∃ (s : State) (p : Fin 18) (_msg : List Word), s.boot.dieOn = true ∧ s.joined p = true) ∧
    (∃ (s : State) (p : Fin 18) (msg : List Word) (arg v : Nat), s.tanHears p 2 msg ∧ arg = fld (msg.getD 0 0) 0 27 ∧ s.cs p = CS_HELLO ∧
        ((s.mainSrc p = true → (s.tan p).hellos ≠ 0)) ∧ commonMinor arg = some v) ∧
    (∃ (s : State) (p : Fin 18) (msg : List Word) (arg _v : Nat), s.tanHears p 2 msg ∧ arg = fld (msg.getD 0 0) 0 27 ∧ s.cs p = CS_HELLO ∧
        ((s.mainSrc p = true → (s.tan p).hellos ≠ 0)) ∧ commonMinor arg = none) ∧
    (∃ (s : State) (p : Fin 18) (msg : List Word) (arg _v : Nat), s.tanHears p 2 msg ∧ arg = fld (msg.getD 0 0) 0 27 ∧ s.cs p = CS_HELLO ∧
        ((s.mainSrc p = true → (s.tan p).hellos ≠ 0)) ∧ commonMinor arg = none) :=
  ⟨⟨(wTan 17 2 0 1 { queue := [{ type := 2, arg := 8912896 }, { type := 3 }], msgId := 7, phase := 1 } State.reset), 17,
      { type := 2, arg := 8912896 }, [{ type := 3 }], by decide +kernel⟩,
   ⟨(wTan 17 2 0 1 { queue := [{ type := 2, arg := 8912896 }, { type := 3 }], msgId := 7, phase := 1 } State.reset), 17,
       { type := 2, arg := 8912896 }, [{ type := 3 }], by decide +kernel⟩,
   ⟨(wTan 17 2 3 1 { queue := [{ type := 3 }], msgId := 7 } State.reset), 17, { type := 3 }, [], by decide +kernel⟩,
   ⟨(wTan 17 2 1 1 { out := some (tO 3), msgId := 7 } State.reset), 17, (tO 3), 7, by decide +kernel⟩,
   ⟨(wTan 17 2 1 1 { out := some (tO 6), msgId := 7 } State.reset), 17, (tO 6), 7, by decide +kernel⟩,
   ⟨((wTan 17 2 1 1 { out := some (tO 5), reqI := 5, msgId := 7 } State.reset).wr (TAN_PORT_STAT_MAIN_ON 17) 0), 17, (tO 5), 7,
       by decide +kernel⟩,
   ⟨{ wTan 17 2 1 1 { out := some (tO 3) } State.reset with now := 45 + 138 * 1600 + 600000 }, 17, (tO 3), by decide +kernel⟩,
   ⟨{ wTan 17 2 1 1 { out := some { tO 3 with sends := 3 } } State.reset with now := 45 + 138 * 1600 + 600000 }, 17, { tO 3 with sends := 3 },
       by decide +kernel⟩,
   ⟨{ wTan 17 2 1 1 { out := some { tO 3 with ackAt := some 9 } } State.reset with now := 10000049 }, 17, { tO 3 with ackAt := some 9 }, 9,
       by decide +kernel⟩,
   ⟨{ wTan 17 2 0 1 { helloAt := some 9, hellos := 2 } State.reset with now := 9 }, 17, 9, by decide +kernel⟩,
   ⟨{ wTan 17 2 0 1 { helloAt := some 9, hellos := 3 } State.reset with now := 49 }, 17, 9, by decide +kernel⟩,
   ⟨(wTan 17 2 0 1 {} State.reset), 17, [5#40], by decide +kernel⟩,
   ⟨(wTan 17 2 0 1 {} State.reset), 17, [5#40], by decide +kernel⟩,
   ⟨(wTan 17 2 0 1 { hellos := 1 } State.reset), 17, (tm 2 3 0 8947712 []), 8947712, 1, (by unfold State.tanHears; decide +kernel)⟩,
   ⟨(wTan 17 3 0 0 {} State.reset), 17, (tm 2 3 0 8945664 []), 8945664, 1, (by unfold State.tanHears; decide +kernel)⟩,
   ⟨(wTan 17 3 0 0 {} State.reset), 17, (tm 2 3 0 0 []), 0, 1, (by unfold State.tanHears; decide +kernel)⟩⟩

/-- What `PowerContractRows` supposes is met, clause by clause. -/
theorem wit_PowerContractRows :
    (∃ (s : State) (p : Fin 18) (msg : List Word) (r : Nat × Nat), s.tanHears p 3 msg ∧ s.mainSrc p = false ∧
        (s.cs p = CS_HELLO ∨ s.cs p = CS_NEGOTIATE ∨ s.cs p = CS_CONTRACT ∨ s.cs p = CS_SWAP) ∧ s.rdB (TAN_PARTNER_VALID p) = true ∧
        r = s.wantedPower p (fld (msg.getD 1 0) 12 8) (fld (msg.getD 1 0) 4 8)) ∧
    (∃ (s : State) (p : Fin 18) (msg : List Word) (i w : Nat), s.tanHears p 4 msg ∧ s.mainSrc p = true ∧ s.cs p = CS_NEGOTIATE ∧
        i = fld (msg.getD 1 0) 32 8 ∧ w = fld (msg.getD 1 0) 24 8 ∧ s.requestRefusal p i w = 0) ∧
    (∃ (s : State) (p : Fin 18) (msg : List Word) (i w : Nat), s.tanHears p 4 msg ∧ s.mainSrc p = true ∧ s.cs p = CS_NEGOTIATE ∧
        i = fld (msg.getD 1 0) 32 8 ∧ w = fld (msg.getD 1 0) 24 8 ∧ s.requestRefusal p i w = 1 ∧
        (s.tan p).queue.all (fun m => m.type != 3) = true) ∧
    (∃ (s : State) (p : Fin 18) (msg : List Word) (i w : Nat), s.tanHears p 4 msg ∧ s.mainSrc p = true ∧ s.cs p = CS_NEGOTIATE ∧
        i = fld (msg.getD 1 0) 32 8 ∧ w = fld (msg.getD 1 0) 24 8 ∧ s.requestRefusal p i w = 2 ∧
        (s.tan p).queue.all (fun m => m.type != 3) = true) ∧
    (∃ (s : State) (p : Fin 18) (msg : List Word) (i w : Nat), s.tanHears p 4 msg ∧ s.mainSrc p = true ∧ s.cs p = CS_NEGOTIATE ∧
        i = fld (msg.getD 1 0) 32 8 ∧ w = fld (msg.getD 1 0) 24 8 ∧ s.requestRefusal p i w = 3) ∧
    (∃ (s : State) (p : Fin 18) (msg : List Word), s.tanHears p 5 msg ∧ s.cs p = CS_NEGOTIATE ∧ s.mainSrc p = false ∧ s.awaiting p 4 = true ∧
        (s.tan p).reqI ≠ 0 ∧ s.rd (TAN_PORT_STAT_MAIN_ON p) = 0) ∧
    (∃ (s : State) (p : Fin 18) (msg : List Word), s.tanHears p 5 msg ∧ s.cs p = CS_NEGOTIATE ∧ s.mainSrc p = false ∧ s.awaiting p 4 = true ∧
        (s.tan p).reqI = 0 ∧ s.rd (TAN_PORT_STAT_MAIN_ON p) = 0) ∧
    (∃ (s : State) (p : Fin 18) (msg : List Word), s.tanHears p 6 msg ∧ (s.tan p).out ≠ none) ∧
    (∃ (s : State) (p : Fin 18) (msg : List Word), s.tanHears p 6 msg ∧ (s.tan p).out ≠ none) ∧
    (∃ (s : State) (p : Fin 18) (msg : List Word), s.tanHears p 7 msg ∧ s.mainSrc p = false ∧ s.cs p = CS_TRANSITION ∧ (s.tan p).phase = PH_RAMP ∧
        bitOf (fld (msg.getD 0 0) 0 27) 0 = true) ∧
    (∃ (s : State) (p : Fin 18) (msg : List Word), s.tanHears p 7 msg ∧ s.mainSrc p = false ∧ s.cs p = CS_TRANSITION ∧ (s.tan p).phase = PH_OFF ∧
        bitOf (fld (msg.getD 0 0) 0 27) 0 = false) ∧
    (∃ (s : State) (p : Fin 18) (msg : List Word), s.tanHears p 8 msg ∧ s.swapCommon p = false) ∧
    (∃ (s : State) (p : Fin 18) (msg : List Word), s.tanHears p 8 msg ∧ s.cs p = CS_CONTRACT ∧ s.rd (TAN_PORT_STAT_VER_MINOR p) = 1 ∧
        bitOf (s.rd (TAN_PARTNER_ARG p)) 9 = true ∧ (s.tan p).mySwap = true ∧ s.rdB (TAN_PORT_CTL_SWAP_EN p) = true ∧ s.mainSrc p = true ∧
        s.rdB (TAN_PORT_CTL_SINK_EN p) = true) ∧
    (∃ (s : State) (p : Fin 18) (msg : List Word), s.tanHears p 8 msg ∧ s.cs p = CS_CONTRACT ∧ s.rd (TAN_PORT_STAT_VER_MINOR p) = 1 ∧
        bitOf (s.rd (TAN_PARTNER_ARG p)) 9 = true ∧ (s.tan p).mySwap = true ∧ s.rdB (TAN_PORT_CTL_SWAP_EN p) = false) ∧
    (∃ (s : State) (p : Fin 18) (msg : List Word), s.tanHears p 9 msg ∧ s.cs p = CS_CONTRACT ∧ s.mainSrc p = true ∧
        (s.tan p).queue.all (fun m => m.type != 3) = true) ∧
    (∃ (s : State) (p : Fin 18) (_v : BitVec 10), s.boot.dieOn = true ∧ s.joined p = true ∧ s.mainSrc p = true ∧ (s.tan p).phase = PH_RAMP) ∧
    (∃ (s : State) (p : Fin 18) (v : BitVec 10), s.boot.dieOn = true ∧ s.joined p = true ∧ s.mainSrc p = true ∧ 50 ≤ v.toNat) ∧
    (∃ (s : State) (p : Fin 18) (v : BitVec 10), s.boot.dieOn = true ∧ s.joined p = true ∧ s.mainSrc p = true ∧ (s.tan p).phase = PH_OFF ∧
        v.toNat < 50) ∧
    (∃ (s : State) (p : Fin 18) (rest : List TanMsg), s.boot.dieOn = true ∧ s.joined p = true ∧ s.mainSrc p = true ∧ s.cs p = CS_TRANSITION ∧
        (s.tan p).out = none ∧ (s.tan p).queue = TanMsg.mk 7 1 [] :: rest ∧ (s.tan p).swapping = false) ∧
    (∃ (s : State) (p : Fin 18) (d : Nat), s.boot.dieOn = true ∧ s.joined p = true ∧ s.cycleOver (some d) = true ∧ (s.tan p).readyBy = some d) ∧
    (∃ (s : State) (p : Fin 18) (d : Nat), s.boot.dieOn = true ∧ s.joined p = true ∧ s.cycleOver (some d) = true ∧ (s.tan p).swapBy = some d) ∧
    (∃ (s : State) (p : Fin 18), s.boot.dieOn = true ∧ s.coreOn = true ∧ s.joined p = true ∧ s.cs p = CS_CONTRACT ∧ s.mainSrc p = true ∧
        (s.tan p).queue.all (fun m => m.type != 3) = true) :=
  ⟨⟨(wFeed (((((wTan 17 3 3 0 {} State.reset).wr (TAN_PARTNER_VALID 17) 1).wr (TAN_PORT_CTL_SINK_EN 17) 1).wr (TAN_SINK_I_REQ 17) 100).wr (TAN_SINK_P_REQ 17) 120)), 17, (tm 3 3 1 0 [pack [(12, 8, 90), (4, 8, 200)]]), (90, 120), (by unfold State.tanHears; decide +kernel)⟩,
   ⟨((((wTan 17 2 1 1 { offerI := 200, offerP := 200 } State.reset).wr TAN_BUDGET_W 1800).wr FEED_STAT_WARN 0)), 17, (tm 4 3 1 0 [pack [(32, 8,
       90), (24, 8, 200)]]), 90, 200, (by unfold State.tanHears; decide +kernel)⟩,
   ⟨(((((wTan 17 2 1 1 { offerI := 200, offerP := 200 } State.reset).wr TAN_BUDGET_W 0).wr FEED_STAT_WARN 0)).wr (TAN_CONTRACT_I_C 17) 0), 17,
       (tm 4 3 1 0 [pack [(32, 8, 90), (24, 8, 200)]]), 90, 200, (by unfold State.tanHears; decide +kernel)⟩,
   ⟨(((((wTan 17 2 1 1 { offerI := 200, offerP := 200 } State.reset).wr TAN_BUDGET_W 1800).wr FEED_STAT_WARN 1)).wr (TAN_CONTRACT_I_C 17) 0), 17,
       (tm 4 3 1 0 [pack [(32, 8, 90), (24, 8, 200)]]), 90, 200, (by unfold State.tanHears; decide +kernel)⟩,
   ⟨(((((wTan 17 2 1 1 { offerI := 20, offerP := 200 } State.reset).wr TAN_BUDGET_W 1800).wr FEED_STAT_WARN 1)).wr (TAN_CONTRACT_I_C 17) 0), 17,
       (tm 4 3 1 0 [pack [(32, 8, 90), (24, 8, 200)]]), 90, 200, (by unfold State.tanHears; decide +kernel)⟩,
   ⟨((wTan 17 3 1 0 { out := some (tO 4), reqI := 20 } State.reset).wr (TAN_PORT_STAT_MAIN_ON 17) 0), 17, (tm 5 3 0 0 []),
       (by unfold State.tanHears; decide +kernel)⟩,
   ⟨((wTan 17 3 1 0 { out := some (tO 4), reqI := 0 } State.reset).wr (TAN_PORT_STAT_MAIN_ON 17) 0), 17, (tm 5 3 0 0 []),
       (by unfold State.tanHears; decide +kernel)⟩,
   ⟨((wTan 17 3 1 0 { out := some (tO 4), reqI := 0 } State.reset).wr (TAN_PORT_STAT_MAIN_ON 17) 1), 17, (tm 6 3 0 4 []),
       (by unfold State.tanHears; decide +kernel)⟩,
   ⟨((wTan 17 3 1 0 { out := some (tO 4), reqI := 0 } State.reset).wr (TAN_PORT_STAT_MAIN_ON 17) 1), 17, (tm 6 3 0 1 []),
       (by unfold State.tanHears; decide +kernel)⟩,
   ⟨(wTan 17 3 2 0 { phase := 2, reqI := 300, reqP := 40 } State.reset), 17, (tm 7 3 0 1 []), (by unfold State.tanHears; decide +kernel)⟩,
   ⟨(wTan 17 3 2 0 { phase := 4, reqI := 300, reqP := 40 } State.reset), 17, (tm 7 3 0 0 []), (by unfold State.tanHears; decide +kernel)⟩,
   ⟨((wTan 17 3 3 0 {} State.reset).wr (TAN_PORT_STAT_VER_MINOR 17) 0), 17, (tm 8 3 0 0 []), (by unfold State.tanHears; decide +kernel)⟩,
   ⟨(((((wTan 17 3 3 1 { mySwap := true } State.reset).wr (TAN_PORT_STAT_VER_MINOR 17) 1).wr (TAN_PARTNER_ARG 17) 512).wr (TAN_PORT_CTL_SWAP_EN 17) 1).wr (TAN_PORT_CTL_SINK_EN 17) 1), 17, (tm 8 3 0 0 []), (by unfold State.tanHears; decide +kernel)⟩,
   ⟨((((wTan 17 3 3 1 { mySwap := true } State.reset).wr (TAN_PORT_STAT_VER_MINOR 17) 1).wr (TAN_PARTNER_ARG 17) 512).wr (TAN_PORT_CTL_SWAP_EN 17) 0), 17, (tm 8 3 0 0 []), (by unfold State.tanHears; decide +kernel)⟩,
   ⟨(wTan 17 3 3 1 {} State.reset), 17, (tm 9 3 0 0 []), (by unfold State.tanHears; decide +kernel)⟩,
   ⟨(wTan 17 3 2 1 { phase := 2 } State.reset), 17, 1023#10, by decide +kernel⟩,
   ⟨(wTan 17 3 2 1 { phase := 2 } State.reset), 17, 1023#10, by decide +kernel⟩,
   ⟨(wTan 17 3 2 1 { phase := 4 } State.reset), 17, 49#10, by decide +kernel⟩,
   ⟨(wTan 17 3 2 1 { phase := 3, queue := [{ type := 7, arg := 1 }, { type := 6 }], reqI := 250, reqP := 200 } State.reset), 17, [{ type := 6 }],
       by decide +kernel⟩,
   ⟨{ (wTan 17 3 2 1 { readyBy := some 7, swapBy := some 7 } State.reset) with now := 47 }, 17, 7, by decide +kernel⟩,
   ⟨{ (wTan 17 3 2 1 { readyBy := some 7, swapBy := some 7 } State.reset) with now := 47 }, 17, 7, by decide +kernel⟩,
   ⟨(wTan 17 3 3 1 {} State.reset), 17, by decide +kernel⟩⟩

/-- What `TangentFaultRows` supposes is met, clause by clause. -/
theorem wit_TangentFaultRows :
    (∃ (s : State) (p : Fin 18), s.boot.dieOn = true ∧ s.joined p = true) ∧
    (∃ (s : State) (p : Fin 18), s.boot.dieOn = true ∧ s.joined p = true ∧ s.coreOn = true ∧ s.cs p ≠ CS_AUX_ONLY) ∧
    (∃ (s : State) (p : Fin 18), s.boot.dieOn = true ∧ s.joined p = true) ∧
    (∃ (s : State) (p : Fin 18), s.boot.dieOn = true ∧ s.joined p = true ∧ s.coreOn = true ∧ s.cs p = CS_AUX_ONLY) ∧
    (∃ (s : State) (p : Fin 18) (d : Nat), s.boot.dieOn = true ∧ s.cs p = CS_HARD_RESET ∧ (s.tan p).waitBy = some d ∧ d ≤ s.now) ∧
    (∃ (s : State) (p : Fin 18), s.boot.dieOn = true ∧ s.joined p = true ∧ (s.tan p).phase ≠ 0 ∧
        ((s.tan p).phase ≠ 1 ∨ s.now ≤ (s.tan p).auxBy)) ∧
    (∃ (s : State) (p : Fin 18) (_i r : Nat), s.boot.dieOn = true ∧ s.ps p = PS_SRC ∧ s.mainSrc p = true ∧ s.rd (TAN_PORT_STAT_MAIN_ON p) = 1 ∧
        (s.tan p).railAt = some r ∧ s.now < r + 1000000000 ∧ (s.tan p).faults < 3) ∧
    (∃ (s : State) (p : Fin 18) (i r : Nat), s.boot.dieOn = true ∧ s.ps p = PS_SRC ∧ s.mainSrc p = true ∧ s.rd (TAN_PORT_STAT_MAIN_ON p) = 1 ∧
        (s.tan p).railAt = some r ∧ s.now < r + 1000000000 ∧ 20 * s.rd (TAN_CONTRACT_I_C p) < i ∧ (s.tan p).faults < 3) ∧
    (∃ (s : State) (p : Fin 18) (_i r : Nat), s.boot.dieOn = true ∧ s.ps p = PS_SRC ∧ s.mainSrc p = true ∧ s.rd (TAN_PORT_STAT_MAIN_ON p) = 1 ∧
        (s.tan p).railAt = some r ∧ s.now < r + 1000000000 ∧ (s.tan p).faults = 3) ∧
    (∃ (s : State) (p : Fin 18) (i r : Nat), s.boot.dieOn = true ∧ s.ps p = PS_SRC ∧ s.mainSrc p = true ∧ s.rd (TAN_PORT_STAT_MAIN_ON p) = 1 ∧
        (s.tan p).railAt = some r ∧ s.now < r + 1000000000 ∧ i ≤ 20 * s.rd (TAN_CONTRACT_I_C p)) ∧
    (∃ (s : State) (p : Fin 18) (_i r : Nat), s.boot.dieOn = true ∧ s.ps p = PS_SRC ∧ s.mainSrc p = true ∧ s.rd (TAN_PORT_STAT_MAIN_ON p) = 1 ∧
        (s.tan p).railAt = some r ∧ s.now < r + 1000000000 ∧ (s.tan p).faults < 3) ∧
    (∃ (s : State) (p : Fin 18) (_i r : Nat), s.boot.dieOn = true ∧ s.ps p = PS_SRC ∧ s.mainSrc p = true ∧ s.rd (TAN_PORT_STAT_MAIN_ON p) = 1 ∧
        (s.tan p).railAt = some r ∧ s.now < r + 1000000000 ∧ (s.tan p).faults < 3) ∧
    (∃ (s : State) (p : Fin 18), s.boot.dieOn = true ∧ s.ps p = PS_SRC ∧
        ((s.tan p).railAt.all (fun r => r + 1000000000 ≤ s.now) = true ∨ (s.tan p).faults < 3) ∧ (s.tan p).signalled = false) ∧
    (∃ (s : State) (p : Fin 18) (d : Nat), s.boot.dieOn = true ∧ (s.tan p).signalled = false ∧ s.rd (TAN_PORT_CTL_ENABLE p) = 1 ∧
        s.rd (TAN_PORT_CTL_ROLE p) < 3 ∧ s.ps p = PS_FAULT_WAIT ∧ (s.tan p).waitBy = some d ∧ d ≤ s.now) ∧
    (∃ (s : State) (p : Fin 18) (_d : Nat), s.boot.dieOn = true ∧ (s.tan p).signalled = false ∧ s.rd (TAN_PORT_CTL_ENABLE p) = 1 ∧
        s.rd (TAN_PORT_CTL_ROLE p) < 3 ∧ s.ps p = PS_LATCHED ∧ s.coreOn = true) :=
  ⟨⟨(wTan 17 3 3 1 { phase := 2, resets := 1 } State.reset), 17, by decide +kernel⟩,
   ⟨(wTan 17 3 3 1 { phase := 2, resets := 1 } State.reset), 17, by decide +kernel⟩,
   ⟨(wTan 17 3 3 1 { resets := 2, queue := [{ type := 3 }] } State.reset), 17, by decide +kernel⟩,
   ⟨(wTan 17 3 5 1 { resets := 2 } State.reset), 17, by decide +kernel⟩,
   ⟨{ (wTan 17 3 6 1 { waitBy := some 7 } State.reset) with now := 7 }, 17, 7, by decide +kernel⟩,
   ⟨(wTan 17 3 6 1 { phase := 7 } State.reset), 17, by decide +kernel⟩,
   ⟨{ (wTan 17 2 3 1 { railAt := some 7, faults := 2 } State.reset).wr (TAN_PORT_STAT_MAIN_ON 17) 1 with now := 1000000006 }, 17, 5001, 7,
       by decide +kernel⟩,
   ⟨{ (wTan 17 2 3 1 { railAt := some 7, faults := 2 } State.reset).wr (TAN_PORT_STAT_MAIN_ON 17) 1 with now := 1000000006 }, 17, 5001, 7,
       by decide +kernel⟩,
   ⟨{ (wTan 17 2 3 1 { railAt := some 7, faults := 3 } State.reset).wr (TAN_PORT_STAT_MAIN_ON 17) 1 with now := 1000000006 }, 17, 0, 7,
       by decide +kernel⟩,
   ⟨{ (wTan 17 2 3 1 { railAt := some 7, faults := 3 } State.reset).wr (TAN_PORT_STAT_MAIN_ON 17) 1 with now := 1000000006 }, 17, 0, 7,
       by decide +kernel⟩,
   ⟨{ ((wTan 17 2 3 1 { railAt := some 7, faults := 2 } State.reset).wr (TAN_PORT_STAT_MAIN_ON 17) 1).wr (TAN_CONTRACT_I_C 17) 250 with now := 1000000006 }, 17, 5001, 7, by decide +kernel⟩,
   ⟨{ ((wTan 17 2 3 1 { railAt := some 7, faults := 2 } State.reset).wr (TAN_PORT_STAT_MAIN_ON 17) 1).wr (TAN_CONTRACT_I_C 17) 250 with now := 1000000006 }, 17, 5000, 7, by decide +kernel⟩,
   ⟨(wTan 17 2 3 1 {} State.reset), 17, by decide +kernel⟩,
   ⟨{ ((wTan 17 5 7 0 { waitBy := some 7 } State.reset).wr (TAN_PORT_CTL_ENABLE 17) 1).wr (TAN_PORT_CTL_ROLE 17) 2 with now := 7 }, 17, 7,
       by decide +kernel⟩,
   ⟨{ ((wTan 17 6 7 0 { faults := 4 } State.reset).wr (TAN_PORT_CTL_ENABLE 17) 1).wr (TAN_PORT_CTL_ROLE 17) 2 with now := 7 }, 17, 7,
       by decide +kernel⟩⟩


end Tangent

namespace Feeds

def wF (x : Nat) (f : Feed) (b : State) : State := { wOn b with boot := { b.boot with dieOn := true }, locks := Map.empty, pd := { b.pd with feeds := b.pd.feeds.set x f } }
def wT (b : State) : State := (((((b.wr FEED_THR_UV 180).wr FEED_THR_OV 600).wr FEED_THR_WARN 200).wr CHIP_STRAP_STRAPS 0).wr FEED_CB_FAST 60).wr FEED_CB_CB 50
def wW (b : State) : State := { (wT (wF 0 { st := .on, pg := true } b)).wr FEED_STAT_WARN 0 with pd := { (wF 0 { st := .on, pg := true } b).pd with warn := { armed := true } } }.wr FEED_CTL_SHED 0
def wRing (b : State) : State := { b with coreOn := true, log := { ring := List.replicate 512 [1, 2] } }
def wGr (b : State) : State := ((((((wW b).wr (TAN_PORT_STAT_PSTATE 17) 2).wr (TAN_PORT_STAT_CSTATE 17) 1).wr (TAN_PORT_STAT_MAIN_SRC 17) 1).wr (TAN_CONTRACT_I_C 17) 3).onTan 17 (fun _ => { granted := true, grantAt := 47, reqI := 9, queue := [{ type := 5 }] }))

/-- What `FeedRows` supposes is met, clause by clause. -/
theorem wit_FeedRows :
    (∃ (s : State) (x : Fin 2) (m : FeedMeas), s.boot.dieOn = true ∧ (s.feed x).st = .absent ∧ s.testStrap = false ∧ s.rd FEED_THR_UV ≤ m.vin ∧
        m.vin ≤ s.rd FEED_THR_OV) ∧
    (∃ (s : State) (x : Fin 2) (m : FeedMeas), s.boot.dieOn = true ∧ (s.feed x).st = .ovOff ∧ m.vin + 10 ≤ s.rd FEED_THR_OV) ∧
    (∃ (s : State) (x : Fin 2) (m : FeedMeas), s.boot.dieOn = true ∧ m.vin < 50 ∧
        ((s.feed x).st = .on ∨ (s.feed x).st = .latched ∨ (s.feed x).st = .start ∨ (s.feed x).st = .ovOff)) ∧
    (∃ (s : State) (x : Fin 2) (m : FeedMeas), s.boot.dieOn = true ∧ (s.feed x).st = .start ∧ m.vin ≤ m.fbus + 10 ∧ m.fbus ≤ m.vin + 10) ∧
    (∃ (s : State) (x : Fin 2) (_m : FeedMeas) (d : Nat), s.boot.dieOn = true ∧ (s.feed x).st = .start ∧ (s.feed x).startBy = some d ∧
        s.cycleOver (some d) = true) ∧
    (∃ (s : State) (x : Fin 2) (_m : FeedMeas) (d : Nat), s.boot.dieOn = true ∧ (s.feed x).st = .on ∧ (s.feed x).faultBy = some d ∧
        s.cycleOver (some d) = true) ∧
    (∃ (s : State) (x : Fin 2) (m : FeedMeas) (d : Nat), s.boot.dieOn = true ∧ (s.feed x).st = .on ∧ (s.feed x).pg = false ∧
        (s.feed x).faultBy = none ∧ (s.feed x).pgFrom = some d ∧ d + 1000000 ≤ s.now ∧ s.rd FEED_THR_UV + 5 ≤ m.vin ∧ m.vin ≤ s.rd FEED_THR_OV) ∧
    (∃ (s : State) (x : Fin 2) (_m : FeedMeas) (d : Nat), s.boot.dieOn = true ∧ (s.feed x).st = .start ∧ (s.feed x).startBy = some d ∧
        s.cycleOver (some d) = true) ∧
    (∃ (s : State) (x : Fin 2) (_m : FeedMeas) (d : Nat), s.boot.dieOn = true ∧ (s.feed x).st = .on ∧ (s.feed x).faultBy = some d ∧
        s.cycleOver (some d) = true) ∧
    (∃ (s : State) (x : Fin 2) (m : FeedMeas), s.boot.dieOn = true ∧ ((s.feed x).st = .start ∨ (s.feed x).st = .on) ∧
        s.rd FEED_CB_FAST * 10 ≤ m.vs) ∧
    (∃ (s : State) (x : Fin 2) (m : FeedMeas), s.boot.dieOn = true ∧ ((s.feed x).st = .start ∨ (s.feed x).st = .on) ∧ m.vin ≤ m.fbus ∧
        (s.feed x).blocked = false) ∧
    (∃ (s : State) (x : Fin 2) (m : FeedMeas), s.boot.dieOn = true ∧ ((s.feed x).st = .start ∨ (s.feed x).st = .on) ∧ s.rd FEED_THR_OV < m.vin) ∧
    (∃ (s : State) (x : Fin 2) (m : FeedMeas), s.boot.dieOn = true ∧ ((s.feed x).st = .start ∨ (s.feed x).st = .on) ∧ m.fbus ≤ m.vin ∧
        (s.feed x).blocked = true) ∧
    (∃ (s : State) (x : Fin 2) (m : FeedMeas), s.boot.dieOn = true ∧ ((s.feed x).st = .start ∨ (s.feed x).st = .on) ∧
        s.rd FEED_CB_FAST * 10 ≤ m.vs) ∧
    (∃ (s : State) (x : Fin 2) (m : FeedMeas), s.boot.dieOn = true ∧ (s.feed x).since / 40 = s.now / 40 ∧ (s.feed x).st = .ovOff ∧
        s.rd FEED_CB_FAST * 10 ≤ m.vs) ∧
    (∃ (s : State) (x : Fin 2) (m : FeedMeas), s.boot.dieOn = true ∧ (s.feed x).since / 40 = s.now / 40 ∧ (s.feed x).st = .latched ∧
        s.rd FEED_THR_OV < m.vin) ∧
    (∃ (s : State) (x : Fin 2) (m : FeedMeas), s.boot.dieOn = true ∧ (s.feed x).st = .on ∧ s.rd FEED_CB_CB * 5 ≤ m.vs ∧
        (s.feed x).faultBy = none) ∧
    (∃ (s : State) (x : Fin 2) (m : FeedMeas), s.boot.dieOn = true ∧ (s.feed x).st = .on ∧ m.vs < s.rd FEED_CB_CB * 5 ∧
        (s.feed x).faultBy ≠ none) ∧
    (∃ (s : State) (x : Fin 2) (m : FeedMeas), s.boot.dieOn = true ∧ (s.feed x).pg = true ∧ m.vin < s.rd FEED_THR_UV) :=
  ⟨⟨(wT (wF 1 { offAt := some 3 } State.reset)), 1, ⟨600, 3, 7⟩, by decide +kernel⟩,
   ⟨(wT (wF 0 { st := .ovOff } State.reset)), 0, ⟨590, 3, 4095⟩, by decide +kernel⟩,
   ⟨(wT (wF 0 { st := .on, pg := true } State.reset)), 0, ⟨49, 3, 4095⟩, by decide +kernel⟩,
   ⟨(wT (wF 1 { st := .start } State.reset)), 1, ⟨500, 490, 4095⟩, by decide +kernel⟩,
   ⟨{ wT (wF 1 { st := .start, startBy := some 7 } State.reset) with now := 47 }, 1, ⟨500, 490, 4095⟩, 7, by decide +kernel⟩,
   ⟨{ wT (wF 1 { st := .on, faultBy := some 7, pg := true } State.reset) with now := 47 }, 1, ⟨500, 490, 4095⟩, 7, by decide +kernel⟩,
   ⟨{ wT (wF 0 { st := .on, pgFrom := some 7 } State.reset) with now := 1000007 }, 0, ⟨185, 490, 4095⟩, 7, by decide +kernel⟩,
   ⟨(wRing { wT (wF 1 { st := .start, startBy := some 7 } State.reset) with now := 47 }), 1, ⟨500, 490, 4095⟩, 7, by decide +kernel⟩,
   ⟨(wRing { wT (wF 1 { st := .on, faultBy := some 7, pg := true } State.reset) with now := 47 }), 1, ⟨500, 490, 4095⟩, 7, by decide +kernel⟩,
   ⟨{ wT (wF 1 { st := .start } State.reset) with now := 7 }, 1, ⟨490, 490, 600⟩, by decide +kernel⟩,
   ⟨{ wT (wF 1 { st := .start } State.reset) with now := 7 }, 1, ⟨490, 490, 600⟩, by decide +kernel⟩,
   ⟨{ wT (wF 0 { st := .on, pg := true } State.reset) with now := 7 }, 0, ⟨601, 490, 0⟩, by decide +kernel⟩,
   ⟨{ wT (wF 1 { st := .on, blocked := true } State.reset) with now := 7 }, 1, ⟨490, 490, 0⟩, by decide +kernel⟩,
   ⟨(wRing { wT (wF 1 { st := .start } State.reset) with now := 7 }), 1, ⟨490, 490, 600⟩, by decide +kernel⟩,
   ⟨{ wT (wF 1 { st := .ovOff, since := 40 } State.reset) with now := 47 }, 1, ⟨600, 490, 600⟩, by decide +kernel⟩,
   ⟨{ wT (wF 0 { st := .latched, since := 40 } State.reset) with now := 47 }, 0, ⟨601, 490, 600⟩, by decide +kernel⟩,
   ⟨{ wT (wF 1 { st := .on, pgFrom := some 3 } State.reset) with now := 7 }, 1, ⟨490, 490, 250⟩, by decide +kernel⟩,
   ⟨{ wT (wF 1 { st := .on, faultBy := some 30, limit := true, pg := true } State.reset) with now := 7 }, 1, ⟨179, 490, 249⟩, by decide +kernel⟩,
   ⟨{ wT (wF 1 { st := .on, faultBy := some 30, limit := true, pg := true } State.reset) with now := 7 }, 1, ⟨179, 490, 249⟩, by decide +kernel⟩⟩

/-- What `FeedWarnRows` supposes is met, clause by clause. -/
theorem wit_FeedWarnRows :
    (∃ (s : State) (v : BitVec 10) (c : Nat) (_k : Fin 18), s.boot.dieOn = true ∧ s.pd.warn.armed = true ∧ s.rdB FEED_STAT_WARN = false ∧ c ≠ 0 ∧
        (c = (if v.toNat < s.rd FEED_THR_WARN then 1 else 0) + (if s.feedPg = false ∧ s.sinkContract = false then 2 else 0)) ∧ s.coreOn = false ∧
        s.rdB FEED_CTL_SHED = false ∧ s.noFreshGrant = true) ∧
    (∃ (s : State) (v : BitVec 10) (c : Nat) (_k : Fin 18), s.boot.dieOn = true ∧ s.pd.warn.armed = true ∧ s.rdB FEED_STAT_WARN = false ∧ c ≠ 0 ∧
        (c = (if v.toNat < s.rd FEED_THR_WARN then 1 else 0) + (if s.feedPg = false ∧ s.sinkContract = false then 2 else 0)) ∧ s.coreOn = true ∧
        s.rdB FEED_CTL_SHED = false ∧ s.stored.committing = none ∧ s.log.writing = none) ∧
    (∃ (s : State) (v : BitVec 10) (c : Nat) (_k : Fin 18), s.boot.dieOn = true ∧ s.pd.warn.armed = true ∧ s.rdB FEED_STAT_WARN = false ∧ c ≠ 0 ∧
        (c = (if v.toNat < s.rd FEED_THR_WARN then 1 else 0) + (if s.feedPg = false ∧ s.sinkContract = false then 2 else 0)) ∧ s.coreOn = true ∧
        s.rdB FEED_CTL_SHED = false ∧ s.stored.committing = none ∧ s.log.writing = none) ∧
    (∃ (s : State) (v : BitVec 10) (c : Nat) (k : Fin 18), s.boot.dieOn = true ∧ s.pd.warn.armed = true ∧ s.rdB FEED_STAT_WARN = false ∧ c ≠ 0 ∧
        (c = (if v.toNat < s.rd FEED_THR_WARN then 1 else 0) + (if s.feedPg = false ∧ s.sinkContract = false then 2 else 0)) ∧
        s.rdB FEED_CTL_SHED = false ∧ (s.tan k).granted = true ∧ (s.tan k).grantAt / 40 = s.now / 40 ∧ TanMsg.mk 5 0 [] ∈ (s.tan k).queue ∧
        s.rd (TAN_CONTRACT_I_C k) < (s.tan k).reqI) ∧
    (∃ (s : State) (v : BitVec 10) (c : Nat) (k : Fin 18), s.boot.dieOn = true ∧ s.pd.warn.armed = true ∧ s.rdB FEED_STAT_WARN = false ∧ c ≠ 0 ∧
        (c = (if v.toNat < s.rd FEED_THR_WARN then 1 else 0) + (if s.feedPg = false ∧ s.sinkContract = false then 2 else 0)) ∧
        s.rdB FEED_CTL_SHED = true ∧ s.joined k = true ∧ s.mainSrc k = true ∧ s.rdB (TAN_PORT_STAT_MAIN_ON k) = true) ∧
    (∃ (s : State) (v : BitVec 10), s.boot.dieOn = true ∧ s.coreOn = false ∧ s.rdB FEED_STAT_WARN = true ∧ s.pd.warn.at_ + 10000000 ≤ s.now ∧
        s.rd FEED_THR_WARN + 10 ≤ v.toNat ∧ (s.feedPg = true ∨ s.sinkContract = true)) ∧
    (∃ (s : State) (d : Nat), s.boot.dieOn = true ∧ s.rdB FEED_STAT_WARN = true ∧ s.pd.warn.repeatAt = some d ∧ d ≤ s.now) ∧
    (∃ (s : State) (x : Fin 2), s.boot.dieOn = true ∧ s.coreOn = true ∧ s.locked feedPage = false ∧ (s.feed x).offAt = none ∧
        (s.feed x).st ≠ .latched ∧ (s.feed x).st ≠ .disabled ∧ (s.feed x).pg = false) ∧
    (∃ (s : State) (x : Fin 2), s.boot.dieOn = true ∧ s.coreOn = true ∧ s.locked feedPage = false ∧ (s.feed x).offAt = none ∧
        (s.feed x).st = .disabled ∧ (s.feed x).pg = false) ∧
    (∃ (s : State) (x : Fin 2) (_d : Nat), s.boot.dieOn = true ∧ s.coreOn = true ∧ s.locked feedPage = false ∧ (s.feed x).st = .latched ∧
        (s.feed x).offAt = none) ∧
    (∃ (s : State) (x : Fin 2) (d : Nat), s.boot.dieOn = true ∧ s.coreOn = true ∧ s.locked feedPage = false ∧ (s.feed x).st = .latched ∧
        (s.feed x).offAt = some d ∧ d + 1000000 ≤ s.now) ∧
    (∃ (s : State) (x : Fin 2) (d : Nat), s.boot.dieOn = true ∧ s.coreOn = true ∧ s.locked feedPage = false ∧ (s.feed x).st = .latched ∧
        (s.feed x).offAt = some d ∧ s.now < d + 1000000) ∧
    (∃ (s : State) (v : Reg) (uv ov wn : Nat), s.boot.dieOn = true ∧ s.coreOn = true ∧ uv = bitsOf v.toNat 0 10 ∧ ov = bitsOf v.toNat 10 10 ∧
        wn = bitsOf v.toNat 20 10 ∧ s.locked feedPage = false ∧ (180 ≤ uv ∧ uv < wn ∧ wn < ov ∧ ov ≤ 600)) ∧
    (∃ (s : State) (v : Reg) (uv ov wn : Nat), s.boot.dieOn = true ∧ s.coreOn = true ∧ uv = bitsOf v.toNat 0 10 ∧ ov = bitsOf v.toNat 10 10 ∧
        wn = bitsOf v.toNat 20 10 ∧ s.locked feedPage = false ∧ (¬ (180 ≤ uv ∧ uv < wn ∧ wn < ov ∧ ov ≤ 600))) ∧
    (∃ (s : State) (v : Reg) (uv ov wn : Nat), s.boot.dieOn = true ∧ s.coreOn = true ∧ uv = bitsOf v.toNat 0 10 ∧ ov = bitsOf v.toNat 10 10 ∧
        wn = bitsOf v.toNat 20 10 ∧ s.locked feedPage = true) ∧
    (∃ s : State, s.boot.dieOn = true ∧ s.coreOn = true) :=
  ⟨⟨{ wW State.reset with coreOn := false }, 199#10, 1, 17, by decide +kernel⟩,
   ⟨{ (((wW State.reset).wr (LANE_STAT_STATE 17) 3).wr (LANE_STAT_STATE 3) 3) with chords := Map.empty, stored := {}, log := {} }, 199#10, 1, 17,
       by decide +kernel⟩,
   ⟨(wRing { (((wW State.reset).wr (LANE_STAT_STATE 17) 3).wr (LANE_STAT_STATE 3) 3) with chords := Map.empty, stored := {}, log := {} }),
       199#10, 1, 17, by decide +kernel⟩,
   ⟨{ wGr State.reset with now := 48 }, 199#10, 1, 17, by decide +kernel⟩,
   ⟨(((wGr State.reset).wr FEED_CTL_SHED 1).wr (TAN_PORT_STAT_MAIN_ON 17) 1), 199#10, 1, 17, by decide +kernel⟩,
   ⟨{ (wW State.reset).wr FEED_STAT_WARN 1 with coreOn := false, now := 10000000 }, 210#10, by decide +kernel⟩,
   ⟨{ ((wW State.reset).wr FEED_STAT_WARN 1).wr (LANE_STAT_STATE 17) 3 with now := 10000000, chords := Map.empty, pd := { (wW State.reset).pd with warn := { armed := true, arg := 7, repeatAt := some 9 } } }, 9, by decide +kernel⟩,
   ⟨(wT (wF 1 { st := .start } State.reset)), 1, by decide +kernel⟩,
   ⟨(wT (wF 0 { st := .disabled } State.reset)), 0, by decide +kernel⟩,
   ⟨{ wT (wF 1 { st := .latched } State.reset) with now := 47 }, 1, 7, by decide +kernel⟩,
   ⟨{ wT (wF 1 { st := .latched, offAt := some 7 } State.reset) with now := 1000007 }, 1, 7, by decide +kernel⟩,
   ⟨{ wT (wF 0 { st := .latched, offAt := some 7 } State.reset) with now := 1000006 }, 0, 7, by decide +kernel⟩,
   ⟨(wT (wF 0 { st := .disabled } State.reset)), (BitVec.ofNat 32 (packNat [(0, 10, 180), (10, 10, 600), (20, 10, 181)])), 180, 600, 181,
       by decide +kernel⟩,
   ⟨(wT (wF 0 { st := .disabled } State.reset)), (BitVec.ofNat 32 (packNat [(0, 10, 180), (10, 10, 600), (20, 10, 600)])), 180, 600, 600,
       by decide +kernel⟩,
   ⟨{ wT (wF 0 { st := .disabled } State.reset) with locks := State.reset.locks.set feedPage 1 }, (BitVec.ofNat 32 (packNat [(0, 10, 180), (10,
       10, 600), (20, 10, 600)])), 180, 600, 600, by decide +kernel⟩,
   ⟨(wT (wF 0 { st := .disabled } State.reset)), by decide +kernel⟩⟩


end Feeds

namespace Power

def wP (x : Power) (b : State) : State := { (((wOn b).wr PWR_STAT_ENTRY 0).wr PWR_WAKE_EN_EN 511).wr CHIP_STRAP_STRAPS 4 with power := x, boot := { b.boot with dieOn := true, rails := true }, locks := Map.empty }
def wQ (b : State) : State := { State.reset with coreOn := true, now := b.now, evt := b.evt, pages := b.pages, free := b.free, boot := { dieOn := true, rails := true, started := true } }.wr RST_STAT_RESTORING 0
def wL (lv src lock : Nat) (x : Power) (b : State) : State := (((((wP x b).wr PWR_STAT_LEVEL lv).wr PWR_STAT_CLK_SRC src).wr PWR_STAT_PLL_LOCK lock).wr PWR_PERF_AUTO 1).wr PWR_GOV_GOV_EN 1

/-- What `SleepRows` supposes is met, clause by clause. -/
theorem wit_SleepRows :
    (∃ (s : State) (req : BitVec 2) (us : List Nat), s.coreOn = true ∧ req ≠ 0 ∧ us = s.refusers ∧ s.rd PWR_STAT_ENTRY = 0 ∧ s.power.asleep = 0 ∧
        s.power.srcAt.all (fun a => a / 40 != s.now / 40) = true ∧ us = []) ∧
    (∃ (s : State) (req : BitVec 2) (us : List Nat), s.coreOn = true ∧ req ≠ 0 ∧ us = s.refusers ∧ s.rd PWR_STAT_ENTRY = 0 ∧ s.power.asleep = 0 ∧
        s.power.srcAt.all (fun a => a / 40 != s.now / 40) = true ∧ us = []) ∧
    (∃ (s : State) (req : BitVec 2) (us : List Nat), s.coreOn = true ∧ req ≠ 0 ∧ us = s.refusers ∧ s.rd PWR_STAT_ENTRY = 0 ∧ s.power.asleep = 0 ∧
        s.power.srcAt.all (fun a => a / 40 != s.now / 40) = true ∧ us ≠ []) ∧
    (∃ (s : State) (req : BitVec 2) (us : List Nat), s.coreOn = true ∧ req ≠ 0 ∧ us = s.refusers ∧
        (s.rd PWR_STAT_ENTRY ≠ 0 ∨ s.power.asleep ≠ 0 ∨ s.power.srcAt.any (fun a => a / 40 == s.now / 40) = true)) ∧
    (∃ (s : State) (d : Nat) (ps : List Nat), s.coreOn = true ∧ s.power.asked = 1 ∧ s.power.drainBy = some d ∧ d < s.now ∧
        ps = (List.range 18).filter (fun p => !s.portDrained p) ∧ ps ≠ []) ∧
    (∃ (s : State) (d : Nat) (a : Fin 4) (ps : List Nat), s.coreOn = true ∧ s.power.asked = a ∧ a ≠ 0 ∧ s.power.drainBy = some d ∧ d < s.now ∧
        ps = (List.range 18).filter (fun p => !s.portDrained p) ∧ ps ≠ []) ∧
    (∃ (s : State) (c : Fin 10) (d : Fin 18), s.boot.dieOn = true ∧ s.sourceOn (c.val, d.val) = true ∧ s.power.asked ≠ 0) ∧
    (∃ (s : State) (c : Fin 10) (d : Fin 18), s.boot.dieOn = true ∧ s.sourceOn (c.val, d.val) = true ∧ s.power.asked = 0 ∧ s.power.asleep = 0) ∧
    (∃ (s : State) (c : Fin 10) (d : Fin 18), s.boot.dieOn = true ∧ s.sourceOn (c.val, d.val) = true ∧ s.power.asked = 0 ∧ s.power.asleep = 1 ∧
        ((∀ p, p < 18 → s.ls p ≠ LS_DOZE))) ∧
    (∃ (s : State) (c : Fin 10) (d : Fin 18), s.boot.dieOn = true ∧ s.sourceOn (c.val, d.val) = true ∧ s.power.asked = 0 ∧ s.power.asleep = 2) ∧
    (∃ (s : State) (c : Fin 10) (d : Fin 18), s.boot.dieOn = true ∧ s.sourceOn (c.val, d.val) = true ∧ s.power.asked = 0 ∧ s.power.asleep = 2) ∧
    (∃ (s : State) (c : Fin 10) (d : Fin 18), s.boot.dieOn = true ∧ s.sourceOn (c.val, d.val) = true ∧ s.power.asked = 0 ∧ s.power.asleep = 3) ∧
    (∃ (s : State) (d : Nat), s.boot.dieOn = true ∧ s.power.asked = 0 ∧ s.power.asleep = 3 ∧ s.power.timerAt = some d ∧ d ≤ s.now ∧
        bitOf (s.rd PWR_WAKE_EN_EN) 6 = true) :=
  ⟨⟨(wQ State.reset), 1#2, (wQ State.reset).refusers, by decide +kernel⟩,
   ⟨(((wQ State.reset).wr (LANE_STAT_STATE 17) 3).wr (LANE_STAT_STATE 3) 3), 3#2,
       (((wQ State.reset).wr (LANE_STAT_STATE 17) 3).wr (LANE_STAT_STATE 3) 3).refusers, by decide +kernel⟩,
   ⟨((((wP {} State.reset).wr (LANE_STAT_STATE 17) 1).wr DSP_STAT_STATE_A 4)), 3#2,
       (((wP {} State.reset).wr (LANE_STAT_STATE 17) 1).wr DSP_STAT_STATE_A 4).refusers, by decide +kernel⟩,
   ⟨((wP {} State.reset).wr PWR_STAT_ENTRY 1), 3#2, ((wP {} State.reset).wr PWR_STAT_ENTRY 1).refusers, by decide +kernel⟩,
   ⟨((wQ { State.reset with now := 120001 }).onChord 3 (fun c => { c with points := [⟨3, false, 0, 0⟩] }) |>.onPower (fun x => { x with asked := 1, drainBy := some 120000 })), 120000, [3], by decide +kernel⟩,
   ⟨((wQ { State.reset with now := 120000 }).onChord 3 (fun c => { c with points := [⟨3, false, 0, 0⟩] }) |>.onPower (fun x => { x with asked := 3, drainBy := some 119999 })), 119999, 3, [3], by decide +kernel⟩,
   ⟨(wP { asked := 2, early := [(8, 1)] } State.reset), 9, 17, by decide +kernel⟩,
   ⟨(wP { } State.reset), 5, 17, by decide +kernel⟩,
   ⟨((wQ State.reset).onPower (fun x => { x with asleep := 1 })), 1, 17, by decide +kernel⟩,
   ⟨{ (wQ State.reset).onPower (fun x => { x with asleep := 2 }) with coreOn := false }, 1, 17, by decide +kernel⟩,
   ⟨{ wP { asleep := 2 } State.reset with coreOn := false }, 1, 17, by decide +kernel⟩,
   ⟨{ wP { asleep := 3 } State.reset with coreOn := false }, 1, 17, by decide +kernel⟩,
   ⟨{ wP { asleep := 3, timerAt := some 5 } State.reset with coreOn := false, now := 5 }, 5, by decide +kernel⟩⟩

/-- What `LevelRows` supposes is met, clause by clause. -/
theorem wit_LevelRows :
    (∃ (s : State) (v : Reg) (l : Nat), s.coreOn = true ∧ s.power.asleep = 0 ∧ s.locked pwrPage = false ∧ l = bitsOf v.toNat 4 2 ∧
        bitOf v.toNat 1 = true ∧ bitOf v.toNat 0 = false ∧ s.power.crit = false ∧ s.rdB PWR_STAT_PLL_LOCK = true ∧ s.power.change = none ∧
        l < s.rd PWR_STAT_LEVEL) ∧
    (∃ (s : State) (v : Reg) (l : Nat), s.coreOn = true ∧ s.power.asleep = 0 ∧ s.locked pwrPage = false ∧ l = bitsOf v.toNat 4 2 ∧
        bitOf v.toNat 1 = true ∧ bitOf v.toNat 0 = false ∧ s.power.crit = false ∧ s.rdB PWR_STAT_PLL_LOCK = true ∧ s.power.change = none ∧
        s.rd PWR_STAT_LEVEL < l) ∧
    (∃ (s : State) (v : Reg) (l : Nat), s.coreOn = true ∧ s.power.asleep = 0 ∧ s.locked pwrPage = false ∧ l = bitsOf v.toNat 4 2 ∧
        bitOf v.toNat 1 = true ∧ bitOf v.toNat 0 = false ∧ s.power.crit = false ∧ s.rdB PWR_STAT_PLL_LOCK = false) ∧
    (∃ (s : State) (v : Reg) (l : Nat), s.coreOn = true ∧ s.power.asleep = 0 ∧ s.locked pwrPage = false ∧ l = bitsOf v.toNat 4 2 ∧
        bitOf v.toNat 1 = false ∧ s.power.change ≠ none) ∧
    (∃ (s : State) (v : Reg) (l : Nat), s.coreOn = true ∧ s.power.asleep = 0 ∧ s.locked pwrPage = false ∧ l = bitsOf v.toNat 4 2 ∧
        bitOf v.toNat 1 = false ∧ s.rdB PWR_STAT_CLK_SRC = true ∧ s.power.change = none) ∧
    (∃ (s : State) (_v : Reg), s.coreOn = true ∧ s.power.asleep = 0 ∧ s.locked pwrPage = true) ∧
    (∃ (s : State) (l : Fin 4) (pll : Bool) (d : Nat), s.coreOn = true ∧ s.power.change = some (l.val, pll, d) ∧ d ≤ s.now ∧
        s.power.wanted = none) ∧
    (∃ (s : State) (_l : Fin 4), s.coreOn = true ∧ s.power.asleep = 0 ∧ s.power.perf = none ∧ s.power.wanted = none) ∧
    (∃ (s : State) (l : Fin 4), s.coreOn = true ∧ s.power.asleep = 0 ∧ s.power.perf = none ∧ s.power.wanted = some (l.val, true) ∧
        s.power.pllHeld = true ∧ s.power.change = none ∧ s.rd PWR_STAT_LEVEL ≤ l ∧ s.rd PWR_STAT_CLK_SRC = 0) ∧
    (∃ s : State, s.coreOn = true ∧ s.rdB PWR_STAT_PLL_LOCK = true ∧ s.rdB PWR_STAT_CLK_SRC = true) :=
  ⟨⟨(wL 3 1 1 {} State.reset), 0x12#32, 1, by decide +kernel⟩,
   ⟨(wL 1 1 1 {} State.reset), 0x22#32, 2, by decide +kernel⟩,
   ⟨(wL 1 0 0 {} State.reset), 0x22#32, 2, by decide +kernel⟩,
   ⟨(wL 1 1 1 { change := some (1, true, 5) } State.reset), 0x21#32, 2, by decide +kernel⟩,
   ⟨(wL 2 1 1 {} State.reset), 0x21#32, 2, by decide +kernel⟩,
   ⟨{ wL 2 1 1 {} State.reset with locks := State.reset.locks.set pwrPage 1 }, 0x21#32, by decide +kernel⟩,
   ⟨{ wL 1 1 1 { change := some (3, true, 5) } State.reset with now := 5 }, 3, true, 5, by decide +kernel⟩,
   ⟨(wL 3 0 0 {} State.reset), 3, by decide +kernel⟩,
   ⟨(wL 2 0 0 { wanted := some (3, true), pllHeld := true } State.reset), 3, by decide +kernel⟩,
   ⟨(wL 2 1 1 { wanted := some (3, true), pllHeld := true } State.reset), by decide +kernel⟩⟩

/-- What `GovernorRows` supposes is met, clause by clause. -/
theorem wit_GovernorRows :
    (∃ (s : State) (_p : BitVec 16) (_c : BitVec 8) (u : Nat), s.coreOn = true ∧ s.power.asleep = 0 ∧
        s.power.periodAt + max 1 (s.rd PWR_GOV_PERIOD) * 1000000 ≤ s.now ∧
        u = min 65535 (s.power.spent * 1000 / (4 * (s.now - s.power.periodAt))) ∧ s.rdB PWR_STAT_CLK_SRC = false) ∧
    (∃ (s : State) (_p : BitVec 16) (_c : BitVec 8) (u : Nat), s.coreOn = true ∧ s.power.asleep = 0 ∧
        s.power.periodAt + max 1 (s.rd PWR_GOV_PERIOD) * 1000000 ≤ s.now ∧
        u = min 65535 (s.power.spent * 1000 / (4 * (s.now - s.power.periodAt))) ∧ s.rdB PWR_STAT_CLK_SRC = false) ∧
    (∃ (s : State) (_p : BitVec 16) (c : BitVec 8) (u : Nat), s.coreOn = true ∧ s.power.asleep = 0 ∧
        s.power.periodAt + max 1 (s.rd PWR_GOV_PERIOD) * 1000000 ≤ s.now ∧
        u = min 65535 (s.power.spent * 1000 / (4 * (s.now - s.power.periodAt))) ∧ s.rdB PWR_STAT_CLK_SRC = true ∧ s.rdB PWR_STAT_PLL_LOCK = true ∧
        s.rdB PWR_PERF_AUTO = true ∧ s.rdB PWR_GOV_GOV_EN = true ∧ s.power.change = none ∧ s.rd PWR_STAT_LEVEL < 3 ∧
        (s.rd PWR_THERM_HOT : Nat) ≤ c.toInt ∧ c.toInt < (s.rd PWR_THERM_CRIT : Nat)) ∧
    (∃ (s : State) (c : BitVec 8), s.coreOn = true ∧ (s.rd PWR_THERM_CRIT : Nat) ≤ c.toInt ∧ s.rdB PWR_STAT_CLK_SRC = false) ∧
    (∃ (s : State) (c : BitVec 8), s.coreOn = true ∧ (s.rd PWR_THERM_CRIT : Nat) ≤ c.toInt ∧ s.rdB PWR_STAT_CLK_SRC = true ∧
        s.rdB PWR_STAT_PLL_LOCK = true ∧ s.power.change = none ∧ s.rd PWR_STAT_LEVEL < 3) ∧
    (∃ s : State, s.boot.dieOn = true ∧ s.coreOn = true ∧ s.boot.rails = true) ∧
    (∃ (s : State) (v : Reg) (w h c : Nat), s.coreOn = true ∧ w = bitsOf v.toNat 16 8 ∧ h = bitsOf v.toNat 8 8 ∧ c = bitsOf v.toNat 0 8 ∧
        s.locked pwrPage = false ∧ (¬ (w < h ∧ h < c ∧ c ≤ 110))) ∧
    (∃ (s : State) (v : Reg) (w h c : Nat), s.coreOn = true ∧ w = bitsOf v.toNat 16 8 ∧ h = bitsOf v.toNat 8 8 ∧ c = bitsOf v.toNat 0 8 ∧
        s.locked pwrPage = false ∧ (w < h ∧ h < c ∧ c ≤ 110)) ∧
    (∃ (s : State) (v : Reg) (w h c : Nat), s.coreOn = true ∧ w = bitsOf v.toNat 16 8 ∧ h = bitsOf v.toNat 8 8 ∧ c = bitsOf v.toNat 0 8 ∧
        s.locked pwrPage = true) :=
  ⟨⟨{ ((wL 3 0 0 { spent := 4000000 } State.reset).wr PWR_GOV_PERIOD 1).wr CMP_STAT_ETOK_RATE 1 with now := 1000000 }, 500#16, 200#8, 1000,
      by decide +kernel⟩,
   ⟨{ ((wL 3 0 0 { spent := 4000 } State.reset).wr PWR_GOV_PERIOD 1).wr PWR_BUDGET_W 34 with now := 1000000 }, 60000#16, 127#8, 1,
       by decide +kernel⟩,
   ⟨{ ((((wL 1 1 1 { spent := 4000 } State.reset).wr PWR_GOV_PERIOD 1).wr PWR_BUDGET_W 34).wr PWR_THERM_HOT 100).wr PWR_THERM_CRIT 108 with now := 1000000 }, 60000#16, 100#8, 1, by decide +kernel⟩,
   ⟨((wL 1 0 1 { spent := 4000 } State.reset).wr PWR_THERM_CRIT 108), 108#8, by decide +kernel⟩,
   ⟨((wL 1 1 1 { spent := 4000 } State.reset).wr PWR_THERM_CRIT 108), 108#8, by decide +kernel⟩,
   ⟨(wL 1 1 1 {} State.reset), by decide +kernel⟩,
   ⟨(wL 1 1 1 {} State.reset), 0x006D6E00#32, 109, 110, 0, by decide +kernel⟩,
   ⟨(wL 1 1 1 {} State.reset), 0x006C6D6E#32, 108, 109, 110, by decide +kernel⟩,
   ⟨{ wL 1 1 1 {} State.reset with locks := State.reset.locks.set pwrPage 1 }, 0x006C6D6E#32, 108, 109, 110, by decide +kernel⟩⟩


end Power

namespace Reset

def wB (x : Boot) (b : State) : State := { (wOn b).wr CHIP_STRAP_STRAPS 4 with boot := x, locks := Map.empty, power := {} }
def wFeed (b : State) : State := { b with pd := { b.pd with feeds := b.pd.feeds.set 0 { pg := true, st := .on } } }
def okCopy : CfgCopy := { hdr := [0x4B4E4346, 3 * 2 ^ 24 + 1, 9, 5 * 2 ^ 6] ++ words256 (Config.sha256 [0, 0, 0, 0]) ++ cfgTag ([0x4B4E4346, 3 * 2 ^ 24 + 1, 9, 5 * 2 ^ 6] ++ words256 (Config.sha256 [0, 0, 0, 0])) ++ [0, 9] }
theorem okCopy_ok : okCopy.ok = true := by
  have hd : (okCopy.hdr.drop 4).take 8 = okCopy.digest okCopy.len := rfl
  have ht : (okCopy.hdr.drop 12).take 2 = cfgTag okCopy.hdr := rfl
  have h : okCopy.format = 3 ∧ okCopy.w 0 = 0x4B4E4346 ∧ okCopy.w 2 ≠ 0 ∧ okCopy.w 15 = okCopy.w 2 ∧ 1 ≤ okCopy.len ∧ okCopy.len ≤ 16368 := by
    and_intros <;> decide
  simp [CfgCopy.ok, CfgCopy.sound, hd, ht, h]
theorem okCopy_pick : ({ copy1 := okCopy } : Stored).pick = some true := by
  have h0 : ({ copy1 := okCopy } : Stored).copy0.ok = false := by decide
  have h1 : ({ copy1 := okCopy } : Stored).copy1.ok = true := okCopy_ok
  simp only [Stored.pick, h0, h1]; decide
def ent : Entry := { kind := 5, vc := 4, inPort := 20, queue := 20, destMask := 2 ^ 3 }
def wTu (b : State) : State := { (wB { started := true } b).wr (LANE_CTL_ENABLE 3) 1 |>.wr (LANE_STAT_STATE 3) 3 with stored := { tunnels := [(7, 0x600 :: ent.words)] }, ids := {}, tuns := Map.empty }
def uTu (b : State) : State := ((wTu b).onStored (fun z => { z with tunnels := [] })).writeEntry 0x600 (putBits (ent.words.headD 0) 10 1 1 :: ent.words.tail) true |>.1
def wTu2 (b : State) : State := { ((wTu b).wr CHIP_STAT_ROLE 0).wr CHIP_STAT_HUB 0 with ids := { docks := [(0, 3, 9)] } }
def uTu2 (b : State) : State := ((wTu2 b).onStored (fun z => { z with tunnels := [] })).writeEntry 0x600 (putBits (ent.words.headD 0) 10 1 1 :: ent.words.tail) true |>.1
def wI (x : Stored) (b : State) : State := { (((wOn b).wr FEED_STAT_WARN 0).wr CFG_STAT_BUSY 0) with stored := x, locks := Map.empty }

/-- What `ResetRows` supposes is met, clause by clause. -/
theorem wit_ResetRows :
    (∃ (s : State) (_straps : BitVec 6), s.boot.dieOn = false) ∧
    (∃ s : State, s.boot.dieOn = true ∧ s.held = true ∧ s.boot.rails = false ∧ s.testStrap = false ∧ s.feedPg = true) ∧
    (∃ s : State, s.boot.dieOn = true ∧ s.held = true ∧ s.boot.rails = false ∧ s.testStrap = false ∧ s.feedPg = false ∧ s.cableStart = true) ∧
    (∃ s : State, s.boot.dieOn = true ∧ s.held = true ∧ s.boot.rails = false ∧ s.testStrap = false ∧ s.feedPg = false ∧ s.cableStart = false) ∧
    (∃ (s : State) (_v : Reg), s.boot.dieOn = true ∧ s.coreOn = true) ∧
    (∃ (s : State) (_v : Reg), s.boot.dieOn = true ∧ s.coreOn = true ∧ bitOf (s.rd CHIP_STRAP_STRAPS) 2 = true) ∧
    (∃ (s : State) (v : Reg), s.boot.dieOn = true ∧ s.coreOn = true ∧ bitsOf v.toNat 8 8 = 0x5A ∧ bitOf v.toNat 0 = true) ∧
    (∃ (s : State) (_v : Reg), s.boot.dieOn = true ∧ s.coreOn = true) ∧
    (∃ (s : State) (_v : Reg), s.boot.dieOn = true ∧ s.coreOn = true) ∧
    (∃ (s : State) (_v : Reg), s.boot.dieOn = true ∧ s.coreOn = true) ∧
    (∃ (s : State) (_v : Reg), s.boot.dieOn = true ∧ s.coreOn = true) ∧
    (∃ (s : State) (_v : Reg), s.boot.dieOn = true ∧ s.coreOn = true) ∧
    (∃ (s : State) (_v : Reg), s.boot.dieOn = true ∧ s.coreOn = true ∧ bitOf (s.rd CHIP_STRAP_STRAPS) 2 = false) ∧
    (∃ (s : State) (v : Reg), s.boot.dieOn = true ∧ s.coreOn = true ∧ bitsOf v.toNat 8 8 ≠ 0x5A) ∧
    (∃ s : State, s.boot.dieOn = true ∧ s.held = true ∧ s.boot.at_ / 40 = s.now / 40 ∧ s.boot.seen = [5]) ∧
    (∃ (s : State) (d : Nat), s.coreOn = true ∧ s.rd RST_WDOG_HOST_PERIOD ≠ 0 ∧ s.boot.hostBy = some d ∧ d < s.now) ∧
    (∃ (s : State) (d : Nat), s.coreOn = true ∧ s.boot.started = true ∧ s.rdB RST_STAT_RESTORING = true ∧ s.boot.late = false ∧
        s.boot.released = some d ∧ d + 15000000 < s.now) ∧
    (∃ (s : State) (v : Reg), s.coreOn = true ∧ s.locked rstPage = false ∧ bitsOf v.toNat 0 16 ≠ 0 ∧ bitOf v.toNat 31 = true) ∧
    (∃ (s : State) (v : Reg), s.coreOn = true ∧ s.locked rstPage = false ∧ bitsOf v.toNat 0 16 = 0) :=
  ⟨⟨(wB { dieOn := false } State.reset), 63#6, by decide +kernel⟩,
   ⟨{ wFeed (wB { rails := false } State.reset) with coreOn := false }, by decide +kernel⟩,
   ⟨{ (((((wB { rails := false } State.reset).wr CHIP_STRAP_STRAPS 1).wr TAN_STAT_DB_ACTIVE 1).wr TAN_STAT_DB_PORT 17).wr (TAN_PORT_STAT_MAIN_ON 17) 1).wr (TAN_CONTRACT_P_C 17) 200 |>.wr TAN_DB_MIN_W 100 |>.wr (TAN_PORT_STAT_MAIN_SRC 17) 0 with coreOn := false, pd := {} }, by decide +kernel⟩,
   ⟨{ wB { rails := false } State.reset with coreOn := false, pd := {} }, by decide +kernel⟩,
   ⟨(wB {} State.reset), 0x5A01#32, by decide +kernel⟩,
   ⟨(wB {} State.reset), 0x5A01#32, by decide +kernel⟩,
   ⟨(wB {} State.reset), 0x5A01#32, by decide +kernel⟩,
   ⟨(wB {} State.reset), 0x5A01#32, by decide +kernel⟩,
   ⟨(wB {} State.reset), 0x5A01#32, by decide +kernel⟩,
   ⟨(wB {} State.reset), 0x5A01#32, by decide +kernel⟩,
   ⟨(wB {} State.reset), 0x5A01#32, by decide +kernel⟩,
   ⟨(wB {} State.reset), 0x5A01#32, by decide +kernel⟩,
   ⟨((wB {} State.reset).wr CHIP_STRAP_STRAPS 0), 0x5B01#32, by decide +kernel⟩,
   ⟨((wB {} State.reset).wr CHIP_STRAP_STRAPS 0), 0x5B01#32, by decide +kernel⟩,
   ⟨{ wB { seen := [5], at_ := 80 } State.reset with coreOn := false, now := 119 }, by decide +kernel⟩,
   ⟨{ (wB { hostBy := some 9 } State.reset).wr RST_WDOG_HOST_PERIOD 65535 with now := 10 }, 9, by decide +kernel⟩,
   ⟨{ (wB { started := true, released := some 9 } State.reset).wr RST_STAT_RESTORING 1 with now := 15000010 }, 9, by decide +kernel⟩,
   ⟨(wB {} State.reset), 0x8000FFFF#32, by decide +kernel⟩,
   ⟨(wB {} State.reset), 0#32, by decide +kernel⟩⟩

/-- What `BootRows` supposes is met, clause by clause. -/
theorem wit_BootRows :
    (∃ (s : State) (code : Nat), s.boot.dieOn = true ∧ s.boot.rails = true ∧ s.boot.started = false ∧ s.testStrap = false ∧
        ((s.boot.released = none ∨ s.boot.released = some 0 ∧ 64000000 ≤ s.now)) ∧ s.boot.seen.min? = some code ∧ 1 ≤ code ∧ code ≤ 10 ∧
        s.stored.pick = none) ∧
    (∃ (s : State) (code : Nat), s.boot.dieOn = true ∧ s.boot.rails = true ∧ s.boot.started = false ∧ s.testStrap = false ∧
        ((s.boot.released = none ∨ s.boot.released = some 0 ∧ 64000000 ≤ s.now)) ∧ s.boot.seen.min? = some code ∧ 1 ≤ code ∧ code ≤ 10 ∧
        s.stored.pick = none) ∧
    (∃ (s : State) (code : Nat), s.boot.dieOn = true ∧ s.boot.rails = true ∧ s.boot.started = false ∧ s.testStrap = false ∧
        ((s.boot.released = none ∨ s.boot.released = some 0 ∧ 64000000 ≤ s.now)) ∧ s.boot.seen.min? = some code ∧ 1 ≤ code ∧ code ≤ 10 ∧
        s.stored.pick = none) ∧
    (∃ (s : State) (b : Bool), s.boot.dieOn = true ∧ s.boot.rails = true ∧ s.boot.started = false ∧ s.testStrap = false ∧ s.boot.released = none ∧
        s.boot.seen = [2] ∧ s.stored.pick = some b ∧ (s.stored.copy b).body.get 0 = 0) ∧
    (∃ (s : State) (i n : Nat) (x : Nat) (ws : List Nat) (rest : List (Nat × List Nat)), s.coreOn = true ∧ s.boot.started = true ∧
        s.stored.tunnels = (i, x :: ws) :: rest ∧ ((Entry.ofWords ws).path.filter (· < 18)).all s.active = true ∧ n = bitsOf x 0 12 ∧
        (protectedTun n = true ∨ n = 0) ∧ s.isLeaf = false) ∧
    (∃ (s u v : State) (i n : Nat) (x y : Nat) (ws : List Nat) (rest : List (Nat × List Nat)), s.coreOn = true ∧ s.boot.started = true ∧
        s.stored.tunnels = (i, x :: y :: ws) :: rest ∧ ((Entry.ofWords (y :: ws)).path.filter (· < 18)).all s.active = true ∧ n = bitsOf x 0 12 ∧
        protectedTun n = false ∧ n ≠ 0 ∧ (s.tun n).e.state = .free ∧
        (s.onStored (fun z => { z with tunnels := rest })).writeEntry n (putBits y 10 1 1 :: ws) true = (u, 0) ∧ u.reserveTun n = (v, 0) ∧
        v.openOk n = true ∧ v.openStatus n = 0 ∧ s.isLeaf = false ∧ v.alone n) ∧
    (∃ (s u v : State) (i n : Nat) (x y : Nat) (ws : List Nat) (rest : List (Nat × List Nat)), s.coreOn = true ∧ s.boot.started = true ∧
        s.stored.tunnels = (i, x :: y :: ws) :: rest ∧ ((Entry.ofWords (y :: ws)).path.filter (· < 18)).all s.active = true ∧ n = bitsOf x 0 12 ∧
        protectedTun n = false ∧ n ≠ 0 ∧ (s.tun n).e.state = .free ∧
        (s.onStored (fun z => { z with tunnels := rest })).writeEntry n (putBits y 10 1 1 :: ws) true = (u, 0) ∧ u.reserveTun n = (v, 0) ∧
        v.openOk n = true ∧ v.openStatus n = 0 ∧ s.isLeaf = false ∧ (¬ v.alone n) ∧ v.leavesUp (v.tun n).e = true) ∧
    (∃ (s : State) (i : Nat) (ws : List Nat) (rest : List (Nat × List Nat)), s.coreOn = true ∧ s.boot.started = true ∧ s.stored.tunnels = (i,
        ws) :: rest ∧ ((Entry.ofWords (ws.drop 1)).path.filter (· < 18)).all s.active = true ∧ s.isLeaf = true) ∧
    (∃ (s : State) (i : Nat) (ws : List Nat) (rest : List (Nat × List Nat)), s.coreOn = true ∧ s.stored.tunnels = (i, ws) :: rest ∧
        ((Entry.ofWords (ws.drop 1)).path.filter (· < 18)).all s.active = false) :=
  ⟨⟨{ wB { seen := [10] } State.reset with stored := {}, coreOn := false }, 10, by decide +kernel⟩,
   ⟨{ wB { seen := [1], rcnt := 15, short := 2 ^ 40 - 1, released := some 0 } State.reset with stored := {}, now := 64000000, coreOn := false },
       1, by decide +kernel⟩,
   ⟨{ wB { seen := [5, 2] } State.reset with stored := { copy1 := { hdr := List.replicate 16 7 } }, coreOn := false }, 2, by decide +kernel⟩,
   ⟨{ wB { seen := [2] } State.reset with stored := { copy1 := okCopy }, coreOn := false }, true,
       by and_intros <;> first | decide +kernel | rfl | exact okCopy_pick⟩,
   ⟨{ (wB { started := true } State.reset).wr (LANE_STAT_STATE 0) 3 with stored := { tunnels := [(70000, [0, 0, 0])] } }, 70000, 0, 0, [0, 0],
       [], by decide +kernel⟩,
   ⟨(wTu State.reset), (uTu State.reset), ((uTu State.reset).reserveTun 0x600).1, 7, 0x600, 0x600, (ent.words.headD 0), ent.words.tail, [],
       (by unfold State.alone; decide +kernel)⟩,
   ⟨(wTu2 State.reset), (uTu2 State.reset), ((uTu2 State.reset).reserveTun 0x600).1, 7, 0x600, 0x600, (ent.words.headD 0), ent.words.tail, [],
       (by unfold State.alone; decide +kernel)⟩,
   ⟨((wTu State.reset).wr CHIP_STAT_ROLE 1), 7, (0x600 :: ent.words), [], by decide +kernel⟩,
   ⟨((wTu State.reset).wr (LANE_STAT_STATE 3) 7), 7, (0x600 :: ent.words), [], by decide +kernel⟩⟩

/-- What `ImageRows` supposes is met, clause by clause. -/
theorem wit_ImageRows :
    (∃ s : State, s.coreOn = true ∧ s.rdB FEED_STAT_WARN = false ∧ s.locked cfgPage = false ∧ s.rdB CFG_STAT_BUSY = false ∧
        s.stored.copy0.hdr = List.replicate 16 0 ∧ s.stored.copy1.hdr = List.replicate 16 0) ∧
    (∃ s : State, s.coreOn = true ∧ (s.rdB FEED_STAT_WARN = true ∨ s.locked cfgPage = true ∨ s.rdB CFG_STAT_BUSY = true)) ∧
    (∃ s : State, s.coreOn = true ∧ (s.rdB FEED_STAT_WARN = true ∨ s.locked cfgPage = true ∨ s.rdB CFG_STAT_BUSY = true)) ∧
    (∃ (s : State) (b : Bool), s.coreOn = true ∧ s.rdB FEED_STAT_WARN = false ∧ s.locked cfgPage = false ∧ s.rdB CFG_STAT_BUSY = false ∧
        b = (!s.stored.copy1.ok || s.stored.copy0.ok && decide (s.stored.copy1.w 2 ≤ s.stored.copy0.w 2))) ∧
    (∃ (s : State) (_v : Reg), s.coreOn = true ∧ s.rdB CFG_STAT_BUSY = true ∧ s.stored.target = some false ∧ s.stored.committing = none ∧
        s.rd CFG_WADDR_ADDR < 16368) ∧
    (∃ (s : State) (_v : Reg), s.coreOn = true ∧ s.rdB CFG_STAT_BUSY = true ∧ s.stored.target = some false ∧ s.stored.committing = none ∧
        16368 ≤ s.rd CFG_WADDR_ADDR) ∧
    (∃ (s : State) (b : Bool) (g : Nat), s.coreOn = true ∧ s.rdB FEED_STAT_WARN = false ∧ s.locked cfgPage = false ∧ s.stored.committing = none ∧
        s.stored.target = some b ∧ s.rd CFG_HDR1_FORMAT = 3 ∧ 1 ≤ s.rd CFG_HDR1_LEN ∧ s.rd CFG_HDR1_LEN ≤ 16368 ∧
        s.rd CFG_HDR1_LEN ≤ s.rd CFG_WADDR_ADDR ∧ g = (if (s.stored.copy (!b)).ok then ((s.stored.copy (!b)).w 2 + 1) % 2 ^ 32 else 1)) ∧
    (∃ (s : State), s.coreOn = true ∧ s.rdB FEED_STAT_WARN = false ∧ s.locked cfgPage = false ∧ s.stored.committing = none ∧
        s.stored.target = none) ∧
    (∃ (s : State), s.coreOn = true ∧ s.rdB FEED_STAT_WARN = false ∧ s.locked cfgPage = false ∧ s.stored.committing = none ∧
        s.stored.target = some false ∧ s.rd CFG_HDR1_FORMAT = 3 ∧ 1 ≤ s.rd CFG_HDR1_LEN ∧ s.rd CFG_HDR1_LEN ≤ 16368 ∧
        s.rd CFG_HDR1_LEN ≤ s.rd CFG_WADDR_ADDR ∧ s.stored.copy1.hdr = List.replicate 16 0) ∧
    (∃ (s : State), s.coreOn = true ∧ s.rdB FEED_STAT_WARN = false ∧ s.locked cfgPage = false ∧ s.stored.committing = none ∧
        s.stored.target = some false ∧ s.rd CFG_HDR1_FORMAT = 3 ∧ 1 ≤ s.rd CFG_HDR1_LEN ∧ s.rd CFG_HDR1_LEN ≤ 16368 ∧
        s.rd CFG_HDR1_LEN ≤ s.rd CFG_WADDR_ADDR ∧ s.stored.copy1.hdr = List.replicate 16 0) ∧
    (∃ (s : State), s.coreOn = true ∧ s.rdB FEED_STAT_WARN = false ∧ s.locked cfgPage = false ∧ s.stored.committing = none ∧
        s.stored.target = some false ∧ s.rd CFG_WADDR_ADDR < s.rd CFG_HDR1_LEN) :=
  ⟨⟨(wI {} State.reset), by decide +kernel⟩,
   ⟨((wI {} State.reset).wr CFG_STAT_BUSY 1), by decide +kernel⟩,
   ⟨{ wI {} State.reset with locks := State.reset.locks.set 3 1 }, by decide +kernel⟩,
   ⟨(wI {} State.reset), true, by decide +kernel⟩,
   ⟨(((wI { target := some false } State.reset).wr CFG_STAT_BUSY 1).wr CFG_WADDR_ADDR 16367), 0xFFFFFFFF#32, by decide +kernel⟩,
   ⟨(((wI { target := some false } State.reset).wr CFG_STAT_BUSY 1).wr CFG_WADDR_ADDR 16368), 0xFFFFFFFF#32, by decide +kernel⟩,
   ⟨((((wI { target := some true } State.reset).wr CFG_HDR1_FORMAT 3).wr CFG_HDR1_LEN 16368).wr CFG_WADDR_ADDR 16368), true, 1,
       by decide +kernel⟩,
   ⟨(wI {} State.reset), by decide +kernel⟩,
   ⟨((((wI { target := some false } State.reset).wr CFG_HDR1_FORMAT 3).wr CFG_HDR1_LEN 16368).wr CFG_WADDR_ADDR 16368), by decide +kernel⟩,
   ⟨((((wI { target := some false } State.reset).wr CFG_HDR1_FORMAT 3).wr CFG_HDR1_LEN 16368).wr CFG_WADDR_ADDR 16368), by decide +kernel⟩,
   ⟨((((wI { target := some false } State.reset).wr CFG_HDR1_FORMAT 3).wr CFG_HDR1_LEN 16368).wr CFG_WADDR_ADDR 16367), by decide +kernel⟩⟩


end Reset

namespace Log

def wG (l : LogUnit) (b : State) : State := { wOn b with log := l, power := {}, boot := { b.boot with dieOn := true } }.wr LOG_CMD_BUSY 0
def m1 : Map (0 : Nat) := (Map.empty.set 0 4294967294).set 0x33 7
def wD (x : Diag) (b : State) : State := { (wOn b).wr DIAG_CMD_BUSY 0 with diag := x }
def w0 (b : State) : State := b.each (List.range 18) (fun p s => s.wr (CHD_SPILL_USED p) 0)
def pc : PatCheck := { on := true, syncA := true, syncB := true, recentA := [(5, 1000)], recentB := [(5, 1000)], errA := 4 }

/-- What `LogRows` supposes is met, clause by clause. -/
theorem wit_LogRows :
    (∃ (s : State) (_c : Int), s.boot.dieOn = true ∧ s.log.minuteAt ≤ s.now ∧ s.coreOn = true ∧ s.power.asleep = 0 ∧ s.rd PWR_STAT_LEVEL < 4) ∧
    (∃ (s : State) (_c : Int), s.boot.dieOn = true ∧ s.log.minuteAt ≤ s.now ∧ s.coreOn = false) ∧
    (∃ s : State, s.coreOn = true ∧ s.log.writing = none ∧ s.log.nextAt ≤ s.now) ∧
    (∃ s : State, s.coreOn = true ∧ s.log.writing = none ∧ s.rdB LOG_CMD_BUSY = false ∧
        s.log.cmdAt.all (fun d => d + 1000000000 ≤ s.now) = true) ∧
    (∃ (s : State) (d : Nat), s.coreOn = true ∧ s.rdB LOG_CMD_BUSY = false ∧ s.log.cmdAt = some d ∧ s.now < d + 1000000000) ∧
    (∃ (s : State) (w : Map (0 : Nat)), s.coreOn = true ∧ s.log.writing = some w ∧ s.log.again = false ∧ s.log.held = []) ∧
    (∃ (s : State) (w : Map (0 : Nat)), s.coreOn = true ∧ s.log.writing = some w ∧ s.log.again = false ∧ s.log.held = [] ∧
        s.log.retried = false) ∧
    (∃ (s : State) (w : Map (0 : Nat)), s.coreOn = true ∧ s.log.writing = some w ∧ s.log.again = false ∧ s.log.held = [] ∧
        s.log.retried = true) ∧
    (∃ (s : State) (w : Map (0 : Nat)), s.coreOn = true ∧ s.log.writing = some w) ∧
    (∃ (s : State) (w : Map (0 : Nat)), s.coreOn = true ∧ s.log.writing = some w ∧ s.log.startAt ≠ s.now ∧ s.rdB LOG_CMD_BUSY = false ∧
        s.log.cmdAt.all (fun d => d + 1000000000 ≤ s.now) = true) ∧
    (∃ (s : State) (w : Map (0 : Nat)), s.coreOn = true ∧ s.log.writing = some w ∧ s.log.startAt ≠ s.now ∧ s.log.nextAt ≤ s.now) ∧
    (∃ (s : State) (maint : Bool) (key : BitVec 8), s.coreOn = true ∧ s.rdB LOG_CMD_BUSY = false ∧ maint = true ∧ s.rd KEY_STAT_LC = 3 ∧
        key = 0xC3 ∧ s.log.writing = none) ∧
    (∃ (s : State) (maint : Bool) (key : BitVec 8), s.coreOn = true ∧ s.rdB LOG_CMD_BUSY = false ∧
        (maint = false ∨ s.rd KEY_STAT_LC ≠ 3 ∨ key ≠ 0xC3)) :=
  ⟨⟨{ (wG { work := m1 } State.reset).wr PWR_STAT_LEVEL 3 with now := 60000000000 }, (-1), by decide +kernel⟩,
   ⟨{ (wG { work := m1, kept := m1 } State.reset).wr PWR_STAT_LEVEL 3 with now := 60000000000, coreOn := false, power := { asleep := 2 } }, (-1),
       by decide +kernel⟩,
   ⟨{ (wG { work := m1, bank0 := { gen := 5, commit := 5 } } State.reset) with now := 600000000000 }, by decide +kernel⟩,
   ⟨{ (wG { work := m1, bank0 := { gen := 5, commit := 5 } } State.reset) with now := 600000000000 }, by decide +kernel⟩,
   ⟨{ (wG { cmdAt := some 5 } State.reset) with now := 1000000004 }, 5, by decide +kernel⟩,
   ⟨(wG { bank1 := { gen := 4294967295 }, writing := some m1, byCmd := true } State.reset), m1, by decide +kernel⟩,
   ⟨(wG { bank1 := { gen := 4294967295 }, writing := some m1, byCmd := true } State.reset), m1, by decide +kernel⟩,
   ⟨(wG { writing := some m1, retried := true } State.reset), m1, by decide +kernel⟩,
   ⟨{ wG { bank1 := { gen := 4294967295 }, writing := some m1, byCmd := true, again := true, againCmd := true, held := [[1, 2]], startAt := 5, nextAt := 0, cmdAt := some 5 } State.reset with now := 1000000005 }, m1, by decide +kernel⟩,
   ⟨{ wG { bank1 := { gen := 4294967295 }, writing := some m1, byCmd := true, again := true, againCmd := true, held := [[1, 2]], startAt := 5, nextAt := 0, cmdAt := some 5 } State.reset with now := 1000000005 }, m1, by decide +kernel⟩,
   ⟨{ wG { bank1 := { gen := 4294967295 }, writing := some m1, byCmd := true, again := true, againCmd := true, held := [[1, 2]], startAt := 5, nextAt := 0, cmdAt := some 5 } State.reset with now := 1000000005 }, m1, by decide +kernel⟩,
   ⟨((wG { ring := [[1, 2]] } State.reset).wr KEY_STAT_LC 3), true, 0xC3#8, by decide +kernel⟩,
   ⟨((wG { ring := [[1, 2]] } State.reset).wr KEY_STAT_LC 3), true, 0xC2#8, by decide +kernel⟩⟩

/-- What `DiagnosticsRows` supposes is met, clause by clause. -/
theorem wit_DiagnosticsRows :
    (∃ (s : State) (_q : Fin 18), s.coreOn = true ∧ s.rdB DIAG_CMD_BUSY = false ∧ ((∀ p : Fin 18, s.rd (CHD_SPILL_USED p) = 0))) ∧
    (∃ (s : State) (_q : Fin 18), s.coreOn = true ∧ s.rdB DIAG_CMD_BUSY = false) ∧
    (∃ (s : State) (q : Fin 18), s.coreOn = true ∧ s.rdB DIAG_CMD_BUSY = false ∧ s.rd (CHD_SPILL_USED q) ≠ 0) ∧
    (∃ (s : State) (e : BitVec 19) (_a : BitVec 16) (_u : BitVec 4), s.coreOn = true ∧ s.diag.test = 1 ∧ e = 0) ∧
    (∃ (s : State) (e : BitVec 19) (_a : BitVec 16) (_u : BitVec 4), s.coreOn = true ∧ s.diag.test = 1 ∧ e ≠ 0) ∧
    (∃ (s : State) (_e : BitVec 19) (_a : BitVec 16) (_u : BitVec 4), s.coreOn = true ∧ s.diag.test = 2) ∧
    (∃ (s : State) (_e : BitVec 19) (_a : BitVec 16) (_u : BitVec 4), s.coreOn = true ∧ s.diag.test = 2) ∧
    (∃ (s : State) (v : Bool) (p : Fin 18) (c : PatCheck), s.coreOn = true ∧ s.rd DIAG_PSEL_PORT = p ∧ c = s.diag.pats.get p ∧ v = true ∧
        c.on = false) ∧
    (∃ (s : State) (_v : Bool) (p : Fin 18) (c : PatCheck), s.coreOn = true ∧ s.rd DIAG_PSEL_PORT = p ∧ c = s.diag.pats.get p) ∧
    (∃ (s : State) (v : Bool) (p : Fin 18) (c : PatCheck), s.coreOn = true ∧ s.rd DIAG_PSEL_PORT = p ∧ c = s.diag.pats.get p ∧
        (v = false ∨ c.on = true)) ∧
    (∃ (s : State) (p : Fin 18) (c : PatCheck), s.coreOn = true ∧ c = s.diag.pats.get p ∧ c.on = true ∧ c.syncB = true ∧
        1000 ≤ c.burst true s.now) ∧
    (∃ (s : State) (p : Fin 18) (c : PatCheck), s.coreOn = true ∧ c = s.diag.pats.get p ∧ c.on = true ∧ c.syncA = true ∧
        1000 ≤ c.burst false s.now) :=
  ⟨⟨(w0 (wD {} State.reset)), 17, by decide +kernel⟩,
   ⟨(w0 (wD {} State.reset)), 17, by decide +kernel⟩,
   ⟨((wD {} State.reset).wr (CHD_SPILL_USED 17) 1), 17, by decide +kernel⟩,
   ⟨(wD { test := 1 } State.reset), 0#19, 5#16, 15#4, by decide +kernel⟩,
   ⟨(wD { test := 1 } State.reset), 524287#19, 65535#16, 15#4, by decide +kernel⟩,
   ⟨(wD { test := 2 } State.reset), 524287#19, 65535#16, 15#4, by decide +kernel⟩,
   ⟨(wD { test := 2 } State.reset), 0#19, 65535#16, 0#4, by decide +kernel⟩,
   ⟨((wD { pats := Map.empty.set 17 { pc with on := false } } State.reset).wr DIAG_PSEL_PORT 17), true, 17, { pc with on := false },
       by decide +kernel⟩,
   ⟨((wD { pats := Map.empty.set 17 { pc with on := false } } State.reset).wr DIAG_PSEL_PORT 17), true, 17, { pc with on := false },
       by decide +kernel⟩,
   ⟨((wD { pats := Map.empty.set 17 pc } State.reset).wr DIAG_PSEL_PORT 17), true, 17, pc, by decide +kernel⟩,
   ⟨{ wD { pats := Map.empty.set 17 pc } State.reset with now := 5 }, 17, pc, by decide +kernel⟩,
   ⟨{ wD { pats := Map.empty.set 17 pc } State.reset with now := 5 }, 17, pc, by decide +kernel⟩⟩


end Log

namespace Rules

def wCr (r : Cred) (b : State) : State := (wLink 17 3 b).onChord 17 (fun c => { c with vc4 := r })
def crW (vc data lim : Nat) : Word := pack [(34, 6, 6), (31, 3, vc), (30, 1, data), (14, 16, lim)]
def wEn (b : State) : State := { ((((((wOn b).wr PWR_BUDGET_W 25).wr PWR_GOV_EPW 400).wr PWR_GOV_PERIOD 1).wr PWR_THERM_HOT 100).wr PWR_THERM_WARN 95).wr PWR_GOV_GOV_EN 1 with power := { spent := 12000000 }, now := 1000000 }

/-- What `CreditLimitRule` supposes is met, clause by clause. -/
theorem wit_CreditLimitRule :
    (∃ (s : State) (p : Fin 18) (w : Word) (vc lim : Nat) (r : Cred), s.coreOn = true ∧ s.active p = true ∧ fld w 34 6 = 0x06 ∧ vc = fld w 31 3 ∧
        lim = fld w 14 16 ∧ r = (s.chord p).cred vc ∧ (1 ≤ vc ∧ vc ≤ 5 ∧ r.cless = false) ∧ fld w 30 1 = 0 ∧ (modSub 16 lim r.ccH ≤ 32767 ∧
        modSub 16 lim r.clH ≤ 32767)) ∧
    (∃ (s : State) (p : Fin 18) (w : Word) (vc lim : Nat) (r : Cred), s.coreOn = true ∧ s.active p = true ∧ fld w 34 6 = 0x06 ∧ vc = fld w 31 3 ∧
        lim = fld w 14 16 ∧ r = (s.chord p).cred vc ∧ (1 ≤ vc ∧ vc ≤ 5 ∧ r.cless = false) ∧ fld w 30 1 = 1 ∧ (modSub 16 lim r.ccD ≤ 32767 ∧
        modSub 16 lim r.clD ≤ 32767)) ∧
    (∃ (s : State) (p : Fin 18) (w : Word) (vc lim : Nat) (r : Cred), s.coreOn = true ∧ s.active p = true ∧ fld w 34 6 = 0x06 ∧ vc = fld w 31 3 ∧
        lim = fld w 14 16 ∧ r = (s.chord p).cred vc ∧ (vc = 0 ∨ 5 < vc ∨ r.cless = true ∨ fld w 30 1 = 0 ∧
        (32767 < modSub 16 lim r.ccH ∨ 32767 < modSub 16 lim r.clH) ∨ fld w 30 1 = 1 ∧
        (32767 < modSub 16 lim r.ccD ∨ 32767 < modSub 16 lim r.clD))) ∧
    (∃ (s : State) (p : Fin 18) (w : Word) (vc lim : Nat) (r : Cred), s.coreOn = true ∧ s.active p = true ∧ fld w 34 6 = 0x06 ∧ vc = fld w 31 3 ∧
        lim = fld w 14 16 ∧ r = (s.chord p).cred vc ∧ (vc = 0 ∨ 5 < vc ∨ r.cless = true ∨ fld w 30 1 = 0 ∧
        (32767 < modSub 16 lim r.ccH ∨ 32767 < modSub 16 lim r.clH) ∨ fld w 30 1 = 1 ∧
        (32767 < modSub 16 lim r.ccD ∨ 32767 < modSub 16 lim r.clD))) ∧
    (∃ (s : State) (p : Fin 18) (w : Word) (vc lim : Nat) (r : Cred), s.coreOn = true ∧ s.active p = true ∧ fld w 34 6 = 0x06 ∧ vc = fld w 31 3 ∧
        lim = fld w 14 16 ∧ r = (s.chord p).cred vc ∧ (vc = 0 ∨ 5 < vc ∨ r.cless = true ∨ fld w 30 1 = 0 ∧
        (32767 < modSub 16 lim r.ccH ∨ 32767 < modSub 16 lim r.clH) ∨ fld w 30 1 = 1 ∧
        (32767 < modSub 16 lim r.ccD ∨ 32767 < modSub 16 lim r.clD))) :=
  ⟨⟨(wCr { ccH := 0xFFF8, clH := 5 } State.reset), 17, (crW 4 0 0x15), 4, 0x15,
      ((wCr { ccH := 0xFFF8, clH := 5 } State.reset).chord 17 |>.cred 4), by decide +kernel⟩,
   ⟨(wCr { ccD := 0, clD := 5 } State.reset), 17, (crW 4 1 32767), 4, 32767, ((wCr { ccD := 0, clD := 5 } State.reset).chord 17 |>.cred 4),
       by decide +kernel⟩,
   ⟨(wCr { ccD := 0, clD := 5 } State.reset), 17, (crW 4 1 32768), 4, 32768, ((wCr { ccD := 0, clD := 5 } State.reset).chord 17 |>.cred 4),
       by decide +kernel⟩,
   ⟨(wCr { ccD := 0, clD := 5 } State.reset), 17, (crW 6 1 7), 6, 7, ((wCr { ccD := 0, clD := 5 } State.reset).chord 17 |>.cred 6),
       by decide +kernel⟩,
   ⟨(wCr { cless := true } State.reset), 17, (crW 4 1 7), 4, 7, ((wCr { cless := true } State.reset).chord 17 |>.cred 4), by decide +kernel⟩⟩

/-- What `EnergyRule` supposes is met, clause by clause. -/
theorem wit_EnergyRule :
    (∃ (s : State) (p : BitVec 16) (c : BitVec 8) (u : Nat) (hot warn e0 e1 : Int), s.coreOn = true ∧ s.power.asleep = 0 ∧
        s.power.periodAt + max 1 (s.rd PWR_GOV_PERIOD) * 1000000 ≤ s.now ∧
        u = min 65535 (s.power.spent * 1000 / (4 * (s.now - s.power.periodAt))) ∧ hot = (s.rd PWR_THERM_HOT : Nat) ∧
        warn = (s.rd PWR_THERM_WARN : Nat) ∧
        e0 = ((min 50 (max 5 (s.rd PWR_BUDGET_W)) * 1000000 : Nat) - ((p.toNat * 10000 : Nat) - (u * min 10000 (max 50 (s.rd PWR_GOV_EPW)) : Nat) : Int)) / (min 10000 (max 50 (s.rd PWR_GOV_EPW)) : Nat) ∧ e1 = (if hot ≤ c.toInt then 0 else if warn < c.toInt then e0 * (hot - c.toInt) / (hot - warn) else e0)) ∧
    (∃ (s : State) (p : BitVec 16) (c : BitVec 8) (u : Nat) (hot warn e0 e1 : Int), s.coreOn = true ∧ s.power.asleep = 0 ∧
        s.power.periodAt + max 1 (s.rd PWR_GOV_PERIOD) * 1000000 ≤ s.now ∧
        u = min 65535 (s.power.spent * 1000 / (4 * (s.now - s.power.periodAt))) ∧ hot = (s.rd PWR_THERM_HOT : Nat) ∧
        warn = (s.rd PWR_THERM_WARN : Nat) ∧
        e0 = ((min 50 (max 5 (s.rd PWR_BUDGET_W)) * 1000000 : Nat) - ((p.toNat * 10000 : Nat) - (u * min 10000 (max 50 (s.rd PWR_GOV_EPW)) : Nat) : Int)) / (min 10000 (max 50 (s.rd PWR_GOV_EPW)) : Nat) ∧ e1 = (if hot ≤ c.toInt then 0 else if warn < c.toInt then e0 * (hot - c.toInt) / (hot - warn) else e0)) ∧
    (∃ (s : State) (p : BitVec 16) (c : BitVec 8) (u : Nat) (hot warn e0 e1 : Int), s.coreOn = true ∧ s.power.asleep = 0 ∧
        s.power.periodAt + max 1 (s.rd PWR_GOV_PERIOD) * 1000000 ≤ s.now ∧
        u = min 65535 (s.power.spent * 1000 / (4 * (s.now - s.power.periodAt))) ∧ hot = (s.rd PWR_THERM_HOT : Nat) ∧
        warn = (s.rd PWR_THERM_WARN : Nat) ∧
        e0 = ((min 50 (max 5 (s.rd PWR_BUDGET_W)) * 1000000 : Nat) - ((p.toNat * 10000 : Nat) - (u * min 10000 (max 50 (s.rd PWR_GOV_EPW)) : Nat) : Int)) / (min 10000 (max 50 (s.rd PWR_GOV_EPW)) : Nat) ∧ e1 = (if hot ≤ c.toInt then 0 else if warn < c.toInt then e0 * (hot - c.toInt) / (hot - warn) else e0)) :=
  ⟨⟨(wEn State.reset), 2340, 97, 3000, 100, 95, 7000, 4200, by decide +kernel⟩,
   ⟨(wEn State.reset), 2340, 101, 3000, 100, 95, 7000, 0, by decide +kernel⟩,
   ⟨(wEn State.reset), 23400, 94, 3000, 100, 95, (-519500), (-519500), by decide +kernel⟩⟩

/-- What `BudgetLowRule` supposes is met, clause by clause. -/
theorem wit_BudgetLowRule :
    ∃ (s : State) (p : BitVec 16) (_c : BitVec 8) (u : Nat), s.coreOn = true ∧ s.power.asleep = 0 ∧
        s.power.periodAt + max 1 (s.rd PWR_GOV_PERIOD) * 1000000 ≤ s.now ∧ s.rdB PWR_GOV_GOV_EN = true ∧ s.rd PWR_STAT_LEVEL = 3 ∧
        u = min 65535 (s.power.spent * 1000 / (4 * (s.now - s.power.periodAt))) ∧
        ((min 50 (max 5 (s.rd PWR_BUDGET_W)) * 1000000 : Nat) : Int) < (p.toNat * 10000 : Nat) - (u * min 10000 (max 50 (s.rd PWR_GOV_EPW)) : Nat) :=
  ⟨((wEn State.reset).wr PWR_STAT_LEVEL 3), 23400, 94, 3000, by decide +kernel⟩


end Rules

namespace LaneForms

def wPair (b : State) : State := (wLink 3 3 b).onLane 3 (fun l => { l with pair1 := { l.pair1 with descrambling := true, inverted := true, lfsr := 0 } })
def gCg (hdr par : Nat) (w : Word) : BitVec 46 := BitVec.ofNat 46 (hdr * 2^44 + par * 2^40 + w.toNat)
def dCg (g : BitVec 46) := scramble 0 (fld g 0 44)
def tW (rdy reqT ackT : Nat) : Word := ctlWord 0x02 [(33, 1, 1), (32, 1, rdy), (30, 2, 1), (27, 3, 3), (25, 2, 3), (23, 2, 3), (18, 1, reqT),
    (17, 1, ackT), (0, 17, 0x1A5A5)]
def wEq (b : State) : State := (wLink 3 1 b).onLane 3 (fun l => { l with phase := .equalise, reqT := true, rdySent := false })
def aW (last : Nat) : Word := ctlWord 8 [(32, 1, last), (31, 1, 1), (0, 31, 77)]
def wAl (b : State) : State := (wLink 3 1 b).onLane 3 (fun l => { l with phase := .align, lastSent := true, pair0 := { l.pair0 with descrambling := true } })
def wLast (ph : Phase) (st : Nat) (b : State) : State := { (wLink 3 st b).onLane 3 (fun l => { l with phase := ph, dskRcvd := true, lastSent := false, lastRcvd := true, alignAt := 9 }) with now := 1000 + b.now }
def wSwp (n : Nat) (b : State) : State := { (wLink 3 1 b).onLane 3 (fun l => { l with phase := .equalise, evalUntil := some 9, sweepStage := n, rdyRcvd := false, bestMargin := 4, bestPre := 2, bestPost := 6 }) with now := 9 }
def wCp (l : List (Nat × Nat)) (b : State) : State := (wLink 3 2 b).onLane 3 (fun x => { x with phase := .config, capsRx := l, caps := [] })
def fullSet : List (Nat × Nat) := [(12, 50 * 2^20), (9, 2^17 + 32), (8, 2^17 + 32), (7, 2^17 + 32), (6, 2^17 + 32), (5, 2^17 + 32), (4, 0), (3,
    0), (2, 0), (1, 0x10 * 2^22 + 0x12 * 2^14), (0, 0)]
def noVer : List (Nat × Nat) := fullSet.map (fun x => if x.1 = 1 then (1, 0x20 * 2^22 + 0x20 * 2^14) else x)
def endW (n seen : Nat) : Word := ctlWord 3 [(30, 4, 15), (29, 1, seen), (24, 5, n)]
def wRtl (b : State) : State := { (wLink 3 4 b).onLane 3 (fun l => { l with phase := .rtLock, deadline := some 9 }) with now := 10 }
def wRs (st : Nat) (v : Bool) (b : State) : State := (wLink 3 st b).onLane 3 (fun l => { l with viaRetrain := v, coldAfter := false })
def wAsk (b : State) : State := (wLink 3 3 b).onLane 3 (fun l => { l with asked := some 2 })
def wBst (n : Nat) (b : State) : State := { (wLink 3 1 b).onLane 3 (fun l => { l with burstAt := some 9, bursts := 60, pair0 := { l.pair0 with hits := n }, pair1 := {} }) with now := 9 }
def wUnl (st : Nat) (b : State) : State := { (wLink 3 st b).wr (LANE_CTL_ENABLE 3) 0 with locks := b.locks.set 0x13 0 }
def wLk (b : State) : State := { (wLink 3 1 b).onLane 3 (fun l => { l with phase := .lock, pair1 := { l.pair1 with locked := true, restLeft := 0, wordAt := 5 } }) with now := 1000 }

/-- What `LaneFormRows` supposes is met, clause by clause. -/
theorem wit_LaneFormRows :
    (∃ (s : State) (p : Fin 18) (pair : Bool) (cg g : BitVec 46) (x : Pair) (hdr : Nat) (r : Nat × BitVec 31) (w : Word), s.coreOn = true ∧
        s.ls p = LS_ACTIVE ∧ x = (s.lane p).pair pair ∧ x.descrambling = true ∧ g = (if x.inverted then ~~~cg else cg) ∧ hdr = fld g 44 2 ∧
        r = scramble x.lfsr (fld g 0 44) ∧ w = BitVec.ofNat 40 r.1 ∧ hdr ≠ 0 ∧ r.1 / 2 ^ 40 = parity w ∧ ((hdr = 1 → fld w 34 6 < 0x0D))) ∧
    (∃ (s : State) (p : Fin 18) (pair : Bool) (cg g : BitVec 46) (x : Pair) (hdr : Nat) (r : Nat × BitVec 31) (w : Word), s.coreOn = true ∧
        s.ls p = LS_ACTIVE ∧ x = (s.lane p).pair pair ∧ x.descrambling = true ∧ g = (if x.inverted then ~~~cg else cg) ∧ hdr = fld g 44 2 ∧
        r = scramble x.lfsr (fld g 0 44) ∧ w = BitVec.ofNat 40 r.1 ∧ hdr ≠ 0 ∧ r.1 / 2 ^ 40 = parity w ∧ ((hdr = 1 → fld w 34 6 < 0x0D))) ∧
    (∃ (s : State) (p : Fin 18) (pair : Bool) (cg g : BitVec 46) (x : Pair) (hdr : Nat) (r : Nat × BitVec 31) (w : Word), s.coreOn = true ∧
        s.ls p = LS_ACTIVE ∧ x = (s.lane p).pair pair ∧ x.descrambling = true ∧ g = (if x.inverted then ~~~cg else cg) ∧ hdr = fld g 44 2 ∧
        r = scramble x.lfsr (fld g 0 44) ∧ w = BitVec.ofNat 40 r.1 ∧ (hdr = 0 ∨ r.1 / 2 ^ 40 ≠ parity w ∨ hdr = 1 ∧ 0x0D ≤ fld w 34 6)) ∧
    (∃ (s : State) (p : Fin 18) (_pair inv : Bool) (hdr : BitVec 2) (w v : Word) (_slot : Nat), s.coreOn = true ∧ v = (if inv then ~~~w else w) ∧
        ((hdr = 1 ∨ inv = true ∧ hdr = 2)) ∧ fld v 34 6 = 0x02 ∧ fld v 0 17 = 0x1A5A5 ∧
        (s.ls p = LS_ACTIVE ∨ s.ls p = LS_DOZE ∨ s.ls p = LS_NAP)) ∧
    (∃ (s : State) (p : Fin 18) (_pair inv : Bool) (hdr : BitVec 2) (w v : Word) (_slot : Nat), s.coreOn = true ∧ v = (if inv then ~~~w else w) ∧
        ((hdr = 1 ∨ inv = true ∧ hdr = 2)) ∧ fld v 34 6 = 0x02 ∧ fld v 0 17 = 0x1A5A5 ∧ s.ls p = LS_TRAIN ∧ (s.lane p).phase = .equalise ∧
        fld v 32 1 = 0 ∧ (s.lane p).reqT = decide (fld v 18 1 = 1)) ∧
    (∃ (s : State) (p : Fin 18) (_pair inv : Bool) (hdr : BitVec 2) (w v : Word) (_slot : Nat), s.coreOn = true ∧ v = (if inv then ~~~w else w) ∧
        ((hdr = 1 ∨ inv = true ∧ hdr = 2)) ∧ fld v 34 6 = 0x02 ∧ fld v 0 17 = 0x1A5A5 ∧ s.ls p = LS_TRAIN ∧ (s.lane p).phase = .equalise ∧
        (s.lane p).rdySent = false ∧ (s.lane p).reqT ≠ decide (fld v 18 1 = 1) ∧ fld v 25 2 = 3 ∧ fld v 23 2 = 3) ∧
    (∃ (s : State) (p : Fin 18) (_pair : Bool) (w : Word) (_skew : Int), s.coreOn = true ∧ fld w 34 6 = 0x08 ∧
        ((s.lane p).phase = .lock ∨ (s.lane p).phase = .equalise)) ∧
    (∃ (s : State) (p : Fin 18) (_pair : Bool) (w : Word) (skew : Int), s.coreOn = true ∧ fld w 34 6 = 0x08 ∧ (s.lane p).phase = .align ∧
        s.ls p ≠ LS_RETRAIN ∧ (64 < skew ∨ skew < -64)) ∧
    (∃ (s : State) (p : Fin 18) (pair : Bool) (w : Word) (skew : Int), s.coreOn = true ∧ fld w 34 6 = 0x08 ∧ (s.lane p).phase = .align ∧
        (s.lane p).lastSent = true ∧ ((s.lane p).pair (!pair)).descrambling = true ∧ fld w 32 1 = 1 ∧ -64 ≤ skew ∧ skew ≤ 64) ∧
    (∃ (s : State) (p : Fin 18), s.coreOn = true ∧ (s.lane p).dskRcvd = true ∧ (s.lane p).lastSent = false ∧ (s.lane p).lastRcvd = true ∧
        (s.lane p).alignAt + 7 * 64 ≤ s.now ∧ (s.lane p).phase = .align) ∧
    (∃ (s : State) (p : Fin 18), s.coreOn = true ∧ (s.lane p).dskRcvd = true ∧ (s.lane p).lastSent = false ∧ (s.lane p).lastRcvd = true ∧
        (s.lane p).alignAt + 7 * 64 ≤ s.now ∧ (s.lane p).phase = .rtAlign) ∧
    (∃ (s : State) (p : Fin 18) (margin d n bp bo : Nat) (y : Nat × (Nat × Nat)), s.coreOn = true ∧ (s.lane p).phase = .equalise ∧
        (s.lane p).evalUntil = some d ∧ d ≤ s.now ∧ 7 ≤ (s.lane p).sweepStage ∧ n = (s.lane p).sweepStage + 1 ∧
        bp = (if (s.lane p).bestMargin < margin then s.rd (LANE_EQ_RX_PRE p) else (s.lane p).bestPre) ∧
        bo = (if (s.lane p).bestMargin < margin then s.rd (LANE_EQ_RX_POST p) else (s.lane p).bestPost) ∧ y = sweepTarget n bp bo ∧ y.2.1 ≤ 15 ∧
        y.2.2 ≤ 31 ∧ (s.lane p).rdyRcvd = false) ∧
    (∃ (s : State) (p : Fin 18) (margin d n bp bo : Nat) (y : Nat × (Nat × Nat)), s.coreOn = true ∧ (s.lane p).phase = .equalise ∧
        (s.lane p).evalUntil = some d ∧ d ≤ s.now ∧ 7 ≤ (s.lane p).sweepStage ∧ n = (s.lane p).sweepStage + 1 ∧
        bp = (if (s.lane p).bestMargin < margin then s.rd (LANE_EQ_RX_PRE p) else (s.lane p).bestPre) ∧
        bo = (if (s.lane p).bestMargin < margin then s.rd (LANE_EQ_RX_POST p) else (s.lane p).bestPost) ∧ y = sweepTarget n bp bo ∧ y.2.1 ≤ 15 ∧
        y.2.2 ≤ 31 ∧ (s.lane p).rdyRcvd = false) ∧
    (∃ (s : State) (p : Fin 18) (w _v : Word) (x : Nat × Nat) (l : List (Nat × Nat)), s.coreOn = true ∧ (s.lane p).phase = .config ∧
        fld w 34 6 = 0x03 ∧ fld w 30 4 ≠ 15 ∧ (s.lane p).capsRx = x :: l ∧ x.1 < fld w 30 4) ∧
    (∃ (s : State) (p : Fin 18) (w v : Word) (_x : Nat × Nat) (_l : List (Nat × Nat)), s.coreOn = true ∧ (s.lane p).phase = .config ∧
        fld w 34 6 = 0x03 ∧ v ≠ w) ∧
    (∃ (s : State) (p : Fin 18) (w _v : Word) (_x : Nat × Nat) (_l : List (Nat × Nat)), s.coreOn = true ∧ (s.lane p).phase = .config ∧
        fld w 34 6 = 0x03 ∧ fld w 30 4 = 15 ∧ capsComplete (s.lane p).capsRx (fld w 24 5) = false) ∧
    (∃ (s : State) (p : Fin 18) (w _v : Word) (_x : Nat × Nat) (_l : List (Nat × Nat)), s.coreOn = true ∧ (s.lane p).phase = .config ∧
        fld w 34 6 = 0x03 ∧ fld w 30 4 = 15 ∧ capsComplete (s.lane p).capsRx (fld w 24 5) = true ∧ s.commonVersion p (s.lane p).capsRx = none) ∧
    (∃ (s : State) (p : Fin 18) (w _v : Word) (_x : Nat × Nat) (_l : List (Nat × Nat)), s.coreOn = true ∧ (s.lane p).phase = .config ∧
        fld w 34 6 = 0x03 ∧ fld w 30 4 = 15 ∧ capsComplete (s.lane p).capsRx (fld w 24 5) = true ∧ s.commonVersion p (s.lane p).capsRx ≠ none ∧
        fld w 29 1 = 0) ∧
    (∃ (s : State) (p : Fin 18) (d : Nat), s.coreOn = true ∧ s.ls p = LS_RETRAIN ∧ (s.lane p).deadline = some d ∧ d < s.now) ∧
    (∃ (s : State) (p : Fin 18) (_w : Word), s.coreOn = true ∧ (s.ls p = LS_NAP ∨ s.ls p = LS_DOZE ∧ (s.lane p).viaRetrain = true)) ∧
    (∃ (s : State) (p : Fin 18) (_w : Word), s.coreOn = true ∧ (s.ls p = LS_NAP ∨ s.ls p = LS_DOZE)) ∧
    (∃ (s : State) (p : Fin 18) (w : Word), s.coreOn = true ∧ s.ls p = LS_DOZE ∧ fld w 34 6 = 0x0A ∧ (s.lane p).viaRetrain = true) ∧
    (∃ (s : State) (p : Fin 18) (w : Word), s.coreOn = true ∧ s.ls p = LS_DOZE ∧ fld w 34 6 = 0x0A ∧ (s.lane p).viaRetrain = false ∧
        (s.lane p).coldAfter = false) ∧
    (∃ (s : State) (p : Fin 18) (_w : Word), s.coreOn = true ∧ s.ls p = LS_DORMANT) ∧
    (∃ (s : State) (p : Fin 18) (w : Word) (n : Nat), s.coreOn = true ∧ (s.lane p).asked = some n ∧ fld w 34 6 = 0 ∧ fld w 31 3 = n ∧
        fld w 30 1 = 0 ∧ s.ls p = LS_ACTIVE) ∧
    (∃ (s : State) (p : Fin 18) (d : Nat), s.coreOn = true ∧ (s.lane p).burstAt = some d ∧ d ≤ s.now ∧
        ((s.lane p).pair0.hits ≠ 0 ∨ (s.lane p).pair1.hits ≠ 0 ∨ s.ls p = LS_ACTIVE)) ∧
    (∃ (s : State) (p : Fin 18) (d : Nat), s.coreOn = true ∧ (s.lane p).burstAt = some d ∧ d ≤ s.now ∧ (s.lane p).pair0.hits = 0 ∧
        (s.lane p).pair1.hits = 0 ∧ s.ls p = LS_TRAIN ∧ 60 ≤ (s.lane p).bursts) ∧
    (∃ (s : State) (p : Fin 18), s.coreOn = true ∧ s.locked (lanePage p) = false ∧ s.ls p ≠ LS_DISABLED ∧ s.ls p ≠ LS_LOOPBACK) ∧
    (∃ (s : State) (p : Fin 18), s.coreOn = true ∧ s.locked (lanePage p) = false ∧ s.rd (LANE_CTL_ENABLE p) = 0 ∧ s.ls p = LS_LOOPBACK) ∧
    (∃ (s : State) (p : Fin 18) (pair : Bool), s.coreOn = true ∧ s.ls p = LS_TRAIN ∧ (s.lane p).phase = .lock ∧
        ((s.lane p).pair pair).locked = true ∧ ((s.lane p).pair pair).restLeft = 0 ∧ ((s.lane p).pair pair).wordAt + 128 < s.now) ∧
    (∃ (s : State) (p : Fin 18), s.coreOn = true ∧ (s.ls p = LS_ACTIVE ∨ s.ls p = LS_RETRAIN ∨ s.ls p = LS_NAP) ∧ 1 ≤ (s.chord p).graceMs) :=
  ⟨⟨(wPair State.reset), 3, true, (~~~gCg 3 (parity 77) 77), (gCg 3 (parity 77) 77), (((wPair State.reset).lane 3).pair true), 3,
      (dCg (gCg 3 (parity 77) 77)), 77, by decide +kernel⟩,
   ⟨(wPair State.reset), 3, true, (~~~gCg 1 (parity 77) 77), (gCg 1 (parity 77) 77), (((wPair State.reset).lane 3).pair true), 1,
       (dCg (gCg 1 (parity 77) 77)), 77, by decide +kernel⟩,
   ⟨(wPair State.reset), 3, true, (~~~gCg 2 ((parity 77 + 1) % 16) 77), (gCg 2 ((parity 77 + 1) % 16) 77),
       (((wPair State.reset).lane 3).pair true), 2, (dCg (gCg 2 ((parity 77 + 1) % 16) 77)), 77, by decide +kernel⟩,
   ⟨(wLink 3 5 State.reset), 3, true, true, 2, (~~~tW 0 1 1), (tW 0 1 1), 16, by decide +kernel⟩,
   ⟨(wEq State.reset), 3, true, true, 2, (~~~tW 0 1 1), (tW 0 1 1), 16, by decide +kernel⟩,
   ⟨(wEq State.reset), 3, true, false, 1, (tW 0 0 1), (tW 0 0 1), 16, by decide +kernel⟩,
   ⟨(wEq State.reset), 3, true, (aW 0), 3, by decide +kernel⟩,
   ⟨(wAl State.reset), 3, true, (aW 0), 65, by decide +kernel⟩,
   ⟨(wAl State.reset), 3, true, (aW 1), (-64), by decide +kernel⟩,
   ⟨(wLast .align 1 State.reset), 3, by decide +kernel⟩,
   ⟨(wLast .rtAlign 4 State.reset), 3, by decide +kernel⟩,
   ⟨(wSwp 7 State.reset), 3, 3, 9, 8, 2, 6, (8, (2, 6)), by decide +kernel⟩,
   ⟨(wSwp 10 State.reset), 3, 3, 9, 11, 2, 6, (11, (2, 6)), by decide +kernel⟩,
   ⟨(wCp [(3, 0)] State.reset), 3, (ctlWord 3 [(30, 4, 14), (0, 30, 9)]), 77, (3, 0), [], by decide +kernel⟩,
   ⟨(wCp [(3, 0)] State.reset), 3, (ctlWord 3 [(30, 4, 14), (0, 30, 9)]), 77, (3, 0), [], by decide +kernel⟩,
   ⟨(wCp fullSet State.reset), 3, (endW 10 0), 77, (3, 0), [], by decide +kernel⟩,
   ⟨(wCp noVer State.reset), 3, (endW 11 0), 77, (3, 0), [], by decide +kernel⟩,
   ⟨(wCp fullSet State.reset), 3, (endW 11 0), 77, (3, 0), [], by decide +kernel⟩,
   ⟨(wRtl State.reset), 3, 9, by decide +kernel⟩,
   ⟨(wRs 6 false State.reset), 3, (ctlWord 0x0A []), by decide +kernel⟩,
   ⟨(wRs 6 false State.reset), 3, (ctlWord 0x0A []), by decide +kernel⟩,
   ⟨(wRs 5 true State.reset), 3, (ctlWord 0x0A []), by decide +kernel⟩,
   ⟨(wRs 5 false State.reset), 3, (ctlWord 0x0A []), by decide +kernel⟩,
   ⟨(wRs 7 false State.reset), 3, (ctlWord 0x0A []), by decide +kernel⟩,
   ⟨(wAsk State.reset), 3, (ctlWord 0 [(31, 3, 2)]), 2, by decide +kernel⟩,
   ⟨(wBst 1 State.reset), 3, 9, by decide +kernel⟩,
   ⟨(wBst 0 State.reset), 3, 9, by decide +kernel⟩,
   ⟨(wUnl 3 State.reset), 3, by decide +kernel⟩,
   ⟨(wUnl 10 State.reset), 3, by decide +kernel⟩,
   ⟨(wLk State.reset), 3, true, by decide +kernel⟩,
   ⟨((wLink 3 6 State.reset).onChord 3 (fun c => { c with graceMs := 50 })), 3, by decide +kernel⟩⟩


end LaneForms

namespace ChordForms

def hW : Word := pack [(37, 3, 2), (25, 12, 0x200), (20, 5, 3), (4, 16, 0), (2, 1, 1)]
def wIt (x y : RxItem) (b : State) : State :=
  ((wLink 3 3 b).onLane 3 (fun l => { l with pair0 := { l.pair0 with laneB := some false, items := [x, RxItem.bad] }, pair1 := { l.pair1 with items := [y] } })).onChord 3 (fun c => { c with void := false, framing := { words := [hW, 3#40, 4#40].take 3 } })
def stW : Word := ctlWord 8 [(0, 31, 77)]
def wFl (vc lsn auth bad inv : Nat) (b : State) : State :=
  let s := ((wOn b).wr (CHD_STAT_AUTH 3) auth).onChord 3 (fun c => { c with cum := 7, keyRx := 5, epRx := .none, vc1 := { c.vc1 with myCless := false }, vc2 := { c.vc2 with myCless := false } })
  let h : Word := pack [(37, 3, vc), (25, 12, 0x200), (20, 5, 1), (4, 16, lsn), (2, 1, 1)]
  let tr := s.trailer 3 false 5 (s.rd (CHD_STAT_EPOCH_RX 3)) ((s.chord 3).seqRx lsn) [h, 5#40]
  s.onChord 3 (fun c => { c with framed := ([h, 5#40, if inv = 1 then ~~~tr else tr], bad = 1) :: c.framed })
def fws (s : State) : List Word := ((s.chord 3).framed.headD ([], true)).1
def ff (s : State) : Nat := s.trailerForm 3 (s.chord 3).keyRx (s.rd (CHD_STAT_EPOCH_RX 3)) (fws s).dropLast ((fws s).getLastD 0)
def fd (n : Nat) : Nat := modSub 16 n 8
def wXc (cum : Nat) (acc : List Nat) (c : Word) (b : State) : State := ((wLink 3 3 b).wr (CHD_STAT_AUTH 3) 0).onLane 3 (fun l => { l with pair1 := { l.pair1 with runs := [[some (pack [(9, 8, 9)]), some 5#40, some c, some 8#40], [none]], express := [some 1#40] } }) |>.onChord 3 (fun c => { c with xAcc := acc, xCum := cum })
def xa : Word := pack [(9, 8, 9)]
def xg (c : Word) : List (Option Word) := [some xa, some 5, some c]
def wXw (b : State) : State := { (wLink 3 3 b).wr (CHD_STAT_XNAK 3) 1 with now := 30 + b.now }.onChord 3 (fun c => { c with xWait := (true, false, 0) :: c.xWait })
def pt : Point := { type := 1, oh := true, origin := 3, arg := 5 }
def wDue (b : State) : State := { (wLink 3 3 b).wr (CHD_STAT_RX_STATE 3) 1 with now := 30 + b.now }.onChord 3 (fun c => { c with ackDue := some 5, points := pt :: c.points, pointSent := [0, 1], nakAgain := some 9, creditRepeat := some 9, epTx := .announced, epRepeat := some 9, vc2 := { c.vc2 with myCless := false, freedH := 2, freedD := 9 } })
def pW (t oh arg : Nat) : Word := ctlWord 7 [(30, 4, t), (26, 4, 9), (25, 1, oh), (19, 6, 3), (0, 19, arg)]
def wPs (l : List (Nat × Nat × Nat)) (b : State) : State := let s := ((wLink 16 3 b).wr CHIP_STAT_ROLE 1).wr (LANE_STAT_PARTNER_KIND 16) 2
  { s.onChord 16 (fun c => { c with pointSeen := l }) with now := b.now + 5000 }
def fr (s : State) (w : Word) : Bool := (s.chord 16).pointSeen.all (fun x => !(x.1 = fld w 30 4 && x.2.1 = fld w 26 4 && s.now ≤ x.2.2 + 1000))
def old : List (Nat × Nat × Nat) := [(6, 9, 0), (5, 9, 5000), (2, 9, 100)]
def rh (msn len : Nat) : Word := pack [(16, 24, msn), (0, 16, len)]
def wRx (r : Reasm) (poison last : Bool) (pl : List Word) (b : State) : State :=
  { wOn b with hull := { b.hull with adapters := (20, { tunnel := 0x600, vc := 4, payload := pl, last := last, poison := poison, inPort := 3, todo := [] }) :: b.hull.adapters } }.onTun 0x600 (fun x => { x with rx := r, e := { x.e with msnIn := 7, keyed := false, maxMsg := 100 } })
def fOf (s : State) : HFlit := ((takePort 20 s.hull.adapters).map (·.1)).getD { tunnel := 0, vc := 0, payload := [], last := true, inPort := 0, todo := [] }
def eOf (s : State) : Entry := (s.tun 0x600).e
def rOf (s : State) : Reasm := (s.tun 0x600).rx
def s20 (b : State) : State := wRx { discarding := true } false true [rh 8 1, 5] b
def s21 (b : State) : State := wRx {} true false [rh 8 1, 5] b
def s22 (b : State) : State := wRx { isOpen := true, msn := 8, len := 40, words := [1, 2] } false true [6] b
def s23 (b : State) : State := wRx {} false false [rh 9 101, 5] b
def s24 (b : State) : State := wRx { isOpen := true, msn := 8, len := 40, words := [1, 2] } false false (List.replicate 30 6) b
def s25 (b : State) : State := wRx { isOpen := true, msn := 8, len := 3, words := [1, 2] } false true [6] b
def s26 (b : State) : State := wRx {} false false [rh 7 1, 5] b
def wLf (b : State) : State := (({ wLink 16 3 b with ids := { b.ids with carry := some 16 } }.wr CHIP_STAT_ROLE 1).wr CHIP_STAT_HUB 5).onChord 16 (fun c => { c with graceMs := 50 })
def en (vc mig : Nat) : Entry := { state := .opened, kind := 5, vc := vc, inPort := 3, queue := 20, destMask := 2 ^ 20, altPort := 4, mig := mig }
def wMd (vc mig : Nat) (b : State) : State :=
  { (wOn b).wr CHIP_STAT_ROLE 0 with ids := { b.ids with hubOf := [(3, 5), (4, 5)] } }.onTun 0x600 (fun x => { x with e := en vc mig })

/-- What `ChordFormRows` supposes is met, clause by clause. -/
theorem wit_ChordFormRows :
    (∃ (s : State) (p : Fin 18) (x y : Word) (a b : List RxItem) (ws : List Word), s.coreOn = true ∧ s.active p = true ∧
        (s.lane p).pair0.laneB = some false ∧ ws = (s.chord p).framing.words ∧ (s.lane p).pair0.items = .data x :: a ∧
        (s.lane p).pair1.items = .data y :: b ∧ (s.chord p).void = false ∧ flitComplete (ws ++ [x]) = false ∧ flitComplete (ws ++ [x,
        y]) = true) ∧
    (∃ (s : State) (p : Fin 18) (x _y : Word) (a b : List RxItem) (ws : List Word), s.coreOn = true ∧ s.active p = true ∧
        (s.lane p).pair0.laneB = some false ∧ ws = (s.chord p).framing.words ∧ (s.lane p).pair0.items = .ctl x :: a ∧
        (s.lane p).pair1.items = .ctl x :: b ∧ (fld x 34 6 = 0x03 ∨ fld x 34 6 = 0x08 ∨ fld x 34 6 = 0x0A)) ∧
    (∃ (s : State) (p : Fin 18) (ws : List Word) (bad : Bool) (rest : List (List Word × Bool)) (n d form vc len : Nat), s.coreOn = true ∧
        (s.chord p).framed = (ws, bad) :: rest ∧ vc = fld (ws.headD 0) 37 3 ∧ len = fld (ws.headD 0) 20 5 ∧ n = fld (ws.headD 0) 4 16 ∧
        d = modSub 16 n ((s.chord p).cum + 1) ∧
        form = s.trailerForm p (s.chord p).keyRx (s.rd (CHD_STAT_EPOCH_RX p)) ws.dropLast (ws.getLastD 0) ∧ bad = false ∧ 1 ≤ vc ∧ vc ≤ 5 ∧
        1 ≤ len ∧ len ≤ 30 ∧ form ≠ 2 ∧ 32768 ≤ d) ∧
    (∃ (s : State) (p : Fin 18) (ws : List Word) (bad : Bool) (rest : List (List Word × Bool)) (n d form vc len : Nat), s.coreOn = true ∧
        (s.chord p).framed = (ws, bad) :: rest ∧ vc = fld (ws.headD 0) 37 3 ∧ len = fld (ws.headD 0) 20 5 ∧ n = fld (ws.headD 0) 4 16 ∧
        d = modSub 16 n ((s.chord p).cum + 1) ∧
        form = s.trailerForm p (s.chord p).keyRx (s.rd (CHD_STAT_EPOCH_RX p)) ws.dropLast (ws.getLastD 0) ∧ bad = false ∧ 1 ≤ vc ∧ vc ≤ 5 ∧
        1 ≤ len ∧ len ≤ 30 ∧ form ≠ 2 ∧ d ≠ 0 ∧ d < 32768) ∧
    (∃ (s : State) (p : Fin 18) (ws : List Word) (bad : Bool) (rest : List (List Word × Bool)) (n d form vc len : Nat), s.coreOn = true ∧
        (s.chord p).framed = (ws, bad) :: rest ∧ vc = fld (ws.headD 0) 37 3 ∧ len = fld (ws.headD 0) 20 5 ∧ n = fld (ws.headD 0) 4 16 ∧
        d = modSub 16 n ((s.chord p).cum + 1) ∧
        form = s.trailerForm p (s.chord p).keyRx (s.rd (CHD_STAT_EPOCH_RX p)) ws.dropLast (ws.getLastD 0) ∧ bad = false ∧ 1 ≤ vc ∧ vc ≤ 5 ∧
        1 ≤ len ∧ len ≤ 30 ∧ form ≠ 2 ∧ d = 0 ∧ ((s.chord p).cred vc).myCless = false) ∧
    (∃ (s : State) (p : Fin 18) (ws : List Word) (bad : Bool) (rest : List (List Word × Bool)) (n d form vc len : Nat), s.coreOn = true ∧
        (s.chord p).framed = (ws, bad) :: rest ∧ vc = fld (ws.headD 0) 37 3 ∧ len = fld (ws.headD 0) 20 5 ∧ n = fld (ws.headD 0) 4 16 ∧
        d = modSub 16 n ((s.chord p).cum + 1) ∧
        form = s.trailerForm p (s.chord p).keyRx (s.rd (CHD_STAT_EPOCH_RX p)) ws.dropLast (ws.getLastD 0) ∧ bad = false ∧ 1 ≤ vc ∧ vc ≤ 5 ∧
        1 ≤ len ∧ len ≤ 30 ∧ form ≠ 2 ∧ d = 0 ∧ ((s.chord p).cred vc).myCless = false) ∧
    (∃ (s : State) (p : Fin 18) (ws : List Word) (bad : Bool) (rest : List (List Word × Bool)) (n d form vc len : Nat), s.coreOn = true ∧
        (s.chord p).framed = (ws, bad) :: rest ∧ vc = fld (ws.headD 0) 37 3 ∧ len = fld (ws.headD 0) 20 5 ∧ n = fld (ws.headD 0) 4 16 ∧
        d = modSub 16 n ((s.chord p).cum + 1) ∧
        form = s.trailerForm p (s.chord p).keyRx (s.rd (CHD_STAT_EPOCH_RX p)) ws.dropLast (ws.getLastD 0) ∧ bad = true) ∧
    (∃ (s : State) (p : Fin 18) (pair : Bool) (x : Pair) (g : List (Option Word)) (a b c : Word) (d : Nat), s.coreOn = true ∧ s.active p = true ∧
        s.rdB (CHD_STAT_AUTH p) = false ∧ x = (s.lane p).pair pair ∧ g = (x.runs.headD x.express).take 3 ∧
        d = modSub 8 (fld a 9 8) (s.chord p).xCum ∧ g = [some a, some b, some c] ∧ c = ~~~b ∧ fld a 37 3 = 0 ∧ 1 ≤ d ∧ d ≤ 64 ∧
        fld a 9 8 ∉ (s.chord p).xAcc) ∧
    (∃ (s : State) (p : Fin 18) (pair : Bool) (x : Pair) (g : List (Option Word)) (a b c : Word) (d : Nat), s.coreOn = true ∧ s.active p = true ∧
        s.rdB (CHD_STAT_AUTH p) = false ∧ x = (s.lane p).pair pair ∧ g = (x.runs.headD x.express).take 3 ∧
        d = modSub 8 (fld a 9 8) (s.chord p).xCum ∧ g = [some a, some b, some c] ∧ c = ~~~b ∧ fld a 37 3 = 0 ∧
        (d = 0 ∨ 64 < d ∨ fld a 9 8 ∈ (s.chord p).xAcc)) ∧
    (∃ (s : State) (p : Fin 18) (pair : Bool) (x : Pair) (g : List (Option Word)) (a b c : Word) (d : Nat), s.coreOn = true ∧ s.active p = true ∧
        s.rdB (CHD_STAT_AUTH p) = false ∧ x = (s.lane p).pair pair ∧ g = (x.runs.headD x.express).take 3 ∧
        d = modSub 8 (fld a 9 8) (s.chord p).xCum ∧ g = [some a, some b, some c] ∧ c ≠ ~~~b ∧ (s.chord p).xWait = []) ∧
    (∃ (s : State) (p : Fin 18) (n : Nat), s.coreOn = true ∧ ((s.chord p).xWait.filter (fun x => x.2.2 < s.now && !x.2.1)).length = n + 1 ∧
        s.rdB (CHD_STAT_XNAK p) = true) ∧
    (∃ (s : State) (p : Fin 18) (_vc : Fin 5) (_data : Bool) (_d : Nat), s.coreOn = true ∧ s.active p = true ∧ (s.chord p).ackDue ≠ none) ∧
    (∃ (s : State) (p : Fin 18) (vc : Fin 5) (data : Bool) (_d : Nat), s.coreOn = true ∧ s.active p = true ∧
        ((s.chord p).cred (vc + 1)).myCless = false ∧
        (if data then ((s.chord p).cred (vc + 1)).freedD else ((s.chord p).cred (vc + 1)).freedH) ≠ 0) ∧
    (∃ (s : State) (p : Fin 18) (_vc : Fin 5) (_data : Bool) (d : Nat), s.coreOn = true ∧ s.active p = true ∧ (s.chord p).creditRepeat = some d ∧
        d ≤ s.now) ∧
    (∃ (s : State) (p : Fin 18) (_vc : Fin 5) (_data : Bool) (d : Nat), s.coreOn = true ∧ s.active p = true ∧ s.rd (CHD_STAT_RX_STATE p) = 1 ∧
        (s.chord p).nakAgain = some d ∧ d < s.now) ∧
    (∃ (s : State) (p : Fin 18) (_vc : Fin 5) (_data : Bool) (d : Nat), s.coreOn = true ∧ s.active p = true ∧ (s.chord p).epTx = .announced ∧
        (s.chord p).epRepeat = some d ∧ d < s.now) ∧
    (∃ (s : State) (p : Fin 18) (_vc : Fin 5) (_data : Bool) (_d : Nat), s.coreOn = true ∧ s.active p = true ∧ (s.chord p).ackDue ≠ none) ∧
    (∃ (s : State) (p : Fin 18) (w : Word) (fresh : Bool), s.coreOn = true ∧ s.active p = true ∧ fld w 34 6 = 0x07 ∧ 1 ≤ fld w 30 4 ∧
        fld w 30 4 ≤ 6 ∧ fresh = (s.chord p).pointSeen.all (fun x => !(x.1 = fld w 30 4 && x.2.1 = fld w 26 4 && s.now ≤ x.2.2 + 1000)) ∧
        fresh = false) ∧
    (∃ (s : State) (p : Fin 18) (w : Word) (fresh : Bool), s.coreOn = true ∧ s.active p = true ∧ fld w 34 6 = 0x07 ∧ 1 ≤ fld w 30 4 ∧
        fld w 30 4 ≤ 6 ∧ fresh = (s.chord p).pointSeen.all (fun x => !(x.1 = fld w 30 4 && x.2.1 = fld w 26 4 && s.now ≤ x.2.2 + 1000)) ∧
        fresh = false) ∧
    (∃ (s : State) (p : Fin 18) (w : Word) (fresh : Bool), s.coreOn = true ∧ s.active p = true ∧ fld w 34 6 = 0x07 ∧ 1 ≤ fld w 30 4 ∧
        fld w 30 4 ≤ 6 ∧ fresh = (s.chord p).pointSeen.all (fun x => !(x.1 = fld w 30 4 && x.2.1 = fld w 26 4 && s.now ≤ x.2.2 + 1000)) ∧
        fresh = true ∧ fld w 30 4 = 6) ∧
    (∃ (s : State) (p : Fin 18) (w : Word) (fresh : Bool), s.coreOn = true ∧ s.active p = true ∧ fld w 34 6 = 0x07 ∧ 1 ≤ fld w 30 4 ∧
        fld w 30 4 ≤ 6 ∧ fresh = (s.chord p).pointSeen.all (fun x => !(x.1 = fld w 30 4 && x.2.1 = fld w 26 4 && s.now ≤ x.2.2 + 1000)) ∧
        fresh = true ∧ fld w 30 4 = 1 ∧ s.rd (LANE_STAT_PARTNER_KIND p) ≠ 0 ∧ fld w 25 1 = 1) ∧
    (∃ (s : State) (p : Fin 18) (w : Word) (fresh : Bool), s.coreOn = true ∧ s.active p = true ∧ fld w 34 6 = 0x07 ∧ 1 ≤ fld w 30 4 ∧
        fld w 30 4 ≤ 6 ∧ fresh = (s.chord p).pointSeen.all (fun x => !(x.1 = fld w 30 4 && x.2.1 = fld w 26 4 && s.now ≤ x.2.2 + 1000)) ∧
        fresh = true ∧ fld w 30 4 = 3 ∧ bitsOf (fld w 0 19) 17 2 ≠ 2) ∧
    (∃ (s : State) (p : Fin 18) (w : Word) (fresh : Bool), s.coreOn = true ∧ s.active p = true ∧ fld w 34 6 = 0x07 ∧ 1 ≤ fld w 30 4 ∧
        fld w 30 4 ≤ 6 ∧ fresh = (s.chord p).pointSeen.all (fun x => !(x.1 = fld w 30 4 && x.2.1 = fld w 26 4 && s.now ≤ x.2.2 + 1000)) ∧
        fresh = true ∧ fld w 30 4 = 2 ∧ s.fromRoot p = true ∧ latticeOk (bitsOf (fld w 0 19) 15 4) (bitsOf (fld w 0 19) 11 4) = true) ∧
    (∃ (s : State) (port : Fin 25) (f : HFlit) (rest : List (Nat × HFlit)) (r : Reasm) (e : Entry) (h len d : Nat), s.running = true ∧
        takePort port s.hull.adapters = some (f, rest) ∧ 2 ≤ f.vc ∧ r = (s.tun f.tunnel).rx ∧ e = (s.tun f.tunnel).e ∧
        h = fld (f.payload.headD 0) 16 24 ∧ len = fld (f.payload.headD 0) 0 16 ∧ d = modSub 24 h ((e.msnIn + 1) % 2 ^ 24) ∧
        (r.discarding = true ∨ r.duplicate = true)) ∧
    (∃ (s : State) (port : Fin 25) (f : HFlit) (rest : List (Nat × HFlit)) (r : Reasm) (e : Entry) (h len d : Nat), s.running = true ∧
        takePort port s.hull.adapters = some (f, rest) ∧ 2 ≤ f.vc ∧ r = (s.tun f.tunnel).rx ∧ e = (s.tun f.tunnel).e ∧
        h = fld (f.payload.headD 0) 16 24 ∧ len = fld (f.payload.headD 0) 0 16 ∧ d = modSub 24 h ((e.msnIn + 1) % 2 ^ 24) ∧ r.discarding = false ∧
        r.duplicate = false ∧ (f.poison = true ∨ (r.isOpen = true ∧ f.last = true ∧ (r.words ++ f.payload).length ≠ r.len) ∨ (r.isOpen = false ∧
        d < 8388608 ∧ (len = 0 ∨ (if e.maxMsg = 0 then 65535 else e.maxMsg) < len)))) ∧
    (∃ (s : State) (port : Fin 25) (f : HFlit) (rest : List (Nat × HFlit)) (r : Reasm) (e : Entry) (h len d : Nat), s.running = true ∧
        takePort port s.hull.adapters = some (f, rest) ∧ 2 ≤ f.vc ∧ r = (s.tun f.tunnel).rx ∧ e = (s.tun f.tunnel).e ∧
        h = fld (f.payload.headD 0) 16 24 ∧ len = fld (f.payload.headD 0) 0 16 ∧ d = modSub 24 h ((e.msnIn + 1) % 2 ^ 24) ∧ r.discarding = false ∧
        r.duplicate = false ∧ (f.poison = true ∨ (r.isOpen = true ∧ f.last = true ∧ (r.words ++ f.payload).length ≠ r.len) ∨ (r.isOpen = false ∧
        d < 8388608 ∧ (len = 0 ∨ (if e.maxMsg = 0 then 65535 else e.maxMsg) < len)))) ∧
    (∃ (s : State) (port : Fin 25) (f : HFlit) (rest : List (Nat × HFlit)) (r : Reasm) (e : Entry) (h len d : Nat), s.running = true ∧
        takePort port s.hull.adapters = some (f, rest) ∧ 2 ≤ f.vc ∧ r = (s.tun f.tunnel).rx ∧ e = (s.tun f.tunnel).e ∧
        h = fld (f.payload.headD 0) 16 24 ∧ len = fld (f.payload.headD 0) 0 16 ∧ d = modSub 24 h ((e.msnIn + 1) % 2 ^ 24) ∧ r.discarding = false ∧
        r.duplicate = false ∧ (f.poison = true ∨ (r.isOpen = true ∧ f.last = true ∧ (r.words ++ f.payload).length ≠ r.len) ∨ (r.isOpen = false ∧
        d < 8388608 ∧ (len = 0 ∨ (if e.maxMsg = 0 then 65535 else e.maxMsg) < len)))) ∧
    (∃ (s : State) (port : Fin 25) (f : HFlit) (rest : List (Nat × HFlit)) (r : Reasm) (e : Entry) (h len d : Nat), s.running = true ∧
        takePort port s.hull.adapters = some (f, rest) ∧ 2 ≤ f.vc ∧ r = (s.tun f.tunnel).rx ∧ e = (s.tun f.tunnel).e ∧
        h = fld (f.payload.headD 0) 16 24 ∧ len = fld (f.payload.headD 0) 0 16 ∧ d = modSub 24 h ((e.msnIn + 1) % 2 ^ 24) ∧ r.discarding = false ∧
        r.duplicate = false ∧ f.poison = false ∧ r.isOpen = true ∧ f.last = false ∧ f.payload.length = 30) ∧
    (∃ (s : State) (port : Fin 25) (f : HFlit) (rest : List (Nat × HFlit)) (r : Reasm) (e : Entry) (h len d : Nat), s.running = true ∧
        takePort port s.hull.adapters = some (f, rest) ∧ 2 ≤ f.vc ∧ r = (s.tun f.tunnel).rx ∧ e = (s.tun f.tunnel).e ∧
        h = fld (f.payload.headD 0) 16 24 ∧ len = fld (f.payload.headD 0) 0 16 ∧ d = modSub 24 h ((e.msnIn + 1) % 2 ^ 24) ∧ r.discarding = false ∧
        r.duplicate = false ∧ f.poison = false ∧ r.isOpen = true ∧ f.last = true ∧ (r.words ++ f.payload).length = r.len ∧ e.keyed = false) ∧
    (∃ (s : State) (port : Fin 25) (f : HFlit) (rest : List (Nat × HFlit)) (r : Reasm) (e : Entry) (h len d : Nat), s.running = true ∧
        takePort port s.hull.adapters = some (f, rest) ∧ 2 ≤ f.vc ∧ r = (s.tun f.tunnel).rx ∧ e = (s.tun f.tunnel).e ∧
        h = fld (f.payload.headD 0) 16 24 ∧ len = fld (f.payload.headD 0) 0 16 ∧ d = modSub 24 h ((e.msnIn + 1) % 2 ^ 24) ∧ r.discarding = false ∧
        r.duplicate = false ∧ f.poison = false ∧ r.isOpen = false ∧ 8388608 ≤ d) ∧
    (∃ (s : State) (hub : Fin 17) (port : Fin 18) (msg : List Word) (_n : Nat), s.running = true ∧ s.isRoot = false ∧ s.hubNo = hub.val ∧
        cType msg = 1 ∧ cArg msg % 32 ≠ s.hubNo ∧ s.ids.carry.getD 16 = port.val ∧ s.ls port = LS_ACTIVE ∧ 1 ≤ (s.chord port).graceMs) ∧
    (∃ (s : State) (hub : Fin 17) (_port : Fin 18) (msg : List Word) (_n : Nat), s.running = true ∧ s.isRoot = false ∧ s.hubNo = hub.val ∧
        cType msg = 1 ∧ cArg msg % 32 = s.hubNo) ∧
    (∃ (s : State) (hub : Fin 17) (port : Fin 18) (msg : List Word) (n : Nat), s.running = true ∧ s.hubAt port = some hub.val ∧ cType msg = 8 ∧
        n = cTun msg ∧ (s.tun n).e.state ≠ .free ∧ (s.tun n).e.vc ≤ 1 ∧ (s.tun n).e.altPort = port.val) ∧
    (∃ (s : State) (hub : Fin 17) (port : Fin 18) (msg : List Word) (n : Nat), s.running = true ∧ s.hubAt port = some hub.val ∧ cType msg = 8 ∧
        n = cTun msg ∧ (s.tun n).e.state ≠ .free ∧ 2 ≤ (s.tun n).e.vc ∧ (s.tun n).e.mig = 2) :=
  ⟨⟨(wIt (.data 1) (.data 2) State.reset), 3, 1, 2, [.bad], [], [hW, 3, 4], by decide +kernel⟩,
   ⟨(wIt (.ctl stW) (.ctl stW) State.reset), 3, stW, 2, [.bad], [], [hW, 3, 4], by decide +kernel⟩,
   ⟨(wFl 2 6 0 0 0 State.reset), 3, (fws (wFl 2 6 0 0 0 State.reset)), false, (State.reset.chord 3).framed, 6, (fd 6),
       (ff (wFl 2 6 0 0 0 State.reset)), 2, 1, by decide +kernel⟩,
   ⟨(wFl 2 12 0 0 0 State.reset), 3, (fws (wFl 2 12 0 0 0 State.reset)), false, (State.reset.chord 3).framed, 12, (fd 12),
       (ff (wFl 2 12 0 0 0 State.reset)), 2, 1, by decide +kernel⟩,
   ⟨(wFl 2 8 0 0 0 State.reset), 3, (fws (wFl 2 8 0 0 0 State.reset)), false, (State.reset.chord 3).framed, 8, (fd 8),
       (ff (wFl 2 8 0 0 0 State.reset)), 2, 1, by decide +kernel⟩,
   ⟨(wFl 1 8 0 0 1 State.reset), 3, (fws (wFl 1 8 0 0 1 State.reset)), false, (State.reset.chord 3).framed, 8, (fd 8),
       (ff (wFl 1 8 0 0 1 State.reset)), 1, 1, by decide +kernel⟩,
   ⟨(wFl 1 8 0 1 1 State.reset), 3, (fws (wFl 1 8 0 1 1 State.reset)), true, (State.reset.chord 3).framed, 8, (fd 8),
       (ff (wFl 1 8 0 1 1 State.reset)), 1, 1, by decide +kernel⟩,
   ⟨(wXc 6 [8] (~~~5) State.reset), 3, true, (((wXc 6 [8] (~~~5) State.reset).lane 3).pair true), (xg (~~~5)), xa, 5, (~~~5), 3,
       by decide +kernel⟩,
   ⟨(wXc 6 [9] (~~~5) State.reset), 3, true, (((wXc 6 [9] (~~~5) State.reset).lane 3).pair true), (xg (~~~5)), xa, 5, (~~~5), 3,
       by decide +kernel⟩,
   ⟨((wXc 6 [9] 5 State.reset).onChord 3 (fun c => { c with xWait := [] })), 3, true, (((wXc 6 [9] 5 State.reset).lane 3).pair true), (xg 5), xa,
       5, 5, 3, by decide +kernel⟩,
   ⟨(wXw State.reset), 3, (((wXw State.reset).chord 3).xWait.filter (fun x => x.2.2 < (wXw State.reset).now && !x.2.1)).length.pred,
       by decide +kernel⟩,
   ⟨(wDue State.reset), 3, 1, true, 9, by decide +kernel⟩,
   ⟨(wDue State.reset), 3, 1, true, 9, by decide +kernel⟩,
   ⟨(wDue State.reset), 3, 1, true, 9, by decide +kernel⟩,
   ⟨(wDue State.reset), 3, 1, true, 9, by decide +kernel⟩,
   ⟨(wDue State.reset), 3, 1, true, 9, by decide +kernel⟩,
   ⟨(wDue State.reset), 3, 1, false, 9, by decide +kernel⟩,
   ⟨(wPs [(2, 9, 99000000000)] State.reset), 16, (pW 2 1 0), false, by decide +kernel⟩,
   ⟨(wPs [(2, 9, 99000000000)] State.reset), 16, (pW 2 1 0), false, by decide +kernel⟩,
   ⟨(wPs old State.reset), 16, (pW 6 1 0), true, by decide +kernel⟩,
   ⟨(wPs old State.reset), 16, (pW 1 1 (2^18)), true, by decide +kernel⟩,
   ⟨(wPs old State.reset), 16, (pW 3 1 (2^17)), true, by decide +kernel⟩,
   ⟨(wPs old State.reset), 16, (pW 2 1 (4 * 2 ^ 15 + 4 * 2 ^ 11 + 5)), true, by decide +kernel⟩,
   ⟨(s20 State.reset), 20, (fOf (s20 State.reset)), State.reset.hull.adapters, (rOf (s20 State.reset)), (eOf (s20 State.reset)), 8, 1, 0,
       by decide +kernel⟩,
   ⟨(s21 State.reset), 20, (fOf (s21 State.reset)), State.reset.hull.adapters, (rOf (s21 State.reset)), (eOf (s21 State.reset)), 8, 1, 0,
       by decide +kernel⟩,
   ⟨(s22 State.reset), 20, (fOf (s22 State.reset)), State.reset.hull.adapters, (rOf (s22 State.reset)), (eOf (s22 State.reset)), 0, 6,
       (2 ^ 24 - 8), by decide +kernel⟩,
   ⟨(s23 State.reset), 20, (fOf (s23 State.reset)), State.reset.hull.adapters, (rOf (s23 State.reset)), (eOf (s23 State.reset)), 9, 101, 1,
       by decide +kernel⟩,
   ⟨(s24 State.reset), 20, (fOf (s24 State.reset)), State.reset.hull.adapters, (rOf (s24 State.reset)), (eOf (s24 State.reset)), 0, 6,
       (2 ^ 24 - 8), by decide +kernel⟩,
   ⟨(s25 State.reset), 20, (fOf (s25 State.reset)), State.reset.hull.adapters, (rOf (s25 State.reset)), (eOf (s25 State.reset)), 0, 6,
       (2 ^ 24 - 8), by decide +kernel⟩,
   ⟨(s26 State.reset), 20, (fOf (s26 State.reset)), State.reset.hull.adapters, (rOf (s26 State.reset)), (eOf (s26 State.reset)), 7, 1,
       (2 ^ 24 - 1), by decide +kernel⟩,
   ⟨(wLf State.reset), 5, 16, [ctrlWord 1 0 0 0 6], 0, by decide +kernel⟩,
   ⟨(wLf State.reset), 5, 16, [ctrlWord 1 0 0 0 5], 0, by decide +kernel⟩,
   ⟨(wMd 1 0 State.reset), 5, 4, [ctrlWord 8 0 0 0x600 0], 0x600, by decide +kernel⟩,
   ⟨(wMd 4 2 State.reset), 5, 4, [ctrlWord 8 0 0 0x600 0], 0x600, by decide +kernel⟩⟩


end ChordForms

namespace StreamForms

def wProbe (f : Probe → Probe) (b : State) : State := let s := wLink 3 3 b; { s with probes := s.probes.upd 3 f }
def wRole (r : Nat) (b : State) : State := (wOn b).wr CHIP_STAT_ROLE r
def wApexUp (f : Probe → Probe) (b : State) : State := let s := wRole 1 (wLink 16 3 b); { s with probes := s.probes.upd 16 f }
def prW (k q t : Nat) : Word := ctlWord 0x0B [(32, 2, k), (28, 4, q), (0, 28, t)]
def wAns (r : Option Nat) (b : State) : State := wProbe (fun x => { x with running := true, laneB := true, rxSeq := 7, t1 := b.datum.whole % 2 ^ 40, rttB := r }) b
def tunUp (n : Nat) (b : State) : State := b.onTun n (fun x => { x with e := { x.e with state := .opened, keyed := false, inPort := 24, destMask := 8 } })
def wDs (b : State) : State := let s := tunUp (timeTun 5) (wRole 0 b); { s with datum := { s.datum with dsSent := s.datum.dsSent.set 5 none, leafAt := s.datum.leafAt.set 5 0 }, now := s.now + 3000000001 }
def wSt (b : State) : State := let s := tunUp (timeTun 5) ((wRole 1 b).wr CHIP_STAT_HUB 5); { s with datum := { s.datum with stSent := none } }
def wDat (st src : Nat) (b : State) : State := let s := ((wOn b).wr DAT_STAT_STATE st).wr DAT_STAT_SOURCE_ACT src; { s with now := s.datum.measuredAt + s.datum.ppsAt + 80000000000 }
def wEdge (src : Nat) (b : State) : State := (wDat 2 src b).wr (EVP_CFG_FUNC 15) 6 |>.wr (EVP_CFG_EDGE 15) 3
def wTick (b : State) : State := { (wOn b).wr LAT_PERIOD_NS 1000 with datum := { b.datum with t := 5000007 * 2 ^ 48 }, lattice := { b.lattice with last := some 4, stageS := none }, gop := { b.gop with target := none } }
def wPin (b : State) : State := { ((wOn b).wr (EVP_CFG_FUNC 15) 1).wr (EVP_CFG_EDGE 15) 3 with pins := { b.pins with level := 0x7FFF, fifo := [], edgeAt := Map.empty }, keeper := { b.keeper with cycle := none }, now := 1000 + b.now }
def wGop (b : State) : State := { ((wTick (wRole 0 b)).wr LAT_GOP_BUSY 0).wr LAT_SNAP_IDX_TARGET 5010 with boot := { b.boot with dieOn := true } }
def wHoldE (b : State) : State := { wGop b with gop := { b.gop with resetAt := some 9, askAt := some 9, asked := false, missing := [128, 191] }, now := 10 }
def xTun (n inP d : Nat) (s : State) : State := s.onTun n (fun x => { x with e := { x.e with state := .opened, vc := 0, kind := 3, inPort := inP, destMask := 2 ^ d, police := false, adapter := 3 * 2 ^ 8 } })
def wExp (b : State) : State := { (wLink 17 3 (wLink 3 3 b)).wr EXP_STAT_ENGINES 0 |>.wr EXP_CMD_BUSY 0 |>.wr EXP_CTL_POLICY 0 with records := Map.empty, locks := Map.empty, express := {}, chords := Map.empty, tuns := Map.empty, compass := { b.compass with queues := Map.empty, sending := Map.empty }, bridge := {}, power := { b.power with asleep := 0 } }
def xf (esn ev : Nat) : XFlit := { hdr := pack [(25, 12, 0x1FF), (17, 8, esn), (9, 8, 3), (8, 1, 1)], payload := pack [(32, 8, 0x81), (8, 24, ev), (0, 8, 5)] }
def wXin (x : XFlit) (b : State) : State := (xTun 0x1FF 3 17 (wExp b)).onChord 3 (fun c => { c with xIn := [[x.hdr, x.payload], []] })
def wDup (b : State) : State := (wXin (xf 255 7) b).onGroup 0xFF (fun g => { g with last := some 255, seen := [(255, false)], dups := 65535 })
def frOf (vid : Nat) : Frame := { da := 0x020000000001#48, sa := 0x020000000002#48, tag := some (7, vid), etherType := 0x0800, body := .octets [1, 2, 3] }
def wFrm (b : State) : State := { (wOn b).wr FRM_CTL_RED_MODE 0 |>.wr FRM_CTL_LEARN_EN 0 |>.wr FRM_MAX_MAX_FRAME 0 |>.wr FRM_CMD_BUSY 0 |>.wr (FRM_SP_CTL_MODE 0) 1 |>.wr (FRM_SP_CTL_MODE 1) 2 |>.wr (FRM_SP_CTL_GCL_EN 1) 0 with records := Map.empty, locks := Map.empty, bridge := {}, tuns := Map.empty, hull := {}, express := {}, compass := { b.compass with sending := Map.empty } }
def wBr (b : State) : State :=
  let s := ((((wFrm b).setRec 0x0E0 8 129 0 0 (2 ^ 31 + 0x650 * 2 ^ 16)).setRec 0x0E0 1 4094 4 0 2).setRec 0x0E0 1 4094 0 0 3).setRec 0x0E0 2 3 0 1 0
  let s := s.setRec 0x0E0 2 3 0 0 1 |>.setRec 0x0E0 2 3 0 1 (2 ^ 31 + 4094 * 2 ^ 16 + 0x0200)
  s.onTun 0x650 (fun x => { x with e := { x.e with state := .opened, kind := 5, adapter := 127, inPort := 20, destMask := 2 ^ 3, keyed := false, vc := 4 } })
def wBr2 (b : State) : State := let s := wBr b |>.setRec 0x0E0 2 3 0 2 128 |>.setRec 0x0E0 8 128 0 0 (2 ^ 31 + 0x651 * 2 ^ 16) |>.setRec 0x0E0 1 4094 4 0 3
  s.onTun 0x651 (fun x => { x with e := { x.e with state := .opened, kind := 5, adapter := 126, inPort := 20, destMask := 2 ^ 4, keyed := false, vc := 4 } })
def wLearn (b : State) : State := (wBr b).wr FRM_CTL_LEARN_EN 1
def wHost (b : State) : State := { ((((wOn b).wr WIN_PCIE_STAT_LINK_UP 1).wr CHIP_STAT_ROLE 0).wr WIN_CMD_BUSY 0).wr WIN_STAT_NP_OUT 0 |>.wr EVT_STAT_MSIX_READY 0 with records := Map.empty, locks := Map.empty, win := {}, tuns := Map.empty, hull := {}, now := b.now + 2000000000 }.wr CHIP_STRAP_STRAPS 4
def wTunW (n : Nat) (s : State) : State := s.onTun n (fun x => { x with e := { x.e with state := .opened, keyed := false, kind := 6, inPort := 21, destMask := 2 ^ 3, vc := 5, msnOut := 2 ^ 24 - 1, srcDock := 9 } })
def wWin (b : State) : State := wTunW 0xDFF ((((wHost b).setRec 0x0F0 1 255 0 0 (2 ^ 31 + 12 * 2 ^ 24 + 0xDFF * 2 ^ 12)).setRec 0x0F0 1 255 0 1 1).setRec 0x0F0 1 255 0 2 0xFFFFFFF)
def wReq (r : WinReq) (b : State) : State := let s := wWin b; { s with win := { s.win with reqs := [r] } }
def rq : WinReq := { window := 255, tunnel := 0xDFF, addr := 4, len := 2, tag := 255, hostTag := 1023, sent := true, ran := 2000000001, held := 2000000001 }
def wUsb (b : State) : State := { ((((wOn b).wr CHIP_STAT_ROLE 0).wr PER_USB_CTL_CONNECT 1).wr CHIP_STRAP_STRAPS 4).wr PER_USB_STAT_SUSPENDED 0 with usb := { vbus := true }, tuns := Map.empty, hull := {}, ids := { b.ids with docks := [], hubOf := [] }, locks := Map.empty, now := 1000000000 }
def tokA : UsbTok := { pid := .inn, addr := 127, ep := 15, kind := 2, bytes := [1, 2, 3] }
def setTok : UsbTok := { pid := .setup, addr := 0, ep := 0, kind := 0, bytes := [0, 9, 1, 0, 0, 0, 0, 0] }
def uTun (d : Nat) (s : State) : State := [asyncTun d,
    periodicTun d].foldl (fun s n => s.onTun n (fun x => { x with e := { x.e with state := .opened, keyed := false, inPort := 22, destMask := 8, msnOut := 2 ^ 24 - 1 } })) s
def wDev (e : UsbEp) (inn : Bool) (b : State) : State := let s := (uTun 63 (wUsb b)).wr (PER_PORT_STATE 255) 4; { s with usb := { s.usb with binds := [(127, devTarget 63 3)], hubs := Map.empty.set 95 { seen := true, nports := 4 }, ports := Map.empty.set (vKey 0 15) { st := 4 }, eps := Map.empty.set (epKey (devTarget 63 3) 15 2 inn) e } }
def wDv (e : UsbEp) (inn : Bool) (b : State) : State := let s := wDev e inn b; { s with ids := { s.ids with docks := [(0, 15, 63)] } }
def uxf : UsbXfer := { dock := 63, port := 3, tag := 255, ep := 5, due := 9 }
def wXf (b : State) : State := let s := wDev {} true b; { s.wr (PER_PORT_EPOCH 255) 9 with usb := { s.usb with xfers := [uxf], eps := Map.empty.set 5 { tag := some 255 } } }
def psM (op st : Nat) : List Word := [pack [(36, 4, op), (34, 2, 3), (19, 3, st), (17, 2, 3), (13, 2, 3)]]
def wDs2 (b : State) : State := let s := wDs b; { s with datum := { s.datum with dsSent := s.datum.dsSent.set 5 (some ((wDs b).gmNow.getD b.ownData, s.now - 1000000000)) } }
def wSt2 (b : State) : State := let s := wSt b; { s with now := 3000000000, datum := { s.datum with stSent := some ([7], 2000000000) } }
def ty : List (Nat × Nat) := [(0, 1), (1, 2), (2, 3), (3, 4), (4, 5), (5, 6), (6, 2 ^ 26 - 1), (7, 8), (8, 9)]
def wTy (b : State) : State := { wApexUp (fun x => { x with timesBy := some 10, rxSeq := 7, times := ty }) b with now := 10 }
def wPr (b : State) : State := { wProbe (fun x => { x with running := true, laneB := true, rxSeq := 7, t1 := 1000, rttB := some 16016 }) b with datum := { b.datum with t := 2005 * 2 ^ 48 } }
def wLt (st : Option Nat) (tg : Option Nat) (b : State) : State := { wTick (wRole 1 b) with lattice := { b.lattice with last := some 4, stageS := st }, gop := { b.gop with target := tg } }
def wSn (b : State) : State := { wHoldE b with gop := { b.gop with missing := [191], tickAt := b.now, askAt := some 9 }, now := b.now + 5000 }
def st0 : Stamp := { pin := 3, rise := true, sec := 5, ns := 999999999, keeper := false }
def wPi0 (b : State) : State := (wPin b).wr (EVP_CFG_FUNC 15) 0
def wPiF (b : State) : State := { wPin b with pins := { level := 0x7FFF, fifo := List.replicate 64 st0 } }
def wPp (b : State) : State := let s := wEdge 2 b; { s with datum := { s.datum with ppsLost := true } }
def wXg (r : XGroup → XGroup) (x : XFlit) (b : State) : State := { (wXin x b).onGroup 0xFF r with now := b.now + 1000 }
def xws (x : XFlit) : List Word := [x.hdr, x.payload]
def xBad : XFlit := { hdr := (xf 255 7).hdr, payload := pack [(32, 8, 0x40), (8, 24, 7), (0, 8, 5)] }
def rX : XGroup → XGroup := fun g => { g with last := some 5, seen := [(5, false), (3, true)], dups := 9, at_ := none }
def wFb (l : Nat) (b : State) : State := wBr2 b |>.setRec 0x0E0 1 4094 0 0 l |>.setRec 0x0E0 2 3 0 1 0
def frBig : Frame := { frOf 4094 with body := .octets (List.replicate 1510 1) }
def wq2 : WinReq := { rq with window := 254, tag := 254, hostTag := 7, addr := 8 }
def wRq2 (b : State) : State := let s := wReq rq b; { s with chords := Map.empty, win := { s.win with reqs := [wq2, rq] } }
def wHub (h v : Nat) (x : VHub) (b : State) : State := let s := (wUsb b).wr (LANE_STAT_STATE 3) 3
  { s with usb := { s.usb with binds := [(99, h)], hubs := Map.empty.set h x, ports := (Map.empty.set (vKey 0 3) { st := v, change := 1 }).set (vKey h 2) { st := 4, change := 1 } }, ids := { s.ids with docks := [], hubOf := [(3, h)] } }
def hx : VHub := { seen := true, nports := 16, addr := 99, config := 1, reply := some [1, 2], setup := [] }
def ht (p : UsbPid) (e : Nat) : UsbTok := { pid := p, addr := 99, ep := e, kind := 0, bytes := [0x80, 6, 0, 1, 0, 0, 18, 0] }
def sAd : VHub := { hx with setup := [0, 5, 77, 0, 0, 0, 0, 0] }
def wH0 (b : State) : State := let s := wUsb b; { s with usb := { s.usb with hubs := Map.empty.set 0 { sAd with addr := 0 } } }
def wDx (e : UsbEp) (inn : Bool) (k : Nat) (b : State) : State := let s := wDv e inn b; { s with usb := { s.usb with eps := Map.empty.set (epKey (devTarget 63 3) 15 k inn) e } }
def tk (p : UsbPid) : UsbTok := { pid := p, addr := 127, ep := 15, kind := 2, bytes := [1, 2, 3] }
def g (s : State) : Nat := (s.usbSync.freeXfer 63).getD 0
def wNo (s : State) : State := s.onTun (asyncTun 63) (fun x => { x with e := { x.e with state := .held } })
def wDn (b : State) : State := let s := wNo (wDv {} true b); { s with usb := { s.usb with ports := s.usb.ports.set (vKey 0 15) { st := 4 } } }
def pm (st oc sp : Nat) : List Word := [pack [(36, 4, 4), (34, 2, 3), (19, 3, st), (17, 2, sp), (16, 1, oc)]]
def wPS (old : Nat) (b : State) : State := let s := wXf b; { s.wr (PER_PORT_STATE 255) old with ids := { s.ids with docks := [(0, 15, 63)] }, usb := { s.usb with hubs := Map.empty.set 95 { seen := true, nports := 4 }, ports := Map.empty.set (vKey 0 15) { st := 4 } } }

/-- What `StreamFormRows` supposes is met, clause by clause. -/
theorem wit_StreamFormRows :
    (∃ (s : State) (h : Fin 17) (d e : GmData) (ds : List Nat) (u : Nat) (_l : List Word), s.coreOn = true ∧ s.isRoot = true ∧ s.gmNow = some d ∧
        s.datum.dsSent.get h = some (e, u) ∧ (e ≠ d ∨ u + 1000000000 ≤ s.now) ∧ s.canSend 24 (timeTun h) ds) ∧
    (∃ (s : State) (_h : Fin 17) (_d _e : GmData) (ds : List Nat) (u : Nat) (l : List Word), s.coreOn = true ∧ s.isRoot = false ∧
        s.datum.stSent = some (l, u) ∧ u + 1000000000 ≤ s.now ∧ s.canSend 24 (timeTun s.hubNo) ds) ∧
    (∃ (s : State) (p : Fin 18) (w : Word) (d : Nat) (l : List (Nat × Nat)), s.coreOn = true ∧ s.nearRoot p = false ∧
        (s.probe p).timesBy = some d ∧ s.now ≤ d ∧ fld w 34 6 = 0x0C ∧ fld w 26 4 = (s.probe p).rxSeq ∧ fld w 30 4 ≤ 9 ∧
        l = (s.probe p).times.filter (fun y => y.1 ≠ fld w 30 4) ++ [(fld w 30 4, fld w 0 26)] ∧ l.length = 10) ∧
    (∃ (s : State) (p : Fin 18) (laneB : Bool) (w : Word) (rtt f : Nat), s.coreOn = true ∧ s.active p = true ∧ s.nearRoot p = true ∧
        fld w 34 6 = 0x0B ∧ fld w 32 2 = 2 ∧ (s.probe p).running = true ∧ (s.probe p).laneB = laneB ∧ fld w 28 4 = (s.probe p).rxSeq ∧
        rtt = modSub 40 (modSub 40 s.datum.whole (s.probe p).t1) (fld w 0 28) ∧ (s.probe p).rtt = some f ∧ 16 * rtt ≤ f + 256 ∧
        f ≤ 16 * rtt + 256) ∧
    (∃ (s : State) (p : Fin 18) (laneB : Bool) (w : Word) (rtt f : Nat), s.coreOn = true ∧ s.active p = true ∧ s.nearRoot p = true ∧
        fld w 34 6 = 0x0B ∧ fld w 32 2 = 2 ∧ (s.probe p).running = true ∧ (s.probe p).laneB = laneB ∧ fld w 28 4 = (s.probe p).rxSeq ∧
        rtt = modSub 40 (modSub 40 s.datum.whole (s.probe p).t1) (fld w 0 28) ∧ (s.probe p).rtt = some f ∧ 16 * rtt ≤ f + 256 ∧
        f ≤ 16 * rtt + 256) ∧
    (∃ s : State, s.coreOn = true ∧ s.lattice.next * s.period ≤ s.datum.whole ∧
        s.lattice.stageS.all (fun b => s.datum.whole < b * 1000000000) = true) ∧
    (∃ s : State, s.coreOn = true ∧ s.lattice.next * s.period ≤ s.datum.whole ∧
        s.lattice.stageS.all (fun b => s.datum.whole < b * 1000000000) = true) ∧
    (∃ (s : State) (node : Fin 192) (_msg : List Word) (_late : Bool), s.coreOn = true ∧ s.isRoot = true ∧ node.val ∈ s.gop.missing ∧
        s.gop.missing.filter (· ≠ node.val) = []) ∧
    (∃ (s : State) (node : Fin 192) (_msg : List Word) (_late : Bool), s.coreOn = true ∧ s.isRoot = true ∧ node.val ∈ s.gop.missing ∧
        s.gop.missing.filter (· ≠ node.val) = []) ∧
    (∃ (s : State) (n : Fin 16) (high : Bool), s.coreOn = true ∧ bitOf s.pins.level n ≠ high ∧ s.pulseShort n = false ∧
        s.rd (EVP_CFG_FUNC n) = 0) ∧
    (∃ (s : State) (n : Fin 16) (high : Bool), s.coreOn = true ∧ bitOf s.pins.level n ≠ high ∧ s.pulseShort n = false ∧
        s.rd (EVP_CFG_FUNC n) = 1 ∧ s.edgeWanted n high = true ∧ 64 ≤ s.pins.fifo.length ∧ s.keeper.cycle = none) ∧
    (∃ (s : State) (n : Fin 16) (high : Bool), s.coreOn = true ∧ bitOf s.pins.level n ≠ high ∧ s.pulseShort n = false ∧
        s.rd (EVP_CFG_FUNC n) = 1 ∧ s.edgeWanted n high = true ∧ 64 ≤ s.pins.fifo.length ∧ s.keeper.cycle = none) ∧
    (∃ (s : State) (n : Fin 16) (high : Bool), s.coreOn = true ∧ s.rd (EVP_CFG_FUNC n) = 6 ∧ s.edgeWanted n high = true ∧ s.source = 2) ∧
    (∃ (s : State) (n : Fin 16) (high : Bool), s.coreOn = true ∧ s.rd (EVP_CFG_FUNC n) = 6 ∧ s.edgeWanted n high = true ∧ s.source = 2) ∧
    (∃ (s : State) (p : Fin 18) (x : XFlit) (ws : List Word) (rest : List (List Word)) (d v : Nat) (_ds : List Nat), s.running = true ∧
        (s.chord p).xIn = ws :: rest ∧ x.hdr = ws.getD 0 0 ∧ x.payload = ws.getD 1 0 ∧ x.comp = 0 ∧ s.engines = 0 ∧ 0x100 ≤ x.tunnel ∧
        v = (s.group (groupOf x.tunnel)).verdict x.esn x.suspect ∧ s.pairPasses x.tunnel p d ∧ opReserved x.opcode = false ∧ v ≠ 0 ∧ v ≠ 2) ∧
    (∃ (s : State) (p : Fin 18) (x : XFlit) (ws : List Word) (rest : List (List Word)) (d v : Nat) (_ds : List Nat), s.running = true ∧
        (s.chord p).xIn = ws :: rest ∧ x.hdr = ws.getD 0 0 ∧ x.payload = ws.getD 1 0 ∧ x.comp = 0 ∧ s.engines = 0 ∧ 0x100 ≤ x.tunnel ∧
        v = (s.group (groupOf x.tunnel)).verdict x.esn x.suspect ∧ s.pairPasses x.tunnel p d ∧ opReserved x.opcode = false ∧ v ≠ 0 ∧ v ≠ 2) ∧
    (∃ (s : State) (p : Fin 18) (x : XFlit) (ws : List Word) (rest : List (List Word)) (d v : Nat) (_ds : List Nat), s.running = true ∧
        (s.chord p).xIn = ws :: rest ∧ x.hdr = ws.getD 0 0 ∧ x.payload = ws.getD 1 0 ∧ x.comp = 0 ∧ s.engines = 0 ∧ 0x100 ≤ x.tunnel ∧
        v = (s.group (groupOf x.tunnel)).verdict x.esn x.suspect ∧ s.pairPasses x.tunnel p d ∧ opReserved x.opcode = false ∧ v ≠ 0 ∧ v ≠ 2) ∧
    (∃ (s : State) (p : Fin 18) (x : XFlit) (ws : List Word) (rest : List (List Word)) (_d v : Nat) (ds : List Nat), s.running = true ∧
        (s.chord p).xIn = ws :: rest ∧ x.hdr = ws.getD 0 0 ∧ x.payload = ws.getD 1 0 ∧ x.comp = 0 ∧ s.engines = 0 ∧ 0x100 ≤ x.tunnel ∧
        v = (s.group (groupOf x.tunnel)).verdict x.esn x.suspect ∧ (s.tun x.tunnel).e.state = .opened ∧ (s.tun x.tunnel).e.vc = 0 ∧
        s.route (s.tun x.tunnel).e p = some ds ∧ s.express.upset = none ∧ s.express.due = none ∧ s.express.takeover = none ∧
        s.express.force = false ∧ opReserved x.opcode = false ∧ v = 0) ∧
    (∃ (s : State) (p : Fin 18) (x : XFlit) (ws : List Word) (rest : List (List Word)) (_d v : Nat) (ds : List Nat), s.running = true ∧
        (s.chord p).xIn = ws :: rest ∧ x.hdr = ws.getD 0 0 ∧ x.payload = ws.getD 1 0 ∧ x.comp = 0 ∧ s.engines = 0 ∧ 0x100 ≤ x.tunnel ∧
        v = (s.group (groupOf x.tunnel)).verdict x.esn x.suspect ∧ (s.tun x.tunnel).e.state = .opened ∧ (s.tun x.tunnel).e.vc = 0 ∧
        s.route (s.tun x.tunnel).e p = some ds ∧ s.express.upset = none ∧ s.express.due = none ∧ s.express.takeover = none ∧
        s.express.force = false ∧ opReserved x.opcode = false ∧ v = 2) ∧
    (∃ (s : State) (p : Fin 18) (x : XFlit) (ws : List Word) (rest : List (List Word)) (_d v : Nat) (ds : List Nat), s.running = true ∧
        (s.chord p).xIn = ws :: rest ∧ x.hdr = ws.getD 0 0 ∧ x.payload = ws.getD 1 0 ∧ x.comp = 0 ∧ s.engines = 0 ∧ 0x100 ≤ x.tunnel ∧
        v = (s.group (groupOf x.tunnel)).verdict x.esn x.suspect ∧ (s.tun x.tunnel).e.state = .opened ∧ (s.tun x.tunnel).e.vc = 0 ∧
        s.route (s.tun x.tunnel).e p = some ds ∧ s.express.upset = none ∧ s.express.due = none ∧ s.express.takeover = none ∧
        s.express.force = false ∧ opReserved x.opcode = true) ∧
    (∃ (s : State) (n : BitVec 12) (f : Frame) (_x : Fin 2) (b : Nat) (v : Nat × Nat), s.running = true ∧
        b = 2 + (s.tun n.toNat).e.adapter % 128 ∧ s.bportOpen b = true ∧ b < 130 ∧ s.bportValid b = true ∧ s.bportTun b = n.toNat ∧
        f.etherType ≠ 0x88F7 ∧ v = s.vlanOf b f ∧ s.maxFrame < frameLen f + 4) ∧
    (∃ (s : State) (n : BitVec 12) (f : Frame) (_x : Fin 2) (b : Nat) (v : Nat × Nat), s.running = true ∧
        b = 2 + (s.tun n.toNat).e.adapter % 128 ∧ s.bportOpen b = true ∧ b < 130 ∧ s.bportValid b = true ∧ s.bportTun b = n.toNat ∧
        f.etherType ≠ 0x88F7 ∧ v = s.vlanOf b f ∧ frameLen f + 4 ≤ s.maxFrame ∧ s.member v.1 b = false) ∧
    (∃ (s : State) (n : BitVec 12) (f : Frame) (x : Fin 2) (b : Nat) (v : Nat × Nat), s.running = true ∧ b = 2 + (s.tun n.toNat).e.adapter % 128 ∧
        s.bportOpen b = true ∧ b < 130 ∧ s.bportValid b = true ∧ s.bportTun b = n.toNat ∧ f.etherType ≠ 0x88F7 ∧ v = s.vlanOf b f ∧
        frameLen f + 4 ≤ s.maxFrame ∧ 0 < v.1 ∧ v.1 < 4095 ∧ s.member v.1 b = true ∧ s.filterOf v.1 f.da = none ∧ s.redundant = false ∧
        f.da ≠ f.sa ∧ x.val ∈ s.destsOf b v.1 f.da ∧ s.stationTakes x v.2 (s.egressForm v.1 v.2 x f)) ∧
    (∃ (s : State) (n : BitVec 12) (f : Frame) (x : Fin 2) (b : Nat) (v : Nat × Nat), s.running = true ∧ b = 2 + (s.tun n.toNat).e.adapter % 128 ∧
        s.bportOpen b = true ∧ b < 130 ∧ s.bportValid b = true ∧ s.bportTun b = n.toNat ∧ f.etherType ≠ 0x88F7 ∧ v = s.vlanOf b f ∧
        frameLen f + 4 ≤ s.maxFrame ∧ 0 < v.1 ∧ v.1 < 4095 ∧ s.member v.1 b = true ∧ s.filterOf v.1 f.da = none ∧ s.redundant = false ∧
        f.da ≠ f.sa ∧ x.val ∈ s.destsOf b v.1 f.da ∧ s.stationTakes x v.2 (s.egressForm v.1 v.2 x f)) ∧
    (∃ (s : State) (r : WinReq), s.running = true ∧ r ∈ s.win.reqs ∧ r.write = false ∧ r.spec = false ∧ r.silent = false ∧ s.rdTimeout < r.ran) ∧
    (∃ (s : State) (r : WinReq), s.running = true ∧ r ∈ s.win.reqs ∧ r.write = false ∧ r.spec = false ∧ r.silent = false ∧
        s.pathGrace r.tunnel < r.held) ∧
    (∃ (s : State) (r : WinReq), s.running = true ∧ r ∈ s.win.reqs ∧ r.write = false ∧ r.spec = false ∧ r.silent = false ∧ s.rdTimeout < r.ran) ∧
    (∃ (u s : State) (k : UsbTok) (h : Nat) (v : VHub), u.running = true ∧ s = u.usbSync ∧ s.usbOn = true ∧ s.rdB PER_USB_STAT_SUSPENDED = false ∧
        (k.addr = 0 ∧ (s.vhub 0).addr = 0 ∧ h = 0 ∨ k.addr ≠ 0 ∧ s.usb.binds.lookup k.addr = some h ∧ h < 1024) ∧ s.vreached h = true ∧
        v = s.vhub h ∧ k.pid = .setup) ∧
    (∃ (u s : State) (k : UsbTok) (h : Nat) (v : VHub), u.running = true ∧ s = u.usbSync ∧ s.usbOn = true ∧ s.rdB PER_USB_STAT_SUSPENDED = false ∧
        (k.addr = 0 ∧ (s.vhub 0).addr = 0 ∧ h = 0 ∨ k.addr ≠ 0 ∧ s.usb.binds.lookup k.addr = some h ∧ h < 1024) ∧ s.vreached h = true ∧
        v = s.vhub h ∧ k.pid = .inn ∧ k.ep = 0) ∧
    (∃ (u s : State) (k : UsbTok) (h : Nat) (v : VHub), u.running = true ∧ s = u.usbSync ∧ s.usbOn = true ∧ s.rdB PER_USB_STAT_SUSPENDED = false ∧
        (k.addr = 0 ∧ (s.vhub 0).addr = 0 ∧ h = 0 ∨ k.addr ≠ 0 ∧ s.usb.binds.lookup k.addr = some h ∧ h < 1024) ∧ s.vreached h = true ∧
        v = s.vhub h ∧ k.pid = .inn ∧ k.ep = 0) ∧
    (∃ (u s : State) (k : UsbTok) (h : Nat) (v : VHub), u.running = true ∧ s = u.usbSync ∧ s.usbOn = true ∧ s.rdB PER_USB_STAT_SUSPENDED = false ∧
        (k.addr = 0 ∧ (s.vhub 0).addr = 0 ∧ h = 0 ∨ k.addr ≠ 0 ∧ s.usb.binds.lookup k.addr = some h ∧ h < 1024) ∧ s.vreached h = true ∧
        v = s.vhub h ∧ k.pid = .inn ∧ k.ep = 1) ∧
    (∃ (u s : State) (k : UsbTok) (h : Nat) (v : VHub), u.running = true ∧ s = u.usbSync ∧ s.usbOn = true ∧ s.rdB PER_USB_STAT_SUSPENDED = false ∧
        (k.addr = 0 ∧ (s.vhub 0).addr = 0 ∧ h = 0 ∨ k.addr ≠ 0 ∧ s.usb.binds.lookup k.addr = some h ∧ h < 1024) ∧ s.vreached h = true ∧
        v = s.vhub h ∧ k.pid = .inn ∧ k.ep = 1) ∧
    (∃ (u s : State) (k : UsbTok) (h : Nat) (v : VHub), u.running = true ∧ s = u.usbSync ∧ s.usbOn = true ∧ s.rdB PER_USB_STAT_SUSPENDED = false ∧
        (k.addr = 0 ∧ (s.vhub 0).addr = 0 ∧ h = 0 ∨ k.addr ≠ 0 ∧ s.usb.binds.lookup k.addr = some h ∧ h < 1024) ∧ s.vreached h = true ∧
        v = s.vhub h ∧ (k.pid = .out ∨ k.pid = .ping)) ∧
    (∃ (u s : State) (k : UsbTok) (h : Nat) (v : VHub), u.running = true ∧ s = u.usbSync ∧ s.usbOn = true ∧ s.rdB PER_USB_STAT_SUSPENDED = false ∧
        (k.addr = 0 ∧ (s.vhub 0).addr = 0 ∧ h = 0 ∨ k.addr ≠ 0 ∧ s.usb.binds.lookup k.addr = some h ∧ h < 1024) ∧ s.vreached h = true ∧
        v = s.vhub h ∧ (k.pid = .out ∨ k.pid = .ping)) ∧
    (∃ (u s : State) (k : UsbTok) (h : Nat) (v : VHub), u.running = true ∧ s = u.usbSync ∧ s.usbOn = true ∧ s.rdB PER_USB_STAT_SUSPENDED = false ∧
        (k.addr = 0 ∧ (s.vhub 0).addr = 0 ∧ h = 0 ∨ k.addr ≠ 0 ∧ s.usb.binds.lookup k.addr = some h ∧ h < 1024) ∧ s.vreached h = true ∧
        v = s.vhub h ∧ k.pid = .ack ∧ v.setup.getD 0 0 = 0 ∧ v.setup.getD 1 0 = 5) ∧
    (∃ (u s : State) (k : UsbTok) (h : Nat) (v : VHub), u.running = true ∧ s = u.usbSync ∧ s.usbOn = true ∧ s.rdB PER_USB_STAT_SUSPENDED = false ∧
        (k.addr = 0 ∧ (s.vhub 0).addr = 0 ∧ h = 0 ∨ k.addr ≠ 0 ∧ s.usb.binds.lookup k.addr = some h ∧ h < 1024) ∧ s.vreached h = true ∧
        v = s.vhub h ∧ k.pid = .ack ∧ v.setup.getD 0 0 = 0 ∧ v.setup.getD 1 0 = 5) ∧
    (∃ (u s : State) (k : UsbTok) (d : Fin 64) (port : Fin 4) (key _g : Nat) (_ds : List Nat) (e : UsbEp), u.running = true ∧ s = u.usbSync ∧
        s.usbOn = true ∧ s.rdB PER_USB_STAT_SUSPENDED = false ∧ s.vreached (32 + d) = true ∧ k.addr ≠ 0 ∧
        s.usb.binds.lookup k.addr = some (devTarget d port) ∧ s.vstate (32 + d) port = 4 ∧ (k.kind = 0 ∨ k.kind = 2) ∧
        key = epKey (devTarget d port) k.ep k.kind (k.pid = .inn || (k.pid = .ack && k.kind ≠ 0)) ∧ e = s.uep key ∧ k.pid = .ack ∧ e.sent = true ∧
        e.setup = []) ∧
    (∃ (u s : State) (k : UsbTok) (d : Fin 64) (port : Fin 4) (key g : Nat) (ds : List Nat) (e : UsbEp), u.running = true ∧ s = u.usbSync ∧
        s.usbOn = true ∧ s.rdB PER_USB_STAT_SUSPENDED = false ∧ s.vreached (32 + d) = true ∧ k.addr ≠ 0 ∧
        s.usb.binds.lookup k.addr = some (devTarget d port) ∧ s.vstate (32 + d) port = 4 ∧ (k.kind = 0 ∨ k.kind = 2) ∧
        key = epKey (devTarget d port) k.ep k.kind (k.pid = .inn || (k.pid = .ack && k.kind ≠ 0)) ∧ e = s.uep key ∧ s.canSend 22 (asyncTun d) ds ∧
        (s.tun (periodicTun d)).e.state = .opened ∧ k.split = none ∧ e.stallNext = false ∧ s.freeXfer d = some g ∧ e.tag ≠ none ∧
        (k.pid = .inn ∨ k.pid = .out ∨ k.pid = .ping)) ∧
    (∃ (u s : State) (k : UsbTok) (d : Fin 64) (port : Fin 4) (key g : Nat) (ds : List Nat) (e : UsbEp), u.running = true ∧ s = u.usbSync ∧
        s.usbOn = true ∧ s.rdB PER_USB_STAT_SUSPENDED = false ∧ s.vreached (32 + d) = true ∧ k.addr ≠ 0 ∧
        s.usb.binds.lookup k.addr = some (devTarget d port) ∧ s.vstate (32 + d) port = 4 ∧ (k.kind = 0 ∨ k.kind = 2) ∧
        key = epKey (devTarget d port) k.ep k.kind (k.pid = .inn || (k.pid = .ack && k.kind ≠ 0)) ∧ e = s.uep key ∧ s.canSend 22 (asyncTun d) ds ∧
        (s.tun (periodicTun d)).e.state = .opened ∧ k.split = none ∧ e.stallNext = false ∧ s.freeXfer d = some g ∧ e.tag ≠ none ∧
        (k.pid = .inn ∨ k.pid = .out ∨ k.pid = .ping)) ∧
    (∃ (u s : State) (k : UsbTok) (d : Fin 64) (port : Fin 4) (key g : Nat) (ds : List Nat) (e : UsbEp), u.running = true ∧ s = u.usbSync ∧
        s.usbOn = true ∧ s.rdB PER_USB_STAT_SUSPENDED = false ∧ s.vreached (32 + d) = true ∧ k.addr ≠ 0 ∧
        s.usb.binds.lookup k.addr = some (devTarget d port) ∧ s.vstate (32 + d) port = 4 ∧ (k.kind = 0 ∨ k.kind = 2) ∧
        key = epKey (devTarget d port) k.ep k.kind (k.pid = .inn || (k.pid = .ack && k.kind ≠ 0)) ∧ e = s.uep key ∧ s.canSend 22 (asyncTun d) ds ∧
        (s.tun (periodicTun d)).e.state = .opened ∧ k.split = none ∧ e.stallNext = false ∧ s.freeXfer d = some g ∧ e.tag ≠ none ∧
        (k.pid = .inn ∨ k.pid = .out ∨ k.pid = .ping)) ∧
    (∃ (u s : State) (k : UsbTok) (d : Fin 64) (port : Fin 4) (key g : Nat) (ds : List Nat) (e : UsbEp), u.running = true ∧ s = u.usbSync ∧
        s.usbOn = true ∧ s.rdB PER_USB_STAT_SUSPENDED = false ∧ s.vreached (32 + d) = true ∧ k.addr ≠ 0 ∧
        s.usb.binds.lookup k.addr = some (devTarget d port) ∧ s.vstate (32 + d) port = 4 ∧ (k.kind = 0 ∨ k.kind = 2) ∧
        key = epKey (devTarget d port) k.ep k.kind (k.pid = .inn || (k.pid = .ack && k.kind ≠ 0)) ∧ e = s.uep key ∧ s.canSend 22 (asyncTun d) ds ∧
        (s.tun (periodicTun d)).e.state = .opened ∧ k.split = none ∧ e.stallNext = false ∧ s.freeXfer d = some g ∧ e.tag = none ∧
        e.result = none ∧ k.pid = .ping) ∧
    (∃ (u s : State) (k : UsbTok) (d : Fin 64) (port : Fin 4) (key g : Nat) (ds : List Nat) (e : UsbEp), u.running = true ∧ s = u.usbSync ∧
        s.usbOn = true ∧ s.rdB PER_USB_STAT_SUSPENDED = false ∧ s.vreached (32 + d) = true ∧ k.addr ≠ 0 ∧
        s.usb.binds.lookup k.addr = some (devTarget d port) ∧ s.vstate (32 + d) port = 4 ∧ (k.kind = 0 ∨ k.kind = 2) ∧
        key = epKey (devTarget d port) k.ep k.kind (k.pid = .inn || (k.pid = .ack && k.kind ≠ 0)) ∧ e = s.uep key ∧ s.canSend 22 (asyncTun d) ds ∧
        (s.tun (periodicTun d)).e.state = .opened ∧ k.split = none ∧ e.stallNext = false ∧ s.freeXfer d = some g ∧ e.tag = none ∧
        e.result = none ∧ k.pid = .out) ∧
    (∃ (u s : State) (k : UsbTok) (d : Fin 64) (port : Fin 4) (key _g : Nat) (_ds : List Nat) (e : UsbEp), u.running = true ∧ s = u.usbSync ∧
        s.usbOn = true ∧ s.rdB PER_USB_STAT_SUSPENDED = false ∧ s.vreached (32 + d) = true ∧ k.addr ≠ 0 ∧
        s.usb.binds.lookup k.addr = some (devTarget d port) ∧ s.vstate (32 + d) port = 4 ∧ (k.kind = 0 ∨ k.kind = 2) ∧
        key = epKey (devTarget d port) k.ep k.kind (k.pid = .inn || (k.pid = .ack && k.kind ≠ 0)) ∧ e = s.uep key ∧ k.pid ≠ .ack ∧
        (s.tun (asyncTun d)).e.state ≠ .opened) ∧
    (∃ (s : State) (d : Fin 64) (port : Fin 4) (msg : List Word) (w : Word) (old st : Nat), s.running = true ∧ s.isRoot = true ∧
        w = msg.getD 0 0 ∧ fld w 34 2 = port ∧ s.usbDocks.contains d = true ∧ fld w 36 4 = 4 ∧ old = s.vstate (32 + d) port ∧
        st = min 6 (fld w 19 3)) ∧
    (∃ (s : State) (d : Fin 64) (port : Fin 4) (msg : List Word) (w : Word) (old st : Nat), s.running = true ∧ s.isRoot = true ∧
        w = msg.getD 0 0 ∧ fld w 34 2 = port ∧ s.usbDocks.contains d = true ∧ fld w 36 4 = 4 ∧ old = s.vstate (32 + d) port ∧
        st = min 6 (fld w 19 3)) ∧
    (∃ (s : State) (d : Fin 64) (port : Fin 4) (msg : List Word) (w : Word) (old st : Nat), s.running = true ∧ s.isRoot = true ∧
        w = msg.getD 0 0 ∧ fld w 34 2 = port ∧ s.usbDocks.contains d = true ∧ fld w 36 4 = 4 ∧ old = s.vstate (32 + d) port ∧
        st = min 6 (fld w 19 3)) ∧
    (∃ (s : State) (d : Fin 64) (port : Fin 4) (msg : List Word) (w : Word) (old st : Nat), s.running = true ∧ s.isRoot = true ∧
        w = msg.getD 0 0 ∧ fld w 34 2 = port ∧ s.usbDocks.contains d = true ∧ fld w 36 4 = 4 ∧ old = s.vstate (32 + d) port ∧
        st = min 6 (fld w 19 3)) ∧
    (∃ (s : State) (d : Fin 64) (port : Fin 4) (msg : List Word) (w : Word) (old st : Nat), s.running = true ∧ s.isRoot = true ∧
        w = msg.getD 0 0 ∧ fld w 34 2 = port ∧ s.usbDocks.contains d = true ∧ fld w 36 4 = 4 ∧ old = s.vstate (32 + d) port ∧
        st = min 6 (fld w 19 3)) ∧
    (∃ (s : State) (d : Fin 64) (port : Fin 4) (msg : List Word) (w : Word) (old st : Nat), s.running = true ∧ s.isRoot = true ∧
        w = msg.getD 0 0 ∧ fld w 34 2 = port ∧ s.usbDocks.contains d = true ∧ fld w 36 4 = 4 ∧ old = s.vstate (32 + d) port ∧
        st = min 6 (fld w 19 3)) :=
  ⟨⟨(wDs2 State.reset), 5, ((wDs2 State.reset).gmNow.getD State.reset.ownData), ((wDs State.reset).gmNow.getD State.reset.ownData), [3],
      ((wDs State.reset).now - 1000000000), [], by unfold State.canSend; and_intros <;> first | decide +kernel | rfl | (right; decide +kernel)⟩,
   ⟨(wSt2 State.reset), 5, State.reset.ownData, State.reset.ownData, [3], 2000000000, [7], (by unfold State.canSend; decide +kernel)⟩,
   ⟨(wTy State.reset), 16, (ctlWord 0x0C [(30, 4, 9), (26, 4, 7), (0, 26, 77)]), 10, (ty ++ [(9, 77)]), by decide +kernel⟩,
   ⟨(wPr State.reset), 3, true, (prW 2 7 4), 1001, 16016, by decide +kernel⟩,
   ⟨(wPr State.reset), 3, true, (prW 2 7 20), 985, 16016, by decide +kernel⟩,
   ⟨(wLt none (some 5000) State.reset), by decide +kernel⟩,
   ⟨(wLt (some 1) (some 5003) State.reset), by decide +kernel⟩,
   ⟨(wSn State.reset), 191, [1], false, by decide +kernel⟩,
   ⟨(wSn State.reset), 191, [1, 2, 3], true, by decide +kernel⟩,
   ⟨(wPi0 State.reset), 15, true, by decide +kernel⟩,
   ⟨(wPiF State.reset), 15, true, by decide +kernel⟩,
   ⟨((wPiF State.reset).wr EVP_TS_LEVEL_OVF 65535), 15, true, by decide +kernel⟩,
   ⟨(wPp State.reset), 15, true, by decide +kernel⟩,
   ⟨((wPp State.reset).wr DAT_STAT_STATE 1), 15, true, by decide +kernel⟩,
   ⟨(wXg rX (xf 6 7) State.reset), 3, (xf 6 7), (xws (xf 6 7)), [[]], 17,
       (((wXg rX (xf 6 7) State.reset).group 255).verdict (xf 6 7).esn (xf 6 7).suspect), [17], (by unfold State.pairPasses; decide +kernel)⟩,
   ⟨(wXg rX (xf 4 7) State.reset), 3, (xf 4 7), (xws (xf 4 7)), [[]], 17,
       (((wXg rX (xf 4 7) State.reset).group 255).verdict (xf 4 7).esn (xf 4 7).suspect), [17], (by unfold State.pairPasses; decide +kernel)⟩,
   ⟨(wXg rX (xf 3 7) State.reset), 3, (xf 3 7), (xws (xf 3 7)), [[]], 17,
       (((wXg rX (xf 3 7) State.reset).group 255).verdict (xf 3 7).esn (xf 3 7).suspect), [17], (by unfold State.pairPasses; decide +kernel)⟩,
   ⟨(wXg rX (xf 5 7) State.reset), 3, (xf 5 7), (xws (xf 5 7)), [[]], 17,
       (((wXg rX (xf 5 7) State.reset).group 255).verdict (xf 5 7).esn (xf 5 7).suspect), [17], by decide +kernel⟩,
   ⟨(wXg rX (xf 150 7) State.reset), 3, (xf 150 7), (xws (xf 150 7)), [[]], 17,
       (((wXg rX (xf 150 7) State.reset).group 255).verdict (xf 150 7).esn (xf 150 7).suspect), [17], by decide +kernel⟩,
   ⟨(wXg rX xBad State.reset), 3, xBad, (xws xBad), [[]], 17, (((wXg rX xBad State.reset).group 255).verdict xBad.esn xBad.suspect), [17],
       by decide +kernel⟩,
   ⟨(wFb 3 State.reset), 0x650, frBig, 0, 129, ((wFb 3 State.reset).vlanOf 129 frBig), by decide +kernel⟩,
   ⟨(wFb 3 State.reset), 0x650, (frOf 33), 0, 129, ((wFb 3 State.reset).vlanOf 129 (frOf 33)), by decide +kernel⟩,
   ⟨(wFb 3 State.reset), 0x650, (frOf 4094), 1, 129, ((wFb 3 State.reset).vlanOf 129 (frOf 4094)),
       (by unfold State.stationTakes; decide +kernel)⟩,
   ⟨(wFb 3 State.reset), 0x650, (frOf 4094), 0, 129, ((wFb 3 State.reset).vlanOf 129 (frOf 4094)),
       (by unfold State.stationTakes; decide +kernel)⟩,
   ⟨(wRq2 State.reset), rq, by decide +kernel⟩,
   ⟨(wRq2 State.reset), rq, by decide +kernel⟩,
   ⟨(wRq2 State.reset), wq2, by decide +kernel⟩,
   ⟨(wHub 5 4 hx State.reset), ((wHub 5 4 hx State.reset).usbSync), (ht .setup 0), 5, (((wHub 5 4 hx State.reset).usbSync).vhub 5),
       by decide +kernel⟩,
   ⟨(wHub 5 4 hx State.reset), ((wHub 5 4 hx State.reset).usbSync), (ht .inn 0), 5, (((wHub 5 4 hx State.reset).usbSync).vhub 5),
       by decide +kernel⟩,
   ⟨(wHub 5 4 ({ hx with reply := none }) State.reset), ((wHub 5 4 ({ hx with reply := none }) State.reset).usbSync), (ht .inn 0), 5,
       (((wHub 5 4 ({ hx with reply := none }) State.reset).usbSync).vhub 5), by decide +kernel⟩,
   ⟨(wHub 5 4 hx State.reset), ((wHub 5 4 hx State.reset).usbSync), (ht .inn 1), 5, (((wHub 5 4 hx State.reset).usbSync).vhub 5),
       by decide +kernel⟩,
   ⟨(wHub 5 4 ({ hx with config := 0 }) State.reset), ((wHub 5 4 ({ hx with config := 0 }) State.reset).usbSync), (ht .inn 1), 5,
       (((wHub 5 4 ({ hx with config := 0 }) State.reset).usbSync).vhub 5), by decide +kernel⟩,
   ⟨(wHub 5 4 hx State.reset), ((wHub 5 4 hx State.reset).usbSync), (ht .out 0), 5, (((wHub 5 4 hx State.reset).usbSync).vhub 5),
       by decide +kernel⟩,
   ⟨(wHub 5 4 ({ hx with reply := none }) State.reset), ((wHub 5 4 ({ hx with reply := none }) State.reset).usbSync), (ht .ping 0), 5,
       (((wHub 5 4 ({ hx with reply := none }) State.reset).usbSync).vhub 5), by decide +kernel⟩,
   ⟨(wHub 5 4 sAd State.reset), ((wHub 5 4 sAd State.reset).usbSync), (ht .ack 0), 5, (((wHub 5 4 sAd State.reset).usbSync).vhub 5),
       by decide +kernel⟩,
   ⟨(wH0 State.reset), (wH0 State.reset).usbSync, { setTok with pid := .ack }, 0, ((wH0 State.reset).usbSync.vhub 0), by decide +kernel⟩,
   ⟨(wDx { sent := true, result := some (0, [1]) } true 2 State.reset),
       (wDx { sent := true, result := some (0, [1]) } true 2 State.reset).usbSync, (tk .ack), 63, 3, (epKey (devTarget 63 3) 15 2 true),
       (g (wDx { sent := true, result := some (0, [1]) } true 2 State.reset)), [3],
       ((wDx { sent := true, result := some (0, [1]) } true 2 State.reset).usbSync.uep (epKey (devTarget 63 3) 15 2 true)), by decide +kernel⟩,
   ⟨(wDx { tag := some 9 } true 2 State.reset), (wDx { tag := some 9 } true 2 State.reset).usbSync, (tk .inn), 63, 3,
       (epKey (devTarget 63 3) 15 2 true), (g (wDx { tag := some 9 } true 2 State.reset)), [3],
       ((wDx { tag := some 9 } true 2 State.reset).usbSync.uep (epKey (devTarget 63 3) 15 2 true)), (by unfold State.canSend; decide +kernel)⟩,
   ⟨(wDx { tag := some 9 } false 2 State.reset), (wDx { tag := some 9 } false 2 State.reset).usbSync, (tk .ping), 63, 3,
       (epKey (devTarget 63 3) 15 2 false), (g (wDx { tag := some 9 } false 2 State.reset)), [3],
       ((wDx { tag := some 9 } false 2 State.reset).usbSync.uep (epKey (devTarget 63 3) 15 2 false)), (by unfold State.canSend; decide +kernel)⟩,
   ⟨(wDx { tag := some 9 } false 2 State.reset), (wDx { tag := some 9 } false 2 State.reset).usbSync, (tk .out), 63, 3,
       (epKey (devTarget 63 3) 15 2 false), (g (wDx { tag := some 9 } false 2 State.reset)), [3],
       ((wDx { tag := some 9 } false 2 State.reset).usbSync.uep (epKey (devTarget 63 3) 15 2 false)), (by unfold State.canSend; decide +kernel)⟩,
   ⟨(wDx {} false 2 State.reset), (wDx {} false 2 State.reset).usbSync, (tk .ping), 63, 3, (epKey (devTarget 63 3) 15 2 false),
       (g (wDx {} false 2 State.reset)), [3], ((wDx {} false 2 State.reset).usbSync.uep (epKey (devTarget 63 3) 15 2 false)),
       (by unfold State.canSend; decide +kernel)⟩,
   ⟨(wDx { toggle := true } false 2 State.reset), (wDx { toggle := true } false 2 State.reset).usbSync, (tk .out), 63, 3,
       (epKey (devTarget 63 3) 15 2 false), (g (wDx { toggle := true } false 2 State.reset)), [3],
       ((wDx { toggle := true } false 2 State.reset).usbSync.uep (epKey (devTarget 63 3) 15 2 false)),
       (by unfold State.canSend; decide +kernel)⟩,
   ⟨(wDn State.reset), (wDn State.reset).usbSync, (tk .inn), 63, 3, (epKey (devTarget 63 3) 15 2 true), 0, [3],
       ((wDn State.reset).usbSync.uep (epKey (devTarget 63 3) 15 2 true)), by decide +kernel⟩,
   ⟨(wPS 1 State.reset), 63, 3, (pm 2 1 2), ((pm 2 1 2).getD 0 0), 1, 2, by decide +kernel⟩,
   ⟨(wPS 4 State.reset), 63, 3, (pm 1 0 2), ((pm 1 0 2).getD 0 0), 4, 1, by decide +kernel⟩,
   ⟨(wPS 4 State.reset), 63, 3, (pm 2 1 2), ((pm 2 1 2).getD 0 0), 4, 2, by decide +kernel⟩,
   ⟨(wPS 3 State.reset), 63, 3, (pm 4 0 2), ((pm 4 0 2).getD 0 0), 3, 4, by decide +kernel⟩,
   ⟨(wPS 4 State.reset), 63, 3, (pm 7 1 2), ((pm 7 1 2).getD 0 0), 4, 6, by decide +kernel⟩,
   ⟨(wPS 2 State.reset), 63, 3, (pm 1 0 2), ((pm 1 0 2).getD 0 0), 2, 1, by decide +kernel⟩⟩


end StreamForms

namespace PowerForms

def wTan (p ps cs src : Nat) (x : TanPort) (b : State) : State :=
  let s := (((wOn b).wr (TAN_PORT_STAT_PSTATE p) ps).wr (TAN_PORT_STAT_CSTATE p) cs).wr (TAN_PORT_STAT_MAIN_SRC p) src
  ({ s with boot := { s.boot with dieOn := true }, locks := Map.empty }).onTan p (fun _ => x)
def wFeed (b : State) : State := { b with pd := { b.pd with feeds := b.pd.feeds.set 0 { pg := true, st := .on } } }.wr CHIP_STRAP_STRAPS 0
def wP (x : Power) (b : State) : State := { (((wOn b).wr PWR_STAT_ENTRY 0).wr PWR_WAKE_EN_EN 511).wr CHIP_STRAP_STRAPS 4 with power := x, boot := { b.boot with dieOn := true, rails := true }, locks := Map.empty }
def wQ (b : State) : State := { State.reset with coreOn := true, now := b.now, evt := b.evt, pages := b.pages, free := b.free, boot := { dieOn := true, rails := true, started := true } }.wr RST_STAT_RESTORING 0
def wL (lv src lock : Nat) (x : Power) (b : State) : State := (((((wP x b).wr PWR_STAT_LEVEL lv).wr PWR_STAT_CLK_SRC src).wr PWR_STAT_PLL_LOCK lock).wr PWR_PERF_AUTO 1).wr PWR_GOV_GOV_EN 1
def wB (x : Boot) (b : State) : State := { (wOn b).wr CHIP_STRAP_STRAPS 4 with boot := x, locks := Map.empty, power := {} }
def wI (x : Stored) (b : State) : State := { (((wOn b).wr FEED_STAT_WARN 0).wr CFG_STAT_BUSY 0) with stored := x, locks := Map.empty }
def wG (l : LogUnit) (b : State) : State := { wOn b with log := l, power := {}, boot := { b.boot with dieOn := true } }.wr LOG_CMD_BUSY 0
def m1 : Map (0 : Nat) := (Map.empty.set 0 4294967294).set 0x33 7

/-- What `PowerFormRows` supposes is met, clause by clause. -/
theorem wit_PowerFormRows :
    (∃ (s : State) (p : Fin 18), s.boot.dieOn = true ∧ s.ps p = PS_UNATTACHED ∧ s.rd (TAN_PORT_CTL_ROLE p) = 2 ∧ s.feedPg = true ∧
        ((∀ d ∈ (s.tan p).toggleAt, d ≤ s.now))) ∧
    (∃ (s : State) (p : Fin 18), s.boot.dieOn = true ∧ s.ps p = PS_SRC ∧ s.rd (TAN_PORT_STAT_AUX_ON p) = 1 ∧ (s.tan p).faults < 3) ∧
    (∃ (s : State) (p : Fin 18), s.boot.dieOn = true ∧ s.ps p = PS_SRC ∧ s.rd (TAN_PORT_STAT_AUX_ON p) = 1 ∧ (s.tan p).faults < 3) ∧
    (∃ (s : State) (d : Nat), s.boot.dieOn = true ∧ s.power.asked = 0 ∧ s.power.timerAt = some d ∧ d ≤ s.now ∧
        bitOf (s.rd PWR_WAKE_EN_EN) 6 = true ∧ s.power.asleep = 1 ∧ ((∀ p, p < 18 → s.ls p ≠ LS_DOZE))) ∧
    (∃ (s : State) (d : Nat), s.boot.dieOn = true ∧ s.power.asked = 0 ∧ s.power.timerAt = some d ∧ d ≤ s.now ∧
        bitOf (s.rd PWR_WAKE_EN_EN) 6 = true ∧ s.power.asleep = 2) ∧
    (∃ (s : State) (c : Fin 10) (d p : Fin 18), s.boot.dieOn = true ∧ s.sourceOn (c.val, d.val) = true ∧ s.power.asked = 0 ∧ s.power.asleep = 1 ∧
        s.ls p = LS_DOZE ∧ (s.lane p).viaRetrain = false) ∧
    (∃ (s : State) (l k : Fin 4) (pll : Bool) (d : Nat), s.coreOn = true ∧ s.power.change = some (l.val, pll, d) ∧ d ≤ s.now ∧
        s.power.wanted = some (k.val, true) ∧ k = l ∧ pll = true) ∧
    (∃ (s : State) (l k : Fin 4) (pll : Bool) (d : Nat), s.coreOn = true ∧ s.power.change = some (l.val, pll, d) ∧ d ≤ s.now ∧
        s.power.wanted = some (k.val, true) ∧ k < l ∧ s.rd PWR_STAT_PLL_LOCK = 1) ∧
    (∃ (s : State) (l : Fin 4), s.coreOn = true ∧ s.power.asleep = 0 ∧ s.power.perf = some (l.val, false, true) ∧ s.rd PWR_STAT_CLK_SRC = 0 ∧
        s.rd PWR_STAT_LEVEL = 3 ∧ s.power.change = none) ∧
    (∃ s : State, s.coreOn = true ∧ s.rdB PWR_STAT_PLL_LOCK = true ∧ s.rdB PWR_STAT_CLK_SRC = false) ∧
    (∃ (s : State) (_v : Reg), s.coreOn = true ∧ s.rdB CFG_STAT_BUSY = true ∧ s.stored.target = some true ∧ s.stored.committing = none ∧
        s.rd CFG_WADDR_ADDR < 16368) ∧
    (∃ (s : State) (code : Nat), s.boot.dieOn = true ∧ s.boot.rails = true ∧ s.boot.started = false ∧ s.testStrap = false ∧
        ((∀ d ∈ s.boot.released, d + 64000000 ≤ s.now)) ∧ s.boot.seen.min? = some code ∧ 1 ≤ code ∧ code ≤ 10 ∧ s.stored.pick = none) ∧
    (∃ (s : State) (v : Reg), s.coreOn = true ∧ s.locked rstPage = true ∧ bitsOf v.toNat 0 16 ≠ 0 ∧ bitOf v.toNat 31 = true ∧
        s.rd RST_WDOG_HOST_PERIOD ≠ 0) ∧
    (∃ (s : State) (v : Reg), s.coreOn = true ∧ s.locked rstPage = true ∧ bitsOf v.toNat 0 16 ≠ 0 ∧ bitOf v.toNat 31 = false) ∧
    (∃ (s : State) (_c : Int), s.boot.dieOn = true ∧ s.log.minuteAt ≤ s.now ∧ s.coreOn = true ∧ s.power.asleep = 1 ∧ s.rd PWR_STAT_LEVEL < 4) ∧
    (∃ (s : State) (_c : Int), s.boot.dieOn = true ∧ s.log.minuteAt ≤ s.now ∧ s.coreOn = false ∧ s.power.asleep = 3) :=
  ⟨⟨{ wFeed ((wTan 0 0 7 0 { toggleAt := some 5 } State.reset).wr (TAN_PORT_CTL_ROLE 0) 2) with now := State.reset.now + 60 }, 0,
      by decide +kernel⟩,
   ⟨{ (wTan 17 2 3 1 { faults := 1 } State.reset).wr (TAN_PORT_STAT_AUX_ON 17) 1 with now := 5 }, 17, by decide +kernel⟩,
   ⟨{ (wTan 17 2 3 1 { faults := 1, railAt := some 4 } State.reset).wr (TAN_PORT_STAT_AUX_ON 17) 1 with now := 5 }, 17, by decide +kernel⟩,
   ⟨{ (wQ State.reset).onPower (fun x => { x with asleep := 1, timerAt := some 5 }) with now := 5 + State.reset.now }, 5, by decide +kernel⟩,
   ⟨{ wP { asleep := 2, timerAt := some 5 } State.reset with coreOn := false, now := 5 }, 5, by decide +kernel⟩,
   ⟨((((wQ State.reset).onPower (fun x => { x with asleep := 1 })).wr (LANE_STAT_STATE 5) 5).onLane 5 (fun l => { l with viaRetrain := false })),
       1, 17, 5, by decide +kernel⟩,
   ⟨{ wL 1 0 1 { change := some (2, true, 5), wanted := some (2, true) } State.reset with now := 5 }, 2, 2, true, 5, by decide +kernel⟩,
   ⟨{ wL 3 0 1 { change := some (3, true, 5), wanted := some (1, true) } State.reset with now := 5 }, 3, 1, true, 5, by decide +kernel⟩,
   ⟨(wL 3 0 0 { perf := some (2, false, true) } State.reset), 2, by decide +kernel⟩,
   ⟨(wL 2 0 1 { wanted := some (3, true), pllHeld := true } State.reset), by decide +kernel⟩,
   ⟨(((wI { target := some true } State.reset).wr CFG_STAT_BUSY 1).wr CFG_WADDR_ADDR 16367), 0xFFFFFFFF#32, by decide +kernel⟩,
   ⟨{ wB { seen := [1], rcnt := 15, short := 2 ^ 40 - 1, released := some 7 } State.reset with stored := {}, now := 64000008, coreOn := false },
       1, by decide +kernel⟩,
   ⟨{ (wB {} State.reset).wr RST_WDOG_HOST_PERIOD 9 with locks := State.reset.locks.set rstPage 1 }, 0x8000FFFF#32, by decide +kernel⟩,
   ⟨{ (wB {} State.reset).wr RST_WDOG_HOST_PERIOD 9 with locks := State.reset.locks.set rstPage 1 }, 0x0000FFFF#32, by decide +kernel⟩,
   ⟨{ (wG { work := m1 } State.reset).wr PWR_STAT_LEVEL 3 with now := 60000000000, power := { asleep := 1 } }, (-1), by decide +kernel⟩,
   ⟨{ (wG { work := m1, kept := m1 } State.reset).wr PWR_STAT_LEVEL 3 with now := 60000000000, coreOn := false, power := { asleep := 3 } }, (-1),
       by decide +kernel⟩⟩


end PowerForms

end Sys2Proof.Tests
end

section
/-!
SUPPORT and PROOFS. Received CREDIT words (R97): what CREDIT_RX does with a LIMIT that it takes and with one that it discards, and the
statement assembled from the two.
-/
namespace Sys2Proof.Machine

/-! ## Frames of a change of Chord and of an event -/

/-- A change of Chord of one port, followed by the event unit's evaluation, touches nothing else. -/
theorem State.onlyChord_onChord_settle (s : State) (p : Nat) (f : Chord → Chord) : s.onlyChord (s.onChord p f).settle p := by
  refine ⟨by apply State.eq_of <;> simp, fun q hq => ?_⟩
  rw [State.chord_settle, State.chord_onChord_other s f hq]

/-- An event behind a count, followed by the event unit's evaluation, touches nothing but registers, page headers, the event unit and what
is sent. -/
theorem State.onlyRegs_bump_ev_settle (s : State) (f : Field) (a : Nat) (l : List Nat) : s.onlyRegs ((s.bump f).ev a l).settle := by
  unfold State.onlyRegs
  apply State.eq_of <;> simp

/-- A count with an event behind it writes the count and, at most, the count of events not logged. -/
theorem State.regsBut_bump_ev_settle (s : State) (f : Field) (a : Nat) (l : List Nat) :
    s.regsBut ((s.bump f).ev a l).settle [f, EVT_LOG_STAT_OVF] := by
  intro g hg
  have hf : g.key ≠ f.key := hg f (by simp)
  have ho : g.key ≠ EVT_LOG_STAT_OVF.key := hg EVT_LOG_STAT_OVF (by simp)
  rw [State.rd_settle, State.rd_ev _ _ _ ho, State.rd_bump_other _ hf]

/-- A count with an event behind it reads one higher until it saturates. -/
theorem State.rd_bump_ev_settle (s : State) {f : Field} (a : Nat) (l : List Nat) (h : f.key ≠ EVT_LOG_STAT_OVF.key) :
    (((s.bump f).ev a l).settle).rd f = satAdd f.width (s.rd f) 1 := by
  rw [State.rd_settle, State.rd_ev _ _ _ h, State.rd_bump_same, mod_satAdd]

/-! ## The page of Chord and its count of CREDIT words discarded -/

theorem CHD_CREDERR_BAD_LIMIT_key_ne_OVF (p : Nat) : (CHD_CREDERR_BAD_LIMIT p).key ≠ EVT_LOG_STAT_OVF.key := by
  simp only [CHD_CREDERR_BAD_LIMIT, EVT_LOG_STAT_OVF, Field.key]
  omega

/-- R549: CREDIT_ERR is an event bit of the Chord page of every port. -/
theorem pageCap_chordPage_creditErr (p : Fin 18) : evMask [EV_CHD_CREDIT_ERR] &&& pageCap (chordPage p) = evMask [EV_CHD_CREDIT_ERR] := by
  revert p; decide

/-! ## CREDIT_RX (R97) -/

/-- R97: the CREDIT word is for a credited VC 1–5, and its LIMIT is within half the range beyond CC and CL of its type. -/
def State.takesLimit (s : State) (p : Nat) (w : Word) : Prop :=
  let r := (s.chord p).cred (fld w 31 3)
  1 ≤ fld w 31 3 ∧ fld w 31 3 ≤ 5 ∧ r.cless = false ∧
    if fld w 30 1 = 1 then modSub 16 (fld w 14 16) r.ccD ≤ 32767 ∧ modSub 16 (fld w 14 16) r.clD ≤ 32767
    else modSub 16 (fld w 14 16) r.ccH ≤ 32767 ∧ modSub 16 (fld w 14 16) r.clH ≤ 32767

theorem exec_creditRx {s : State} (p : Fin 18) (w : Word) (h : s.coreOn = true) :
    exec (.creditRx p w) s = .next (creditRx p w s).settle := by
  show coreDone s (creditRx p w s) = _
  simp [coreDone, done, h]

section
variable {s : State} {p : Nat} {w : Word} (hw : fld w 34 6 = 0x06) (ha : s.active p = true)
include hw ha

/-- The LIMIT that the port takes is the new CL of its VC and type. -/
theorem creditRx_taken (h : s.takesLimit p w) : creditRx p w s = s.onChord p (Chord.onCred (fld w 31 3) (fun r =>
    if fld w 30 1 = 1 then { r with clD := fld w 14 16 } else { r with clH := fld w 14 16 })) := by
  obtain ⟨h1, h5, hc, hok⟩ := h
  by_cases ht : fld w 30 1 = 1
  · simp only [ht, if_true] at hok
    simp [creditRx, limitOk, hw, ha, h1, h5, hc, ht, hok]
  · simp only [ht, if_false] at hok
    simp [creditRx, limitOk, hw, ha, h1, h5, hc, ht, hok]

/-- Any other CREDIT word of an ACTIVE port is discarded, counted and raised. -/
theorem creditRx_discarded (h : ¬ s.takesLimit p w) :
    creditRx p w s = (s.bump (CHD_CREDERR_BAD_LIMIT p)).ev (chordPage p) [EV_CHD_CREDIT_ERR] := by
  unfold creditRx
  simp only [hw, ha, decide_true, Bool.and_self, if_true]
  refine if_neg fun hcond => h ?_
  simpa [State.takesLimit, limitOk, and_assoc, apply_ite (· = true)] using hcond

end

/-- What bars a CREDIT word, cause by cause. -/
theorem State.not_takesLimit_of {s : State} {p : Nat} {w : Word} {r : Cred} (hr : r = (s.chord p).cred (fld w 31 3))
    (h : fld w 31 3 = 0 ∨ 5 < fld w 31 3 ∨ r.cless = true ∨
      fld w 30 1 = 0 ∧ (32767 < modSub 16 (fld w 14 16) r.ccH ∨ 32767 < modSub 16 (fld w 14 16) r.clH) ∨
      fld w 30 1 = 1 ∧ (32767 < modSub 16 (fld w 14 16) r.ccD ∨ 32767 < modSub 16 (fld w 14 16) r.clD)) :
    ¬ s.takesLimit p w := by
  subst hr
  rintro ⟨h1, h5, hc, hok⟩
  rcases h with hvc | hvc | hcl | ⟨ht, hlim⟩ | ⟨ht, hlim⟩
  · omega
  · omega
  · simp [hc] at hcl
  · simp only [ht, zero_ne_one, if_false] at hok; omega
  · simp only [ht, if_true] at hok; omega

/-- Settles O54: a LIMIT that passes both comparisons only sets CL of its VC and type (`creditRx_taken`), every other CREDIT word
only counts and raises (`creditRx_discarded`). -/
theorem creditLimitRule : Obligations.CreditLimitRule := by
  intro s p w vc lim r hon ha hw rfl rfl rfl
  rw [exec_creditRx p w hon]
  refine ⟨fun ⟨h1, h5, hc⟩ ht hok => ?header, fun ⟨h1, h5, hc⟩ ht hok => ?data, fun hbad => ?discarded⟩
  case header =>
    rw [creditRx_taken hw ha ⟨h1, h5, hc, by simpa [ht] using hok⟩]
    exact ⟨_, rfl, by simp [ht], State.onlyChord_onChord_settle _ _ _⟩
  case data =>
    rw [creditRx_taken hw ha ⟨h1, h5, hc, by simpa [ht] using hok⟩]
    exact ⟨_, rfl, by simp [ht], State.onlyChord_onChord_settle _ _ _⟩
  case discarded =>
    rw [creditRx_discarded hw ha (State.not_takesLimit_of rfl hbad)]
    have hraised : s.raised ((s.bump (CHD_CREDERR_BAD_LIMIT p)).ev (chordPage p) [EV_CHD_CREDIT_ERR]) (chordPage p) [EV_CHD_CREDIT_ERR] :=
      State.raised_ev_of _ _ (by simp) (by simp) (.inl hon) (pageCap_chordPage_creditErr p)
    exact ⟨_, rfl, State.rd_bump_ev_settle s _ _ (CHD_CREDERR_BAD_LIMIT_key_ne_OVF p), (State.raised_settle _ _ _ _).2 hraised, by simp,
      State.regsBut_bump_ev_settle _ _ _ _, State.onlyRegs_bump_ev_settle _ _ _ _⟩

end Sys2Proof.Machine
end

section
/-!
SUPPORT and PROOFS. The energy governor's period (R524, R526): what the end of a period is made of, what each part leaves alone, the number
of tokens published, and the two statements assembled from them.
-/
namespace Sys2Proof.Machine

/-! ## What a change of level and a governor's measurement leave alone -/

section
variable {β : Type} (g : State → β)

/-- What does not look at the power state or at what is sent, a request for a level keeps (R522). -/
theorem State.wantLevel_keeps (hg : ∀ (s : State) x o, g { s with power := x, out := o } = g s) (l : Nat) (pll : Bool) (s : State) :
    g (s.wantLevel l pll) = g s := by
  unfold State.wantLevel State.startChange
  simp only []
  split_ifs <;> exact hg s _ _

/-- What does not look at the power state or at what is sent, the governor's step of the level keeps (R525). -/
theorem State.governLevel_keeps (hg : ∀ (s : State) x o, g { s with power := x, out := o } = g s) (pb t : Int) (s : State) :
    g (s.governLevel pb t) = g s := by
  have hpower : ∀ (s : State) f, g (s.onPower f) = g s := fun s _ => hg s _ _
  unfold State.governLevel
  simp only []
  split_ifs <;> simp only [State.wantLevel_keeps g hg, hpower]

end

/-- R523: the tokens spent per microsecond over the period that ends now. -/
def State.spentRate (s : State) : Nat := min 65535 (s.power.spent * 1000 / (4 * (s.now - s.power.periodAt)))

/-- R523, R525: the governor has taken its measurements and stepped the level. -/
def State.governed (p : Nat) (t : Int) (s : State) : State :=
  (((((s.onPower (fun x => { x with spent := 0, periodAt := s.now })).lifeMax t).wr PWR_MEAS_P p).wr PWR_MEAS_U s.spentRate).wr
    PWR_STAT_TEMP (unsignedOf 8 t)).governLevel (s.bestEffortless p s.spentRate) t

/-- What does not look at registers, the power state, the lifetime log or at what is sent, measuring and stepping the level keep. -/
theorem State.governed_keeps {β : Type} (g : State → β)
    (hg : ∀ (s : State) r x l o, g { s with regs := r, power := x, log := l, out := o } = g s) (p : Nat) (t : Int) (s : State) :
    g (s.governed p t) = g s := by
  have hwr : ∀ (s : State) f v, g (s.wr f v) = g s := fun s _ _ => hg s _ s.power s.log s.out
  have hlife : g ((s.onPower (fun x => { x with spent := 0, periodAt := s.now })).lifeMax t) = g s := by
    unfold State.lifeMax
    simp only []
    split_ifs <;> exact hg s s.regs _ _ s.out
  rw [State.governed, State.governLevel_keeps g fun s x o => hg s s.regs x s.log o, hwr, hwr, hwr, hlife]

/-! ## The end of a period -/

/-- R526: BUDGET_LOW is due: Pb is above the budget at P3. -/
def State.budgetLow (p : Nat) (s : State) : Bool :=
  decide (s.rd PWR_STAT_LEVEL = 3) && decide (((s.pwrBudget * 1000000 : Nat) : Int) < s.bestEffortless p s.spentRate)

/-- R526, R527: the bits of the power page that the end of a period raises. -/
def State.periodBits (p : Nat) (t : Int) (s : State) : List Nat :=
  (if (s.rd PWR_THERM_WARN : Int) < t then [EV_PWR_THERM_WARN] else []) ++
  (if (s.rd PWR_THERM_HOT : Int) ≤ t then [EV_PWR_THERM_HOT] else []) ++
  (if (s.rd PWR_THERM_CRIT : Int) ≤ t then [EV_PWR_THERM_CRIT] else []) ++
  (if s.budgetLow p && s.rdB PWR_GOV_GOV_EN then [EV_PWR_BUDGET_LOW] else [])

/-- R524, R526: the number of tokens that the end of a period publishes. -/
def State.published (p : Nat) (t : Int) (s : State) : Nat :=
  if !s.rdB PWR_GOV_GOV_EN then 0xFFFF else if s.budgetLow p then 0 else s.energy p s.spentRate t

/-- The events of the power page at the end of a period, none where no bit is due. -/
def State.periodEvents (p : Nat) (t : Int) (s : State) : State :=
  if s.periodBits p t = [] then s.governed p t else (s.governed p t).ev pwrPage (s.periodBits p t)

/-- R523: a governor period of a core die that runs ends now. -/
def State.periodEnds (s : State) : Prop :=
  s.coreOn = true ∧ s.power.asleep = 0 ∧ s.power.periodAt + max 1 (s.rd PWR_GOV_PERIOD) * 1000000 ≤ s.now

theorem governorPeriod_of_periodEnds {s : State} (h : s.periodEnds) (p : Nat) (t : Int) :
    governorPeriod p t s = ((s.periodEvents p t).wr CMP_STAT_ETOK_RATE (s.published p t)).when
      (s.published p t = 0) (State.ev 0x0A0 [EV_CMP_ETOK_ZERO]) := by
  obtain ⟨hon, hawake, hdue⟩ := h
  unfold governorPeriod
  rw [if_pos (by simp [hon, hawake, ms, hdue])]
  rfl

/-- The parts of the state with the tunnels, queues, credits and gates: what R526 leaves to the guaranteed traffic. -/
def State.carriers (s : State) :=
  (s.tuns, s.compass, s.chords, s.lanes, s.hull, s.samples, s.express)

/-- What measuring and stepping the level keep and an event keeps, the events of a period's end keep. -/
theorem State.periodEvents_keeps {β : Type} (g : State → β)
    (hg : ∀ (s : State) r x l o, g { s with regs := r, power := x, log := l, out := o } = g s)
    (hev : ∀ (s : State) a l, g (s.ev a l) = g s) (p : Nat) (t : Int) (s : State) : g (s.periodEvents p t) = g s := by
  unfold State.periodEvents
  split_ifs
  · exact State.governed_keeps g hg p t s
  · rw [hev, State.governed_keeps g hg]

@[simp] theorem State.periodEvents_coreOn (p : Nat) (t : Int) (s : State) : (s.periodEvents p t).coreOn = s.coreOn :=
  State.periodEvents_keeps State.coreOn (fun _ _ _ _ _ => rfl) State.ev_coreOn p t s

@[simp] theorem State.periodEvents_now (p : Nat) (t : Int) (s : State) : (s.periodEvents p t).now = s.now :=
  State.periodEvents_keeps State.now (fun _ _ _ _ _ => rfl) State.ev_now p t s

@[simp] theorem State.carriers_ev (s : State) (a : Nat) (l : List Nat) : (s.ev a l).carriers = s.carriers := by simp [State.carriers]

@[simp] theorem State.carriers_wr (s : State) (f : Field) (v : Nat) : (s.wr f v).carriers = s.carriers := rfl

@[simp] theorem State.carriers_settle (s : State) : s.settle.carriers = s.carriers := by simp [State.carriers]

@[simp] theorem State.periodEvents_carriers (p : Nat) (t : Int) (s : State) : (s.periodEvents p t).carriers = s.carriers :=
  State.periodEvents_keeps State.carriers (fun _ _ _ _ _ => rfl) State.carriers_ev p t s

/-- The end of a period has raised nothing of another page than the power page. -/
theorem State.periodEvents_page_other (p : Nat) (t : Int) (s : State) {a : Nat} (ha : a ≠ pwrPage) :
    (s.periodEvents p t).pages.get a = s.pages.get a := by
  have hg : (s.governed p t).pages = s.pages := State.governed_keeps State.pages (fun _ _ _ _ _ => rfl) p t s
  unfold State.periodEvents
  split_ifs
  · rw [hg]
  · rw [State.ev_other _ _ ha, hg]

/-- A bit of the power page that is due at the end of a period is set in its EV_STAT. -/
theorem State.periodEvents_stat {p : Nat} {t : Int} {s : State} {b : Nat} (hon : s.coreOn = true) (hb : b ∈ s.periodBits p t)
    (hm : (evMask (s.periodBits p t) &&& pageCap pwrPage).getLsbD b = true) :
    ((s.periodEvents p t).pages.get pwrPage).stat.getLsbD b = true := by
  have hgon : (s.governed p t).coreOn = true := (State.governed_keeps State.coreOn (fun _ _ _ _ _ => rfl) p t s).trans hon
  rw [State.periodEvents, if_neg (List.ne_nil_of_mem hb), State.ev_stat _ _ _ (.inl hgon), BitVec.getLsbD_or, hm, Bool.or_true]

/-- With BUDGET_LOW due, the mask of the power page's events has its bit, whichever thermal bits stand before it. -/
theorem State.periodBits_budgetLow {p : Nat} {s : State} (hlow : s.budgetLow p = true) (hgov : s.rdB PWR_GOV_GOV_EN = true) (t : Int) :
    EV_PWR_BUDGET_LOW ∈ s.periodBits p t ∧
      (evMask (s.periodBits p t) &&& pageCap pwrPage).getLsbD EV_PWR_BUDGET_LOW = true := by
  unfold State.periodBits
  simp only [hlow, hgov, Bool.and_self, if_true]
  refine ⟨by simp, ?_⟩
  split_ifs <;> decide

/-! ## The number published -/

/-- R524: E is 0 at every temperature while Pb is above the budget: the budget's rest is negative, and the scaling between WARN and HOT
keeps its sign. -/
theorem State.energy_of_overBudget {s : State} {p u : Nat} (h : ((s.pwrBudget * 1000000 : Nat) : Int) < s.bestEffortless p u) (t : Int) :
    s.energy p u t = 0 := by
  have he0 : ((s.pwrBudget * 1000000 : Nat) - s.bestEffortless p u) / (s.epw : Int) < 0 :=
    Int.ediv_neg_of_neg_of_pos (by omega) (by unfold State.epw; omega)
  unfold State.energy
  simp only []
  split_ifs with hhot hwarn
  · rfl
  · have hscaled := Int.ediv_neg_of_neg_of_pos (mul_neg_of_neg_of_pos he0 (by omega : 0 < (s.rd PWR_THERM_HOT : Int) - t))
      (by omega : 0 < (s.rd PWR_THERM_HOT : Int) - (s.rd PWR_THERM_WARN : Int))
    omega
  · omega

theorem State.energy_le (s : State) (p u : Nat) (t : Int) : s.energy p u t ≤ 0xFFFE := by
  unfold State.energy
  simp only []
  omega

/-- R524, R526: with the governor on, what it publishes is E, at P3 with Pb above the budget too. -/
theorem State.published_of_govEn {s : State} (hgov : s.rdB PWR_GOV_GOV_EN = true) (p : Nat) (t : Int) :
    s.published p t = s.energy p s.spentRate t := by
  cases hlow : s.budgetLow p with
  | false => simp [State.published, hgov, hlow]
  | true =>
    have hover : ((s.pwrBudget * 1000000 : Nat) : Int) < s.bestEffortless p s.spentRate := by
      simp only [State.budgetLow, Bool.and_eq_true, decide_eq_true_eq] at hlow
      exact hlow.2
    simp [State.published, hgov, hlow, State.energy_of_overBudget hover]

theorem State.published_of_not_govEn {s : State} (hgov : s.rdB PWR_GOV_GOV_EN = false) (p : Nat) (t : Int) :
    s.published p t = 0xFFFF := by
  simp [State.published, hgov]

theorem State.published_lt (s : State) (p : Nat) (t : Int) : s.published p t < 2 ^ 16 := by
  cases hgov : s.rdB PWR_GOV_GOV_EN with
  | false => rw [State.published_of_not_govEn hgov]; decide
  | true => have := s.energy_le p s.spentRate t; rw [State.published_of_govEn hgov]; omega

/-! ## What the end of a period leaves -/

/-- An event behind a change that leaves its page and the instant alone. -/
theorem State.raised_ev_of_page {s u : State} (a : Nat) (l : List Nat) (hp : u.pages.get a = s.pages.get a) (hn : u.now = s.now)
    (h : u.coreOn = true ∨ powerPage a = true) (hm : evMask l &&& pageCap a = evMask l) : s.raised (u.ev a l) a l := by
  have hraised := u.raised_ev a l h hm
  unfold State.raised State.sameEvent at *
  rw [← hp, ← hn]
  exact hraised

theorem exec_governorPeriod {s : State} (p : BitVec 16) (c : BitVec 8) (hon : s.coreOn = true) :
    exec (.governorPeriod p c) s = .next (governorPeriod p.toNat c.toInt s).settle := by
  show coreDone s (governorPeriod p.toNat c.toInt s) = _
  simp [coreDone, done, hon]

section
variable {s : State} (h : s.periodEnds) (p : Nat) (t : Int)
include h

theorem rd_etokRate_governorPeriod : (governorPeriod p t s).rd CMP_STAT_ETOK_RATE = s.published p t := by
  have hrd : ((s.periodEvents p t).wr CMP_STAT_ETOK_RATE (s.published p t)).rd CMP_STAT_ETOK_RATE = s.published p t :=
    (State.rd_wr_same _ _ _).trans (Nat.mod_eq_of_lt (s.published_lt p t))
  rw [governorPeriod_of_periodEnds h]
  unfold State.when
  split_ifs
  · rw [State.rd_ev _ _ _ (by decide), hrd]
  · exact hrd

theorem raised_etokZero_governorPeriod (hzero : s.published p t = 0) :
    s.raised (governorPeriod p t s) 0x0A0 [EV_CMP_ETOK_ZERO] := by
  rw [governorPeriod_of_periodEnds h, hzero]
  exact State.raised_ev_of_page _ _ (s.periodEvents_page_other p t (by decide)) (s.periodEvents_now p t)
    (.inl ((s.periodEvents_coreOn p t).trans h.1)) (by decide)

theorem stat_budgetLow_governorPeriod (hlow : s.budgetLow p = true) (hgov : s.rdB PWR_GOV_GOV_EN = true) :
    ((governorPeriod p t s).pages.get pwrPage).stat.getLsbD EV_PWR_BUDGET_LOW = true := by
  obtain ⟨hmem, hmask⟩ := State.periodBits_budgetLow hlow hgov t
  have hstat := State.periodEvents_stat h.1 hmem hmask
  rw [governorPeriod_of_periodEnds h]
  unfold State.when
  split_ifs
  · rwa [State.ev_other _ _ (by decide)]
  · exact hstat

theorem carriers_governorPeriod : (governorPeriod p t s).carriers = s.carriers := by
  rw [governorPeriod_of_periodEnds h]
  unfold State.when
  split_ifs <;> simp

end

/-- Settles O55: what a period's end publishes is E with the governor on (`State.published_of_govEn`) and 0xFFFF with it off. -/
theorem energyRule : Obligations.EnergyRule := by
  intro s p c u hot warn e0 e1 hon hawake hdue rfl rfl rfl rfl rfl
  have hend : s.periodEnds := ⟨hon, hawake, hdue⟩
  refine ⟨_, exec_governorPeriod p c hon, ?published, fun hzero => ?raised⟩
  case published =>
    rw [State.rd_settle, rd_etokRate_governorPeriod hend]
    by_cases hgov : s.rd PWR_GOV_GOV_EN = 0
    · rw [if_pos hgov, State.published_of_not_govEn (by simp [State.rdB, hgov])]
    · rw [if_neg hgov, State.published_of_govEn (by simp [State.rdB, hgov])]
      rfl
  case raised =>
    rw [State.rd_settle, rd_etokRate_governorPeriod hend] at hzero
    exact (State.raised_settle _ _ _ _).2 (raised_etokZero_governorPeriod hend _ _ hzero)

/-- Settles O56: at P3 with Pb above the budget BUDGET_LOW is due, 0 is published, and what carries traffic is left alone
(`carriers_governorPeriod`). -/
theorem budgetLowRule : Obligations.BudgetLowRule := by
  intro s p c u hon hawake hdue hgov hP3 rfl hover
  have hend : s.periodEnds := ⟨hon, hawake, hdue⟩
  have hlow : s.budgetLow p.toNat = true := by
    simp only [State.budgetLow, hP3, decide_true, Bool.true_and, decide_eq_true_eq]
    exact hover
  refine ⟨_, exec_governorPeriod p c hon, ?published, ?raised, ?traffic⟩
  case published =>
    rw [State.rd_settle, rd_etokRate_governorPeriod hend]
    simp [State.published, hgov, hlow]
  case raised =>
    rw [State.settle_pages]
    exact stat_budgetLow_governorPeriod hend _ _ hlow hgov
  case traffic =>
    simpa only [State.carriers, Prod.mk.injEq] using
      (State.carriers_settle _).trans (carriers_governorPeriod hend p.toNat c.toInt)

end Sys2Proof.Machine
end
